-- ==== Sys2Proof/Word.lean ====
section
/-! DEFINITION. The word types, the sparse table type and the plainest integer arithmetic. -/

namespace Sys2Proof

/-- A 32-bit register word (R18). -/
abbrev Word := BitVec 32

/-- A sparse table: places by key, in rising key order. A place that is not listed holds the table's default
value, and no listed entry equals it (`Tab.wf` in Machine/Tab.lean). -/
abbrev Tab (α : Type) := List (Nat × α)

/-- 2 to the power 32. -/
abbrev pow32 : Nat := 4294967296

/-- The two's complement reading of an `n`-bit number. -/
def signedOf (n w : Nat) : Int :=
  if w % 2 ^ n < 2 ^ (n - 1) then ((w % 2 ^ n : Nat) : Int) else ((w % 2 ^ n : Nat) : Int) - ((2 ^ n : Nat) : Int)

/-- The `n`-bit two's complement pattern of an integer. -/
def patternOf (n : Nat) (x : Int) : Nat := (x % ((2 ^ n : Nat) : Int)).toNat

/-- A Bool as one bit. -/
def bit (b : Bool) : Nat := if b then 1 else 0

end Sys2Proof
end

