-- ==== Sys2Proof/Syntax.lean ====
section
/-! DEFINITION. The commands the block takes: one constructor of `Instr` per row of the opcode table, with the row's operands. -/

namespace Sys2Proof

/-- What a host command's header brings to its execution (R394, R400, R407): the slot, the tag, the rights generation in force at acceptance, the transport, whether the packet carried a trailer, and the sender's binding. -/
structure Hdr where
  slot : Nat
  tag : Nat
  gen : Nat
  udp : Bool
  auth : Bool
  peer : Nat
deriving DecidableEq, Repr

/-- The parameters of a row-form staging command (R424). -/
structure Stg where
  target : Nat
  mask : Nat
  words : List Nat
deriving DecidableEq, Repr

/-- One entry of `XP_GAIN_SET` (R428). -/
structure GainEntry where
  dest : Nat
  src : Nat
  path : Nat
  gain : Nat
deriving DecidableEq, Repr

/-- A tick source, as an operand (R54). -/
inductive SrcName where
  | grid | formed | sv
deriving DecidableEq, Repr

/-- Why an active keystone is lost (R303). -/
inductive LossCause where
  | heartbeat | fatal | reset | debugHalt
deriving DecidableEq, Repr

/-- A JTAG instruction (R505). -/
inductive JtagIns where
  | bypass | extest | clamp | highz | sample | idcode
deriving DecidableEq, Repr

/-- What a PLL observes in one tick (R63, R64): the angle in ticks at the boundary, the frequency in Hz, the phase error in 1/256 degree the rate of change of frequency in Hz/s, and whether the positive-sequence voltage on the fast path is below 0.5 pu. How the detector forms them is not in the spec, so they come from outside. -/
structure PllIn where
  angle : Rat
  freq : Rat
  err : Int
  rocof : Rat
  low : Bool
deriving DecidableEq, Repr

/-- One grid-sense channel over one tick (R108 to R110): the modulator's bitstream, oldest bit first, and whether the barrier check passed on all of it. -/
structure SenseIn where
  valid : Bool
  bits : List Bool
deriving DecidableEq, Repr

/-- The receive clocks of a serial port over one tick (R89): a gap of BCLK longer than 1 µs, and the frame rate in mHz measured against REFCLK. -/
structure RxClk where
  gap : Bool
  rate : Nat
deriving DecidableEq, Repr

/-- What the outside world presents to the tick that a boundary starts. -/
structure TickIn where
  /-- grid-sense channels 0 to 7 over the ended tick -/
  sense : List SenseIn
  /-- what the grid PLL and the SV PLL observe -/
  grid : PllIn
  sv : PllIn
  /-- per serial port: the receive clocks of the ended tick (R89) -/
  clocks : List RxClk
  /-- the set-point input's current over the ended tick: its samples in steps of 0.2 µA, evenly spaced (R105, R507) -/
  setpoint : List Nat
  /-- the rising edges of the pulse input in the ended tick, in ps from its start, rising (R105) -/
  edges : List Nat
  /-- the levels at the balls of GPIO0 to GPIO15 that the integrator drives, one bit each, 0 where its pull-down holds the ball (R500, R524) -/
  gpio : Nat
  /-- the bank's voltage in mV, where the footing has measured it in the ended tick (R379) -/
  bank : Option Nat
deriving DecidableEq, Repr

/-- An upstream frame of one lane as its receiver hands it over (R273 to R279). -/
structure UpFrame where
  /-- lane, which is the bay it serves -/
  lane : Nat
  /-- it came complete within its reception deadline (R279) -/
  inTime : Bool
  /-- the frame's bytes from its header through its CRC -/
  bytes : List Nat
deriving DecidableEq, Repr

/-- HELLO of a hub (R281). -/
structure HelloMsg where
  /-- 64-bit serial of the hub, 0 where it is unreadable -/
  serial : Nat
  /-- bay the hub serves -/
  bay : Nat
  /-- firmware revision -/
  fw : Nat
  /-- serial of its twin's hub -/
  twin : Nat
  /-- turnaround in units of 0.625 ns -/
  turnaround : Nat
deriving DecidableEq, Repr
/-- JOIN of one course partner (R281, R288). -/
structure JoinMsg where
  /-- position: pier × 128 + course -/
  pos : Nat
  /-- 64-bit serial of the course node, 0 where it is unreadable -/
  serial : Nat
  /-- course type code -/
  ctype : Nat
  fw : Nat
  /-- calibration CRC -/
  cal : Nat
  /-- the hub's check of R285: the course stands in ring order -/
  ordered : Bool
deriving DecidableEq, Repr
/-- One part of SERIALS (R281): 24 brick serials of a joining course, and the voltage codes reported beside them. -/
structure SerialsMsg where
  pos : Nat
  /-- part 0 to 3 -/
  part : Nat
  serials : List Nat
  codes : List (Option Nat)
deriving DecidableEq, Repr
/-- RING of one course (R281): the ring neighbours it found. -/
structure RingMsg where
  pos : Nat
  fromA : Nat
  fromB : Nat
deriving DecidableEq, Repr
/-- One channel of a sampled-values ASDU: its value and the quality bits the device reads (R97). -/
structure SvValue where
  value : Int
  invalid : Bool
  questionable : Bool
  test : Bool
deriving DecidableEq, Repr
/-- A sampled-values ASDU as it arrives (R95 to R97). -/
structure Asdu where
  port : Nat
  /-- destination MAC, first octet in the low byte -/
  dst : Nat
  appid : Nat
  /-- characters of svID -/
  svId : List Nat
  confRev : Nat
  count : Nat
  /-- smpSynch -/
  sync : Nat
  values : List SvValue
deriving DecidableEq, Repr
/-- A drive's binding block (R447). -/
structure BindBlock where
  /-- 16 bytes: plant binding ID -/
  plant : List Nat
  /-- 12 bytes: device serial -/
  serial : List Nat
  /-- pair number -/
  pair : Nat
deriving DecidableEq, Repr
/-- One drive the NVMe root port finds (R445 to R447). -/
structure DriveIn where
  /-- downstream port 0 to 15 -/
  drive : Nat
  /-- capacity in bytes -/
  capacity : Nat
  /-- it needs no part outside R446 -/
  supported : Bool
  /-- its binding block, where it holds one -/
  block : Option BindBlock
deriving DecidableEq, Repr
/-- What LEDGER_MOUNT finds: the drives, whether the one drive is attached without a switch (R445), and the pages on this plant's pairs that read the same on every copy, each with its pair (R464). -/
structure MountIn where
  drives : List DriveIn
  direct : Bool
  pages : List (Nat × List Nat)
deriving DecidableEq, Repr
/-- What the start finds at the fuse journal, by `region × 16 + entry` (R479, R482). -/
structure JournalTest where
  /-- entries whose resumption fails its verify -/
  weak : List Nat
  /-- entries whose end bit does not hold -/
  stuck : List Nat
deriving DecidableEq, Repr
/-- A JTAG instruction and what the cells of the boundary-scan chain hold (R505). -/
structure JtagLoad where
  ins : JtagIns
  cells : Nat
deriving DecidableEq, Repr
/-- One conversion of a die's sensor (R381, R382): the raw code, in 1/128 °C, and whether the diode is open or shorted. -/
structure DieCode where
  die : Nat
  code : Int
  broken : Bool
deriving DecidableEq, Repr

/-- The commands. -/
inductive Instr where
  /-- `NET_CONFIG` (R427): stages the IPv4 address, prefix, gateway and VLAN of one Ethernet port into the shadow bank. -/
  | netConfig (h : Hdr) (g : Stg)
  /-- `START_CONFIG` (R338): stages the synchronisation, admission-time and restore-time parameters. -/
  | startConfig (h : Hdr) (g : Stg)
  /-- `FOOTING_CONFIG` (R358): stages supervisor bands, privileged-channel reactions, retry off time and charger and bank levels. -/
  | footingConfig (h : Hdr) (g : Stg)
  /-- `TICK_SOURCE_SET` (R54): stages the tick source preference list, angle offsets, Q, S, slew cap, nominal frequency, PLL bandwidth and freeze limit. -/
  | tickSourceSet (h : Hdr) (g : Stg)
  /-- `PLANT_TIME_CONFIG` (R65): stages the plant-time discipline, PTP port and domain, lock threshold and drift coefficient. -/
  | plantTimeConfig (h : Hdr) (g : Stg)
  /-- `STREAM_ROUTE` (R82): stages the binding of a waveform slot to a channel and its ramp length. -/
  | streamRoute (h : Hdr) (g : Stg)
  /-- `STREAM_PORT_CONFIG` (R93): stages the receive and transmit settings of a serial sample port. -/
  | streamPortConfig (h : Hdr) (g : Stg)
  /-- `SV_SUBSCRIBE` (R96): stages the parameters of one sampled-values subscription. -/
  | svSubscribe (h : Hdr) (g : Stg)
  /-- `STREAM_DMA_CONFIG` (R100): stages the host DMA ring configuration; the sender becomes ring owner when the swap lands. -/
  | streamDmaConfig (h : Hdr) (g : Stg)
  /-- `SETPOINT_INPUT_CONFIG` (R105): stages the mode, scaling and filter of the set-point input. -/
  | setpointInputConfig (h : Hdr) (g : Stg)
  /-- `GRID_SENSE_CONFIG` (R109): stages the connection, ratio, burden and corrections of one grid-sense channel. -/
  | gridSenseConfig (h : Hdr) (g : Stg)
  /-- `XP_GAIN_SET` (R428): stages a list of crosspoint node gains and path bits. -/
  | xpGainSet (h : Hdr) (entries : List GainEntry)
  /-- `XP_SHAPE_SET` (R428): stages biquad coefficients for sections of one destination. -/
  | xpShapeSet (h : Hdr) (dest first count : Nat) (coefs : List Nat)
  /-- `XP_DEST_CONFIG` (R427): stages a bay's destination kind, coping factor and release step. -/
  | xpDestConfig (h : Hdr) (g : Stg)
  /-- `XP_PROBE_SET` (R124): stages the parameters of one probe-tone generator. -/
  | xpProbeSet (h : Hdr) (g : Stg)
  /-- `XP_DAMP_SET` (R126): stages the input, sections, gain and clamp of a damping generator. -/
  | xpDampSet (h : Hdr) (g : Stg)
  /-- `XP_IDLE_CONFIG` (R137): stages a bay's idle detection parameters. -/
  | xpIdleConfig (h : Hdr) (g : Stg)
  /-- `CE_BAY_CONFIG` (R427): stages a bay's control mode, priority, gains, limit-loop limits and spans and plumb settings. -/
  | ceBayConfig (h : Hdr) (g : Stg)
  /-- `CE_LAW_SET` (R428): stages the sections and shift of one control law of a bay. -/
  | ceLawSet (h : Hdr) (bay law count shift : Nat) (coefs : List Nat)
  /-- `CE_PLANT_CONFIG` (R427): stages set-point sources and rates and the virtual machine parameters. -/
  | cePlantConfig (h : Hdr) (g : Stg)
  /-- `MD_BAY_CONFIG` (R216): stages a bay's modulation parameters. -/
  | mdBayConfig (h : Hdr) (g : Stg)
  /-- `BAY_PROFILE_SET` (R427): stages a bay's fitted masks, type codes, voltage, ratings, transformer and connection. -/
  | bayProfileSet (h : Hdr) (g : Stg)
  /-- `TRIP_CONFIG` (R208): stages enable, asserted level and filter of one trip input. -/
  | tripConfig (h : Hdr) (g : Stg)
  /-- `UNIT_PROFILE_SET` (R242): stages a bay profile's record parameters and tables. -/
  | unitProfileSet (h : Hdr) (g : Stg)
  /-- `Z_CONFIG` (R265): stages the plant-wide impedance pass parameters. -/
  | zConfig (h : Hdr) (g : Stg)
  /-- `Z_TEMP_TABLE_SET` (R253): stages a bay's core-temperature table. -/
  | zTempTableSet (h : Hdr) (g : Stg)
  /-- `LOAD_MODEL_CONFIG` (R266): stages a bay's reactor, transformer, flux, ambient and diagnosis parameters. -/
  | loadModelConfig (h : Hdr) (g : Stg)
  /-- `LINK_CONFIG` (R298): stages admission rate, dark limit, recovery time and voltage check parameters. -/
  | linkConfig (h : Hdr) (g : Stg)
  /-- `LEDGER_CONFIG` (R427): stages the snapshot cadence and the drive-pair mask. -/
  | ledgerConfig (h : Hdr) (g : Stg)
  /-- `SLOT_LIMITS_SET` (R409): stages a slot's token-bucket rate, depth and keepalive interval. -/
  | slotLimitsSet (h : Hdr) (g : Stg)
  /-- `THERMAL_CONFIG` (R385): stages thermal thresholds, hysteresis, dwell and grace for tiles or keystones. -/
  | thermalConfig (h : Hdr) (g : Stg)
  /-- `SYS_INFO_READ` (R430): returns variant, active keystone, boot slot, serial, firmware revision and generation. -/
  | sysInfoRead (h : Hdr)
  /-- `START_STATUS_READ` (R324): returns the start state and reason of a range of bays. -/
  | startStatusRead (h : Hdr) (first count : Nat)
  /-- `START_RESTORE_SKIP` (R333): opens every record of a bay waiting on restore as new with recal_due set. -/
  | startRestoreSkip (h : Hdr) (bay : Nat)
  /-- `BAY_SYNC` (R335): accepts a READY bay for synchronisation to enter SYNCING at the next cycle boundary. -/
  | baySync (h : Hdr) (bay : Nat)
  /-- `BAY_EXCLUDE` (R337): excludes a bay that is not ENERGISED from this start. -/
  | bayExclude (h : Hdr) (bay : Nat)
  /-- `SAFE_STOP` (R340): starts a ramped safe stop, or adds its cause to one running. -/
  | safeStop (h : Hdr)
  /-- `DEVICE_RESET` (R339): resets the device, after a safe stop when forced, or is refused while a bay is energised. -/
  | deviceReset (h : Hdr) (force : Nat)
  /-- `FOOTING_STATUS_READ` (R431): returns footing registers, every channel counter and the configuration in force. -/
  | footingStatusRead (h : Hdr)
  /-- `FOOTING_COUNTERS_CLEAR` (R373): clears the named channels' footing counters at the end of the tick. -/
  | footingCountersClear (h : Hdr) (channels : Nat)
  /-- `FOOTING_RAIL_RESTORE` (R363): closes the power gate of a latched-off privileged domain and restarts its die. -/
  | footingRailRestore (h : Hdr) (channel : Nat)
  /-- `PLANT_TIME_SET` (R68): sets plant time at once or arms a set for the next PPS edge. -/
  | plantTimeSet (h : Hdr) (time atPps : Nat)
  /-- `TIMEBASE_STATUS` (R74): returns timebase status words and the kept cycle records. -/
  | timebaseStatus (h : Hdr) (first max : Nat)
  /-- `STREAM_START` (R85): starts a mask of waveform slots at the next stage-3 latch. -/
  | streamStart (h : Hdr) (slots : Nat)
  /-- `STREAM_STOP` (R85): stops a mask of waveform slots at the next stage-3 latch. -/
  | streamStop (h : Hdr) (slots : Nat)
  /-- `STREAM_STATUS_READ` (R433): returns slot states, SV stream status and DMA block counts. -/
  | streamStatusRead (h : Hdr)
  /-- `XP_SWAP` (R128): validates the shadow bank and makes a swap pending, or cancels a pending swap. -/
  | xpSwap (h : Hdr) (mode glide cycle : Nat)
  /-- `XP_STATUS` (R127): returns staged item count, staging slots, pending swap and generation. -/
  | xpStatus (h : Hdr)
  /-- `XP_SHADOW_DISCARD` (R127): makes the shadow bank equal to the active bank. -/
  | xpShadowDiscard (h : Hdr)
  /-- `XP_FLAGS_CLEAR` (R434): clears crosspoint sticky flags and section shape_sat flags at the end of the tick. -/
  | xpFlagsClear (h : Hdr) (flags : Nat)
  /-- `XP_STATS_READ` (R136): returns a destination's statistics records in cursor form. -/
  | xpStatsRead (h : Hdr) (dest start max : Nat)
  /-- `BAY_WAKE` (R140): wakes a bay from standby at the next cycle boundary. -/
  | bayWake (h : Hdr) (bay : Nat)
  /-- `CE_SETPOINT_SET` (R152): sets the target and optionally the rate of the P or Q follower. -/
  | ceSetpointSet (h : Hdr) (quantity value rate : Nat)
  /-- `CE_FLAGS_READ` (R435): returns a bay's law saturation flags and clamp count. -/
  | ceFlagsRead (h : Hdr) (bay : Nat)
  /-- `CE_FLAGS_CLEAR` (R146): clears the saturation flags of a bay or the plant at the end of the tick. -/
  | ceFlagsClear (h : Hdr) (unit : Nat)
  /-- `CE_WINNER_STATS` (R171): returns a bay's per-window limit-winner counts in cursor form. -/
  | ceWinnerStats (h : Hdr) (bay start max : Nat)
  /-- `CE_PLUMB_STATUS` (R176): returns a bay's plumb-check counters and largest rho per window. -/
  | cePlumbStatus (h : Hdr) (bay : Nat)
  /-- `PIER_DISABLE` (R206): disables a pier to BYPASS or FLOAT, subject to the breaker rules. -/
  | pierDisable (h : Hdr) (unit mode : Nat)
  /-- `BAY_DISABLE` (R206): disables a bay to BYPASS or FLOAT, subject to the breaker rules. -/
  | bayDisable (h : Hdr) (unit mode : Nat)
  /-- `PLANT_DISABLE` (R206): disables every bay to BYPASS or FLOAT, subject to the breaker rules. -/
  | plantDisable (h : Hdr) (unit mode : Nat)
  /-- `PIER_ENABLE` (R207): accepts a pier enable that lands at the next cycle boundary. -/
  | pierEnable (h : Hdr) (unit : Nat)
  /-- `BAY_ENABLE` (R207): accepts a bay enable that lands at the next cycle boundary and clears a command exclusion. -/
  | bayEnable (h : Hdr) (unit : Nat)
  /-- `PLANT_ENABLE` (R207): accepts enables of every bay that meets the conditions and counts those left. -/
  | plantEnable (h : Hdr) (unit : Nat)
  /-- `TRIP_ASSERT` (R212): sets the trip latch with cmd_cause. -/
  | tripAssert (h : Hdr)
  /-- `TRIP_RESET` (R212): clears the trip latch at the end of the tick unless a cause persists. -/
  | tripReset (h : Hdr)
  /-- `MD_STATS_READ` (R217): returns a pier's modulation statistics records in cursor form. -/
  | mdStatsRead (h : Hdr) (pier start max : Nat)
  /-- `UNIT_READ` (R241): returns a unit's record or its members' records from one snapshot. -/
  | unitRead (h : Hdr) (unit scope start max : Nat)
  /-- `UNIT_RECAL` (R236): sets recal_due on a brick or on every available brick of a group. -/
  | unitRecal (h : Hdr) (unit : Nat)
  /-- `UNIT_RELEASE` (R243): returns a quarantined brick, or a group's quarantined bricks, to JOINING. -/
  | unitRelease (h : Hdr) (unit : Nat)
  /-- `Z_PASS_REQUEST` (R246): queues a pier for the next free impedance pass slot of its tile. -/
  | zPassRequest (h : Hdr) (pier : Nat)
  /-- `Z_READ` (R252): returns a brick's impedance bins, phases and charge-transfer estimate. -/
  | zRead (h : Hdr) (brick : Nat)
  /-- `GRID_Z_MEASURE` (R255): accepts a grid impedance measurement starting at the next cycle boundary. -/
  | gridZMeasure (h : Hdr) (gen pair cycles : Nat)
  /-- `GRID_Z_READ` (R256): returns the kept grid impedance results. -/
  | gridZRead (h : Hdr)
  /-- `LOAD_AMBIENT_SET` (R257): sets the plant or a bay's ambient temperature from the next cycle boundary. -/
  | loadAmbientSet (h : Hdr) (unit temp : Nat)
  /-- `LOAD_MODEL_READ` (R438): returns a bay's reactor, transformer and flux model outputs. -/
  | loadModelRead (h : Hdr) (bay : Nat)
  /-- `LOAD_BASELINE_SET` (R264): records a pier's load-diagnosis baseline from its latest result or given values. -/
  | loadBaselineSet (h : Hdr) (pier source l r : Nat)
  /-- `LOAD_DIAG_READ` (R264): returns the latest load-diagnosis result of every pier of a bay. -/
  | loadDiagRead (h : Hdr) (bay : Nat)
  /-- `LINK_WINDOW_OPEN` (R290): opens a test or maintenance admission window for a bay at the next cycle boundary. -/
  | linkWindowOpen (h : Hdr) (bay kind seconds : Nat)
  /-- `LINK_WINDOW_CLOSE` (R290): closes a bay's admission window at the next cycle boundary. -/
  | linkWindowClose (h : Hdr) (bay : Nat)
  /-- `COURSE_WITHDRAW` (R296): withdraws an in-service course, treating it as dark from the next stage 2. -/
  | courseWithdraw (h : Hdr) (course : Nat)
  /-- `LINK_STATUS_READ` (R439): returns a bay's lane, detour, ring state and link counters. -/
  | linkStatusRead (h : Hdr) (bay : Nat)
  /-- `LINK_PENDING_READ` (R439): returns pending and refused courses in cursor form. -/
  | linkPendingRead (h : Hdr) (start max : Nat)
  /-- `RD_STATUS_READ` (R440): returns redundancy registers, event counts and their latest ticks. -/
  | rdStatusRead (h : Hdr)
  /-- `TILE_HANDOVER` (R316): accepts a planned transfer of a tile's bays to its neighbour. -/
  | tileHandover (h : Hdr) (tile : Nat)
  /-- `TILE_HANDBACK` (R316): accepts a planned return of bays to a recovered tile. -/
  | tileHandback (h : Hdr) (tile : Nat)
  /-- `KEYSTONE_SWITCH` (R317): accepts a planned keystone switch at the next cycle boundary. -/
  | keystoneSwitch (h : Hdr)
  /-- `FW_IMAGE_WRITE` (R440): writes one chunk of a firmware image into the non-running slot. -/
  | fwImageWrite (h : Hdr) (slot offset : Nat) (data : List Nat)
  /-- `FW_IMAGE_VERIFY` (R317): checks an image slot's signature against the firmware root. -/
  | fwImageVerify (h : Hdr) (slot : Nat)
  /-- `FW_UPDATE` (R317): starts a firmware update by rebooting the standby from the verified slot. -/
  | fwUpdate (h : Hdr)
  /-- `LEDGER_STATUS_READ` (R441): returns ledger state, latest sequence, epoch, losses, drives and retention. -/
  | ledgerStatusRead (h : Hdr)
  /-- `LEDGER_EXPORT` (R466): starts a ledger export to a PCIe ring of the slot. -/
  | ledgerExport (h : Hdr) (base order start seq : Nat)
  /-- `LEDGER_EXPORT_ACK` (R466): returns the host's export consumer index. -/
  | ledgerExportAck (h : Hdr) (cons : Nat)
  /-- `LEDGER_EXPORT_STOP` (R469): ends the slot's export and names the first page not delivered. -/
  | ledgerExportStop (h : Hdr)
  /-- `LEDGER_DRIVE_BIND` (R447): binds a drive pair to the plant, resilvering a single survivor. -/
  | ledgerDriveBind (h : Hdr) (pair : Nat)
  /-- `IDENTITY_READ` (R487): returns device serial, variant, plant binding and die IDs. -/
  | identityRead (h : Hdr)
  /-- `FUSE_STATUS_READ` (R442): returns each fuse region's locks, journal state and marginal count. -/
  | fuseStatusRead (h : Hdr)
  /-- `FUSE_MAINT_ENTER` (R442): puts the device in the MAINTAIN state for fuse programming. -/
  | fuseMaintEnter (h : Hdr)
  /-- `FUSE_MAINT_EXIT` (R442): ends the MAINTAIN state. -/
  | fuseMaintExit (h : Hdr)
  /-- `FUSE_READ` (R477): returns words of a fuse region that is not read-locked. -/
  | fuseRead (h : Hdr) (region offset words : Nat)
  /-- `FUSE_PROGRAM` (R480): opens a journal entry and starts pulsing fuse words in the MAINTAIN state. -/
  | fuseProgram (h : Hdr) (region offset words : Nat) (data : List Nat)
  /-- `FUSE_LOCK` (R479): seals a region and blows its write lock, or blows a read lock. -/
  | fuseLock (h : Hdr) (region kind : Nat)
  /-- `SLOT_OPEN` (R398): opens or re-opens a slot from a verified grant, or the bootstrap slot 7. -/
  | slotOpen (h : Hdr) (grant : List Nat)
  /-- `SLOT_CLOSE` (R412): closes the sender's slot, discarding its queued commands. -/
  | slotClose (h : Hdr)
  /-- `SLOT_KEEPALIVE` (R412): restarts the slot's keepalive interval. -/
  | slotKeepalive (h : Hdr)
  /-- `SLOT_RIGHTS_DROP` (R400): clears rights from the slot and raises its rights generation. -/
  | slotRightsDrop (h : Hdr) (mask : Nat)
  /-- `SLOT_EVENTS_SET` (R415): sets the slot's event mask and interrupt moderation time. -/
  | slotEventsSet (h : Hdr) (mask moderation : Nat)
  /-- `SLOT_STATUS_READ` (R443): returns slot status and refusal counts, optionally resending the latest reply of a tag. -/
  | slotStatusRead (h : Hdr) (resend tag : Nat)
  /-- `EVENT_FETCH` (R415): returns the slot's kept events from a given sequence onwards. -/
  | eventFetch (h : Hdr) (start max : Nat)
  /-- `THERMAL_STATUS_READ` (R444): returns each die's reading, peak, level, flags, grace and counts. -/
  | thermalStatusRead (h : Hdr)
  /-- `HS_CMD_PROD` (R402): host write of a slot's command producer index posts command ring entries to the device. -/
  | hsCmdProd (slot index : Nat) (entries : List (List Nat))
  /-- `HS_RPL_CONS` (R404): host write of a slot's reply consumer index frees reply entries so held commands may execute. -/
  | hsRplCons (slot index : Nat)
  /-- `HS_EVQ_CONS` (R404): host write of a slot's event consumer index frees event entries and lets an overflow event be written. -/
  | hsEvqCons (slot index : Nat)
  /-- `HS_COMMIT` (R403): write of 1 requests that page 12's staged ring fields be applied at the next tick boundary. -/
  | hsCommit (value : Nat)
  /-- `HS_COMMIT_LANDING` (R403): page-12 commit lands, checking and applying all staged ring fields or setting commit_err. -/
  | hsCommitLanding
  /-- `SYS_COMMIT` (R518): write of 1 requests that page 0's staged GPIO fields be applied at the next tick boundary. -/
  | sysCommit (value : Nat)
  /-- `SYS_COMMIT_LANDING` (R525): page-0 commit lands, applying GPIO direction and SYNC_PERMIT function with the one-tick low on a change. -/
  | sysCommitLanding
  /-- `UR_COMMIT` (R518): write of 1 requests a unit-record window fill at the next tick boundary. -/
  | urCommit (value : Nat)
  /-- `UR_COMMIT_LANDING` (R532): page-8 commit lands and starts or refuses a window fill. -/
  | urCommitLanding
  /-- `UR_FILL_PUBLISH` (R533): A window fill publishes its records, snapshot tick and status in one update and advances UR_WIN_SEQ. -/
  | urFillPublish
  /-- `STAGED_REGISTER_WRITE` (R22): write to an STG field sets its staged copy for the next commit. -/
  | stagedRegisterWrite (offset value : Nat)
  /-- `REGISTER_WRITE` (R20): write to a register without behaviour of its own acts per the field access codes. -/
  | registerWrite (offset value : Nat)
  /-- `RC_READ` (R20): read of an RC field returns and clears it in the same access. -/
  | rcRead (offset : Nat)
  /-- `BAD_ACCESS` (R18): access of the wrong width or alignment has no effect, reads zero and sets bad_access. -/
  | badAccess (write : Bool)
  /-- `SP_DMA_IN_PROD` (R528): host write of the DMA input producer index posts input blocks, or is ignored and counted. -/
  | spDmaInProd (index : Nat)
  /-- `SP_DMA_OUT_CONS` (R528): host write of the DMA output consumer index frees output ring places. -/
  | spDmaOutCons (index : Nat)
  /-- `FREEZE_REQ` (R214): write of 1 to freeze_req, or a debug halt, starts lab freeze or is denied on a production part. -/
  | freezeReq (halt : Bool)
  /-- `FREEZE_END` (R215): clearing freeze_req or releasing the halt floats and disables every frozen bay. -/
  | freezeEnd (halt : Bool)
  /-- `FREEZE_LIMIT` (R215): freeze limit runs out and the tiles set the trip latch with freeze_cause. -/
  | freezeLimit
  /-- `UDP_DATAGRAM` (R406): an Ohmuc datagram arrives on a 10GBASE-R port and is checked for size, fragmenting and binding. -/
  | udpDatagram (port peer dst vlan : Nat) (fragment : Bool) (bytes : List Nat)
  /-- `ARP` (R406): device answers an ARP request on a configured port address. -/
  | arp (port target vlan : Nat)
  /-- `ICMP_ECHO` (R406): device answers an ICMP echo request on a configured port address. -/
  | icmpEcho (port dst vlan ident seq : Nat)
  /-- `MSI_MODERATION_END` (R405): A vector's moderation time ends and a pending item raises one interrupt. -/
  | msiModerationEnd (vector : Nat)
  /-- `SLOT_LOST` (R412): keepalive runs out after 3k and the slot is closed, its commands discarded and others told. -/
  | slotLost (slot : Nat)
  /-- `PCIE_LINK_DOWN` (R412): PCIe link loss or function-level reset loses every PCIe slot at once. -/
  | pcieLinkDown
  /-- `GRANT_EXPIRY` (R400): A grant's g_not_after passes in LOCKED or HOLDOVER, removing the slot's rights. -/
  | grantExpiry (slot : Nat)
  /-- `TICK_BOUNDARY` (R51): tick accumulator overflows, the tick index advances and the tick is stamped. -/
  | tickBoundary (inp : TickIn)
  /-- `CYCLE_BOUNDARY` (R51): tick 799 ends, the cycle counter increments and boundary work runs. -/
  | cycleBoundary
  /-- `RECORD_PASS` (R230): stage 2 updates each brick record, its state, charge, SOC, limits, rank and group records. -/
  | recordPass
  /-- `RANK_SNAPSHOT` (R77): at the stage-2 deadline each tile freezes its rank snapshot. -/
  | rankSnapshot
  /-- `CROSSPOINT_STAGE` (R115): stage 4 forms crosspoint sums, shaping, coping and auxiliary outputs. -/
  | crosspointStage
  /-- `CONTROL_STAGE` (R143): stage 5 runs plumb check, plant loops, limit arbitration and pier voltage commands. -/
  | controlStage
  /-- `PLUMB_RECOVERY` (R174): rho stays below W/2 for 4 ticks and measured feedback is restored. -/
  | plumbRecovery (bay pier : Nat)
  /-- `PLUMB_FLOAT` (R174): A pier completes 16 ticks on the model and its bay is floated. -/
  | plumbFloat (bay pier : Nat)
  /-- `MODULATION_STAGE` (R193): stage 6 selects bricks, trims, composes and sends command blocks and heartbeats. -/
  | modulationStage
  /-- `STAGE_DEADLINE_MISS` (R79): A stage misses its deadline and its work is dropped with the stage's fallback action. -/
  | stageDeadlineMiss (stage : Nat) (units : List Nat)
  /-- `TICK_MARKER` (R272): the device sends a tick marker on every lane before the tick boundary. -/
  | tickMarker
  /-- `TICK_MARKER_ECHO` (R272): A hub's marker echo arrives and the lane delay is updated. -/
  | tickMarkerEcho (lane delay : Nat)
  /-- `UPSTREAM_FRAME` (R279): A bay's upstream frame arrives and is accepted or discarded, then decoded. -/
  | upstreamFrame (frame : UpFrame)
  /-- `BAY_LINK_LOST` (R284): no upstream frame accepted for 10 ticks floats the bay and sets LK_LOST_BAY. -/
  | bayLinkLost (bay : Nat)
  /-- `COURSE_DARK` (R287): A course's section is missing in 2 consecutive accepted frames and it becomes dark. -/
  | courseDark (course : Nat)
  /-- `COURSE_LEAVE_SERVICE` (R289): A course dark for the dark limit leaves service and its records go to ABSENT. -/
  | courseLeaveService (course : Nat)
  /-- `WITHDRAW` (R296): one whole cycle after withdrawal the device sends WITHDRAW and takes the course out of service. -/
  | withdraw (course : Nat)
  /-- `HELLO` (R271): A hub's HELLO arrives and the hub is admitted or refused. -/
  | hello (lane : Nat) (msg : HelloMsg)
  /-- `JOIN` (R292): A course's JOIN arrives and is answered ACCEPT, WAIT or REFUSE. -/
  | join (bay : Nat) (msg : JoinMsg)
  /-- `SERIALS` (R294): A course's SERIALS part arrives; after part 3 the course is checked and admitted or refused. -/
  | serials (bay : Nat) (msg : SerialsMsg)
  /-- `RING` (R286): A hub's RING message reports a ring break or its repair. -/
  | ring (bay : Nat) (msg : RingMsg)
  /-- `LANE_DOWN` (R271): A lane loses block lock or exceeds the FEC error rate and retrains. -/
  | laneDown (lane : Nat)
  /-- `LANE_TRAINED` (R271): link training of a lane completes and delay measurement begins. -/
  | laneTrained (lane : Nat)
  /-- `LANE_RETRY` (R323): A bay waiting at step 7 retries lane training after 1 s. -/
  | laneRetry (lane : Nat)
  /-- `WINDOW_OPEN` (R290): an admission window opens at a cycle boundary. -/
  | windowOpen (bay kind : Nat)
  /-- `WINDOW_CLOSE` (R290): an admission window closes on command, duration, recovery time or breaker close. -/
  | windowClose (bay kind : Nat)
  /-- `SSP_RX_FRAME` (R88): A serial port receive frame enters the resampler FIFO. -/
  | sspRxFrame (port : Nat) (words : List Nat)
  /-- `SSP_RX_SLIP` (R92): the resampler FIFO empties or fills and is re-centred. -/
  | sspRxSlip (port : Nat) (full : Bool)
  /-- `SV_ASDU` (R97): A sampled-values ASDU arrives and is checked and stored. -/
  | svAsdu (asdu : Asdu)
  /-- `SV_STREAM_TIMEOUT` (R99): 4 consecutive absent sample counts time a stream out and lose its channels. -/
  | svStreamTimeout (stream : Nat)
  /-- `DMA_INPUT_BLOCK` (R102): A posted input block is consumed, checked and its ticks marked used or missing. -/
  | dmaInputBlock (block : List Nat)
  /-- `DMA_OUTPUT_BLOCK` (R104): an output block is completed and written or dropped, and the owner signalled. -/
  | dmaOutputBlock
  /-- `CHANNEL_QUALIFY` (R85): A waiting slot's channel completes its qualification count and the slot ramps up. -/
  | channelQualify (slot : Nat)
  /-- `CHANNEL_LOST` (R85): A channel stays missing for its timeout and its slots ramp down frozen. -/
  | channelLost (slot : Nat)
  /-- `SLOT_RAMP_END` (R85): A slot's gain reaches 1 or 0 and it enters LIVE, WAITING or IDLE. -/
  | slotRampEnd (slot : Nat)
  /-- `SETPOINT_QUALIFY` (R106): the set-point input completes 800 valid ticks and its filter is set. -/
  | setpointQualify
  /-- `SETPOINT_LOST` (R106): the set-point input has 16 consecutive invalid ticks and is lost. -/
  | setpointLost
  /-- `PROBE_BURST_END` (R125): A probe-tone burst of N cycles ends and its ramp down starts. -/
  | probeBurstEnd (gen : Nat)
  /-- `XP_SWAP_LANDING` (R129): A pending swap lands, applying the shadow bank and advancing the generation. -/
  | xpSwapLanding
  /-- `GRID_SENSE_INVALID` (R110): A grid-sense bitstream stops or fails its barrier check and the channel becomes invalid. -/
  | gridSenseInvalid (channel : Nat)
  /-- `GRID_PLL_LOCK` (R63): the grid PLL declares lock after 4 cycles of low phase error. -/
  | gridPllLock
  /-- `GRID_PLL_LOCK_LOSS` (R63): the grid PLL loses lock on phase, frequency, rate or freeze-limit criteria. -/
  | gridPllLockLoss
  /-- `PLL_FREEZE` (R64): positive-sequence voltage falls below 0.5 pu and the PLL freezes. -/
  | pllFreeze
  /-- `PLL_FREEZE_EXIT` (R64): voltage recovers for one cycle and the PLL resumes tracking. -/
  | pllFreezeExit
  /-- `SOURCE_ELIGIBLE` (R55): A tick source has been qualified for Q whole cycles and becomes eligible. -/
  | sourceEligible (src : SrcName)
  /-- `PTP_SYNC` (R65): A PTP Sync or Follow_Up message is timestamped and disciplines plant time. -/
  | ptpSync (offset interval : Int)
  /-- `PTP_ANNOUNCE` (R65): A PTP Announce message feeds grandmaster selection. -/
  | ptpAnnounce (identity rank interval : Nat)
  /-- `PTP_PDELAY` (R65): A PTP peer-delay message is timestamped for the peer delay measurement. -/
  | ptpPdelay (delay : Nat)
  /-- `PTP_LOST` (R66): announce or Sync messages time out and PTP is lost. -/
  | ptpLost
  /-- `PPS_EDGE` (R66): A PPS_IN rising edge is accepted, counted as outlier or triggers re-acquisition. -/
  | ppsEdge (after : Nat)
  /-- `PPS_LOST` (R66): no PPS edge arrives for 2 s and PPS is lost. -/
  | ppsLost
  /-- `PLANT_TIME_SET_LAPSE` (R432): an armed plant-time set sees no PPS edge within 2 s and lapses. -/
  | plantTimeSetLapse
  /-- `PLANT_TIME_LOCKED` (R67): estimated error stays within the threshold for 16 s and plant time is LOCKED. -/
  | plantTimeLocked
  /-- `PPS_OUT_PULSE` (R71): PPS_OUT rises at a whole second of plant time and falls after 100 ms. -/
  | ppsOutPulse (rise : Bool)
  /-- `REFCLK_FAULT` (R72): REFCLK is absent, off frequency or out of ppm and the device moves to its oscillator and starts a safe stop. -/
  | refclkFault
  /-- `TRIP_INPUT_ASSERT` (R209): an enabled trip input asserts after its filter and sets the trip latch. -/
  | tripInputAssert (input : Nat)
  /-- `ISO_SUPPLY_LOSS` (R210): loss of the isolated supply or barrier data path acts as assertion of every enabled GS_TRIP. -/
  | isoSupplyLoss
  /-- `BAY_IDLE` (R138): A bay's idle conditions hold for the dwell and an idle event is raised. -/
  | bayIdle (bay : Nat)
  /-- `STANDBY_ENTRY` (R139): an idle bay with its breaker open enters standby at a cycle boundary. -/
  | standbyEntry (bay : Nat)
  /-- `STANDBY_EXIT` (R140): A woken bay resumes modulation at the first cycle boundary after the trigger. -/
  | standbyExit (bay : Nat)
  /-- `ENABLE_LANDING` (R207): an accepted enable lands at the cycle boundary with an ALL_BYPASS first tick. -/
  | enableLanding (bay pier : Nat)
  /-- `KEYSTONE_LOST` (R303): the active keystone's heartbeat is missing twice or it faults, and the standby begins tracking. -/
  | keystoneLost (cause : LossCause)
  /-- `KEYSTONE_LIVE` (R304): A tracking keystone goes live at the first cycle boundary 400 ticks on and tiles leave flywheel. -/
  | keystoneLive
  /-- `PLANNED_SWITCH` (R317): at the boundary the standby goes live with an empty journal without flywheel. -/
  | plannedSwitch
  /-- `FW_UPDATE_ABORT` (R317): the standby fails signed boot or its shadow is not valid within 60 s and the update ends. -/
  | fwUpdateAbort
  /-- `FLYWHEEL_RAMP_START` (R308): after 3,200 flywheel ticks the scale starts to fall. -/
  | flywheelRampStart
  /-- `FLYWHEEL_FLOAT` (R309): the flywheel scale reaches 0 and every enabled bay is floated and disabled. -/
  | flywheelFloat
  /-- `TILE_TAKEOVER` (R313): A tile's heartbeat is missing twice or it is shut down and its neighbour takes its bays. -/
  | tileTakeover (tile : Nat)
  /-- `TRANSFER_CYCLE_START` (R316): A planned transfer cycle starts with both tiles at half record rate. -/
  | transferCycleStart
  /-- `TRANSFER_COMPLETE` (R316): at the end of the transfer cycle the receiving tile takes over stage 6 for the bays. -/
  | transferComplete
  /-- `Z_PASS_END` (R249): A pass window completes and each brick's pass is evaluated and written. -/
  | zPassEnd (pier : Nat)
  /-- `GRID_Z_START` (R255): A grid impedance measurement starts at the cycle boundary. -/
  | gridZStart
  /-- `GRID_Z_RESULT` (R256): A grid impedance window of P_g cycles ends and its result is written. -/
  | gridZResult
  /-- `AMBIENT_TIMEOUT` (R257): no ambient set reaches a bay for the timeout and the fallback ambient applies. -/
  | ambientTimeout (bay : Nat)
  /-- `DIAG_WINDOW_CLOSE` (R263): A load-diagnosis window of N_d cycles closes and L and R are fitted and drift judged. -/
  | diagWindowClose (pier : Nat)
  /-- `SYNC_START` (R336): A bay accepted by BAY_SYNC is enabled and enters SYNCING at the cycle boundary. -/
  | syncStart
  /-- `SYNC_PERMIT_ASSERT` (R336): the sync test passes for the dwell and SYNC_PERMIT is asserted. -/
  | syncPermitAssert
  /-- `SYNC_TIMEOUT` (R336): the sync time elapses without a permit and the bay is disabled to FLOAT. -/
  | syncTimeout
  /-- `SAFE_STOP_FLOAT` (R341): the stop scale reaches 0 and every bay is disabled to FLOAT. -/
  | safeStopFloat
  /-- `SAFE_STOP_FLUSH` (R341): at the next cycle boundary the stop snapshot and flush begin. -/
  | safeStopFlush
  /-- `SAFE_STOP_COMPLETE` (R344): the flush completes and the device is STOPPED, reset or powered down. -/
  | safeStopComplete (flushed : Bool)
  /-- `POWER_ON` (R351): VIN_HOLD exceeds the start threshold for 10 ms and step 1 begins. -/
  | powerOn
  /-- `SYS_RESET_N` (R339): SYS_RESET_N low for 1 µs resets the device at once. -/
  | sysResetN
  /-- `POSITION_READY` (R354): A cascade position becomes ready and the next position starts. -/
  | positionReady
  /-- `POSITION_TIMEOUT` (R325): A position is not ready within 30 ms and is retried or the footing holds. -/
  | positionTimeout (off : Bool)
  /-- `POSITION_RETRY` (R354): after 10 ms off, a position's enable is asserted again. -/
  | positionRetry
  /-- `FUSE_LOAD` (R326): step 2 loads and verifies every fuse region and resumes or marks journal entries. -/
  | fuseLoad (marginal : List Nat) (ids : List (Nat × Nat)) (journal : JournalTest)
  /-- `KEYSTONE_SELF_TEST` (R327): A keystone completes its self-test and becomes a candidate for election. -/
  | keystoneSelfTest (keystone : Nat) (pass : Bool)
  /-- `ELECTION_TIMEOUT` (R327): the 100 ms preference wait or 1 s limit of the election expires. -/
  | electionTimeout (limit : Bool)
  /-- `SIGNED_BOOT` (R328): A keystone's signed boot completes or fails on both slots. -/
  | signedBoot (keystone : Nat)
  /-- `SERVICE_UART_WRITE` (R328): an image write arrives on the service UART after both slots failed. -/
  | serviceUartWrite (slot offset : Nat) (data : List Nat)
  /-- `TILE_SELF_TEST` (R329): A tile's SRAM march test completes or times out after 200 ms. -/
  | tileSelfTest (tile : Nat) (pass : Bool)
  /-- `TIMEBASE_START` (R330): step 6 locks the PLL and starts the tick under FREE, or stops on a PLL timeout. -/
  | timebaseStart (locked : Bool)
  /-- `ADMISSION_END` (R332): step 8 ends for a bay when all positions are admitted or the admission time elapses. -/
  | admissionEnd (bay : Nat)
  /-- `RESTORE` (R333): step 9 restores or opens every admitted record of a bay, or holds on restore timeout. -/
  | restore (bay : Nat)
  /-- `LEDGER_MOUNT` (R464): at a start or takeover the chain tail is found and the chain continued or a new epoch begun. -/
  | ledgerMount (mount : MountIn)
  /-- `VIN_LOSS` (R372): VIN_HOLD falls below loss or rises above over-voltage and the footing switches to the bank and starts a safe stop. -/
  | vinLoss
  /-- `VIN_RETURN` (R372): VIN_HOLD stays in band for 100 ms and the footing switches back. -/
  | vinReturn
  /-- `BANK_CUTOFF` (R372): VSYS falls below cut-off on hold-up and the footing powers down. -/
  | bankCutoff
  /-- `VAON_LOSS` (R352): VAON falls below 2.9 V and every enable and gate is released. -/
  | vaonLoss
  /-- `WARNING_EXCURSION` (R359): A supervisor channel crosses a warning threshold and the excursion is counted. -/
  | warningExcursion (channel : Nat) (high : Bool)
  /-- `SUPERVISOR_TRIP` (R360): A channel crosses reset-low or reset-high and its reaction is applied. -/
  | supervisorTrip (channels : List Nat) (high : Bool)
  /-- `RETRY_OFF_END` (R361): the retry off time ends and the domain's power gate closes. -/
  | retryOffEnd (channel : Nat)
  /-- `RETRY_RAIL_CHECK` (R361): A retried rail holds its band for 1 ms and the die restarts, or fails within 5 ms and latches off. -/
  | retryRailCheck (channel : Nat) (held : Bool)
  /-- `FOOTING_RESET` (R360): after float blocks are sent or 16 ticks the footing starts the device reset or powers down. -/
  | footingReset
  /-- `BANK_BELOW_READY` (R371): the bank falls below ready with a bay energised and hu_low is set. -/
  | bankBelowReady
  /-- `CHARGER_PRECHARGE` (R368): the charger leaves OFF or FAULT and starts pre-charging. -/
  | chargerPrecharge
  /-- `CHARGER_CC` (R368): the bank reaches 2.0 V and the charger enters constant current. -/
  | chargerCc
  /-- `CHARGER_CV` (R368): the bank reaches the float level, or DONE sees a 0.3 V drop, and the charger enters CV. -/
  | chargerCv
  /-- `CHARGER_DONE` (R368): CV current stays below 5 % of I_cc for 1 s and the charger stops. -/
  | chargerDone
  /-- `CHARGER_FAULT` (R368): pre-charge or CC times out or the bank over-voltage is reached and the charger faults. -/
  | chargerFault
  /-- `CAP_ESTIMATE` (R369): A CC phase passes 13.0 V and the bank capacitance is estimated. -/
  | capEstimate (ms : Nat)
  /-- `FOOTING_I2C_READ` (R374): an I2C index write and read returns a footing register. -/
  | footingI2cRead (index : Nat)
  /-- `THERMAL_CONVERSION` (R381): the thermal front end converts every die sensor. -/
  | thermalConversion (codes : List DieCode)
  /-- `THERMAL_LEVEL_CHANGE` (R384): A die's readings hold past a threshold for the dwell and its level changes. -/
  | thermalLevelChange (die : Nat)
  /-- `SENSOR_BROKEN` (R382): A sensor is out of range or stuck and declared broken. -/
  | sensorBroken (die : Nat)
  /-- `SENSOR_RECOVERED` (R382): A broken sensor gives 1 s of good conversions and counts as good again. -/
  | sensorRecovered (die : Nat)
  /-- `THROTTLE_GRACE_END` (R386): A throttle request's grace ends with the die still at THROTTLE. -/
  | throttleGraceEnd (die : Nat)
  /-- `THROTTLE_ENFORCE` (R386): at the cycle boundary after the grace, throttle enforcement begins. -/
  | throttleEnforce (die : Nat)
  /-- `THROTTLE_RELEASE` (R386): at the cycle boundary after falling below THROTTLE, enforcement ends. -/
  | throttleRelease (die : Nat)
  /-- `SNAPSHOT_DUE` (R453): plant time passes a multiple of the cadence and a snapshot falls due or is skipped. -/
  | snapshotDue
  /-- `SNAPSHOT_CAPTURE` (R455): at the next cycle boundary the one-cycle snapshot sweep begins. -/
  | snapshotCapture
  /-- `EVENT_PAGE_SEAL` (R461): an event page is sealed when full, 1 s after its first slot, or during a safe stop. -/
  | eventPageSeal
  /-- `NVME_COMPLETION` (R463): an NVMe command completes, making pages durable and offered to exports. -/
  | nvmeCompletion (ident drive : Nat) (ok : Bool)
  /-- `DRIVE_TIMEOUT` (R448): an NVMe command exceeds 5 s and the drive is reset, retried or declared failed. -/
  | driveTimeout (drive : Nat)
  /-- `SMART_POLL` (R448): every 60 s the SMART log is read and critical warnings acted on. -/
  | smartPoll (drive warning : Nat)
  /-- `RESILVER_COMPLETE` (R447): background copy to a newly bound drive ends and the pair is whole. -/
  | resilverComplete (pair : Nat)
  /-- `FUSE_PROGRAM_COMPLETE` (R480): the fuse sequencer finishes a command and its reply is written. -/
  | fuseProgramComplete (bad weak : List Nat)
  /-- `JTAG_INSTRUCTION` (R505): A JTAG instruction acts on boundary scan, or as BYPASS after the first lane has trained. -/
  | jtagInstruction (load : JtagLoad)
  /-- `ISO_SUPPLY_RETURN` (R212): the grid-sense isolated supply or barrier data path recovers, clearing iso_fault and letting the grid-sense channels and TRIP_RESET act again. -/
  | isoSupplyReturn
  /-- `RAIL_RETURN` (R359): A supervised rail returns inside its band after a crossing, held 1 µs beyond the 0.5 % hysteresis, so the footing raises its one event and in_band is restored. -/
  | railReturn (channel : Nat)
  /-- `TRIP_INPUT_RELEASE` (R219): A trip input leaves its asserted level, so its filtered state in gs_in or gpio_in clears and TRIP_RESET is no longer refused on its account. -/
  | tripInputRelease (input : Nat)
deriving DecidableEq, Repr

end Sys2Proof
end

