-- ==== Sys2Proof/Config.lean ====
section
/-! DEFINITION. What an implementation fixes and what the spec leaves open: the free values, each an opaque constant, and the kinds of event. -/

namespace Sys2Proof

/-- The kinds of event that the chapters name (R414), and those that report what an accepted command leaves pending (R416): `syncBegun`, `setLanded`, `enableLanded`, `zPassDone`, `gridZDone`, `transferEnded`, `keystoneSwitched`, `updateEnded`. No chapter names these; DESIGN CHOICE (log 29). -/
inductive EvKind where
  | bootSlotBad
  | restoreNew
  | restoreSkipped
  | syncTimeout
  | closeWithoutPermit
  | safeStop
  | syncBegun
  | excursion
  | railTrip
  | holdupLow
  | capacityLow
  | chargerFault
  | setLapsed
  | setLanded
  | timeStep
  | retarget
  | deadline
  | swapLanded
  | bayIdle
  | bayLimited
  | plumbRecovered
  | plumbFloated
  | trip
  | enableLanded
  | courseFault
  | floatMargin
  | floatMarginClear
  | headroom
  | headroomClear
  | quarantined
  | retired
  | departed
  | recordEvent
  | conflict
  | zRequestDropped
  | zPassDone
  | gridZDone
  | ambientFallback
  | drift
  | hotSpot
  | hubRefused
  | coursePresent
  | typeDiffers
  | button
  | bayLost
  | detourStart
  | detourEnd
  | ringBreak
  | ringRepaired
  | positionRefused
  | transferEnded
  | keystoneSwitched
  | updateEnded
  | snapshotSkipped
  | driveFailed
  | pairDegraded
  | resilvered
  | ledgerRestart
  | exportEnded
  | takeoverSeal
  | fuseProgrammed
  | fuseMarginal
  | fuseJournal
  | fuseLock
  | rootTaken
  | binding
  | slotGone
  | hsTakeover
  | eventOverflow
  | rightsChanged
  | commitError
  | thermalLevel
  | throttleRequest
  | sensorFault
deriving DecidableEq, Repr

namespace Config

/-- A fresh value the spec leaves open, by draw number and use (log 1). -/
opaque freeValue : Nat → Nat

/-- The low byte of an event code that no chapter tables (R414; log 7). -/
opaque evLow : EvKind → Nat

/-- A resampler's output for one tick: port (0, 1, or 8 and the SV stream), channel, the frames its filter has taken, newest first, frames per tick and the phase between two frames (R91; the filter's taps are not given; log 8). -/
opaque resample : Nat → Nat → List Int → Rat → Rat → Int

/-- The damping of a resampler's loop, in 2⁻¹⁶, by port (R91 gives the loop's bandwidth and not its damping; log 8). -/
opaque rxDamping : Nat → Nat

/-- What a PLL of a loop bandwidth in mHz leaves, over a tick of so many ps, of an offset it takes out, in 2⁻³² (R64; the loop's law is not given; log 25). -/
opaque pllKeep : Nat → Nat → Nat


/-- The nonce of an ECDSA signature, by private key and digest; FIPS 186 leaves it to the signer (R450; log 9). -/
opaque ecdsaNonce : Nat → List Nat → Nat

/-- What a boot image's bytes hold: firmware revision, shadow revision written, lowest and highest shadow revision accepted, and the signature check against the root's 32 bytes (R317, R440; the image's layout is not given; log 9). -/
opaque imageInfo : List Nat → Nat × Nat × Nat × Nat
opaque imageSigned : List Nat → List Nat → Bool

/-- The windows in which a command suspends before the one that ends its work (R409 gives the rule and not which commands are long; log 140). -/
opaque moreWindows : Instr → Nat

/-- The silicon revision that the TRIM words hold (R522; the place is not given; log 9). -/
opaque siliconRev : List Nat → Nat

end Config

namespace EvKind

/-- The event's group: the opcode group of its subject (R414). -/
def group : EvKind → Nat
  | .bootSlotBad => 1
  | .restoreNew => 1
  | .restoreSkipped => 1
  | .syncTimeout => 1
  | .closeWithoutPermit => 1
  | .safeStop => 1
  | .syncBegun => 1
  | .excursion => 2
  | .railTrip => 2
  | .holdupLow => 2
  | .capacityLow => 2
  | .chargerFault => 2
  | .setLapsed => 3
  | .setLanded => 3
  | .timeStep => 3
  | .retarget => 3
  | .deadline => 3
  | .swapLanded => 5
  | .bayIdle => 5
  | .bayLimited => 6
  | .plumbRecovered => 6
  | .plumbFloated => 6
  | .trip => 7
  | .enableLanded => 7
  | .courseFault => 7
  | .floatMargin => 7
  | .floatMarginClear => 7
  | .headroom => 7
  | .headroomClear => 7
  | .quarantined => 8
  | .retired => 8
  | .departed => 8
  | .recordEvent => 8
  | .conflict => 8
  | .zRequestDropped => 9
  | .zPassDone => 9
  | .gridZDone => 9
  | .ambientFallback => 9
  | .drift => 9
  | .hotSpot => 9
  | .hubRefused => 10
  | .coursePresent => 10
  | .typeDiffers => 10
  | .button => 10
  | .bayLost => 10
  | .detourStart => 10
  | .detourEnd => 10
  | .ringBreak => 10
  | .ringRepaired => 10
  | .positionRefused => 10
  | .transferEnded => 11
  | .keystoneSwitched => 11
  | .updateEnded => 11
  | .snapshotSkipped => 12
  | .driveFailed => 12
  | .pairDegraded => 12
  | .resilvered => 12
  | .ledgerRestart => 12
  | .exportEnded => 12
  | .takeoverSeal => 12
  | .fuseProgrammed => 13
  | .fuseMarginal => 13
  | .fuseJournal => 13
  | .fuseLock => 13
  | .rootTaken => 13
  | .binding => 13
  | .slotGone => 14
  | .hsTakeover => 14
  | .eventOverflow => 14
  | .rightsChanged => 14
  | .commitError => 14
  | .thermalLevel => 15
  | .throttleRequest => 15
  | .sensorFault => 15

/-- The low byte a chapter tables (R414, R472, R488). -/
def tabled : EvKind → Option Nat
  | .snapshotSkipped => some 1
  | .driveFailed => some 2
  | .pairDegraded => some 3
  | .resilvered => some 4
  | .ledgerRestart => some 5
  | .exportEnded => some 6
  | .takeoverSeal => some 7
  | .fuseProgrammed => some 1
  | .fuseMarginal => some 2
  | .fuseJournal => some 3
  | .fuseLock => some 4
  | .rootTaken => some 5
  | .binding => some 6
  | .slotGone => some 1
  | .hsTakeover => some 2
  | .eventOverflow => some 3
  | .rightsChanged => some 4
  | .commitError => some 5
  | _ => none

/-- The 16-bit event code (R414). -/
def code (k : EvKind) : Nat :=
  k.group * 256 + (match k.tabled with | some c => c | none => Config.evLow k % 256)

/-- The event is recorded in the ledger's event region (R461 and the chapters that say so). -/
def ledgered : EvKind → Bool
  | .restoreNew => true
  | .restoreSkipped => true
  | .safeStop => true
  | .syncBegun => true
  | .timeStep => true
  | .trip => true
  | .quarantined => true
  | .retired => true
  | .departed => true
  | .snapshotSkipped => true
  | .driveFailed => true
  | .pairDegraded => true
  | .resilvered => true
  | .ledgerRestart => true
  | .exportEnded => true
  | .takeoverSeal => true
  | .fuseProgrammed => true
  | .fuseMarginal => true
  | .fuseJournal => true
  | .fuseLock => true
  | .rootTaken => true
  | .binding => true
  | .thermalLevel => true
  | .sensorFault => true
  | _ => false

end EvKind

end Sys2Proof
end

