-- ==== Sys2Proof/Machine/Arith.lean ====
section
/-! DEFINITION. Rounding, saturation, bit fields, byte order. Results are computed exactly and narrowed once. -/

namespace Sys2Proof.Machine
open Sys2Proof

/-- Limit `x` to `[lo, hi]`. -/
def clampI (lo hi x : Int) : Int := if x < lo then lo else if hi < x then hi else x

/-- Saturate to `n`-bit two's complement. -/
def satS (n : Nat) (x : Int) : Int := clampI (-((2 ^ (n - 1) : Nat) : Int)) (((2 ^ (n - 1) : Nat) : Int) - 1) x

/-- Saturate a natural to `n` bits. -/
def satU (n : Nat) (x : Nat) : Nat := if x < 2 ^ n then x else 2 ^ n - 1

/-- A saturating `n`-bit counter counts one. -/
def incSat (n : Nat) (x : Nat) : Nat := satU n (x + 1)

/-- A wrapping `n`-bit counter counts one. -/
def incWrap (n : Nat) (x : Nat) : Nat := (x + 1) % 2 ^ n

/-- Round the quotient `a / b` to nearest, ties to even (`b` above 0). -/
def divRne (a : Int) (b : Int) : Int :=
  let q := a / b
  let r2 := 2 * (a % b)
  if r2 < b then q else if b < r2 then q + 1 else if q % 2 = 0 then q else q + 1

/-- Round `x / 2^k` to nearest, ties to even. -/
def shrRne (x : Int) (k : Nat) : Int := divRne x ((2 ^ k : Nat) : Int)

/-- Round `x / 2^k` towards minus infinity. -/
def shrFloor (x : Int) (k : Nat) : Int := x / ((2 ^ k : Nat) : Int)

/-- Divide towards zero. -/
def divTrunc (a b : Int) : Int := if a < 0 then -((-a) / b) else a / b

/-- Divide naturals, rounding up. -/
def divCeil (a b : Nat) : Nat := (a + b - 1) / b

/-- Round a rational to nearest, ties to even. -/
def ratRne (q : Rat) : Int := divRne q.num (q.den : Int)

/-- Round the square root of `n` down. -/
def isqrt (n : Nat) : Nat := Nat.sqrt n

/-- Round the square root of `n` to nearest. -/
def isqrtNear (n : Nat) : Nat := let r := Nat.sqrt n; if r * r + r < n then r + 1 else r

/-- The square root of a rational `num / den`, to nearest, a tie to even. -/
def sqrtNear (num den : Nat) : Nat :=
  if den = 0 then 0 else
  let r := Nat.sqrt (4 * num / den)
  if r * r * den = 4 * num ∧ r % 4 = 1 then r / 2 else (r + 1) / 2

/-- Bits `[lo + w - 1 : lo]` of `x`. -/
def bits (x lo w : Nat) : Nat := x / 2 ^ lo % 2 ^ w

/-- `x` with bit `k` set to `b`. -/
def setBit (x k : Nat) (b : Bool) : Nat :=
  if x.testBit k = b then x else if b then x + 2 ^ k else x - 2 ^ k

/-- `v` placed at bit `lo`, `w` bits wide. -/
def fld (v lo w : Nat) : Nat := v % 2 ^ w * 2 ^ lo

/-- `n` bytes of `v`, least significant first (R10). -/
def le : Nat → Nat → List Nat
  | 0, _ => []
  | n + 1, v => v % 256 :: le n (v / 256)

/-- `n` bytes of a signed value, least significant first. -/
def leS (n : Nat) (x : Int) : List Nat := le n (patternOf (8 * n) x)

/-- The number whose bytes are `bs`, least significant first. -/
def ofLe : List Nat → Nat
  | [] => 0
  | b :: r => b % 256 + 256 * ofLe r

/-- `n` bytes of `bs` from offset `off` as a number. -/
def getLe (bs : List Nat) (off n : Nat) : Nat := ofLe ((bs.drop off).take n)

/-- The 32-bit words of a byte list, least significant byte first. -/
def wordsOf : Nat → List Nat → List Nat
  | 0, _ => []
  | n + 1, bs => getLe bs 0 4 :: wordsOf n (bs.drop 4)

/-- Saturation of a Q2.22 value: 24 bits, signed (R11). -/
def satQ22 (x : Int) : Int := satS 24 x

/-- Saturation of a Q2.30 value: 32 bits, signed (R11). -/
def satQ30 (x : Int) : Int := satS 32 x

/-- One in Q2.22. -/
def one22 : Int := 4194304

/-- Sum of a list of integers. -/
def sumI (l : List Int) : Int := l.foldl (· + ·) 0

/-- Sum of a list of naturals. -/
def sumN (l : List Nat) : Nat := l.foldl (· + ·) 0

/-- Smallest of a list, `d` where it is empty. -/
def minN (d : Nat) : List Nat → Nat
  | [] => d
  | x :: r => r.foldl Nat.min x

/-- Largest of a list, 0 where it is empty. -/
def maxN (l : List Nat) : Nat := l.foldl Nat.max 0

/-- Apply `f` for 0, 1, …, `n - 1` in order. -/
def iter {α : Type} (n : Nat) (f : Nat → α → α) (a : α) : α := (List.range n).foldl (fun x k => f k x) a

end Sys2Proof.Machine
end

