-- ==== Sys2Proof/Machine/Params.lean ====
section
/-! DEFINITION. The row-form staging commands' parameter rows: ranges and defaults in the word encoding of R425,
from R427 and the owning chapters' parameter tables. Range ends that the encoding cannot hold exactly are rounded to
nearest (log 4). -/

namespace Sys2Proof.Machine
open Sys2Proof

/-- What one word of a row may hold, its default last. -/
inductive WordSpec where
  /-- unsigned, from lo to hi -/
  | u (lo hi d : Nat)
  /-- two's complement, from lo to hi -/
  | s (lo hi d : Int)
  /-- one of a list -/
  | one (l : List Nat) (d : Nat)
  /-- lo to hi, or 0xFF for an absent choice -/
  | opt (lo hi d : Nat)
  /-- lo to hi in steps of n -/
  | step (lo hi n d : Nat)
  /-- 0, or lo to hi in steps of n -/
  | zeroOr (lo hi n d : Nat)
deriving DecidableEq, Repr

/-- Does word `w` lie in the range? -/
def WordSpec.ok (sp : WordSpec) (w : Nat) : Bool :=
  match sp with
  | .u lo hi _ => decide (lo ≤ w) && decide (w ≤ hi)
  | .s lo hi _ => decide (lo ≤ signedOf 32 w) && decide (signedOf 32 w ≤ hi)
  | .one l _ => l.contains w
  | .opt lo hi _ => (decide (lo ≤ w) && decide (w ≤ hi)) || w == 255
  | .step lo hi n _ => decide (lo ≤ w) && decide (w ≤ hi) && (w - lo) % n == 0
  | .zeroOr lo hi n _ => w == 0 || (decide (lo ≤ w) && decide (w ≤ hi) && (w - lo) % n == 0)

/-- The default word. -/
def WordSpec.dflt : WordSpec → Nat
  | .u _ _ d => d
  | .s _ _ d => patternOf 32 d
  | .one _ d => d
  | .opt _ _ d => d
  | .step _ _ _ d => d
  | .zeroOr _ _ _ d => d

/-- What a staging command's target names (R424, R426). -/
inductive TargetKind where
  | plant
  | bay
  | index (n : Nat)
deriving DecidableEq, Repr

/-- A row-form staging command. -/
structure StagedSpec where
  target : TargetKind
  rows : List (List WordSpec)
deriving DecidableEq, Repr

/-- The rows of NET_CONFIG (R427). -/
def netConfigRows : List (List WordSpec) :=
  [[.u 0 4294967295 0],
   [.u 8 30 24],
   [.u 0 4294967295 0],
   [.u 0 4094 0, .u 0 7 0]]

/-- The rows of START_CONFIG (R338). -/
def startConfigRows : List (List WordSpec) :=
  [[.u 0 2 0],
   [.u 10 500 50],
   [.s 20972 419430 83886],
   [.s 128 5120 768],
   [.u 80 8000 800],
   [.u 50 6000 600],
   [.u 20000 200000 80000],
   [.u 5000 600000 30000],
   [.u 10000 600000 60000]]

/-- The rows of FOOTING_CONFIG (R427). -/
def footingConfigRows : List (List WordSpec) :=
  [List.replicate 22 (.one [83886, 104858, 125829, 146801, 167772, 188744, 209715, 230687, 251658, 272630, 293601, 314573, 335544] 167772),
   List.replicate 22 (.one [167772, 188744, 209715, 230687, 251658, 272630, 293601, 314573, 335544, 356516, 377487, 398459, 419430, 440402, 461373, 482345, 503316, 524288, 545260, 566231, 587203, 608174, 629146] 335544),
   List.replicate 14 (.u 0 3 2),
   [.u 100 10000 1000],
   [.u 500 3000 2000],
   [.u 13500 15500 15000, .u 12000 14500 13500],
   [.u 10 10000 750]]

/-- The rows of TICK_SOURCE_SET (R54, R427). -/
def tickSourceRows : List (List WordSpec) :=
  [[.opt 0 2 0, .opt 0 2 255, .opt 0 2 255],
   [.u 0 7 0],
   List.replicate 3 (.s (-26214400) 26214400 0),
   [.u 1 255 10],
   [.u 1 64 8],
   [.one [10486, 20972, 31457, 41943, 52429, 62915, 73400, 83886] 41943],
   [.one [50000, 60000] 50000],
   List.replicate 2 (.u 2000 20000 5000),
   [.u 1 1000 150]]

/-- The rows of PLANT_TIME_CONFIG (R427). -/
def plantTimeRows : List (List WordSpec) :=
  [[.u 0 3 0],
   [.u 0 1 0, .u 0 255 0],
   [.u 100 1000000 1000],
   [.u 1 10000 100]]

/-- The rows of STREAM_ROUTE (R427). -/
def streamRouteRows : List (List WordSpec) :=
  [[.u 0 4 0],
   [.u 0 7 0],
   [.u 0 31 0],
   [.u 0 8000 160]]

/-- The rows of STREAM_PORT_CONFIG (R427). -/
def streamPortRows : List (List WordSpec) :=
  [[.u 0 1 0],
   [.one [2, 4, 8] 8, .u 8000000 96000000 48000000],
   [.one [16, 32, 64] 32],
   [.u 0 1 0, .one [2, 4, 8] 8, .u 1 2 1],
   List.replicate 32 (.one [0, 256, 257, 258, 259, 260, 261, 262, 263, 264, 265, 266, 267, 268, 269, 270, 271, 512, 513, 514, 515, 516, 517, 518, 519] 0)]

/-- The rows of SV_SUBSCRIBE (R96, R427). -/
def svSubscribeRows : List (List WordSpec) :=
  [[.u 0 4294967295 0, .u 0 65535 0, .u 0 65535 0],
   List.replicate 9 (.u 0 4294967295 0),
   [.u 0 4294967295 0],
   [.opt 0 1 255],
   [.one [80, 256] 80, .one [50000, 60000] 50000],
   List.replicate 8 (.u 1 2147483647 2147483647),
   [.u 250000 5000000 1000000],
   [.u 0 1 0],
   [.u 0 1 0]]

/-- The rows of STREAM_DMA_CONFIG (R427). -/
def streamDmaRows : List (List WordSpec) :=
  [[.u 0 1 0],
   [.u 1 8 1, .u 1 16 1],
   [.step 0 4294967232 64 0, .u 0 4294967295 0, .u 2 12 2],
   [.step 0 4294967232 64 0, .u 0 4294967295 0, .u 2 12 2],
   [.step 0 4294967232 64 0, .u 0 4294967295 0],
   [.u 1 800 8]]

/-- The rows of SETPOINT_INPUT_CONFIG (R427). -/
def setpointRows : List (List WordSpec) :=
  [[.u 0 1 0],
   [.s (-8388608) 8388607 0, .s (-8388608) 8388607 4194304],
   [.u 0 20000000 1000000, .u 0 20000000 10000000],
   [.u 0 13 10]]

/-- The rows of GRID_SENSE_CONFIG (R427). -/
def gridSenseRows : List (List WordSpec) :=
  [[.u 0 1 0],
   [.u 1 10000000 1000],
   [.u 1000 100000000 1000000],
   [.s (-2147483648) 2147483647 1073741824],
   [.s (-8388608) 8388607 0],
   [.s (-65536) 65536 0]]

/-- The rows of XP_DEST_CONFIG (R427). -/
def xpDestRows : List (List WordSpec) :=
  [[.u 0 1 0],
   [.u 29491 32768 32768],
   [.u 4 20 16]]

/-- The rows of XP_PROBE_SET (R124). -/
def xpProbeRows : List (List WordSpec) :=
  [[.u 0 2 0],
   [.s 0 1048576 0],
   [.u 1 2147483647 16777216],
   [.u 0 65535 0],
   [.u 0 2 1],
   [.u 1 64 1],
   [.u 0 65535 0],
   [.u 0 8000 160]]

/-- The rows of XP_DAMP_SET (R427). -/
def xpDampRows : List (List WordSpec) :=
  [[.u 0 1 0],
   [.u 0 431 0],
   [.u 0 4294967295 1073741824] ++ List.replicate 4 (.u 0 4294967295 0) ++ [.u 0 4294967295 1073741824] ++ List.replicate 4 (.u 0 4294967295 0),
   [.s (-8388608) 8388607 0],
   [.s 0 2097152 419430]]

/-- The rows of XP_IDLE_CONFIG (R137). -/
def xpIdleRows : List (List WordSpec) :=
  [[.u 0 1 0],
   [.s 0 209715 8389],
   [.s 0 209715 4194],
   [.u 1 65535 300]]

/-- The rows of CE_BAY_CONFIG (R427, R541). -/
def ceBayRows : List (List WordSpec) :=
  [[.u 0 2 0],
   [.u 0 2 0],
   [.s 0 8384414 4194304],
   [.u 0 1 0, .s 3774874 4613734 4194304, .s 41943 419430 167772],
   [.u 0 500 17],
   [.s 0 699051 524288],
   [.s 0 4194304 4194304],
   [.u 0 4294967295 0, .u 0 4294967295 0, .s (-8388608) 8388607 0],
   [.u 0 4294967295 0, .s (-8388608) 8388607 0],
   [.s 0 8384414 4194304],
   [.s 2000 4500 3620, .s 1500 4000 2530, .s (-5120) 16000 7040, .s 0 32000 16640, .s 2097152 6291456 4613734, .s 4194 838861 83886, .s 0 2097152 83886],
   [.s 10 1000 100, .s 10 1000 100, .s 128 6400 1280, .s 128 6400 1280, .s 41943 2097152 209715, .s 4194 838861 83886, .s 41943 2097152 209715],
   [.s 20972 1048576 209715],
   [.s 41943 2097152 335544, .u 0 6 2]]

/-- The rows of CE_PLANT_CONFIG (R427, R155). -/
def cePlantRows : List (List WordSpec) :=
  [List.replicate 2 (.one [0, 1, 256, 257, 258, 259, 260, 261, 262, 263, 264, 265, 266, 267, 268, 269, 270, 271, 272, 273, 274, 275, 276, 277, 278, 279, 280, 281, 282, 283, 284, 285, 286, 287, 288, 289, 290, 291, 292, 293, 294, 295] 0),
   [.u 1 8384414 41943, .u 1 8384414 4194],
   [.u 100 20000 2000],
   [.s 41943 419430 167772],
   [.s 0 419430400 0],
   [.s 3774874 4613734 4194304],
   [.s 0 419430 125829],
   [.u 1 64 2],
   [.u 0 16 11]]

/-- The rows of MD_BAY_CONFIG (R216). -/
def mdBayRows : List (List WordSpec) :=
  [[.u 1 255 4],
   [.u 2 255 12],
   [.u 0 32 4],
   [.u 0 16384 512],
   [.u 0 65535 32768, .u 0 65535 8192, .u 0 65535 4096, .u 0 65535 2048],
   [.s 0 7680 4480, .s 128 6400 2560],
   [.s 0 419430 83886],
   [.u 0 262144 26214],
   [.step 50 500 5 100],
   [.step 50 1000 5 200],
   [.u 1 800 16],
   [.u 0 1 1]]

/-- The rows of BAY_PROFILE_SET (R427). -/
def bayProfileRows : List (List WordSpec) :=
  [List.replicate 12 (.u 0 4294967295 0),
   List.replicate 3 (.u 0 255 0),
   [.u 1000000 40000000 34500000],
   [.s 4194304 5242880 4613734, .u 2500 3200 2800],
   [.u 10000 400000 157000],
   [.u 0 1 0],
   [.u 0 2 0],
   [.u 0 4294967295 4194304, .s (-46080) 46080 0]]

/-- The rows of TRIP_CONFIG (R208). -/
def tripRows : List (List WordSpec) :=
  [[.u 0 1 1],
   [.u 0 1 0],
   [.step 500 50000 500 2000]]

/-- The rows of UNIT_PROFILE_SET (R242). -/
def unitProfileRows : List (List WordSpec) :=
  [[.u 100 200000 31400],
   [.u 0 65535 32768, .u 0 65535 47841],
   [.u 0 65535 30147, .u 0 65535 49152],
   [.s (-5120) 16000 8960, .s (-5120) 16000 8320],
   List.replicate 130 (.u 0 65535 0),
   [.u 1 4095 41],
   [.s 0 4194304 1258291],
   [.u 1 800 400],
   List.replicate 2 (.u 4 12 8),
   [.u 655 16384 5243],
   [.u 1 65535 36000],
   [.u 1 65535 256, .u 1 65535 18000],
   [.u 1 255 8],
   List.replicate 2 (.u 655 16384 3277),
   [.s (-2147483648) 2147483647 (-2560), .u 0 128 0, .s (-2147483648) 2147483647 0, .u 0 128 0, .s (-2147483648) 2147483647 1280, .u 0 128 64, .s (-2147483648) 2147483647 1920, .u 0 128 128, .s (-2147483648) 2147483647 5760, .u 0 128 128, .s (-2147483648) 2147483647 6400, .u 0 128 64, .s (-2147483648) 2147483647 7040, .u 0 128 0, .s (-2147483648) 2147483647 7680, .u 0 128 0, .s (-2147483648) 2147483647 (-3840), .u 0 128 0, .s (-2147483648) 2147483647 (-2560), .u 0 128 32, .s (-2147483648) 2147483647 0, .u 0 128 96, .s (-2147483648) 2147483647 1280, .u 0 128 128, .s (-2147483648) 2147483647 6400, .u 0 128 128, .s (-2147483648) 2147483647 7040, .u 0 128 64, .s (-2147483648) 2147483647 7680, .u 0 128 16, .s (-2147483648) 2147483647 8320, .u 0 128 0],
   List.replicate 2 (.u 0 65535 0),
   List.replicate 2 (.zeroOr 100 600000 100 0),
   [.one [5242880, 6291456, 7340032, 8388608, 9437184, 10485760, 11534336, 12582912, 13631488, 14680064, 15728640, 16777216] 8388608],
   [.u 16 65535 800],
   List.replicate 2 (.u 0 4294967295 0)]

/-- The rows of Z_CONFIG (R265). DESIGN CHOICE (log 116): each excitation parameter names two bins with one range and one default, and is one word that both share. -/
def zConfigRows : List (List WordSpec) :=
  [[.u 0 1 1],
   [.one [16, 32, 64, 128] 32],
   [.u 4 9 7],
   [.u 10 100000 500],
   [.u 10 100000 100],
   [.u 0 4 2],
   [.s (-2560) 0 (-640), .s 0 6400 3200],
   [.one [20972, 41943, 62915, 83886, 104858, 125829, 146801, 167772, 188744, 209715] 83886],
   [.u 100 100000 2000]]

/-- The rows of Z_TEMP_TABLE_SET (R253). -/
def zTempRows : List (List WordSpec) :=
  [[.u 2 3 2],
   [.one [50000, 60000] 50000],
   List.replicate 17 (.s (-2147483648) 2147483647 0),
   List.replicate 17 (.s (-2147483648) 2147483647 0),
   [.s (-2147483648) 2147483647 0]]

/-- The rows of LOAD_MODEL_CONFIG (R266). -/
def loadModelRows : List (List WordSpec) :=
  [[.zeroOr 100000 500000000 1 0],
   List.replicate 2 (.u 0 10000000 0),
   [.u 0 1 0],
   [.s 0 19200 1920, .s 0 19200 8320],
   [.u 10000 20000000 300000, .u 10000 20000000 2400000],
   [.u 0 1 1],
   [.s 0 15360 6656, .s 0 15360 3328],
   [.s 419430 83886080 25165824, .s 2097152 5033165 3355443, .s 4194304 9227469 5452595],
   [.s 419430 20971520 2097152, .s 419430 20971520 8388608, .s 419430 20971520 8388608],
   [.u 600000 36000000 12600000, .u 60000 3600000 600000],
   [.s 7680 20480 14080, .s 7680 20480 12160],
   [.u 1000 600000 20000],
   [.s (-6400) 7680 5120, .u 10000 3600000 600000],
   [.u 600 65535 3000],
   [.s 209715 2097152 838861],
   [.s 41943 2097152 419430, .s 41943 2097152 209715]]

/-- The rows of LINK_CONFIG (R298). -/
def linkRows : List (List WordSpec) :=
  [[.u 1 16 16],
   [.u 1 255 4],
   [.u 10000 3600000 600000],
   [.u 50 1000 250],
   [.u 0 16 4]]

/-- The rows of LEDGER_CONFIG (R427). -/
def ledgerRows : List (List WordSpec) :=
  [[.u 1000 600000 10000],
   [.u 0 255 255]]

/-- The rows of SLOT_LIMITS_SET (R427). -/
def slotLimitsRows : List (List WordSpec) :=
  [[.u 100 50000 4000],
   [.u 1 256 64],
   [.u 100 60000 1000]]

/-- The rows of THERMAL_CONFIG (R385). -/
def thermalRows : List (List WordSpec) :=
  [[.step 8960 14080 64 12800],
   [.u 10240 14720 13824],
   [.u 13440 16000 15104],
   [.u 256 1280 640],
   [.u 1000 64000 8000],
   [.step 0 60000 100 2000]]

/-- The row-form staging command of an opcode (R426). -/
def stagedSpec (op : Nat) : Option StagedSpec :=
  match op with
  | 0x0102 => some ⟨.index 2, netConfigRows⟩
  | 0x0103 => some ⟨.plant, startConfigRows⟩
  | 0x0201 => some ⟨.plant, footingConfigRows⟩
  | 0x0301 => some ⟨.plant, tickSourceRows⟩
  | 0x0302 => some ⟨.plant, plantTimeRows⟩
  | 0x0401 => some ⟨.index 40, streamRouteRows⟩
  | 0x0404 => some ⟨.index 2, streamPortRows⟩
  | 0x0405 => some ⟨.index 8, svSubscribeRows⟩
  | 0x0406 => some ⟨.plant, streamDmaRows⟩
  | 0x0407 => some ⟨.plant, setpointRows⟩
  | 0x0408 => some ⟨.index 8, gridSenseRows⟩
  | 0x0503 => some ⟨.bay, xpDestRows⟩
  | 0x0504 => some ⟨.index 8, xpProbeRows⟩
  | 0x0505 => some ⟨.index 4, xpDampRows⟩
  | 0x0506 => some ⟨.bay, xpIdleRows⟩
  | 0x0601 => some ⟨.bay, ceBayRows⟩
  | 0x0603 => some ⟨.plant, cePlantRows⟩
  | 0x0701 => some ⟨.bay, mdBayRows⟩
  | 0x0702 => some ⟨.bay, bayProfileRows⟩
  | 0x0703 => some ⟨.index 12, tripRows⟩
  | 0x0801 => some ⟨.bay, unitProfileRows⟩
  | 0x0901 => some ⟨.plant, zConfigRows⟩
  | 0x0902 => some ⟨.bay, zTempRows⟩
  | 0x0907 => some ⟨.bay, loadModelRows⟩
  | 0x0A01 => some ⟨.plant, linkRows⟩
  | 0x0C01 => some ⟨.plant, ledgerRows⟩
  | 0x0E06 => some ⟨.index 8, slotLimitsRows⟩
  | 0x0F01 => some ⟨.index 2, thermalRows⟩
  | _ => none

/-- The default words of a row (R427; the enable of a GPIO trip input is off by default, R208). -/
def rowDefault (op tgt row : Nat) : List Nat :=
  if op = 0x0703 ∧ row = 0 ∧ 8 ≤ tgt then [0] else
  match stagedSpec op with
  | some sp => (sp.rows.getD row []).map WordSpec.dflt
  | none => []

/-- The total word count of a row-form command. -/
def stagedWords (sp : StagedSpec) : Nat := sumN (sp.rows.map List.length)

end Sys2Proof.Machine
end

