-- ==== Sys2Proof/Machine/Sha256.lean ====
section
/-! DEFINITION. SHA-256 and HMAC-SHA-256, which R8 and R395 name by their standards (FIPS 180-4, RFC 2104).
PRESUMED: the functions are taken from those standards, which the spec cites and does not restate. -/

namespace Sys2Proof.Machine
open Sys2Proof

/-- The 64 round constants. -/
def shaK : List Nat :=
  [0x428a2f98, 0x71374491, 0xb5c0fbcf, 0xe9b5dba5, 0x3956c25b, 0x59f111f1, 0x923f82a4, 0xab1c5ed5] ++
  [0xd807aa98, 0x12835b01, 0x243185be, 0x550c7dc3, 0x72be5d74, 0x80deb1fe, 0x9bdc06a7, 0xc19bf174] ++
  [0xe49b69c1, 0xefbe4786, 0x0fc19dc6, 0x240ca1cc, 0x2de92c6f, 0x4a7484aa, 0x5cb0a9dc, 0x76f988da] ++
  [0x983e5152, 0xa831c66d, 0xb00327c8, 0xbf597fc7, 0xc6e00bf3, 0xd5a79147, 0x06ca6351, 0x14292967] ++
  [0x27b70a85, 0x2e1b2138, 0x4d2c6dfc, 0x53380d13, 0x650a7354, 0x766a0abb, 0x81c2c92e, 0x92722c85] ++
  [0xa2bfe8a1, 0xa81a664b, 0xc24b8b70, 0xc76c51a3, 0xd192e819, 0xd6990624, 0xf40e3585, 0x106aa070] ++
  [0x19a4c116, 0x1e376c08, 0x2748774c, 0x34b0bcb5, 0x391c0cb3, 0x4ed8aa4a, 0x5b9cca4f, 0x682e6ff3] ++
  [0x748f82ee, 0x78a5636f, 0x84c87814, 0x8cc70208, 0x90befffa, 0xa4506ceb, 0xbef9a3f7, 0xc67178f2]

/-- The initial hash value. -/
def shaH0 : List Nat :=
  [0x6a09e667, 0xbb67ae85, 0x3c6ef372, 0xa54ff53a, 0x510e527f, 0x9b05688c, 0x1f83d9ab, 0x5be0cd19]

/-- Rotate a 32-bit number right by `n` (1 to 31). -/
def rotr (n x : Nat) : Nat := x / 2 ^ n + x % 2 ^ n * 2 ^ (32 - n)

/-- The message schedule, newest word first: `n` more words after those in `w`. -/
def shaSched : Nat → List Nat → List Nat
  | 0, w => w
  | n + 1, w =>
    let w2 := w.getD 1 0
    let w7 := w.getD 6 0
    let w15 := w.getD 14 0
    let w16 := w.getD 15 0
    let s0 := rotr 7 w15 ^^^ rotr 18 w15 ^^^ (w15 / 8)
    let s1 := rotr 17 w2 ^^^ rotr 19 w2 ^^^ (w2 / 1024)
    shaSched n ((w16 + s0 + w7 + s1) % pow32 :: w)

/-- The eight working variables of a round. -/
structure ShaVars where
  a : Nat
  b : Nat
  c : Nat
  d : Nat
  e : Nat
  f : Nat
  g : Nat
  h : Nat
deriving DecidableEq, Repr

/-- One round with constant plus word `kw`. -/
def shaRound (v : ShaVars) (kw : Nat) : ShaVars :=
  let s1 := rotr 6 v.e ^^^ rotr 11 v.e ^^^ rotr 25 v.e
  let ch := (v.e &&& v.f) ^^^ ((pow32 - 1 - v.e) &&& v.g)
  let t1 := v.h + s1 + ch + kw
  let s0 := rotr 2 v.a ^^^ rotr 13 v.a ^^^ rotr 22 v.a
  let mj := (v.a &&& v.b) ^^^ (v.a &&& v.c) ^^^ (v.b &&& v.c)
  ⟨(t1 + s0 + mj) % pow32, v.a, v.b, v.c, (v.d + t1) % pow32, v.e, v.f, v.g⟩

/-- The big-endian number of a byte list. -/
def ofBe (bs : List Nat) : Nat := bs.foldl (fun a b => a * 256 + b % 256) 0

/-- `n` bytes of `v`, most significant first. -/
def be (n v : Nat) : List Nat := (le n v).reverse

/-- Compress one 64-byte block into the hash value. -/
def shaBlock (hs : List Nat) (blk : List Nat) : List Nat :=
  let w0 := ((List.range 16).map (fun i => ofBe ((blk.drop (4 * i)).take 4))).reverse
  let w := (shaSched 48 w0).reverse
  let v0 : ShaVars := ⟨hs.getD 0 0, hs.getD 1 0, hs.getD 2 0, hs.getD 3 0, hs.getD 4 0, hs.getD 5 0, hs.getD 6 0, hs.getD 7 0⟩
  let v := (List.zipWith (· + ·) shaK w).foldl shaRound v0
  List.zipWith (fun x y => (x + y) % pow32) hs [v.a, v.b, v.c, v.d, v.e, v.f, v.g, v.h]

/-- Hash `n` blocks of a padded message. -/
def shaBlocks : Nat → List Nat → List Nat → List Nat
  | 0, hs, _ => hs
  | n + 1, hs, m => shaBlocks n (shaBlock hs (m.take 64)) (m.drop 64)

/-- SHA-256 of a byte list: 32 bytes. -/
def sha256 (m : List Nat) : List Nat :=
  let z := (119 - m.length % 64) % 64
  let p := m ++ [0x80] ++ List.replicate z 0 ++ be 8 (8 * m.length)
  ((shaBlocks (p.length / 64) shaH0 p).map (be 4)).flatten

/-- HMAC-SHA-256 under key `k` (at most 64 bytes) over `m`: 32 bytes. -/
def hmac (k m : List Nat) : List Nat :=
  let k0 := k ++ List.replicate (64 - k.length) 0
  sha256 (k0.map (fun b => b ^^^ 0x5c) ++ sha256 (k0.map (fun b => b ^^^ 0x36) ++ m))

end Sys2Proof.Machine
end

