-- ==== Sys2Proof/Machine/State.lean ====
section
/-! DEFINITION. The state of the block: every register, FIFO, buffer, counter, mode and pin the spec gives it, as plain data. Each field's docstring gives its width, the file and rule that name it, and its reset value. -/

namespace Sys2Proof.Machine

/-! ### Timebase (02, 19) -/

/-- A tick source (R54). -/
inductive Src where
  | grid | formed | sv | free
deriving DecidableEq, Repr

/-- The qualification of one tick source (R55). -/
structure SrcQual where
  /-- 18 bits; 02 R55 (ticks of continuous qualification); reset DESIGN CHOICE 0 (log 2) -/
  ticks : Nat := 0
  /-- 1 bit; 02 R55, R62 `eligible`; reset 0 -/
  eligible : Bool := false
deriving DecidableEq, Repr

/-- The state a PLL instance shows outside itself, and the counts its lock rules use (R63, R64). -/
structure Pll where
  /-- 1 bit; 02 R62 `pll_locked`; reset 0 -/
  locked : Bool := false
  /-- 1 bit; 02 R62 `pll_frozen`; reset 0 -/
  frozen : Bool := false
  /-- rational ticks; 02 R59 (the angle at the latest boundary, before the offset); reset DESIGN CHOICE 0 (log 2) -/
  angle : Rat := 0
  /-- rational Hz; 02 R59 (the frequency estimate); reset DESIGN CHOICE 0 (log 2) -/
  freq : Rat := 0
  /-- rational Hz; 02 R64 (the frequency held at freeze entry); reset DESIGN CHOICE 0 (log 2) -/
  heldFreq : Rat := 0
  /-- 1 bit; 02 R64 (a freeze has ended and the next tick resumes from the frozen angle); reset 0 -/
  resume : Bool := false
  /-- rational ticks; 02 R64 (what the loop has still to take out of the offset between the frozen angle and the observed one); reset DESIGN CHOICE 0 (log 2) -/
  pull : Rat := 0
  /-- 5 bits; 02 R63 (consecutive ticks above 10°); reset DESIGN CHOICE 0 (log 2) -/
  errTicks : Nat := 0
  /-- number; 02 R63 (sum of squared phase errors of the cycle, 1/256° squared); reset DESIGN CHOICE 0 (log 2) -/
  sumSq : Nat := 0
  /-- 10 bits; 02 R63 (ticks summed in `sumSq`); reset DESIGN CHOICE 0 (log 2) -/
  sumTicks : Nat := 0
  /-- 3 bits; 02 R63 (consecutive cycles of low phase error); reset DESIGN CHOICE 0 (log 2) -/
  goodCycles : Nat := 0
  /-- 10 bits; 02 R63 (consecutive ticks with frequency outside 45 to 65 Hz); reset DESIGN CHOICE 0 (log 2) -/
  rangeTicks : Nat := 0
  /-- 12 bits; 02 R63 (consecutive ticks above 5 Hz/s); reset DESIGN CHOICE 0 (log 2) -/
  rateTicks : Nat := 0
  /-- 20 bits; 02 R63 (ticks frozen); reset DESIGN CHOICE 0 (log 2) -/
  frozenTicks : Nat := 0
  /-- 10 bits; 02 R63 (consecutive ticks at or above 0.5 pu); reset DESIGN CHOICE 0 (log 2) -/
  recoverTicks : Nat := 0
  /-- 1 bit; 02 R63 (the latest tick's positive-sequence voltage is below 0.5 pu); reset DESIGN CHOICE 0 (log 2) -/
  low : Bool := false
deriving DecidableEq, Repr

/-- The states of plant time (R67). -/
inductive PtPhase where
  | unset | acquiring | locked | holdover
deriving DecidableEq, Repr

/-- Plant time (R65 to R72). -/
structure PlantTime where
  /-- 64-bit ns, kept with its fraction in attoseconds; 02 R14, R67; reset 0 -/
  atto : Nat := 0
  /-- 2 bits; 02 R70 `pt_state`; reset 0b00 -/
  phase : PtPhase := .unset
  /-- 1 bit; 02 R70 `pt_disc` (true: PPS); reset 0 -/
  discPps : Bool := false
  /-- 1 bit; 02 R65 (PTP was lost at a moment at which PPS was not LOCKED: PPS does not take over); reset 0 -/
  ptpGone : Bool := false
  /-- 1 bit; 02 R67 (a discipline source is in use); reset DESIGN CHOICE 0 (log 2) -/
  inUse : Bool := false
  /-- 1 bit; 02 R67 (LOCKED has been reached); reset 0 -/
  wasLocked : Bool := false
  /-- 1 bit; 02 R70 `stepped`; reset 0 -/
  stepped : Bool := false
  /-- 1 bit; 02 R70 `refclk_fault`; reset 0 -/
  refclkFault : Bool := false
  /-- 24 bits ns; 02 R70 `est_error`; reset 0xFF_FFFF -/
  est : Nat := 0xFFFFFF
  /-- signed attoseconds, still to be slewed; 02 R68; reset DESIGN CHOICE 0 (log 2) -/
  slewLeft : Int := 0
  /-- 1 bit; 02 R68 (the slew is a backward one above 1 ms); reset DESIGN CHOICE 0 (log 2) -/
  slewBack : Bool := false
  /-- optional 64-bit ns; 15 R432 (an armed set); reset none -/
  armed : Option Nat := none
  /-- ps since the set was armed; 15 R432; reset DESIGN CHOICE 0 (log 2) -/
  armedAge : Nat := 0
  /-- ps since the latest PPS edge; 02 R66; reset DESIGN CHOICE 0 (log 2) -/
  ppsAge : Nat := 0
  /-- 1 bit; 02 R66 (PPS edges arrive); reset DESIGN CHOICE 0 (log 2) -/
  ppsPresent : Bool := false
  /-- 4 bits; 02 R66 (consecutive outliers); reset DESIGN CHOICE 0 (log 2) -/
  outliers : Nat := 0
  /-- 32 bits; 02 R66 (outliers counted); reset DESIGN CHOICE 0 (log 2) -/
  outlierCount : Nat := 0
  /-- 1 bit; 02 R66 (the next edge is accepted); reset DESIGN CHOICE 0 (log 2) -/
  reacquire : Bool := false
  /-- ps; 02 R65, R67 (PPS held its threshold this long while PTP was in use); reset DESIGN CHOICE 0 (log 2) -/
  ppsGood : Nat := 0
  /-- 1 bit; 02 R65, R67 (the latest PPS edge lay within the threshold); reset DESIGN CHOICE 0 (log 2) -/
  ppsWithin : Bool := false
  /-- ps since the latest Announce; 02 R66; reset DESIGN CHOICE 0 (log 2) -/
  annAge : Nat := 0
  /-- ps since the latest Sync; 02 R66; reset DESIGN CHOICE 0 (log 2) -/
  syncAge : Nat := 0
  /-- ns; 02 R66 (announce interval of the selected grandmaster); reset DESIGN CHOICE 0 (log 2) -/
  annInterval : Nat := 0
  /-- ns; 02 R66 (sync interval); reset DESIGN CHOICE 0 (log 2) -/
  syncInterval : Nat := 0
  /-- optional 64-bit clock identity and its data-set rank; 02 R65; reset none -/
  grandmaster : Option (Nat × Nat) := none
  /-- ns; 02 R65 (peer delay); reset DESIGN CHOICE 0 (log 2) -/
  peerDelay : Nat := 0
  /-- ps the error has stayed within the threshold; 02 R67; reset DESIGN CHOICE 0 (log 2) -/
  goodPs : Nat := 0
  /-- ns; 02 R69 *e*₀; reset DESIGN CHOICE 0 (log 2) -/
  holdE0 : Nat := 0
  /-- 10⁻¹² fractions; 02 R69 *y*; reset DESIGN CHOICE 0 (log 2) -/
  holdY : Nat := 0
  /-- ps of holdover; 02 R69 *t*; reset DESIGN CHOICE 0 (log 2) -/
  holdT : Nat := 0
  /-- 10⁻¹² fractions; 02 R69 (the servo's frequency uncertainty now); reset DESIGN CHOICE 0 (log 2) -/
  servoY : Nat := 0
  /-- rational; 02 R61, R72 (the servo's estimate of REFCLK's frequency error); reset DESIGN CHOICE 0 (log 2) -/
  refErr : Rat := 0
  /-- ps the estimate has been above 500 ppm; 02 R72; reset DESIGN CHOICE 0 (log 2) -/
  refBad : Nat := 0
  /-- 1 bit; 02 R72 (the 1.6 GHz PLL runs on the internal oscillator); reset 0 -/
  onOscillator : Bool := false
  /-- 1 bit; 02 R71 (level of PPS_OUT); reset DESIGN CHOICE 0 (log 2) -/
  ppsOut : Bool := false
  /-- ns of plant time at which PPS_OUT rose; 02 R71; reset DESIGN CHOICE 0 (log 2) -/
  ppsOutAt : Nat := 0
deriving DecidableEq, Repr

/-- One cycle record (R74). -/
structure CycleRec where
  /-- 48 bits; 02 R74; reset: no record kept -/
  cycle : Nat
  /-- 64 bits; 02 R74 (stamp of tick 0); reset: no record kept -/
  stamp : Nat
  /-- 2 bits; 02 R74 (target source); reset: no record kept -/
  target : Src
  /-- 1 bit; 02 R74; reset: no record kept -/
  slewing : Bool
  /-- 2 bits; 02 R74; reset: no record kept -/
  phase : PtPhase
  /-- 1 bit; 02 R74; reset: no record kept -/
  degraded : Bool
  /-- 24 bits; 02 R74; reset: no record kept -/
  est : Nat
deriving DecidableEq, Repr

/-- A deadline event that the next tick may merge into (R81). -/
structure MissRec where
  /-- 58 bits; 02 R81 (latest tick merged); reset: no event -/
  tick : Nat
  /-- 8 bits; 02 R81 (stages); reset: no event -/
  stages : Nat
  /-- 14 bits; 02 R81 (tiles 0 to 11, keystones 12 and 13); reset: no event -/
  units : Nat
  /-- 58 bits; 14 R414 `abs_tick` (first occurrence); reset: no event -/
  first : Nat
  /-- 64 bits ns; 14 R414 `stamp`; reset: no event -/
  stamp : Nat
  /-- 16 bits; 14 R414 `repeat`; reset: no event -/
  rep : Nat
deriving DecidableEq, Repr

/-- The timebase. -/
structure Timebase where
  /-- 48 bits; 02 R49 (phase accumulator); reset DESIGN CHOICE 0 (log 2) -/
  acc : Nat := 0
  /-- 48 bits; 02 R49, 19 R527 TB_INCR; reset 0 -/
  incr : Nat := 0
  /-- 1 bit; 02 R62 `tick_running`; reset 0 -/
  running : Bool := false
  /-- 10 bits, 0 to 799; 02 R51 (tick index); reset 0 -/
  idx : Nat := 0
  /-- 48 bits; 02 R51 (cycle counter); reset 0 -/
  cycle : Nat := 0
  /-- 1 bit, the model's own; 02 R51 (the index has wrapped and CYCLE_BOUNDARY's work is due); reset 0 -/
  bnd : Bool := false
  /-- 32 bits; 02 R49 (periods of 0.625 ns in the latest tick); reset DESIGN CHOICE 0 (log 2) -/
  periods : Nat := 0
  /-- 32 bits; 07 R228 (periods of 0.625 ns in the tick before it); reset DESIGN CHOICE 0 (log 2) -/
  periods1 : Nat := 0
  /-- ps of the present cycle so far; 07 R235; reset DESIGN CHOICE 0 (log 2) -/
  cyclePs : Nat := 0
  /-- ps of the cycle that ended last; 07 R235, 08 R258; reset DESIGN CHOICE 0 (log 2) -/
  cycleLen : Nat := 0
  /-- rational Hz; 02 R49, 19 R527 TB_FREQ (frequency in force, slew offset included); reset 0 -/
  freq : Rat := 0
  /-- 2 bits; 02 R62 `src_target`; reset FREE -/
  target : Src := .free
  /-- 1 bit; 02 R62 `slewing`; reset 0 -/
  slewing : Bool := false
  /-- 8 bits; 02 R62 `slew_left`; reset 0 -/
  slewLeft : Nat := 0
  /-- rational ticks per cycle; 02 R59 *k*; reset DESIGN CHOICE 0 (log 2) -/
  corr : Rat := 0
  /-- 1 bit; 02 R62 `retargeted`; reset 0 -/
  retargeted : Bool := false
  /-- 2 bits; 02 R56 (the selection snapshot's target); reset DESIGN CHOICE FREE (log 2) -/
  snapTarget : Src := .free
  /-- 1 bit; 02 R58 (the frequency is held until the boundary); reset DESIGN CHOICE 0 (log 2) -/
  hold : Bool := false
  /-- source; 02 R55 GRID; reset not qualified -/
  qGrid : SrcQual := {}
  /-- source; 02 R55 FORMED; reset not qualified -/
  qFormed : SrcQual := {}
  /-- source; 02 R55 SV; reset not qualified -/
  qSv : SrcQual := {}
  /-- PLL; 02 R63 (the grid PLL); reset unlocked -/
  pll : Pll := {}
  /-- PLL; 02 R63 (the SV PLL); reset unlocked -/
  svPll : Pll := {}
  /-- list of up to 800 triples of 24-bit values, newest first; 02 R540 (tick means of the sliding DFT); reset empty -/
  vHist : List (Int × Int × Int) := []
  /-- primary mV; 02 R540 *V̄*; reset DESIGN CHOICE 0 (log 2) -/
  vbar : Nat := 0
  /-- list of up to 800 triples; 02 R540 (the SV PLL's tick values); reset empty -/
  svHist : List (Int × Int × Int) := []
  /-- Q2.22 of the stream's full scale; 02 R540 (the SV PLL's *V̄*); reset DESIGN CHOICE 0 (log 2) -/
  svVbar : Nat := 0
  /-- plant time; 02 R65; reset UNSET, 0 -/
  pt : PlantTime := {}
  /-- 64 bits ns; 02 R73, 19 R526 TB_STAMP; reset 0 -/
  stamp : Nat := 0
  /-- 58 bits; 19 R526 TB_TICK; reset 0 -/
  tickReg : Nat := 0
  /-- list of up to 4,096, newest first; 02 R74 (cycle records); reset empty -/
  records : List CycleRec := []
  /-- 32 bits per key stage × 64 + unit; 02 R81 (deadline-miss counters: units 0 to 11 tiles, 12 and 13 keystones); reset 0 -/
  missCount : Tab Nat := []
  /-- 1 bit per counter, key stage × 64 + unit, or 4,096 + stage × 256 + bay; 02 R81 (sticky saturation flags); reset 0 -/
  missSat : Tab Bool := []
  /-- 32 bits per key stage × 256 + bay; 02 R81 (per bay, stages 1 and 6); reset 0 -/
  missBay : Tab Nat := []
  /-- 8 bits by stage and 14 bits by tile or keystone; 02 R81 (what the present tick has missed); reset none -/
  missNow : Nat × Nat := (0, 0)
  /-- 1 bit; 02 R79 (the coming stage 3 misses a latch); reset 0 -/
  missLatch : Bool := false
  /-- optional; 02 R81 (the latest deadline event, while it may merge); reset none -/
  missLast : Option MissRec := none
deriving DecidableEq, Repr

/-! ### Waveform ports (03, 19) -/

/-- Waveform slot states (R84). -/
inductive WavePhase where
  | idle | waiting | rampUp | live | hold | rampDown
deriving DecidableEq, Repr

/-- One waveform slot (R82 to R87). -/
structure WaveSlot where
  /-- 4 bits; 03 R84, 19 R530; reset IDLE -/
  phase : WavePhase := .idle
  /-- 4 bits; 19 R530 (the state shown, updated at the stage-3 latch); reset IDLE -/
  shown : WavePhase := .idle
  /-- rational 0 to 1; 03 R84 *g*; reset DESIGN CHOICE 0 (log 2) -/
  g : Rat := 0
  /-- Q2.22; 03 R84 *v*; reset DESIGN CHOICE 0 (log 2) -/
  v : Int := 0
  /-- 1 bit; 03 R85 (*v* is frozen); reset 0 -/
  frozen : Bool := false
  /-- 1 bit; 03 R85 (started mark); reset stopped -/
  started : Bool := false
  /-- 1 bit; 03 R85 (the ramp down follows a loss); reset 0 -/
  afterLoss : Bool := false
  /-- 1 bit; 03 R85 (HOLD was entered from LIVE); reset 0 -/
  heldLive : Bool := false
  /-- 11 bits; 03 R85 (qualification ticks); reset 0 -/
  qual : Nat := 0
  /-- channel id; 03 R82 (binding in force, 0 none); reset unbound -/
  bound : Nat := 0
  /-- 3 bits; 03 R87 (consecutive latch misses); reset 0 -/
  misses : Nat := 0
  /-- Q2.22; 03 R84 (value presented); reset DESIGN CHOICE 0 (log 2) -/
  out : Int := 0
  /-- 2 bits; 03 R85 (1 start, 2 stop commanded, taking effect at the next latch); reset 0 -/
  asked : Nat := 0
  /-- 1 bit; 03 R85 (the channel was missing at the latest latch); reset 1 -/
  heard : Bool := true
  /-- 32 bits; 03 R85 (events counted in the slot's statistics); reset 0 -/
  events : Nat := 0
  /-- 3 bits, the model's own; 03 R85 (what the latest latch found due: 1 the channel qualifies, 2 it is lost, 4 the ramp has ended); reset 0 -/
  due : Nat := 0
deriving DecidableEq, Repr

/-- An input channel as the slots see it (R85). -/
structure ChanState where
  /-- Q2.22; 03 R83 (latest value); reset DESIGN CHOICE 0 (log 2) -/
  value : Int := 0
  /-- 1 bit; 03 R85 (missing in the latest tick); reset 1, nothing arrives -/
  missing : Bool := true
  /-- 10 bits; 03 R85, R99, R103 (consecutive missing ticks, or samples for SV); reset DESIGN CHOICE 0 (log 2) -/
  run : Nat := 0
  /-- 1 bit; 03 R99 (an SV channel reached its 4th consecutive missing sample in the latest tick); reset 0 -/
  gone : Bool := false
deriving DecidableEq, Repr

/-- An asynchronous resampler (R91, R98). -/
structure Resampler where
  /-- up to *D* frames, newest first; 03 R91 (the FIFO); reset empty -/
  fifo : List (List Int) := []
  /-- up to 64 frames, newest first; 03 R91 (frames the filter has taken); reset empty -/
  hist : List (List Int) := []
  /-- rational frames per tick, 0 while it has not started; 03 R91 (the NCO's starting ratio); reset 0 -/
  ratio : Rat := 0
  /-- rational below 1, steps of 2⁻⁴⁰; 03 R91 (the NCO's phase); reset 0 -/
  phase : Rat := 0
  /-- 1 bit; 03 R92 (a frame has found the FIFO full); reset 0 -/
  full : Bool := false
  /-- signed 32 bits; 03 R91 (the loop's integral: the sum of the FIFO's distances from *D*/2); reset 0 -/
  sum : Int := 0
  /-- 16 bits; 03 R91 (frames since the resampler was stopped, for the measured rate); reset 0 -/
  frames : Nat := 0
  /-- 1 bit; 03 R91, R98 (the tick in which the first of them came has ended); reset 0 -/
  timed : Bool := false
  /-- ps; 03 R91, R98 (time since that tick); reset 0 -/
  age : Nat := 0
  /-- ps; 03 R91, R98 (from that tick to the tick of the latest frame, for the measured rate); reset 0 -/
  span : Nat := 0
deriving DecidableEq, Repr

/-- One serial sample port (R88 to R94). -/
structure SerialPort where
  /-- 11 bits; 03 R94 `rx_qual`; reset 0 -/
  qual : Nat := 0
  /-- 1 bit; 03 R94 `rx_clk` not 0b00 (valid frame clocks in the latest tick); reset 0 -/
  valid : Bool := false
  /-- ns; 03 R91 (the delay before the stage-3 latch that the device reports; 0 while the resampler has not started); reset 0 -/
  delay : Nat := 0
  /-- 1 bit; 03 R94 `rx_lost`; reset 0 -/
  lost : Bool := false
  /-- 1 bit; 03 R94 `rx_slip`; reset 0 -/
  slip : Bool := false
  /-- 1 bit; 03 R94 `rx_clip`; reset 0 -/
  clip : Bool := false
  /-- 32 bits; 03 R92 (slips counted); reset DESIGN CHOICE 0 (log 2) -/
  slips : Nat := 0
  /-- 1 bit; 03 R92 (every channel is missing in the coming tick); reset 0 -/
  slipTick : Bool := false
  /-- resampler of frames of up to 32 samples; 03 R91; reset stopped -/
  res : Resampler := {}
  /-- 2 bits; 03 R89 (consecutive frames of another length than 32*S* bit clocks); reset 0 -/
  badFrames : Nat := 0
  /-- 1 bit; 03 R89 (two consecutive frames of another length in this tick); reset 0 -/
  badClk : Bool := false
  /-- 4 bits per channel; 03 R90 (run of clip codes); reset 0 -/
  clipRun : Tab Nat := []
  /-- frames sent in the latest tick, each up to 32 Q2.22 samples; 03 R93; reset empty -/
  txFrames : List (List Int) := []
  /-- 2 bits; 03 R93 (width of FSYNC of frame 0, in bit clocks); reset DESIGN CHOICE 0 (log 2) -/
  txSync : Nat := 0
  /-- Q2.22 by slot; 03 R93 *v*(n − 2) of each transmit slot; reset DESIGN CHOICE 0 (log 2) -/
  txPrev : List Int := []
deriving DecidableEq, Repr

/-- One stored SV sample: its instant and the 8 channels (none: missing). -/
structure SvSample where
  /-- 64 bits; 03 R98 (plant second); reset: no sample -/
  second : Nat
  /-- 16 bits; 03 R97 (sample count); reset: no sample -/
  count : Nat
  /-- 1 bit; 03 R96 (port it arrived on); reset: no sample -/
  port : Nat
  /-- 8 × Q2.22, none where missing; 03 R97; reset: no sample -/
  values : List (Option Int)
deriving DecidableEq, Repr

/-- One sampled-values stream (R95 to R99). -/
structure SvStream where
  /-- 1 bit; 03 R99 (timed out); reset DESIGN CHOICE 1 (log 2) -/
  timedOut : Bool := true
  /-- 1 bit; 03 R97 (flagged invalid); reset DESIGN CHOICE 0 (log 2) -/
  invalid : Bool := false
  /-- 1 bit; 03 R97 (questionable seen); reset 0 -/
  questionable : Bool := false
  /-- 1 bit; 03 R98 (time-aligned); reset 0 -/
  aligned : Bool := false
  /-- 16 bits; 15 R433 (discarded ASDUs); reset 0 -/
  discarded : Nat := 0
  /-- optional 14 bits; 03 R97 (previous sample count); reset none -/
  prev : Option Nat := none
  /-- ps since the latest ASDU taken; 03 R99; reset DESIGN CHOICE 0 (log 2) -/
  age : Nat := 0
  /-- 14 bits; 03 R99 (counts absent altogether in the latest gap); reset 0 -/
  absent : Nat := 0
  /-- 64 bits; 03 R98, R99 (index of the newest sample an interpolation has needed); reset DESIGN CHOICE 0 (log 2) -/
  need : Nat := 0
  /-- 5 bits; 03 R98, R99 (samples stored or found missing since the latest latch); reset 0 -/
  fresh : Nat := 0
  /-- resampler with a FIFO of 16 samples, while the stream is buffer-steered; 03 R98; reset stopped -/
  res : Resampler := {}
  /-- 1 bit; 03 R92, R98 (the resampler slipped: every channel is missing in this tick); reset 0 -/
  slipTick : Bool := false
  /-- up to 512 samples, newest first; 03 R98; reset empty -/
  samples : List SvSample := []
deriving DecidableEq, Repr

/-- Host DMA streams (R100 to R104). -/
structure DmaState where
  /-- optional 3 bits; 14 R417 `dma_owner`, `dma_owned`; reset none -/
  owner : Option Nat := none
  /-- 32 bits; 19 R528 SP_DMA_IN_PROD; reset 0 -/
  inProd : Nat := 0
  /-- 32 bits; 03 R100 (input consumer index, write-back +0); reset 0 -/
  inCons : Nat := 0
  /-- 32 bits; 03 R100 (output producer index, write-back +4); reset 0 -/
  outProd : Nat := 0
  /-- 32 bits; 19 R528 SP_DMA_OUT_CONS; reset 0 -/
  outCons : Nat := 0
  /-- optional 58 bits; 03 R102 *E*; reset none -/
  expect : Option Nat := none
  /-- absolute ticks, oldest first; 03 R102 (the tick in which each posted block was posted); reset empty -/
  posted : List Nat := []
  /-- by absolute tick: one Q2.22 per channel, none where missing; 03 R102; reset empty -/
  ticks : Tab (List (Option Int)) := []
  /-- 32 bits; 15 R433 `bad`; reset 0 -/
  bad : Nat := 0
  /-- 32 bits; 15 R433 `late`; reset 0 -/
  late : Nat := 0
  /-- 32 bits; 15 R433 `dropped`; reset 0 -/
  dropped : Nat := 0
  /-- 1 bit; 03 R104 (`gap` is due in the next block); reset 0 -/
  gapDue : Bool := false
  /-- rows of the block being built, newest first; 03 R104; reset empty -/
  outRows : List (List Int) := []
  /-- absolute tick and stamp of the first row; 03 R101; reset 0 -/
  outStart : Nat × Nat := (0, 0)
  /-- 1 bit; 03 R104 (`slewing` in some tick); reset 0 -/
  outSlew : Bool := false
  /-- 1 bit; 03 R104 (`degraded` in some tick); reset 0 -/
  outDegraded : Bool := false
  /-- bytes; 03 R101 (the latest block written to the output ring); reset empty -/
  lastBlock : List Nat := []
  /-- 64-bit host address; 03 R100 (the place of `lastBlock`); reset 0 -/
  outAddr : Nat := 0
  /-- 64-bit host address; 03 R100 (the place the latest input block was read from); reset 0 -/
  inAddr : Nat := 0
  /-- 64-bit host address; 03 R100, 15 R427 (where the indices were written back last); reset 0 -/
  wbAddr : Nat := 0
  /-- 8 bytes; 03 R100, 15 R427 (the indices written back last: input consumer, output producer); reset empty -/
  wb : List Nat := []
  /-- bytes of a completed block that waits to be written, empty where none; 03 R104; reset empty -/
  outDone : List Nat := []
deriving DecidableEq, Repr

/-- The set-point input (R105 to R107, R529). -/
structure Setpoint where
  /-- Q2.22; 19 R529 `y`; reset 0 -/
  y : Int := 0
  /-- 1 bit; 19 R529 `valid`; reset 0 -/
  valid : Bool := false
  /-- 1 bit; 19 R529 `qualified`; reset 0 -/
  qualified : Bool := false
  /-- 1 bit; 19 R529 `lost`; reset 1 -/
  lost : Bool := true
  /-- 1 bit; 19 R529 `pulse`; reset 0 -/
  pulse : Bool := false
  /-- 10 bits; 03 R106 (consecutive valid ticks); reset 0 -/
  goodRun : Nat := 0
  /-- 5 bits; 03 R106 (consecutive invalid ticks); reset 0 -/
  badRun : Nat := 0
  /-- optional ps since the latest rising edge of the pulse input; 03 R105, R106; reset none -/
  edgeAge : Option Nat := none
  /-- ps; 03 R105 (the last full period of the pulse input, 0 none); reset 0 -/
  period : Nat := 0
  /-- Q2.22; 03 R105 *x* of the latest tick; reset DESIGN CHOICE 0 (log 2) -/
  x : Int := 0
deriving DecidableEq, Repr

/-- A sinc³ filter that decimates by 20 (R109): three integrators, three combs, modulo 2³². -/
structure Sinc3 where
  /-- 32 bits; 03 R109 (first integrator); reset DESIGN CHOICE 0 (log 2) -/
  i1 : Nat := 0
  /-- 32 bits; 03 R109 (second integrator); reset DESIGN CHOICE 0 (log 2) -/
  i2 : Nat := 0
  /-- 32 bits; 03 R109 (third integrator); reset DESIGN CHOICE 0 (log 2) -/
  i3 : Nat := 0
  /-- 32 bits; 03 R109 (first comb's delay); reset DESIGN CHOICE 0 (log 2) -/
  c1 : Nat := 0
  /-- 32 bits; 03 R109 (second comb's delay); reset DESIGN CHOICE 0 (log 2) -/
  c2 : Nat := 0
  /-- 32 bits; 03 R109 (third comb's delay); reset DESIGN CHOICE 0 (log 2) -/
  c3 : Nat := 0
  /-- 5 bits; 03 R109 (bits since the latest fast sample); reset DESIGN CHOICE 0 (log 2) -/
  count : Nat := 0
deriving DecidableEq, Repr

/-- One grid-sense channel (R108 to R110). -/
structure GridSense where
  /-- filter; 03 R109 (the fast path); reset DESIGN CHOICE 0 (log 2) -/
  sinc : Sinc3 := {}
  /-- Q2.22; 03 R93 (the tick value one tick older); reset DESIGN CHOICE 0 (log 2) -/
  prev : Int := 0
  /-- Q2.22; 03 R109 *m*(n) less offset, of the latest tick; reset DESIGN CHOICE 0 (log 2) -/
  c : Int := 0
  /-- Q2.22, per unit of full scale after the phase and ratio corrections; 03 R109; reset DESIGN CHOICE 0 (log 2) -/
  tick : Int := 0
  /-- mV or mA at primary; 03 R109; reset DESIGN CHOICE 0 (log 2) -/
  primary : Int := 0
  /-- 1 bit; 03 R110 (invalid); reset DESIGN CHOICE 1, nothing latched (log 2) -/
  invalid : Bool := true
  /-- 1 bit; 03 R110 (overrange in the latest tick); reset 0 -/
  ovr : Bool := false
  /-- 1 bit; 03 R110 (stale: the previous tick's value repeated); reset 0 -/
  stale : Bool := false
deriving DecidableEq, Repr

/-- The stream ports. -/
structure Ports where
  /-- slots W0 to W39; 03 R82; reset IDLE -/
  slots : Tab WaveSlot := []
  /-- channels by id; 03 R85; reset missing -/
  chans : Tab ChanState := []
  /-- serial ports 0 and 1; 03 R88; reset stopped -/
  serial : Tab SerialPort := []
  /-- SV streams 0 to 7; 03 R95; reset timed out -/
  sv : Tab SvStream := []
  /-- DMA; 03 R100; reset unowned -/
  dma : DmaState := {}
  /-- set-point input; 03 R105; reset lost -/
  setp : Setpoint := {}
  /-- channels 0 to 7; 03 R108; reset invalid -/
  gs : Tab GridSense := []
  /-- 3 bits; 03 R110 (consecutive stage-3 latch misses of grid sense); reset 0 -/
  gsMisses : Nat := 0
  /-- 1 bit; 06 R210, 03 R110 (isolated supply or barrier data path lost: `iso_fault`); reset 0 -/
  isoFault : Bool := false
  /-- slots whose value is not latched at the coming stage 3; 03 R87; reset none -/
  latchMiss : List Nat := []
  /-- 1 bit; 03 R110 (grid sense is not latched at the coming stage 3); reset 0 -/
  gsLatchMiss : Bool := false
deriving DecidableEq, Repr

/-! ### Parameter banks, crosspoint and shaping (04) -/

/-- Five coefficients of a biquad section, Q2.30 (R118). -/
structure Biquad where
  /-- Q2.30; 04 R118; reset 1 -/
  b0 : Int := 1073741824
  /-- Q2.30; 04 R118; reset 0 -/
  b1 : Int := 0
  /-- Q2.30; 04 R118; reset 0 -/
  b2 : Int := 0
  /-- Q2.30; 04 R118; reset 0 -/
  a1 : Int := 0
  /-- Q2.30; 04 R118; reset 0 -/
  a2 : Int := 0
deriving DecidableEq, Repr

/-- A crosspoint node (R115). -/
structure Node where
  /-- Q2.22; 04 R115; reset 0 -/
  gain : Int := 0
  /-- 1 bit; 04 R115 (1 direct); reset 0 -/
  direct : Bool := false
deriving DecidableEq, Repr

/-- A control law (R144 to R146, R428). -/
structure Law where
  /-- signed, -8 to 8; 15 R428 (shift); reset 0 -/
  shift : Int := 0
  /-- sections 1 to 8; 15 R428; reset empty, every section pass-through -/
  secs : List Biquad := []
deriving DecidableEq, Repr

/-- A parameter bank (R127). -/
structure Bank where
  /-- words by (opcode × 512 + target) × 64 + row, empty for the default; 15 R424; reset defaults -/
  rows : Tab (List Nat) := []
  /-- nodes by destination × 64 + source; 04 R115; reset 0 -/
  nodes : Tab Node := []
  /-- sections by destination × 4 + section; 04 R118; reset pass-through -/
  shapes : Tab Biquad := []
  /-- laws by bay × 11 + law; 15 R428; reset pass-through -/
  laws : Tab Law := []
deriving DecidableEq, Repr

/-- The states of a biquad section, Q10.22 (R118). -/
structure BiState where
  /-- Q10.22; 04 R118; reset DESIGN CHOICE 0 (log 2) -/
  x1 : Int := 0
  /-- Q10.22; 04 R118; reset DESIGN CHOICE 0 (log 2) -/
  x2 : Int := 0
  /-- Q10.22; 04 R118; reset DESIGN CHOICE 0 (log 2) -/
  y1 : Int := 0
  /-- Q10.22; 04 R118; reset DESIGN CHOICE 0 (log 2) -/
  y2 : Int := 0
  /-- 1 bit; 04 R118 `shape_sat`; reset 0 -/
  sat : Bool := false
deriving DecidableEq, Repr

/-- A statistics window of a destination (R134 to R136). -/
structure DestStat where
  /-- 48 bits; 04 R136 `cycle`; reset: no record -/
  cycle : Nat := 0
  /-- 2 bits; 04 R136 (window index); reset: no record -/
  window : Nat := 0
  /-- 1 bit; 04 R136 `split`; reset: no record -/
  split : Bool := false
  /-- 1 bit; 04 R136 `slewing`; reset: no record -/
  slewing : Bool := false
  /-- 1 bit; 04 R136 (stage-4 miss in window); reset: no record -/
  missed : Bool := false
  /-- 1 bit; 04 R136 (bay in standby); reset: no record -/
  standby : Bool := false
  /-- 32 bits; 04 R136 `generation`; reset: no record -/
  generation : Nat := 0
  /-- 16 bits; 04 R136 `first_tick`; reset: no record -/
  firstTick : Nat := 0
  /-- 16 bits; 04 R136 `ticks`; reset: no record -/
  ticks : Nat := 0
  /-- Q10.22; 04 R136 `peak_sum`; reset: no record -/
  peakSum : Nat := 0
  /-- sum of squares of the output, Q4.44; 04 R136 (behind `rms_out`); reset: no record -/
  sumSq : Nat := 0
  /-- Q2.30; 04 R136 (behind `min_gain`); reset: no record -/
  minG : Nat := 1073741824
  /-- 16 bits; 04 R136 `limited`; reset: no record -/
  limited : Nat := 0
  /-- 16 bits; 04 R136 `clamped`; reset: no record -/
  clamped : Nat := 0
  /-- 16 bits; 04 R136 `saturated`; reset: no record -/
  saturated : Nat := 0
deriving DecidableEq, Repr

/-- One crosspoint destination (R113 to R123). -/
structure Dest where
  /-- four sections; 04 R118; reset DESIGN CHOICE 0 (log 2) -/
  secs : List BiState := [{}, {}, {}, {}]
  /-- Q10.22; 04 R118 (the latch after section 4); reset DESIGN CHOICE 0 (log 2) -/
  latched : Int := 0
  /-- nine Q10.22 values, oldest first; 04 R121; reset DESIGN CHOICE 0 (log 2) -/
  line : List Int := [0, 0, 0, 0, 0, 0, 0, 0, 0]
  /-- Q2.30; 04 R121 *g*; reset 1 -/
  g : Int := 1073741824
  /-- Q2.22; 04 R123 (value presented); reset DESIGN CHOICE 0 (log 2) -/
  out : Int := 0
  /-- Q2.22; 02 R79 (the value one tick earlier); reset DESIGN CHOICE 0 (log 2) -/
  prevOut : Int := 0
  /-- Q10.22; 04 R137 (shaped plus direct sum of the tick); reset DESIGN CHOICE 0 (log 2) -/
  sum : Int := 0
  /-- 2 bits; 02 R79, R80 (consecutive misses); reset 0 -/
  misses : Nat := 0
  /-- open window; 04 R134; reset empty window -/
  win : DestStat := {}
  /-- records of the latest 16 cycles, newest first; 04 R136; reset empty -/
  recs : List DestStat := []
deriving DecidableEq, Repr

/-- Probe generator phases (R125). -/
inductive ProbePhase where
  | off | run | down
deriving DecidableEq, Repr

/-- One probe-tone generator (R124, R125). -/
structure Probe where
  /-- phase; 04 R125; reset OFF -/
  phase : ProbePhase := .off
  /-- words in force, rows 0 to 7; 04 R124; reset defaults (OFF) -/
  words : List Nat := [0, 0, 16777216, 0, 1, 1, 0, 160]
  /-- 32 bits; 04 R124 (phase accumulator); reset DESIGN CHOICE 0 (log 2) -/
  acc : Nat := 0
  /-- up to 23 bits; 04 R124 (PRBS register); reset DESIGN CHOICE 0, loaded with ones at a start (log 2) -/
  prbs : Nat := 0
  /-- 6 bits; 04 R124 (ticks of the present chip); reset 0 -/
  chip : Nat := 0
  /-- rational Q2.22; 04 R125 (amplitude now); reset DESIGN CHOICE 0 (log 2) -/
  amp : Rat := 0
  /-- rational Q2.22 per tick; 04 R125 (ramp step); reset DESIGN CHOICE 0 (log 2) -/
  step : Rat := 0
  /-- 16 bits; 04 R125 (whole cycles of the burst run); reset 0 -/
  cycles : Nat := 0
  /-- 1 bit; 04 R125 (a burst has ended and the same settings wait for a swap); reset 0 -/
  done : Bool := false
  /-- Q2.22; 04 R124 (value presented); reset 0 -/
  out : Int := 0
deriving DecidableEq, Repr

/-- One damping-injection generator (R126). -/
structure Damp where
  /-- two sections; 04 R126; reset DESIGN CHOICE 0 (log 2) -/
  secs : List BiState := [{}, {}]
  /-- 32 bits; 04 R126 (invalid ticks counted); reset 0 -/
  invalid : Nat := 0
  /-- Q2.22; 04 R126 (value presented); reset 0 -/
  out : Int := 0
deriving DecidableEq, Repr

/-- Idle detection of a bay (R137 to R140). -/
structure IdleState where
  /-- 16 bits; 04 R137 (cycles the conditions have held); reset 0 -/
  dwell : Nat := 0
  /-- 1 bit; 04 R137 (the conditions have held since the cycle began); reset 0 -/
  held : Bool := false
  /-- 1 bit; 04 R138 (idle); reset 0 -/
  idle : Bool := false
  /-- 1 bit; 04 R139 (standby); reset 0 -/
  standby : Bool := false
  /-- 1 bit; 04 R140 (a wake trigger waits for the boundary); reset 0 -/
  wake : Bool := false
deriving DecidableEq, Repr

/-- A pending swap (R128, R129). -/
structure PendSwap where
  /-- 2 bits; 04 R133 (1 NEXT_TICK, 2 NEXT_CYCLE, 3 AT_CYCLE); reset: none pending -/
  mode : Nat
  /-- 10 bits; 04 R130 *G*; reset: none pending -/
  glide : Nat
  /-- 48 bits; 04 R128 (cycle of AT_CYCLE); reset: none pending -/
  cycle : Nat
  /-- 58 bits; 04 R128 (tick of acceptance); reset: none pending -/
  tick : Nat
  /-- 8 bits, the model's own; 05 R151 (set-point commands of the same tick accepted before it); reset: none pending -/
  sets : Nat
deriving DecidableEq, Repr

/-- The crosspoint and the parameter banks. -/
structure Crosspoint where
  /-- bank; 04 R127 (active); reset defaults -/
  act : Bank := {}
  /-- bank; 04 R127 (shadow); reset defaults -/
  shadow : Bank := {}
  /-- item keys; 04 R127 (items staged since the last swap); reset none -/
  staged : List Nat := []
  /-- 8 bits; 04 R127 (slots that have staged); reset 0 -/
  stagers : Nat := 0
  /-- optional slot; 15 R429 (the latest sender of a staged STREAM_DMA_CONFIG); reset none -/
  dmaStager : Option Nat := none
  /-- optional; 04 R129 (pending swap); reset none -/
  pend : Option PendSwap := none
  /-- optional generation and 2-bit mode, the model's own; 04 R129 (the swap event that the coming boundary raises); reset none -/
  swapEvt : Option (Nat × Nat) := none
  /-- 32 bits; 04 R133 XP_GENERATION; reset 0 -/
  generation : Nat := 0
  /-- 58 bits; 04 R133 XP_SWAP_TICK; reset 0 -/
  swapTick : Nat := 0
  /-- 1 bit; 04 R133 `split`; reset 0 -/
  split : Bool := false
  /-- 1 bit; 04 R133 `swap_lost`; reset 0 -/
  swapLost : Bool := false
  /-- 1 bit; 04 R133 `shape_sat`; reset 0 -/
  shapeSat : Bool := false
  /-- 1 bit; 04 R133 `out_sat`; reset 0 -/
  outSat : Bool := false
  /-- 1 bit; 04 R133 `hard_clamp`; reset 0 -/
  hardClamp : Bool := false
  /-- 10 bits; 04 R133 `glide_left`; reset 0 -/
  glideLeft : Nat := 0
  /-- 10 bits; 04 R130 *G* of the running glide; reset 0 -/
  glideLen : Nat := 0
  /-- Q2.22 by node; 04 R130 (start values of the gliding nodes); reset empty -/
  glideFrom : Tab (Option Int) := []
  /-- 2 bits; 04 R133 `windows`; reset 0 -/
  windows : Nat := 0
  /-- 2 bits; 04 R128 (tick-mode swaps landed in the current cycle); reset 0 -/
  tickSwaps : Nat := 0
  /-- 448 destinations; 04 R113; reset as their fields -/
  dests : Tab Dest := []
  /-- PT0 to PT7; 04 R124; reset OFF -/
  probes : Tab Probe := []
  /-- DI0 to DI3; 04 R126; reset 0 -/
  damps : Tab Damp := []
  /-- per bay; 04 R137; reset not idle -/
  idle : Tab IdleState := []
  /-- 5 bits; 15 R434 (flags XP_FLAGS_CLEAR clears at the end of the tick); reset 0 -/
  clearDue : Nat := 0
  /-- destinations whose shaping misses in the coming stage 4; 02 R79; reset none -/
  missNext : List Nat := []
deriving DecidableEq, Repr

/-! ### Control engine (05) -/

/-- The states of a control law (R146). -/
structure LawState where
  /-- eight sections; 05 R146, with their `law_sat` flags; reset DESIGN CHOICE 0 (log 2) -/
  secs : List BiState := [{}, {}, {}, {}, {}, {}, {}, {}]
  /-- 1 bit; 05 R146 `out_sat`; reset 0 -/
  outSat : Bool := false
deriving DecidableEq, Repr

/-- A set-point follower (R150 to R153). -/
structure Follower where
  /-- pu, 70 fractional bits; 05 R150 *y*; reset DESIGN CHOICE 0 (log 2) -/
  y : Int := 0
  /-- pu, 70 fractional bits; 05 R150 *T*; reset DESIGN CHOICE 0 (log 2) -/
  target : Int := 0
  /-- Q2.22 per cycle; 05 R151 (rate in force); reset default normal rate 0.01 -/
  rate : Nat := 41943
  /-- pu, 70 fractional bits; 05 R152, R153 (target of the HOST source); reset DESIGN CHOICE 0 (log 2) -/
  host : Int := 0
  /-- 1 bit; 05 R180 `fallback`; reset 0 -/
  fallback : Bool := false
deriving DecidableEq, Repr

/-- A `CE_SETPOINT_SET` waiting for stage 5 of the next tick (R152). -/
structure PendSet where
  /-- 1 bit; 05 R152 (0 P, 1 Q); reset: none pending -/
  quantity : Nat
  /-- Q2.22; 05 R152 (value); reset: none pending -/
  value : Int
  /-- Q2.22; 05 R152 (rate, 0 keeps); reset: none pending -/
  rate : Nat
  /-- 58 bits; 05 R152 (tick of acceptance); reset: none pending -/
  tick : Nat
deriving DecidableEq, Repr

/-- The plant virtual machine (R155). DESIGN CHOICE (log 129): R145 gives its *w*, *θ*_f and *e* no format; they keep 60 fractional bits. -/
structure VirtMachine where
  /-- 1 bit; 05 R180 `formed_live`; reset 0 -/
  running : Bool := false
  /-- pu, 60 fractional bits; 05 R155 *w*; reset DESIGN CHOICE 0, loaded at the first tick it runs (log 2) -/
  w : Int := 0
  /-- turns, 60 fractional bits, kept below one turn; 05 R155 *θ*_f; reset DESIGN CHOICE 0, loaded (log 2) -/
  theta : Int := 0
  /-- pu, 60 fractional bits; 05 R155 *e*; reset DESIGN CHOICE 0, loaded (log 2) -/
  e : Int := 0
  /-- up to 800 values, newest first; 05 R155 (summed GFM active power); reset empty -/
  pHist : List Int := []
  /-- up to 800 values, newest first; 05 R155 (summed GFM reactive power); reset empty -/
  qHist : List Int := []
deriving DecidableEq, Repr

/-- The control engine's state of one pier (R157 to R179). -/
structure PierCtl where
  /-- law; 05 R160 (inner current law); reset 0 -/
  inner : LawState := {}
  /-- law; 05 R163 (DC correction); reset 0 -/
  dc : LawState := {}
  /-- seven laws, codes 2 to 8; 05 R165; reset 0 -/
  limits : List LawState := [{}, {}, {}, {}, {}, {}, {}]
  /-- Q2.22; 05 R143 *i*\* of the latest tick; reset 0 -/
  istar : Int := 0
  /-- Q2.22; 05 R144 *i*_m (latest measured current); reset DESIGN CHOICE 0 (log 2) -/
  im : Int := 0
  /-- Q2.22; 05 R172 *i*_m one tick older; reset DESIGN CHOICE 0 (log 2) -/
  imPrev : Int := 0
  /-- 1 bit; 02 R79, 05 R175 (*i*_m is stale in this tick); reset 1, nothing received -/
  imStale : Bool := true
  /-- 1 bit; 07 R232, 08 R244 (the current of the tick before was stale); reset 1, nothing received -/
  imStalePrev : Bool := true
  /-- Q2.22; 05 R172 *i*_fb(k − 1); reset DESIGN CHOICE 0 (log 2) -/
  fb : Int := 0
  /-- Q10.22, DESIGN CHOICE (log 129); 05 R172 *ρ*; reset DESIGN CHOICE 0 (log 2) -/
  rho : Int := 0
  /-- 1 bit; 05 R173 (runs on the model estimate); reset 0 -/
  model : Bool := false
  /-- 5 bits; 05 R174 (ticks on the model); reset 0 -/
  modelTicks : Nat := 0
  /-- 3 bits; 05 R174 (consecutive ticks with *ρ* below W/2); reset 0 -/
  goodTicks : Nat := 0
  /-- 4 bits; 05 R175 (ticks since the pier resumed, up to 8); reset 0 -/
  resumed : Nat := 0
  /-- optional 58-bit tick; 10 R313 (the first of the 8 ticks in which the check of a taken-over pier is suspended); reset none -/
  suspendFrom : Option Nat := none
  /-- Q2.22; 05 R160 *v*_p(n − 1); reset DESIGN CHOICE 0 (log 2) -/
  v : Int := 0
  /-- Q2.22; 05 R177 *v*_p(n − 2); reset DESIGN CHOICE 0 (log 2) -/
  vPrev : Int := 0
  /-- Q18.14 V; 05 R160 *u*_p (voltage target handed to stage 6); reset DESIGN CHOICE 0 (log 2) -/
  u : Int := 0
  /-- Q18.14 V; 05 R144, 06 R217 (realised voltage of stage 6, latest); reset DESIGN CHOICE 0 (log 2) -/
  ur : Int := 0
  /-- Q18.14 V; 05 R144 *u*_r of stage 6 of tick n − 2; reset DESIGN CHOICE 0 (log 2) -/
  ur1 : Int := 0
  /-- Q18.14 V; 05 R172 *u*_r one tick older; reset DESIGN CHOICE 0 (log 2) -/
  ur2 : Int := 0
  /-- up to 400 Q2.22 magnitudes, newest first; 05 R164 (HEADROOM); reset empty -/
  vHist : List Int := []
  /-- Q2.30; 04 R120 *L* of the tick; reset DESIGN CHOICE 0 (log 2) -/
  live : Nat := 0
  /-- permitted magnitude Q2.22; 05 R167; reset DESIGN CHOICE 0 (log 2) -/
  perm : Int := 0
  /-- Q2.22, largest of the open window; 05 R176 (*ρ*); reset 0 -/
  rhoMax : Int := 0
deriving DecidableEq, Repr

/-- Winner counts of a cycle window (R171). -/
structure WinStat where
  /-- 48 bits; 05 R171, 15 R435; reset: no record -/
  cycle : Nat := 0
  /-- 2 bits; 15 R435 `window`; reset: no record -/
  window : Nat := 0
  /-- 32 bits; 15 R435 `generation`; reset: no record -/
  generation : Nat := 0
  /-- 10 bits; 04 R134 (the tick index at which the window opens); reset: no record -/
  firstTick : Nat := 0
  /-- 16 bits; 04 R134 (ticks in the window); reset 0 -/
  ticks : Nat := 0
  /-- 1 bit; 04 R135 (a tick-mode swap bounds the window); reset 0 -/
  split : Bool := false
  /-- 1 bit; 02 R61, 04 R135 (the tick slewed in the window); reset 0 -/
  slewing : Bool := false
  /-- 1 bit; 04 R139 (the bay was in standby in the window); reset 0 -/
  standby : Bool := false
  /-- 16 bits per code; 05 R171 `won`; reset 0 -/
  won : Tab Nat := []
  /-- Q2.22; 05 R171 `low_a`; reset: largest value -/
  lowA : Int := 8388607
  /-- 4 bits; 05 R171 `low_code`; reset 0 -/
  lowCode : Nat := 0
  /-- 2 bits; 15 R435 `low_pier`; reset 3 -/
  lowPier : Nat := 3
  /-- Q2.22; 05 R176 (largest *ρ* of the window over the bay's piers); reset 0 -/
  rhoMax : Int := 0
deriving DecidableEq, Repr

/-- The control engine's state of one bay. -/
structure BayCtl where
  /-- law; 05 R157 (P law); reset 0 -/
  pLaw : LawState := {}
  /-- law; 05 R157 (Q law); reset 0 -/
  qLaw : LawState := {}
  /-- Q2.22 in 1/800 of a step; 05 R166, R168 *i*_d applied; reset DESIGN CHOICE 0 (log 2) -/
  id : Int := 0
  /-- Q2.22 in 1/800 of a step; 05 R168 *i*_q applied; reset DESIGN CHOICE 0 (log 2) -/
  iq : Int := 0
  /-- 1 bit; 05 R166 (the bay has worked a tick since a mode change or a resume, so that a direction exists); reset 0 -/
  idValid : Bool := false
  /-- 2 bits; 05 R166 (direction of the latest tick: 0 both, 1 discharge, 2 charge); reset 0 -/
  dir : Nat := 0
  /-- Q2.22 in 1/800 of a step; 05 R169 *C* of the latest tick; reset DESIGN CHOICE 0 (log 2) -/
  c : Int := 0
  /-- Q2.22 in 1/800 of a step; 05 R167 *A* of the latest tick; reset DESIGN CHOICE 0 (log 2) -/
  a : Int := 0
  /-- Q2.22; 05 R167 *A*_p of the latest tick; reset DESIGN CHOICE 0 (log 2) -/
  ap : Int := 0
  /-- 4 bits; 05 R182 `code`; reset 0xF -/
  code : Nat := 15
  /-- 2 bits; 05 R182 `pier`; reset 3 -/
  pier : Nat := 3
  /-- 1 bit; 05 R182 `changed`; reset 0 -/
  changed : Bool := false
  /-- 1 bit; 05 R182 `model`, as stage 5 last published it (R183); reset 0 -/
  modelShown : Bool := false
  /-- up to 800 Q10.22 values, newest first; 05 R157 (active power); reset empty -/
  pHist : List Int := []
  /-- up to 800 Q10.22 values, newest first; 05 R157 (reactive power); reset empty -/
  qHist : List Int := []
  /-- Q10.22; 05 R157 *P*_meas; reset DESIGN CHOICE 0 (log 2) -/
  pMeas : Int := 0
  /-- Q10.22; 05 R157 *Q*_meas; reset DESIGN CHOICE 0 (log 2) -/
  qMeas : Int := 0
  /-- three Q10.22 values; 05 R161 (referred grid voltages over tick n − 1); reset DESIGN CHOICE 0 (log 2) -/
  vg : List Int := [0, 0, 0]
  /-- three Q10.22 values; 05 R161 (over tick n − 2); reset DESIGN CHOICE 0 (log 2) -/
  vg1 : List Int := [0, 0, 0]
  /-- Q10.22; 05 R178 *V̄*_h; reset DESIGN CHOICE 0 (log 2) -/
  vHeld : Int := 0
  /-- 1 bit; 05 R178 (a grid-sense voltage was invalid in the latest tick); reset 0 -/
  vBad : Bool := false
  /-- Q2.22; 05 R162 *E*_b; reset DESIGN CHOICE 0 (log 2) -/
  eb : Int := 0
  /-- Q4.52 sum over the cycle; 05 R162 (in phase with the tick angle); reset 0 -/
  ebSin : Int := 0
  /-- Q4.52 sum over the cycle; 05 R162 (in quadrature); reset 0 -/
  ebCos : Int := 0
  /-- 2 bits; 02 R79, 05 R177 (consecutive stage-5 misses); reset 0 -/
  misses : Nat := 0
  /-- 32 bits; 05 R160, 15 R435 `clamps` (this cycle); reset 0 -/
  clamps : Nat := 0
  /-- 32 bits; 05 R176 `declared`; reset 0 -/
  declared : Nat := 0
  /-- 32 bits; 05 R176 `recovered`; reset 0 -/
  recovered : Nat := 0
  /-- 32 bits; 05 R176 `floated`; reset 0 -/
  floated : Nat := 0
  /-- 1 bit; 05 R171 (in the limited set in this cycle); reset 0 -/
  limited : Bool := false
  /-- 1 bit; 05 R171 (in the limited set of the previous cycle); reset 0 -/
  wasLimited : Bool := false
  /-- open window; 05 R171; reset empty window -/
  win : WinStat := {}
  /-- records of the latest 16 cycles, newest first; 05 R171; reset empty -/
  recs : List WinStat := []
deriving DecidableEq, Repr

/-- The control engine. -/
structure Control where
  /-- follower; 05 R150 (P); reset 0 -/
  p : Follower := {}
  /-- follower; 05 R150 (Q); reset 0 -/
  q : Follower := {}
  /-- commands waiting; 05 R152; reset none -/
  sets : List PendSet := []
  /-- virtual machine; 05 R155; reset not running -/
  vm : VirtMachine := {}
  /-- twelve Q2.22 values; 05 R156 CE0 to CE11; reset DESIGN CHOICE 0 (log 2) -/
  out : List Int := [0, 0, 0, 0, 0, 0, 0, 0, 0, 0, 0, 0]
  /-- up to 800 Q10.22 values, newest first; 05 R156 (plant active power); reset empty -/
  pHist : List Int := []
  /-- up to 800 Q10.22 values, newest first; 05 R156 (plant reactive power); reset empty -/
  qHist : List Int := []
  /-- piers by bay × 3 + pier; 05 R143; reset 0 -/
  piers : Tab PierCtl := []
  /-- bays; 05 R143; reset 0 -/
  bays : Tab BayCtl := []
  /-- bays in ascending order; 05 R171 (the bays that the latest limit event lists as entered); reset none -/
  entered : List Nat := []
  /-- bays in ascending order; 05 R171 (the bays that the latest limit event lists as left); reset none -/
  left : List Nat := []
  /-- 32 bits; 05 R180 CE_STATUS as the latest stage 5 left it; reset 0 -/
  status : Nat := 0
  /-- 58 bits; 05 R182 CE_WIN_TICK; reset 0 -/
  winTick : Nat := 0
  /-- 1 bit; 05 R180 `cope_clamp`; reset 0 -/
  copeClamp : Bool := false
  /-- 1 bit; 05 R180 `plumb_float`; reset 0 -/
  plumbFloat : Bool := false
  /-- 1 bit; 05 R180 (the check has floated a bay since the latest stage 5); reset 0 -/
  floatNow : Bool := false
  /-- bays whose flags CE_FLAGS_CLEAR clears at the end of the tick; 05 R146; reset none -/
  clearDue : List Nat := []
  /-- bays that miss the coming stage 5; 02 R79; reset none -/
  missNext : List Nat := []
  /-- 8 bits; 05 R180 `bays_limited` (updated at the end of stage 5); reset 0 -/
  nLimited : Nat := 0
  /-- 8 bits; 05 R180 `bays_gfm` (updated at the end of stage 5); reset 0 -/
  nGfm : Nat := 0
  /-- 8 bits; 05 R180 `bays_gfl` (updated at the end of stage 5); reset 0 -/
  nGfl : Nat := 0
deriving DecidableEq, Repr

/-! ### Pier modulation (06) -/

/-- A commanded switch state (R186, R202). -/
inductive Sw where
  | bypass | insert | float
deriving DecidableEq, Repr

/-- A switch state as a brick node holds and reports it (R34, R276). -/
inductive Held where
  | insertPos | insertNeg | bypass | float
deriving DecidableEq, Repr

/-- A course block's mode (R202). -/
inductive BlockMode where
  | normal | allBypass | allFloat | hold
deriving DecidableEq, Repr

/-- A trim's mode (R202). -/
inductive TrimMode where
  | none | pulse | full
deriving DecidableEq, Repr

/-- A course command block (R202). -/
structure Block where
  /-- 2 bits; 06 R202 `mode`; reset NORMAL -/
  mode : BlockMode := .normal
  /-- 1 bit; 06 R202 `pol` (1 NEG); reset 0 -/
  neg : Bool := false
  /-- 8 bits; 06 R202 `tag`; reset 0 -/
  tag : Nat := 0
  /-- up to 8 (brick, state); 06 R202 `entry`; reset empty -/
  entries : List (Nat × Sw) := []
  /-- 7 bits; 06 R202 `trim_brick`; reset 0 -/
  trimBrick : Nat := 0
  /-- 2 bits; 06 R202 `trim_mode`; reset NONE -/
  trimMode : TrimMode := .none
  /-- 13 bits; 06 R202 `trim_start`; reset 0 -/
  start : Nat := 0
  /-- 13 bits; 06 R202 `trim_stop`; reset 0 -/
  stop : Nat := 0
deriving DecidableEq, Repr

/-- The modulation state of one brick (R31, R190, R191, R200). -/
structure BrickMod where
  /-- 2 bits; 06 R186 (commanded switch state); reset DESIGN CHOICE BYPASS (log 2) -/
  sw : Sw := .bypass
  /-- 8 bits, saturating; 06 R191 (ticks since the last change or the admission); reset DESIGN CHOICE 0 (log 2) -/
  since : Nat := 0
  /-- 8 bits; 06 R190 (budget spent in this cycle; remaining budget is *B* less this); reset 0 -/
  spent : Nat := 0
  /-- 1 bit; 06 R200 (its trim role has ended in this cycle); reset 0 -/
  barred : Bool := false
  /-- 1 bit; 06 R185, R202 (`pol` of the latest INSERT: 1 NEG); reset DESIGN CHOICE 0 (log 2) -/
  neg : Bool := false
  /-- up to five changes, newest first: apply tick and state commanded from it; 07 R228, R232; reset empty -/
  log : List (Nat × Held) := []
  /-- 2 bits; 07 R232 (state of the latest tick counted); reset DESIGN CHOICE BYPASS (log 2) -/
  seen : Held := .bypass
deriving DecidableEq, Repr

/-- How a pier is disabled (R206). -/
inductive PierMode where
  | enabled | bypassed | floated
deriving DecidableEq, Repr

/-- A modulation statistics window (R217). -/
structure ModStat where
  /-- 48 bits; 06 R217 `cycle`; reset: no record -/
  cycle : Nat := 0
  /-- 2 bits; 06 R217 (window index); reset: no record -/
  window : Nat := 0
  /-- 1 bit; 06 R217 `split`; reset: no record -/
  split : Bool := false
  /-- 1 bit; 06 R217 `slewing`; reset: no record -/
  slewing : Bool := false
  /-- 1 bit; 06 R217 (stage-6 miss); reset: no record -/
  missed : Bool := false
  /-- 1 bit; 06 R217 (standby); reset: no record -/
  standby : Bool := false
  /-- 1 bit; 06 R217 (disabled, floated or frozen); reset: no record -/
  disabled : Bool := false
  /-- 32 bits; 06 R217 `generation`; reset: no record -/
  generation : Nat := 0
  /-- 16 bits; 06 R217 `first_tick`; reset: no record -/
  firstTick : Nat := 0
  /-- 16 bits; 06 R217 `ticks`; reset: no record -/
  ticks : Nat := 0
  /-- 16 bits; 06 R217 `changes`; reset: no record -/
  changes : Nat := 0
  /-- 16 bits; 06 R217 `overdrawn`; reset: no record -/
  overdrawn : Nat := 0
  /-- 16 bits; 06 R217 `capped`; reset: no record -/
  capped : Nat := 0
  /-- 16 bits; 06 R217 `off_target`; reset: no record -/
  offTarget : Nat := 0
  /-- 16 bits; 06 R217 `no_trim`; reset: no record -/
  noTrim : Nat := 0
  /-- 16 bits; 06 R217 `pol_steps`; reset: no record -/
  polSteps : Nat := 0
  /-- 16 bits; 06 R217 `max_level`; reset: no record -/
  maxLevel : Nat := 0
  /-- 16 bits; 06 R217 `course_faults`; reset: no record -/
  courseFaults : Nat := 0
deriving DecidableEq, Repr

/-- A trim that acts in one tick (R198, R201). -/
structure TrimItem where
  /-- position index of the brick; 06 R201; reset: none -/
  brick : Nat
  /-- 2 bits; 06 R199; reset: none -/
  mode : TrimMode
  /-- 13 bits; 06 R198 (commanded width in steps); reset: none -/
  width : Nat
  /-- 13 bits; 06 R197, R201 (effective width in steps, eaten intervals included); reset: none -/
  eff : Nat
  /-- signed 13 bits; 06 R197, R198 (what the dead time adds to a pulse: −δ at its insertion edge on discharge, +δ at its removal edge on charge); reset: none -/
  shift : Int
  /-- 1 bit; 06 R185 (inserted with polarity NEG); reset: none -/
  neg : Bool
  /-- 1 bit; 06 R197 (no insertion edge: the brick conducts on from the tick before); reset: none -/
  joined : Bool
  /-- 1 bit; 06 R197 (no removal edge: the brick conducts on into the tick after); reset: none -/
  joins : Bool
deriving DecidableEq, Repr

/-- What a pier plans for one tick besides whole bricks (R196 to R201, R228). -/
structure TrimRec where
  /-- 58 bits; 07 R228 (the tick planned); reset 0 -/
  tick : Nat := 0
  /-- 13 bits; 06 R196 *N*; reset 0 -/
  n : Nat := 0
  /-- 1 bit; 06 R185 (polarity NEG); reset 0 -/
  neg : Bool := false
  /-- optional position index; 07 R222 (it holds the trim role in that tick); reset none -/
  role : Option Nat := none
  /-- trims that act: the planned one, and those a course without a block repeats; 06 R201, 02 R79; reset empty -/
  items : List TrimItem := []
deriving DecidableEq, Repr

/-- The modulation state of one pier. -/
structure PierMod where
  /-- 2 bits; 06 R206, R207; reset DESIGN CHOICE disabled to FLOAT (log 5) -/
  mode : PierMode := .floated
  /-- 1 bit; 06 R207 (an accepted enable waits for the boundary); reset 0 -/
  enabling : Bool := false
  /-- 1 bit; 06 R207 (the coming stage 6 is the first after an enable); reset 0 -/
  first : Bool := false
  /-- 1 bit; 06 R185 *pol* (1 NEG); reset DESIGN CHOICE POS (log 2) -/
  neg : Bool := false
  /-- 1 bit; 06 R187 (direction: 1 CHARGE); reset DESIGN CHOICE DISCHARGE (log 2) -/
  charge : Bool := false
  /-- 1 bit; 06 R198 (the direction was within its deadband in the previous tick); reset 0 -/
  inBand : Bool := false
  /-- 1 bit; 06 R185 (a polarity step was planned in the latest stage 6); reset 0 -/
  stepped : Bool := false
  /-- optional brick 0 to 12,287; 06 R193 (trim brick of the latest plan); reset none -/
  trim : Option Nat := none
  /-- 2 bits; 06 R199 (mode of the latest trim); reset NONE -/
  trimMode : TrimMode := .none
  /-- 13 bits; 06 R198 (commanded width in steps of the latest trim); reset 0 -/
  trimWidth : Nat := 0
  /-- 10 bits; 06 R200 (ticks the brick has held the role); reset 0 -/
  tenure : Nat := 0
  /-- signed sixteenths of a step; 06 R199 *ρ*_t; reset 0 -/
  residue : Int := 0
  /-- codes, signed; 06 R201 (realised voltage of the tick after the latest stage 6); reset DESIGN CHOICE 0 (log 2) -/
  codes : Rat := 0
  /-- up to four ticks, newest (the tick after the latest stage 6) first; 07 R228; reset empty -/
  trims : List TrimRec := []
  /-- open window; 06 R217; reset empty window -/
  win : ModStat := {}
  /-- records of the latest 16 cycles, newest first; 06 R217; reset empty -/
  recs : List ModStat := []
deriving DecidableEq, Repr

/-- The modulation state of one bay. -/
structure BayMod where
  /-- 1 bit; 05 R174 (floated by the plumb check, not yet re-enabled); reset 0 -/
  plumbFloat : Bool := false
  /-- 1 bit; 06 R214 (frozen with the freeze in force); reset 0 -/
  frozen : Bool := false
  /-- 1 bit; 06 R211 (PLANT_TRIP is held high for this bay's float margin); reset 0 -/
  marginTrip : Bool := false
  /-- 1 bit; 01 R37 (float-margin event raised); reset 0 -/
  marginRaised : Bool := false
  /-- signed mV; 01 R37 (float margin of the latest cycle); reset DESIGN CHOICE 0 (log 2) -/
  margin : Int := 0
  /-- 1 bit per pier; 01 R39 (headroom event raised); reset 0 -/
  short : Nat := 0
  /-- 1 bit; 06 R216 (*t*_d and *t*_min loaded into the bay's brick nodes: dead time ns × 65,536 + minimum pulse ns); reset 0 -/
  loadedTimes : Nat := 0
deriving DecidableEq, Repr

/-- The modulator, the trip path and lab freeze. -/
structure Modulator where
  /-- piers by bay × 3 + pier; 06 R184; reset disabled to FLOAT -/
  piers : Tab PierMod := []
  /-- bays; 06; reset as fields -/
  bays : Tab BayMod := []
  /-- bricks by position index; 06 R31, R190; reset as fields -/
  bricks : Tab BrickMod := []
  /-- optional block of the latest stage 6 by course index; 06 R202; reset none sent -/
  blocks : Tab (Option Block) := []
  /-- codes by course index; 09 R287 (what a dark course's last known states present); reset none -/
  known : Tab Rat := []
  /-- 1 bit; 06 R218 `trip_latched`; reset 0 -/
  latch : Bool := false
  /-- 8 bits; 06 R219 `gs_in`; reset 0 -/
  gsIn : Nat := 0
  /-- 4 bits; 06 R219 `gpio_in`; reset 0 -/
  gpioIn : Nat := 0
  /-- 8 bits; 06 R219 `gs_cause`; reset 0 -/
  gsCause : Nat := 0
  /-- 4 bits; 06 R219 `gpio_cause`; reset 0 -/
  gpioCause : Nat := 0
  /-- 1 bit; 06 R219 `iso_cause`; reset 0 -/
  isoCause : Bool := false
  /-- 1 bit; 06 R219 `cmd_cause`; reset 0 -/
  cmdCause : Bool := false
  /-- 1 bit; 06 R219 `freeze_cause`; reset 0 -/
  freezeCause : Bool := false
  /-- 64 bits; 06 R219 MD_TRIP_STAMP; reset 0 -/
  tripStamp : Nat := 0
  /-- 1 bit; 06 R212 (TRIP_RESET clears the latch at the end of the tick); reset 0 -/
  resetDue : Bool := false
  /-- 1 bit; 06 R221 `freeze_req`; reset 0 -/
  freezeReq : Bool := false
  /-- 1 bit; 06 R214 (debug halt in force); reset 0 -/
  halted : Bool := false
  /-- 1 bit; 06 R218 `frozen`, R221; reset 0 -/
  frozen : Bool := false
  /-- 1 bit; 06 R214 (the freeze takes effect at the next stage 6); reset 0 -/
  freezeDue : Bool := false
  /-- 1 bit; 06 R221 `freeze_denied`; reset 0 -/
  freezeDenied : Bool := false
  /-- 16 bits; 06 R221 `freeze_limit`; reset 0x0032 -/
  freezeLimit : Nat := 50
  /-- 26 bits; 06 R215 (ticks of the freeze run); reset 0 -/
  freezeTicks : Nat := 0
  /-- 1 bit; 06 R202, R218 (a stage 6 has run since reset: blocks have been commanded); reset 0 -/
  ran : Bool := false
  /-- 1 bit; 06 R218 `overdraw`; reset 0 -/
  overdraw : Bool := false
  /-- 1 bit; 06 R218 `off_target`; reset 0 -/
  offTarget : Bool := false
  /-- 1 bit; 06 R218 `entry_cap`; reset 0 -/
  entryCap : Bool := false
  /-- 1 bit; 06 R218 `course_fault`; reset 0 -/
  courseFault : Bool := false
  /-- piers whose plan misses the coming stage 6; 02 R79; reset none -/
  missPiers : List Nat := []
  /-- courses whose block misses the coming stage 6; 02 R79; reset none -/
  missCourses : List Nat := []
deriving DecidableEq, Repr

/-! ### Brick records (07) -/

/-- Record states (R223). -/
inductive RecState where
  | absent | joining | active | resting | bypassed | floated | quarantined | retired
deriving DecidableEq, Repr

/-- A brick record (R222). The default is an ABSENT position, delivered as 62 zero bytes and their CRC (R241). -/
structure Rec where
  /-- 3 bits; 07 R222 `state`; reset ABSENT -/
  state : RecState := .absent
  /-- 1 bit; 07 R222 `ocv_dir`; reset 0 -/
  ocvDir : Bool := false
  /-- 1 bit; 07 R222 `stale`; reset 0 -/
  stale : Bool := false
  /-- 1 bit; 07 R222 `conflict`; reset 0 -/
  conflict : Bool := false
  /-- 1 bit; 07 R222 `recal_due`; reset 0 -/
  recalDue : Bool := false
  /-- 1 bit; 07 R222 `sat`; reset 0 -/
  sat : Bool := false
  /-- 1 bit; 07 R222 `inserted`; reset 0 -/
  inserted : Bool := false
  /-- 1 bit; 07 R222 `trim`; reset 0 -/
  trim : Bool := false
  /-- 1 bit; 07 R222 `ocv_rest`; reset 0 -/
  ocvRest : Bool := false
  /-- 1 bit; 07 R222 `window`; reset 0 -/
  window : Bool := false
  /-- 16 bits; 07 R222 (serial check); reset 0 -/
  serialCheck : Nat := 0
  /-- signed 32 bits, mA·s; 07 R222 (counted charge); reset 0 -/
  counted : Int := 0
  /-- Q0.16; 07 R222 SOC_CC; reset 0 -/
  socCc : Nat := 0
  /-- Q0.16; 07 R222 SOC_OCV; reset 0 -/
  socOcv : Nat := 0
  /-- Q0.16; 07 R222 SOC_FUSED; reset 0 -/
  socFused : Nat := 0
  /-- 16-bit code; 07 R222 V_CELL; reset 0 -/
  vCell : Nat := 0
  /-- signed 1/16 code; 07 R222 V_RC1; reset 0 -/
  vRc1 : Int := 0
  /-- signed 1/16 code; 07 R222 V_RC2; reset 0 -/
  vRc2 : Int := 0
  /-- signed 1/128 °C; 07 R222 T_CORE_EST; reset 0 -/
  tCore : Int := 0
  /-- signed 1/128 °C; 07 R222 T_SURF; reset 0 -/
  tSurf : Int := 0
  /-- eight signed 16-bit values, real then imaginary, bins 0 to 3; 07 R222 Z_BIN; reset 0 -/
  zBin : List Int := [0, 0, 0, 0, 0, 0, 0, 0]
  /-- signed 8 bits; 07 R222 Z_EXP; reset 0 -/
  zExp : Int := 0
  /-- 8 bits; 07 R222 Z_COUNT; reset 0 -/
  zCount : Nat := 0
  /-- 16 bits µΩ; 07 R222 OHMIC_EST; reset 0 -/
  ohmic : Nat := 0
  /-- 32 bits, 0.01 Ah; 07 R222 AH_THRU; reset 0 -/
  ahThru : Nat := 0
  /-- 32 bits; 07 R222 SWITCH_COUNT; reset 0 -/
  switchCount : Nat := 0
  /-- 16 bits; 07 R222 RANK; reset 0 -/
  rank : Nat := 0
  /-- Q1.7; 07 R222 LIMIT charge; reset 0 -/
  limChg : Nat := 0
  /-- Q1.7; 07 R222 LIMIT discharge; reset 0 -/
  limDis : Nat := 0
  /-- 16 bits; 07 R222 LAST_TICK; reset 0 -/
  lastTick : Nat := 0
  /-- 16 bits; 07 R222 CONFLICT age; reset 0 -/
  conflictAge : Nat := 0
  /-- 1 bit, the model's own; 07 R223, R231 (the stored CRC does not match the content); reset 0 -/
  badCrc : Bool := false
deriving DecidableEq, Repr

/-- What one cycle has brought for a brick (R226, R229, R234, R236). -/
structure CycleAcc where
  /-- 48 bits; 07 R229 (cycle); reset 0 -/
  cycle : Nat := 0
  /-- 1 bit; 07 R226 (clean so far); reset 0 -/
  clean : Bool := false
  /-- 1 bit; 07 R226, R234 (the whole cycle in the present state so far); reset 0 -/
  whole : Bool := false
  /-- 1 bit; 07 R234 (the brick has conducted); reset 0 -/
  conducted : Bool := false
  /-- 1 bit; 07 R236 (an impedance pass completed); reset 0 -/
  zpass : Bool := false
  /-- 16 bits; 07 R229 (trusted updates); reset 0 -/
  trusted : Nat := 0
  /-- ps of the cycle once it has ended; 07 R235; reset 0 -/
  len : Nat := 0
deriving DecidableEq, Repr

/-- A record extension (R229) and the run counts the state rules name. -/
structure Ext where
  /-- signed Q20.12 mA·s; 07 R229 (charge accumulator); reset 0 -/
  acc : Int := 0
  /-- 16 bits; 07 R229 (throughput residue); reset 0 -/
  thru : Nat := 0
  /-- signed 16 bits mA·s; 07 R229 (cycle net charge); reset 0 -/
  net : Int := 0
  /-- 16 bits cycles; 07 R229, R234 (state timer); reset 0 -/
  timer : Nat := 0
  /-- 16 bits ticks; 07 R229 (stale run); reset 0 -/
  staleRun : Nat := 0
  /-- 8 bits; 07 R229 (switch residue); reset 0 -/
  switchRes : Nat := 0
  /-- 2 bits; 07 R229 (mismatch run); reset 0 -/
  mismatch : Nat := 0
  /-- 2 bits; 07 R229 (hard-limit run); reset 0 -/
  hard : Nat := 0
  /-- 1 bit; 07 R225 (the hard-limit run is above the upper limit); reset 0 -/
  hardHigh : Bool := false
  /-- 4 bits; 07 R229 (core-temperature run); reset 0 -/
  core : Nat := 0
  /-- 5 bits; 07 R236 (clean run of the conflict test, held at the boundary); reset 0 -/
  cleanRun : Nat := 0
  /-- 2 bits; 07 R225 cause 5 (consecutive T_SURF reports above the limit); reset 0 -/
  surf : Nat := 0
  /-- 3 bits; 07 R225 cause 6 (consecutive boundaries); reset 0 -/
  zRun : Nat := 0
  /-- 16 bits; 07 R225 cause 8 (dead-sample run); reset 0 -/
  dead : Nat := 0
  /-- 5 bits; 07 R224 (consecutive valid samples in JOINING); reset 0 -/
  joinRun : Nat := 0
  /-- 1 bit; 07 R224 (a valid T_SURF has been reported since JOINING began); reset 0 -/
  surfSeen : Bool := false
  /-- 1 bit; 07 R234 (a new record, not a restored one); reset 0 -/
  fresh : Bool := false
  /-- the present cycle's account; 07 R229; reset 0 -/
  cur : CycleAcc := {}
  /-- ended cycles whose work waits for the next update, oldest first; 07 R229; reset none -/
  closed : List CycleAcc := []
deriving DecidableEq, Repr

/-- A group record (R238). The default is the identity of each function with `stale` set (R43). -/
structure GroupRec where
  /-- 8 bits; 07 R238 (state mask); reset 0 -/
  mask : Nat := 0
  /-- 8 bits; 07 R238 (flags, `stale` set until first formed); reset 0x01 -/
  flags : Nat := 1
  /-- 16 bits; 07 R238 (members in conflict); reset 0 -/
  conflicts : Nat := 0
  /-- 32 bits; 07 R238 (available bricks); reset 0 -/
  avail : Nat := 0
  /-- Q0.16; 07 R238 (lowest *s*_dis); reset 0xFFFF -/
  loSdis : Nat := 0xFFFF
  /-- Q0.16; 07 R238 (highest *s*_chg); reset 0 -/
  hiSchg : Nat := 0
  /-- code; 07 R238 (highest V_CELL); reset 0 -/
  hiV : Nat := 0
  /-- code; 07 R238 (lowest V_CELL); reset 0xFFFF -/
  loV : Nat := 0xFFFF
  /-- signed 1/128 °C; 07 R238 (highest T_CORE_EST); reset 0x8000 -/
  hiCore : Int := -32768
  /-- signed 1/128 °C; 07 R238 (highest T_SURF); reset 0x8000 -/
  hiSurf : Int := -32768
  /-- µΩ; 07 R238 (lowest OHMIC_EST); reset 0xFFFF -/
  loOhm : Nat := 0xFFFF
  /-- µΩ; 07 R238 (highest OHMIC_EST); reset 0 -/
  hiOhm : Nat := 0
  /-- signed 1/128 °C; 07 R238 (lowest T_CORE_EST); reset 0x7FFF -/
  loCore : Int := 32767
  /-- signed 1/128 °C; 07 R238 (lowest T_SURF); reset 0x7FFF -/
  loSurf : Int := 32767
  /-- 32 bits; 07 R238 (sum of OHMIC_EST); reset 0 -/
  sumOhm : Nat := 0
  /-- 32 bits; 07 R238 (present bricks); reset 0 -/
  present : Nat := 0
  /-- 8 bits; 07 R238 (lowest Z_COUNT); reset 0xFF -/
  loZ : Nat := 0xFF
  /-- 32 bits; 07 R238 (highest AH_THRU); reset 0 -/
  hiAh : Nat := 0
  /-- 32 bits; 07 R238 (highest SWITCH_COUNT); reset 0 -/
  hiSw : Nat := 0
  /-- 16 bits; 07 R238 (bricks conducting as whole bricks); reset 0 -/
  conducting : Nat := 0
  /-- 8 bits; 07 R238 (LIMIT charge); reset 0xFF -/
  limChg : Nat := 0xFF
  /-- 8 bits; 07 R238 (LIMIT discharge); reset 0xFF -/
  limDis : Nat := 0xFF
  /-- 16 bits; 07 R238 (tick described); reset 0 -/
  tick : Nat := 0
  /-- 16 bits; 07 R238 (oldest CONFLICT age); reset 0 -/
  age : Nat := 0
deriving DecidableEq, Repr

/-- One brick's sample as stage 1 delivered it (R228, R278). -/
structure Sample where
  /-- optional 16-bit code; 07 R228, 09 R278 (none: missing); reset: none delivered -/
  code : Option Nat := none
  /-- optional switch state; 09 R276 (a STATE entry); reset: none delivered -/
  held : Option Held := none
  /-- 1 bit; 09 R276 (a FAULT entry); reset: none delivered -/
  fault : Bool := false
  /-- optional T_SURF report, none inside it where it is invalid; 09 R276; reset: none delivered -/
  surf : Option (Option Int) := none
deriving DecidableEq, Repr

/-- The records of the plant. -/
structure Records where
  /-- records by position index; 01 R31, 07 R222; reset ABSENT -/
  bricks : Tab Rec := []
  /-- extensions by position index; 07 R229; reset 0 -/
  ext : Tab Ext := []
  /-- mirror copies by position index; 01 R31, 10 R310; reset ABSENT -/
  mirror : Tab Rec := []
  /-- positions admitted and not yet in the mirror; 10 R321; reset none -/
  mirrorStale : List Nat := []
  /-- optional two keys (discharge, charge) by position index; 06 R188, R189; reset none -/
  keys : Tab (Option (Nat × Nat)) := []
  /-- course records by course index; 07 R238; reset identity, stale -/
  courses : Tab GroupRec := []
  /-- pier records by bay × 3 + pier; 07 R238; reset identity, stale -/
  piers : Tab GroupRec := []
  /-- bay records; 07 R238; reset identity, stale -/
  bays : Tab GroupRec := []
  /-- plant record; 07 R238; reset identity, stale -/
  plant : GroupRec := {}
  /-- snapshot: records by position index; 02 R77; reset ABSENT -/
  snapBricks : Tab Rec := []
  /-- snapshot: keys by position index; 02 R77; reset none -/
  snapKeys : Tab (Option (Nat × Nat)) := []
  /-- snapshot: course records; 02 R77; reset identity, stale -/
  snapCourses : Tab GroupRec := []
  /-- snapshot: pier records; 02 R77; reset identity, stale -/
  snapPiers : Tab GroupRec := []
  /-- snapshot: bay records; 02 R77; reset identity, stale -/
  snapBays : Tab GroupRec := []
  /-- snapshot: plant record; 02 R77; reset identity, stale -/
  snapPlant : GroupRec := {}
  /-- course indices; 02 R77, 09 R287 (courses dark when the snapshot was frozen); reset none -/
  snapDark : List Nat := []
  /-- 58 bits; 07 R240, R241 (absolute tick of the snapshot); reset DESIGN CHOICE 0 (log 2) -/
  snapTick : Nat := 0
  /-- µΩ by pier, 0 undefined; 06 R188 *Z*_med; reset DESIGN CHOICE 0 (log 2) -/
  zMed : Tab Nat := []
  /-- samples of stage 1 of the present tick by position index; 07 R228; reset none -/
  samples : Tab Sample := []
  /-- courses whose samples of the present tick were delivered; 07 R228; reset none -/
  delivered : List Nat := []
  /-- positions made unavailable in the present tick; 02 R77; reset none -/
  leaving : List Nat := []
  /-- positions to be marked for recalibration, with the tick of execution; 07 R242; reset none -/
  recalReq : List (Nat × Nat) := []
  /-- positions to be released, with the tick of execution; 07 R243; reset none -/
  releaseReq : List (Nat × Nat) := []
  /-- 32 bits per tile; 07 R231 (record repairs); reset 0 -/
  repairs : Tab Nat := []
  /-- 32 bits per pier; 07 R232 (ticks estimated); reset 0 -/
  estimated : Tab Nat := []
  /-- positions not reached by the coming stage-2 deadline; 02 R79; reset none -/
  missNext : List Nat := []
deriving DecidableEq, Repr

/-! ### Impedance and load models (08) -/

/-- The accumulators of one brick under pass (R247). -/
structure BrickPass where
  /-- optional code; 08 R247 *v*_ref; reset none -/
  vref : Option Nat := none
  /-- four real parts, code × Q1.15; 08 R247 *v*_acc; reset 0 -/
  vRe : List Int := [0, 0, 0, 0]
  /-- four imaginary parts, code × Q1.15; 08 R247 *v*_acc; reset 0 -/
  vIm : List Int := [0, 0, 0, 0]
  /-- four real parts, pu × 2²³ × Q1.15; 08 R247 *i*_acc; reset 0 -/
  iRe : List Rat := [0, 0, 0, 0]
  /-- four imaginary parts, pu × 2²³ × Q1.15; 08 R247 *i*_acc; reset 0 -/
  iIm : List Rat := [0, 0, 0, 0]
  /-- 17 bits; 08 R247 *pairs*; reset 0 -/
  pairs : Nat := 0
  /-- 17 bits; 08 R247 *missed*; reset 0 -/
  missed : Nat := 0
  /-- 1 bit; 08 R247 (takes part: set at the window's first pair); reset 0 -/
  part : Bool := false
deriving DecidableEq, Repr

/-- One pass over a pier (R246). -/
structure Pass where
  /-- destination number; 08 R246; reset: no pass -/
  pier : Nat
  /-- 48 bits; 08 R246 *c* (first cycle); reset: no pass -/
  cycle : Nat
  /-- 8 bits; 08 R246 *P*; reset: no pass -/
  len : Nat
  /-- 1 bit; 08 R268 `requested`; reset: no pass -/
  requested : Bool
  /-- periods of 0.625 ns over the window; 08 R254 (mean tick frequency); reset: no pass -/
  periods : Nat
  /-- by position index; 08 R247; reset: no pass -/
  parts : Tab BrickPass
deriving DecidableEq, Repr

/-- An ended pass of one brick that waits for the brick's next update (R249). -/
structure LatePass where
  /-- 08 R247 (accumulators); reset: none -/
  part : BrickPass
  /-- 8 bits; 08 R246 *P*; reset: none -/
  len : Nat
  /-- periods of 0.625 ns over the window; 08 R254; reset: none -/
  periods : Nat
deriving DecidableEq, Repr

/-- One pass slot (R246, R268). -/
structure PassSlot where
  /-- optional pass; 08 R268 `busy`, `pier`, `requested`, `elapsed`; reset none -/
  run : Option Pass := none
  /-- optional pass ending in ticks 0 and 1 of the new cycle; 08 R246; reset none -/
  ending : Option Pass := none
deriving DecidableEq, Repr

/-- One tile's pass control. -/
structure TilePass where
  /-- up to 4 piers, oldest first; 08 R246 (requests); reset empty -/
  requests : List Nat := []
  /-- destination number; 08 R246 (the pier next in ascending order, counted in the tile); reset 0 -/
  next : Nat := 0
  /-- 32 bits; 08 R246 (dropped requests); reset 0 -/
  dropped : Nat := 0
  /-- 32 bits; 08 R249 (void passes); reset 0 -/
  voids : Nat := 0
deriving DecidableEq, Repr

/-- A grid impedance measurement (R255). -/
structure GridZRun where
  /-- 1 bit; 08 R256 (0 PT6, 1 PT7); reset: none -/
  gen : Nat
  /-- 2 bits; 08 R256 (pair); reset: none -/
  pair : Nat
  /-- 16 bits; 08 R256 *P*_g; reset: none -/
  cycles : Nat
  /-- 48 bits; 08 R256 `cycle`; reset: none -/
  cycle : Nat
  /-- 32 bits; 08 R256 *F*; reset: none -/
  freqWord : Nat
  /-- 32 bits; 08 R256 `generation`; reset: none -/
  generation : Nat
  /-- mV × Q1.30; 08 R255 *V*_ab real; reset: none -/
  vRe : Int
  /-- mV × Q1.30; 08 R255 *V*_ab imaginary; reset: none -/
  vIm : Int
  /-- mA × Q1.30; 08 R255 *I*_a real; reset: none -/
  iRe : Int
  /-- mA × Q1.30; 08 R255 *I*_a imaginary; reset: none -/
  iIm : Int
  /-- 20 bits; 08 R255 (ticks summed); reset: none -/
  ticks : Nat
  /-- 1 bit; 08 R256 tags [4]; reset: none -/
  invalid : Bool
  /-- 1 bit; 08 R256 tags [5]; reset: none -/
  frozen : Bool
  /-- 1 bit; 08 R256 tags [6]; reset: none -/
  slewing : Bool
deriving DecidableEq, Repr

/-- A grid impedance result (R256). -/
structure GridZResult where
  /-- 48 bits; 08 R256 `cycle`; reset: none -/
  cycle : Nat
  /-- 16 bits; 08 R256 `tags`; reset: none -/
  tags : Nat
  /-- 32 bits; 08 R256 `freq_word`; reset: none -/
  freqWord : Nat
  /-- 16 bits; 08 R256 `cycles`; reset: none -/
  cycles : Nat
  /-- signed µΩ; 08 R256 `z_re`; reset: none -/
  zRe : Int
  /-- signed µΩ; 08 R256 `z_im`; reset: none -/
  zIm : Int
  /-- mA; 08 R256 `excitation`; reset: none -/
  excitation : Nat
  /-- 32 bits; 08 R256 `generation`; reset: none -/
  generation : Nat
deriving DecidableEq, Repr

/-- Brick and grid impedance. -/
structure Impedance where
  /-- 24 slots by tile × 2 + slot; 08 R246, R268; reset idle -/
  slots : Tab PassSlot := []
  /-- tiles; 08 R246; reset 0 -/
  tiles : Tab TilePass := []
  /-- optional, by position index; 08 R249 (ended passes waiting for the brick's next update); reset none -/
  late : Tab (Option LatePass) := []
  /-- 32 bits; 08 R267 UR_Z_PASSES; reset 0 -/
  passes : Nat := 0
  /-- 1 bit; 08 R267 `t_clip`; reset 0 -/
  tClip : Bool := false
  /-- 1 bit; 08 R267 `offset_clip`; reset 0 -/
  offsetClip : Bool := false
  /-- 1 bit; 08 R267 `freq_skip`; reset 0 -/
  freqSkip : Bool := false
  /-- 1 bit; 08 R267 `void_pass`; reset 0 -/
  voidPass : Bool := false
  /-- 32 bits; 08 R254 (table clips counted); reset 0 -/
  tableClips : Nat := 0
  /-- 32 bits; 08 R254 (offset clips counted); reset 0 -/
  offsetClips : Nat := 0
  /-- optional (generator, pair, cycles); 08 R255 (accepted, starting at the next boundary); reset none -/
  gridPend : Option (Nat × Nat × Nat) := none
  /-- optional; 08 R255, R269 `gridz_busy`; reset none -/
  grid : Option GridZRun := none
  /-- up to 8 results, newest first; 08 R256; reset empty -/
  gridResults : List GridZResult := []
  /-- 1 bit; 08 R269 `gridz_done`; reset 0 -/
  gridDone : Bool := false
deriving DecidableEq, Repr

/-- A load-diagnosis result (R264). -/
structure DiagResult where
  /-- 48 bits; 15 R438 `closed`; reset 0 -/
  closed : Nat := 0
  /-- 16 bits; 15 R438 `used`; reset 0 -/
  used : Nat := 0
  /-- nH; 08 R264, 15 R438 `l`; reset 0 -/
  l : Nat := 0
  /-- µΩ; 08 R264, 15 R438 `r`; reset 0 -/
  r : Nat := 0
  /-- µΩ at 75 °C; 08 R264, 15 R438 `r75`; reset 0 -/
  r75 : Nat := 0
  /-- signed 0.01 %; 08 R264 (resistance drift); reset 0 -/
  dr : Int := 0
  /-- signed 0.01 %; 08 R264 (inductance drift); reset 0 -/
  dl : Int := 0
  /-- 1 bit; 08 R263 insufficient; reset DESIGN CHOICE 1, no window has closed (log 2) -/
  insufficient : Bool := true
  /-- 1 bit; 08 R264 drift; reset 0 -/
  drift : Bool := false
deriving DecidableEq, Repr

/-- The load models of one pier. -/
structure PierLoad where
  /-- °C, 40 fractional bits; 08 R258 *d*₁ (at its rated value after reset, R262); reset 15 -/
  d1 : Int := 16492674416640
  /-- °C, 40 fractional bits; 08 R258 *d*₂ (at its rated value after reset, R262); reset 65 -/
  d2 : Int := 71468255805440
  /-- Q4.44 sum; 08 R258 (squared pier currents of the cycle); reset 0 -/
  sqSum : Nat := 0
  /-- 10 bits; 08 R258 (currents summed); reset 0 -/
  sqTicks : Nat := 0
  /-- pu, 60 fractional bits; 08 R260 *Φ*; reset 0 (R262) -/
  phi : Int := 0
  /-- pu, 60 fractional bits; 08 R260 *ψ*; reset 0 (R262) -/
  psi : Int := 0
  /-- up to 800 values, newest first; 08 R261; reset empty -/
  psiHist : List Int := []
  /-- Q2.22; 08 R261 (flux peak); reset 0 -/
  peak : Int := 0
  /-- Q2.22; 08 R261 *b*_p; reset 0 -/
  bias : Int := 0
  /-- 1 bit; 08 R261 (the model does not integrate the pier); reset DESIGN CHOICE 1 (log 2) -/
  hold : Bool := true
  /-- five Q20.44 sums of the cycle; 08 R263 (xx, xz, zz, xy, zy); reset 0 -/
  cycSums : List Int := [0, 0, 0, 0, 0]
  /-- 1 bit; 08 R263 (a plumb declaration or suspension touched the pier in the cycle); reset 0 -/
  touched : Bool := false
  /-- 1 bit; 08 R263 (the cycle in progress belongs to a window that a swap has discarded); reset 0 -/
  skip : Bool := false
  /-- five Q20.44 sums of the window; 08 R263; reset 0 -/
  winSums : List Int := [0, 0, 0, 0, 0]
  /-- 16 bits; 08 R263 (cycles added); reset 0 -/
  used : Nat := 0
  /-- 16 bits; 08 R263 (cycles of the window run); reset 0 -/
  cycles : Nat := 0
  /-- °C, 40 fractional bits; 08 R264 (sum of *θ*_amb + *d*₂ over the window); reset 0 -/
  thetaSum : Int := 0
  /-- result; 08 R264; reset insufficient -/
  result : DiagResult := {}
  /-- optional (nH, µΩ at 75 °C); 08 R264 (latest sufficient result); reset none -/
  lastGood : Option (Nat × Nat) := none
  /-- optional (nH, µΩ at 75 °C); 08 R264 (baseline); reset none -/
  baseline : Option (Nat × Nat) := none
deriving DecidableEq, Repr

/-- The load models of one bay. -/
structure BayLoad where
  /-- °C, 40 fractional bits; 08 R259 *do* (at its rated value after reset, R262); reset 52 -/
  oil : Int := 57174604644352
  /-- °C, 40 fractional bits; 08 R259 *dh1* (at its rated value, k21 × 26); reset 52 -/
  dh1 : Int := 57174604644352
  /-- °C, 40 fractional bits; 08 R259 *dh2* (at its rated value, (k21 - 1) × 26); reset 26 -/
  dh2 : Int := 28587302322176
  /-- minutes, 40 fractional bits; 08 R259 (loss of life); reset 0 -/
  life : Nat := 0
  /-- 1 bit; 08 R259, R269 `xfmr_hs_warn`; reset 0 -/
  hsWarn : Bool := false
  /-- 1 bit; 08 R259, R269 `xfmr_oil_warn`; reset 0 -/
  oilWarn : Bool := false
  /-- optional signed 1/128 °C; 08 R257 (the bay's own ambient); reset none -/
  ambient : Option Int := none
  /-- optional; 08 R257 (a value taking effect at the next boundary); reset none -/
  ambNext : Option Int := none
  /-- ps since the latest set reached the bay; 08 R257; reset DESIGN CHOICE 0 (log 2) -/
  ambAge : Nat := 0
  /-- 1 bit; 08 R257 (fallback ambient in force); reset 1 -/
  fallback : Bool := true
deriving DecidableEq, Repr

/-- The load models. -/
structure Loads where
  /-- piers; 08 R258; reset as fields -/
  piers : Tab PierLoad := []
  /-- bays; 08 R259; reset as fields -/
  bays : Tab BayLoad := []
  /-- optional signed 1/128 °C; 08 R257 (plant ambient); reset none -/
  ambient : Option Int := none
  /-- optional; 08 R257 (a plant value taking effect at the next boundary); reset none -/
  ambNext : Option Int := none
  /-- 1 bit; 08 R269 `amb_fallback_seen`; reset 0 -/
  fallbackSeen : Bool := false
  /-- 1 bit; 08 R269 `diag_drift`; reset 0 -/
  diagDrift : Bool := false
deriving DecidableEq, Repr

/-! ### Bay links and partners (09) -/

/-- A brick's decode reference (R278). -/
structure DecRef where
  /-- 16 bits; 09 R278 (code); reset 0 -/
  code : Nat := 0
  /-- 58 bits; 09 R278 (tick); reset 0 -/
  tick : Nat := 0
  /-- 1 bit; 09 R278 (known); reset 0 -/
  known : Bool := false
deriving DecidableEq, Repr

/-- Where a course stands in its admission and service (R292, R289, R296). -/
inductive CoursePhase where
  /-- not admitted -/
  | out
  /-- in service -/
  | service
  /-- in service, withdrawn: treated as dark until the WITHDRAW message goes out -/
  | withdrawn
deriving DecidableEq, Repr

/-- One course position. -/
structure Course where
  /-- phase; 09 R292; reset out of service -/
  phase : CoursePhase := .out
  /-- 1 bit; 09 R292, R299 `adm_busy` (ACCEPT has been sent; SERIALS are awaited); reset 0 -/
  hand : Bool := false
  /-- 64 bits; 09 R291 (course serial); reset 0 -/
  serial : Nat := 0
  /-- 64 bits; 09 R298 (course serial of the latest JOIN, admitted or not); reset 0 -/
  offer : Nat := 0
  /-- 8 bits; 09 R291 (type code admitted or offered); reset 0 -/
  ctype : Nat := 0
  /-- 8 bits; 09 R291 (firmware); reset 0 -/
  fw : Nat := 0
  /-- 16 bits; 09 R291 (calibration CRC offered); reset 0 -/
  cal : Nat := 0
  /-- up to four lists of 24 serials; 09 R292 (SERIALS parts received, in order); reset empty -/
  parts : List (List Nat) := []
  /-- up to 96 optional codes; 09 R294 (brick voltages that come beside SERIALS); reset empty -/
  codes : List (Option Nat) := []
  /-- 58 bits; 09 R292 (tick of the latest SERIALS part, or of the ACCEPT); reset 0 -/
  partTick : Nat := 0
  /-- 56 bits; 09 R276 (the slow item taken last: cycle × 100 + item + 1); reset 0 -/
  slowKey : Nat := 0
  /-- 1 bit; 09 R295 (listed as pending); reset 0 -/
  pending : Bool := false
  /-- 4 bits; 09 R291, 15 R439 (reason of the latest REFUSE, 0 none); reset 0 -/
  reason : Nat := 0
  /-- optional 6 bits; 09 R293 (WAIT slot); reset none -/
  slot : Option Nat := none
  /-- 2 bits, saturating; 09 R287 (consecutive sample ticks missing in accepted frames); reset 0 -/
  missing : Nat := 0
  /-- 1 bit; 09 R287 (dark); reset 0 -/
  dark : Bool := false
  /-- ticks since darkness was declared; 09 R287, R289; reset 0 -/
  darkTicks : Nat := 0
  /-- 58 bits; 09 R296 (the tick before the first stage 2 that treats the withdrawn course as dark); reset 0 -/
  withdrawTick : Nat := 0
  /-- boundaries seen since the withdrawal; 09 R296; reset 0 -/
  withdrawCycles : Nat := 0
  /-- 1 bit; 09 R295 (a type event has been raised for a type code that differs); reset 0 -/
  typeRaised : Bool := false
  /-- 1 bit; 09 R275 (`fallback`); reset 0 -/
  fallback : Bool := false
  /-- signed 1/128 °C; 09 R276 (course node temperature); reset 0 -/
  nodeTemp : Int := 0
  /-- mV; 09 R276 (course node supply); reset 0 -/
  nodeSupply : Nat := 0
  /-- 16 bits; 09 R276 (course node firmware revision); reset 0 -/
  nodeFw : Nat := 0
  /-- (serial, calibration CRC), newest first; 09 R294 (course serials known at the position, with what their latest admission recorded); reset none -/
  known : List (Nat × Nat) := []
  /-- 1 bit; 09 R294 (its calibration differed at the admission: records built later get `recal_due`); reset 0 -/
  marked : Bool := false
  /-- optional ps; 09 R290 (recovery window left); reset none -/
  recovery : Option Nat := none
  /-- 1 bit; 09 R290 (a recovery window opens at the next boundary); reset 0 -/
  recoveryDue : Bool := false
deriving DecidableEq, Repr

/-- A hub as admitted (R271, R291). -/
structure Hub where
  /-- 64 bits; 09 R291 (hub serial); reset: none admitted -/
  serial : Nat
  /-- 8 bits; 09 R291 (firmware); reset: none admitted -/
  fw : Nat
  /-- 64 bits; 09 R291 (twin hub serial); reset: none admitted -/
  twin : Nat
  /-- 16 bits, 0.625 ns; 09 R291 (turnaround); reset: none admitted -/
  turnaround : Nat
deriving DecidableEq, Repr

/-- A management message the device sends (R291). -/
structure MgmtOut where
  /-- 8 bits; 09 R291 (type 0x20 to 0x24); reset: none -/
  kind : Nat
  /-- 16 bits; 09 R291 (position: pier × 128 + course); reset: none -/
  pos : Nat
  /-- bytes; 09 R291 (payload); reset: none -/
  payload : List Nat
deriving DecidableEq, Repr

/-- A bay's downstream frame but for its blocks, which are `Modulator.blocks` (R280). -/
structure DownFrame where
  /-- 16 bits; 09 R280 `d_flags`; reset: none sent -/
  flags : Nat
  /-- 58 bits; 09 R280 `apply_tick`; reset: none sent -/
  applyTick : Nat
  /-- 16 bits; 09 R280 `up_ack`; reset: none sent -/
  upAck : Nat
  /-- 16 bits; 09 R280 `lane_delay`; reset: none sent -/
  laneDelay : Nat
  /-- messages; 09 R280 `mgmt`; reset: none sent -/
  mgmt : List MgmtOut
deriving DecidableEq, Repr

/-- The link state of one bay. -/
structure BayLink where
  /-- 1 bit; 09 R271 (the lane is trained); reset 0 -/
  trained : Bool := false
  /-- up to 800 round trips in 0.625 ns units, newest first; 09 R272; reset empty -/
  trips : List Nat := []
  /-- 16 bits; 09 R272 (marker sent last: bits [15:0] of the tick about to begin); reset 0 -/
  marker : Nat := 0
  /-- optional hub; 09 R271; reset none -/
  hub : Option Hub := none
  /-- 4 bits; 09 R271, R291 (reason of the latest refusal of the hub, 0 none); reset 0 -/
  hubReason : Nat := 0
  /-- 1 bit; 09 R297, R300 (a frame was accepted in the latest tick); reset 0 -/
  accepted : Bool := false
  /-- 1 bit; 09 R300 (that frame came on the bay's own lane); reset 0 -/
  own : Bool := false
  /-- 58 bits; 09 R280 (sample tick of the latest accepted frame); reset 0 -/
  upTick : Nat := 0
  /-- 4 bits, saturating; 09 R284 (consecutive ticks without an accepted frame); reset 0 -/
  missed : Nat := 0
  /-- 1 bit; 09 R300 LK_LOST_BAY; reset 0 -/
  lost : Bool := false
  /-- 1 bit; 09 R284 (`release` is set); reset 0 -/
  release : Bool := false
  /-- 1 bit; 09 R300 LK_DETOUR_BAY; reset 0 -/
  detour : Bool := false
  /-- 1 bit; 09 R274 `brk_closed`; reset 0 -/
  brkClosed : Bool := false
  /-- 1 bit; 09 R274 `brk_valid`; reset 0 -/
  brkValid : Bool := false
  /-- 1 bit; 09 R274 `energize_in`; reset 0 -/
  energizeIn : Bool := false
  /-- 1 bit; 09 R274 `energize_out`; reset 0 -/
  energizeOut : Bool := false
  /-- 1 bit; 09 R274 `xlink_up`; reset 0 -/
  xlinkUp : Bool := false
  /-- 1 bit; 09 R299 (a frame has reported the crosslink down); reset 0 -/
  xlinkDown : Bool := false
  /-- 1 bit; 09 R274 `hold`; reset 0 -/
  hubHold : Bool := false
  /-- 1 bit; 09 R274 `floated`; reset 0 -/
  hubFloated : Bool := false
  /-- 3 bits; 09 R274 `ring_split`; reset 0 -/
  ringSplit : Nat := 0
  /-- 3 bits; 09 R274 `ring_fail`; reset 0 -/
  ringFail : Nat := 0
  /-- (from A, from B) per pier; 09 R286, 15 R439; reset 0xFF -/
  breaks : List (Nat × Nat) := [(255, 255), (255, 255), (255, 255)]
  /-- signed 1/128 °C; 09 R274 `hub_temp`; reset 0 -/
  hubTemp : Int := 0
  /-- 16 bits; 09 R274 `dn_ack`; reset 0 -/
  dnAck : Nat := 0
  /-- 1 bit; 09 R290 (start-up window); reset 0 -/
  startup : Bool := false
  /-- optional ps left; 09 R290 (test window); reset none -/
  test : Option Nat := none
  /-- optional ps left; 09 R290 (maintenance window); reset none -/
  maint : Option Nat := none
  /-- optional seconds; 09 R290 (a test window opens at the next boundary); reset none -/
  openTest : Option Nat := none
  /-- optional seconds; 09 R290 (a maintenance window opens at the next boundary); reset none -/
  openMaint : Option Nat := none
  /-- 1 bit; 09 R290 (windows close at the next boundary); reset 0 -/
  closeDue : Bool := false
  /-- 5 bits; 09 R293 (handshakes accepted in the cycle); reset 0 -/
  accepts : Nat := 0
  /-- 32 bits; 09 R298 (missed frames); reset 0 -/
  nMissed : Nat := 0
  /-- 32 bits; 09 R298 (discarded frames); reset 0 -/
  nDiscarded : Nat := 0
  /-- 32 bits; 09 R298 (detours); reset 0 -/
  nDetours : Nat := 0
  /-- 32 bits; 09 R298 (escape overflows); reset 0 -/
  nEscapes : Nat := 0
  /-- 32 bits; 09 R298 (misrouted items); reset 0 -/
  nMisrouted : Nat := 0
  /-- 32 bits; 09 R298 (ring breaks); reset 0 -/
  nBreaks : Nat := 0
  /-- 32 bits; 09 R298 (dark courses); reset 0 -/
  nDark : Nat := 0
  /-- 32 bits; 09 R298 (refusals); reset 0 -/
  nRefused : Nat := 0
  /-- 32 bits; 09 R291 (messages discarded); reset 0 -/
  nMgmt : Nat := 0
  /-- messages; 09 R291 (waiting to be sent, oldest first); reset empty -/
  outQ : List MgmtOut := []
  /-- optional; 09 R280 (latest downstream frame but for its blocks); reset none -/
  down : Option DownFrame := none
  /-- up to two frames of 6,180 to 6,436 bytes; 09 R280, R281 (what the bay's lane carried in the latest stage 6: its own frame, then its twin's copy); reset none -/
  sent : List (List Nat) := []
deriving DecidableEq, Repr

/-- The bay links. -/
structure Links where
  /-- bays; 09 R270; reset lanes down -/
  bays : Tab BayLink := []
  /-- courses by course index bay × 384 + pier × 128 + course; 09 R292; reset out of service -/
  courses : Tab Course := []
  /-- decode references by position index; 09 R278; reset unknown -/
  refs : Tab DecRef := []
  /-- 64 bits by position index, 0 none; 01 R33, 09 R294 (brick serial bound to the position); reset none -/
  bound : Tab Nat := []
  /-- frames by bay, empty none; 09 R282 (a detoured frame of the tick, taken where its bay's own lane brings none by the stage-1 deadline); reset none -/
  held : Tab (List Nat) := []
  /-- units of stage 1 that miss the coming stage 2: pier currents of bays 0 to 143, samples of courses from 144; 02 R79; reset none -/
  missNext : List Nat := []
  /-- 1 bit; 09 R299 `misrouted`; reset 0 -/
  misrouted : Bool := false
  /-- 1 bit; 09 R299 `esc_overflow`; reset 0 -/
  escOverflow : Bool := false
  /-- 1 bit; 09 R299 `link_float`; reset 0 -/
  linkFloat : Bool := false
deriving DecidableEq, Repr

/-! ### Host slots, protocol and events (14, 15) -/

/-- An event record (R414). -/
structure EvRec where
  /-- 32 bits; 14 R414 `ev_seq`; reset 0 -/
  seq : Nat := 0
  /-- 16 bits; 14 R414 `code`; reset 0 -/
  code : Nat := 0
  /-- 16 bits; 14 R414 `repeat`; reset 0 -/
  rep : Nat := 0
  /-- 58 bits; 14 R414 `abs_tick`; reset 0 -/
  tick : Nat := 0
  /-- 64 bits; 14 R414 `stamp`; reset 0 -/
  stamp : Nat := 0
  /-- 32 bits; 14 R414 `unit`; reset 0 -/
  unit : Nat := 0
  /-- 32 bits; 14 R414 `detail`; reset 0 -/
  detail : Nat := 0
deriving DecidableEq, Repr

/-- One reply packet (R394). -/
structure Reply where
  /-- 16 bits; 14 R394 `opcode`; reset: no reply -/
  opcode : Nat
  /-- 16 bits; 14 R394 `tag`; reset: no reply -/
  tag : Nat
  /-- 16 bits; 14 R394 `status`; reset: no reply -/
  status : Nat
  /-- 32 bits; 14 R394, R401 `sequence` (device sequence); reset: no reply -/
  seq : Nat
  /-- 32 bits; 14 R394 `rights_gen`; reset: no reply -/
  gen : Nat
  /-- 16 bits; 14 R394 `qualifier`; reset: no reply -/
  qualifier : Nat
  /-- 32 bits; 14 R394 `retry_after`; reset: no reply -/
  retryAfter : Nat
  /-- 32 bits; 14 R394 `tick`; reset: no reply -/
  tick : Nat
  /-- bytes; 14 R394 (parameters); reset: no reply -/
  params : List Nat
  /-- 1 bit; 14 R395 (the packet carries a trailer); reset: no reply -/
  auth : Bool
deriving DecidableEq, Repr

/-- What a reply answers: an accepted command (its own reply), a command refused at a step of R407, or a tag asked for again (a copy, R443). -/
inductive ReplyUse where | answer | refusal | copy
deriving DecidableEq, Repr

/-- A reply that waits for a free entry of the reply ring (R404, log 75). -/
structure HeldReply where
  /-- packet fields; 14 R394; reset: no reply -/
  reply : Reply
  /-- 16 bytes; 14 R395 (the key its trailer is under); reset: no reply -/
  key : List Nat
  /-- enumeration; 14 R396, R413 (whose reply it is); reset: no reply -/
  use : ReplyUse
deriving DecidableEq, Repr

/-- A command accepted and waiting (R410). -/
structure Queued where
  /-- command; 14 R408; reset: queue empty -/
  cmd : Instr
  /-- 5 bits; 14 R409 (cost in units); reset: queue empty -/
  cost : Nat
  /-- 16 bits; 14 R396 (tag); reset: queue empty -/
  tag : Nat
  /-- windows; 14 R409 (in which it suspends before its work ends); reset: queue empty -/
  left : Nat
deriving DecidableEq, Repr

/-- The ring fields of one slot, staged or in force (R418). -/
structure Rings where
  /-- 64 bits, 64-byte aligned; 14 R418 CMD_BASE; reset 0 -/
  cmdBase : Nat := 0
  /-- 64 bits; 14 R418 RPL_BASE; reset 0 -/
  rplBase : Nat := 0
  /-- 64 bits; 14 R418 EVQ_BASE; reset 0 -/
  evqBase : Nat := 0
  /-- 64 bits; 14 R418 WB; reset 0 -/
  wb : Nat := 0
  /-- 4 bits; 14 R418 `cmd_order`; reset 1 -/
  cmdOrder : Nat := 1
  /-- 4 bits; 14 R418 `rpl_order`; reset 1 -/
  rplOrder : Nat := 1
  /-- 4 bits; 14 R418 `evq_order`; reset 4 -/
  evqOrder : Nat := 4
  /-- 1 bit; 14 R418 `rings_valid`; reset 0 -/
  valid : Bool := false
deriving DecidableEq, Repr

/-- How a slot is open (R418 `state`). -/
inductive SlotPhase where
  | closed | pcie | udp
deriving DecidableEq, Repr

/-- One host slot (R394 to R418). -/
structure Slot where
  /-- 2 bits; 14 R418 `state`; reset closed -/
  phase : SlotPhase := .closed
  /-- 8 bits; 14 R418 `rights`; reset 0 -/
  rights : Nat := 0
  /-- 32 bits; 14 R400 (rights generation); reset 0 -/
  gen : Nat := 0
  /-- bytes; 14 R398 (slot key); reset DESIGN CHOICE empty (log 2) -/
  key : List Nat := []
  /-- 64 bits ns; 14 R397 `g_not_after`; reset DESIGN CHOICE 0 (log 2) -/
  notAfter : Nat := 0
  /-- 1 bit; 14 R400 (the session rests on a grant that has not expired); reset DESIGN CHOICE 0 (log 2) -/
  granted : Bool := false
  /-- address × 65,536 + port; 14 R406 (UDP binding); reset DESIGN CHOICE 0 (log 2) -/
  peer : Nat := 0
  /-- 32 bits; 14 R401 (highest host sequence accepted); reset DESIGN CHOICE 0 (log 2) -/
  hiSeq : Nat := 0
  /-- up to 64 sequences; 14 R401 (replay window); reset empty -/
  window : List Nat := []
  /-- 32 bits; 14 R401 (next device sequence); reset DESIGN CHOICE 1 (log 2) -/
  devSeq : Nat := 1
  /-- up to 64 commands; 14 R410 (queue); reset empty -/
  queue : List Queued := []
  /-- 8 bits; 14 R411 (deficit); reset DESIGN CHOICE 0 (log 2) -/
  deficit : Nat := 0
  /-- tokens × 10^12; 14 R409 (token bucket), R418 `tokens`; reset 0 -/
  bucket : Nat := 0
  /-- ps since the latest accepted command; 14 R412; reset DESIGN CHOICE 0 (log 2) -/
  idle : Nat := 0
  /-- ring fields in force; 14 R418; reset as their fields -/
  rings : Rings := {}
  /-- staged ring fields; 14 R403, R418; reset as the fields in force -/
  staged : Rings := {}
  /-- 32 bits; 14 R418 CMD_PROD; reset 0 -/
  cmdProd : Nat := 0
  /-- 32 bits; 14 R402 (command consumer index, write-back offset 0); reset DESIGN CHOICE 0 (log 2) -/
  cmdCons : Nat := 0
  /-- 4,096-byte entries, oldest first; 14 R413 (announced entries that no keystone has taken yet); reset empty -/
  ringWait : List (List Nat) := []
  /-- 32 bits; 14 R402 (reply producer index, write-back offset 4); reset DESIGN CHOICE 0 (log 2) -/
  rplProd : Nat := 0
  /-- 32 bits; 14 R418 RPL_CONS; reset 0 -/
  rplCons : Nat := 0
  /-- 32 bits; 14 R402 (event producer index, write-back offset 8); reset DESIGN CHOICE 0 (log 2) -/
  evqProd : Nat := 0
  /-- 32 bits; 14 R418 EVQ_CONS; reset 0 -/
  evqCons : Nat := 0
  /-- by tag: the latest reply with that tag; 14 R406, R443; reset empty -/
  replies : Tab (Option Reply) := []
  /-- optional reply; 14 R394 (the latest packet written); reset none -/
  lastReply : Option Reply := none
  /-- bytes, trailer included; 14 R394, R395 (the latest packet sent on the slot, a reply, or an event over UDP); reset none sent -/
  sent : List Nat := []
  /-- replies, oldest first; 14 R404 (they wait for a free entry of the reply ring); reset none -/
  held : List HeldReply := []
  /-- 16 bits; 14 R415 (event mask); reset DESIGN CHOICE 0 (log 2) -/
  mask : Nat := 0
  /-- 32 bits; 14 R414 (next `ev_seq`); reset DESIGN CHOICE 1 (log 2) -/
  evSeq : Nat := 1
  /-- up to 1,024 records, newest first; 14 R415; reset empty -/
  events : List EvRec := []
  /-- 32 bits; 14 R404 (events dropped, ring full); reset DESIGN CHOICE 0 (log 2) -/
  dropped : Nat := 0
  /-- 32 bits; 14 R418 REFUSED; reset 0 -/
  refused : Nat := 0
  /-- 32 bits; 14 R418 AUTH_FAIL; reset 0 -/
  authFail : Nat := 0
  /-- 32 bits per step 1 to 13; 14 R411 (refusals by step); reset 0 -/
  byStep : Tab Nat := []
  /-- 32 bits; 14 R418 (malformed, misbound and replay are steps 1 to 5; index writes that move backwards); reset DESIGN CHOICE 0 (log 2) -/
  malformed : Nat := 0
  /-- 10 bits µs; 14 R405 (moderation time); reset 20 -/
  moderation : Nat := 20
  /-- 64 bits; 14 R398 (highest grant serial accepted, kept in the boot flash); reset DESIGN CHOICE 0 (log 2) -/
  topSerial : Nat := 0
deriving DecidableEq, Repr

/-- One MSI-X vector (R405). -/
structure Vector17 where
  /-- 32 bits; 14 R405 (interrupts raised); reset DESIGN CHOICE 0 (log 2) -/
  raised : Nat := 0
  /-- 1 bit; 14 R405 (an item waits for the moderation time to end); reset 0 -/
  pending : Bool := false
  /-- ps of moderation time left; 14 R405; reset 0 -/
  left : Nat := 0
deriving DecidableEq, Repr

/-- A packet the device answered with on an Ethernet port besides Ohmuc (R406). -/
inductive NetAnswer where
  /-- an ARP reply of a port -/
  | arp (port : Nat)
  /-- an ICMP echo reply of a port, with its identifier and sequence -/
  | echo (port ident seq : Nat)
deriving DecidableEq, Repr

/-- The host interface. -/
structure HostIf where
  /-- slots 0 to 7; 14 R394; reset closed -/
  slots : Tab Slot := []
  /-- 3 bits; 14 R411 (the slot the next window's first round starts with); reset DESIGN CHOICE 0 (log 2) -/
  first : Nat := 0
  /-- 1 bit; 14 R417 `commit_err`, 19 R536 (one flag); reset 0 -/
  commitErr : Bool := false
  /-- 1 bit; 14 R417 `auth_fail`; reset 0 -/
  authFail : Bool := false
  /-- 1 bit; 14 R417 `refused`; reset 0 -/
  refused : Bool := false
  /-- 1 bit; 14 R417 `evq_overflow`; reset 0 -/
  evqOverflow : Bool := false
  /-- vectors 0 to 16; 14 R405; reset none raised -/
  vectors : Tab Vector17 := []
  /-- optional (tick it was written in, the staged fields of each slot then); 19 R519 (a page-12 commit waits for its boundary); reset none -/
  commitSet : Option (Nat × Tab Rings) := none
  /-- 1 bit per slot; 19 R519 (slots with staged writes since that commit was written); reset 0 -/
  lateSlots : Nat := 0
  /-- 1 bit per slot; 19 R520 `pend12` (slots with staged writes not applied); reset 0 -/
  stagedSlots : Nat := 0
  /-- bytes by host address; 14 R402 (what the device has written into host memory: reply and event ring entries, and the 64-byte write-back areas); reset none written -/
  mem : Tab (List Nat) := []
  /-- optional answer; 14 R406 (the latest non-Ohmuc answer sent); reset none -/
  netAnswer : Option NetAnswer := none
  /-- 32 bits; 14 R407 (packets discarded that name no slot's ring: malformed on UDP); reset DESIGN CHOICE 0 (log 2) -/
  malformed : Nat := 0
  /-- 32 bits per slot; 14 R413 (commands dropped at the latest takeover); reset 0 -/
  takeoverDrops : Tab Nat := []
deriving DecidableEq, Repr

/-- The events page (R536, R537). -/
structure Events where
  /-- 1 bit; 19 R536 `fault_n` and R523 (level of FAULT_N asserted); reset 0 -/
  faultN : Bool := false
  /-- 1 bit; 19 R536 `fault_edge`; reset 0 -/
  faultEdge : Bool := false
  /-- 1 bit; 19 R536 `ks_takeover`; reset 0 -/
  takeover : Bool := false
  /-- 1 bit; 19 R536 `internal`; reset 0 -/
  internal : Bool := false
  /-- 4 bits; 19 R536 `mask` (bit k - 1 for EV_FAULT bit k); reset 0xF -/
  mask : Nat := 15
  /-- 32 bits; 19 R537 EV_SEQ; reset 0 -/
  seq : Nat := 0
  /-- 8 words; 19 R537 EV_LAST0 to 7; reset 0 -/
  last : EvRec := {}
deriving DecidableEq, Repr

/-- The system page and the debug scratch words (R522 to R525, R538). -/
structure SysPage where
  /-- 1 bit; 19 R523 `bad_access`; reset 0 -/
  badAccess : Bool := false
  /-- 16 bits; 19 R523 `bad_count`; reset 0 -/
  badCount : Nat := 0
  /-- 16 bits; 19 R524 `gpio_dir`; reset 0 -/
  gpioDir : Nat := 0
  /-- 16 bits; 19 R524 (staged `gpio_dir`); reset 0 -/
  gpioDirStg : Nat := 0
  /-- 16 bits; 19 R524 `gpio_out`; reset 0 -/
  gpioOut : Nat := 0
  /-- 16 bits; 19 R524 (levels outside drives on the balls); reset pin, DESIGN CHOICE 0 (log 2) -/
  gpioPins : Nat := 0
  /-- 1 bit; 19 R524 `sync_permit_en`; reset 0 -/
  permitEn : Bool := false
  /-- 1 bit; 19 R524 (staged `sync_permit_en`); reset 0 -/
  permitEnStg : Bool := false
  /-- 1 bit; 19 R520 `pend0`; reset 0 -/
  pend0 : Bool := false
  /-- optional (tick it was written in, `gpio_dir`, `sync_permit_en`); 19 R519 (a page-0 commit waits for its boundary); reset none -/
  gpioCommit : Option (Nat × Nat × Bool) := none
  /-- 1 bit; 19 R519 (page 0 has staged writes since that commit was written); reset 0 -/
  late0 : Bool := false
  /-- 1 bit; 19 R524 (no page-0 commit has landed since reset: every GPIO is an input); reset 1 -/
  gpioFresh : Bool := true
  /-- 2 bits; 19 R525 (ticks GPIO11 is still held low after a change of function); reset 0 -/
  permitLow : Nat := 0
  /-- 32 bits; 19 R538 DBG_SCRATCH0; reset 0 -/
  scratch0 : Nat := 0
  /-- 32 bits; 19 R538 DBG_SCRATCH1; reset 0 -/
  scratch1 : Nat := 0
  /-- 32 bits, the model's own; 00 R20 (what the latest register read access returned); reset DESIGN CHOICE 0 (log 3) -/
  busRead : Nat := 0
  /-- 32 bits; 19 R531 UR_WIN_UNIT; reset 0x8000_0000 -/
  urUnit : Nat := 0x80000000
  /-- 32 bits; 19 R531 (staged UR_WIN_UNIT); reset 0x8000_0000 -/
  urUnitStg : Nat := 0x80000000
  /-- 32 bits; 19 R531 UR_WIN_SCOPE; reset scope 0, count 0x30, start 0 -/
  urScope : Nat := 0x3000
  /-- 32 bits; 19 R531 (staged UR_WIN_SCOPE); reset as in force -/
  urScopeStg : Nat := 0x3000
  /-- 1 bit; 19 R520 `pend8`; reset 0 -/
  pend8 : Bool := false
  /-- optional (tick it was written in, unit, scope word); 19 R519 (a page-8 commit waits for its boundary); reset none -/
  urCommit : Option (Nat × Nat × Nat) := none
  /-- 1 bit; 19 R519 (page 8 has staged writes since that commit was written); reset 0 -/
  late8 : Bool := false
  /-- 2 bits; 19 R535 `win_state`; reset 0 -/
  urState : Nat := 0
  /-- 6 bits; 19 R535 `filled`; reset 0 -/
  urFilled : Nat := 0
  /-- 16 bits; 19 R535 `next`; reset 0xFFFF -/
  urNext : Nat := 0xFFFF
  /-- 16 bits; 19 R535 `win_err`; reset 0 -/
  urErr : Nat := 0
  /-- 58 bits; 19 R535 UR_WIN_SNAP; reset 0 -/
  urSnap : Nat := 0
  /-- 32 bits; 19 R535 UR_WIN_SEQ; reset 0 -/
  urSeq : Nat := 0
  /-- 768 words by index; 19 R535 UR_WIN_DATA; reset 0 -/
  urData : Tab Nat := []
  /-- optional (snapshot tick wanted); 19 R532 (a fill in progress); reset none -/
  urFill : Option Nat := none
  /-- optional bytes; 19 R532 (the records the fill has copied from that snapshot); reset none -/
  urCopy : Option (List Nat) := none
deriving DecidableEq, Repr

/-! ### Redundancy and failover (10) -/

/-- Standby states (R319 `standby_state`). -/
inductive StandbyState where
  | absent | booting | syncing | ready
deriving DecidableEq, Repr

/-- A tile's standing (R320). -/
inductive TilePhase where
  | normal | carrying | out | transfer
deriving DecidableEq, Repr

/-- One bay tile's redundancy state. -/
structure Tile where
  /-- 2 bits; 10 R320 `tile_state`; reset 0b00 -/
  phase : TilePhase := .normal
  /-- 1 bit; 11 R329 (the tile failed its self-test in this start); reset 0 -/
  failed : Bool := false
  /-- 1 bit; 11 R329 (the tile has reported its self-test); reset 0 -/
  tested : Bool := false
  /-- 1 bit; 10 R316 (out, recovered, and waiting for a handback); reset 0 -/
  recovered : Bool := false
  /-- 1 bit; 10 R316 (out by a planned handover, lanes may be powered down); reset 0 -/
  handedOver : Bool := false
  /-- 1 bit; 10 R316 (half record rate of a transfer cycle); reset 0 -/
  transferHalf : Bool := false
  /-- 1 bit; 10 R321 `mirror_valid`; reset 0 -/
  mirrorValid : Bool := false
  /-- 1 bit; 10 R310 (the sweep of the present cycle started at tick 0); reset 0 -/
  sweepWhole : Bool := false
  /-- 1 bit; 10 R313 (its takeover of the neighbour's bays is declared and begins with the next tick); reset 0 -/
  carryDue : Bool := false
  /-- 58 bits; 10 R312 (tick of the latest heartbeat); reset 0 -/
  beat : Nat := 0
deriving DecidableEq, Repr

/-- The standby keystone's shadow (R302): the active keystone's state as it stood at the end of tick 799. -/
structure Shadow where
  /-- engine state; 10 R302; reset: no copy -/
  ce : Control
  /-- load-model states; 10 R302; reset: no copy -/
  ld : Loads
  /-- both banks and the pending swap; 10 R302; reset: no copy -/
  xp : Crosspoint
  /-- source selection and plant-time servo; 10 R302; reset: no copy -/
  tb : Timebase
  /-- 48 bits; 10 R302 (the ledger's write position: sequence); reset: no copy -/
  lgSeq : Nat
  /-- 32 bits; 10 R302 (the ledger's write position: epoch); reset: no copy -/
  lgEpoch : Nat
  /-- slots 0 to 7; 10 R302, 14 R413 (sessions and ring indices); reset: no copy -/
  slots : Tab Slot
  /-- bays; 10 R302 (admission windows); reset: no copy -/
  windows : Tab BayLink
  /-- courses; 10 R302 (pending courses); reset: no copy -/
  courses : Tab Course
  /-- flywheel drive table; 10 R302, R308; reset: no copy -/
  drive : Tab (Option Int)
deriving DecidableEq, Repr

/-- A planned transfer (R316). -/
structure Transfer where
  /-- 4 bits; 10 R316 (tile that sends its bays); reset: none -/
  sender : Nat
  /-- 4 bits; 10 R316 (tile that receives them); reset: none -/
  receiver : Nat
  /-- 1 bit; 10 R316 (a handback); reset: none -/
  back : Bool
  /-- 1 bit; 10 R316 (the transfer cycle runs); reset: none -/
  running : Bool
  /-- 48 bits; 10 R316 (the transfer cycle); reset: none -/
  cycle : Nat
deriving DecidableEq, Repr

/-- One image slot of the SPI boot flash (R317, R440). -/
structure Image where
  /-- bytes written, in order; 15 R440; reset DESIGN CHOICE empty (log 2) -/
  bytes : List Nat := []
  /-- 1 bit; 10 R317 (the signature check has passed since the latest write); reset DESIGN CHOICE 0 (log 2) -/
  verified : Bool := false
deriving DecidableEq, Repr

/-- Redundancy and failover. -/
structure Redundancy where
  /-- 1 bit; 10 R319 `active` (1 B); reset fuse, DESIGN CHOICE the fuse as shipped, 0 (log 6) -/
  active : Nat := 0
  /-- 1 bit; 10 R303 (some keystone is active and has not been declared lost); reset DESIGN CHOICE 0 (log 2) -/
  haveActive : Bool := false
  /-- 2 bits; 10 R319 `standby_state`; reset 0b00 -/
  standby : StandbyState := .absent
  /-- 1 bit; 10 R319 `tracking`; reset 0 -/
  tracking : Bool := false
  /-- 1 bit; 10 R304 (a standby that takes over begins tracking in the coming tick); reset 0 -/
  trackDue : Bool := false
  /-- 11 bits; 10 R304 (ticks since tracking began); reset 0 -/
  trackTicks : Nat := 0
  /-- 1 bit; 10 R319 `flywheel`; reset 0 -/
  flywheel : Bool := false
  /-- 1 bit; 10 R319 `ramp`; reset 0 -/
  ramp : Bool := false
  /-- 1 bit; 11 R341 (the flywheel ramp carries a safe stop: no 4-cycle hold); reset 0 -/
  stopRamp : Bool := false
  /-- 1 bit; 10 R319 `ks_takeover`; reset 0 -/
  ksTakeover : Bool := false
  /-- 1 bit; 10 R319 `tile_takeover`; reset 0 -/
  tileTakeover : Bool := false
  /-- 1 bit; 10 R319 `fly_float`; reset 0 -/
  flyFloat : Bool := false
  /-- 16 bits; 10 R319 `fly_ticks`; reset 0 -/
  flyTicks : Nat := 0
  /-- 16 bits; 10 R308 (ticks of the present ramp); reset 0 -/
  rampTicks : Nat := 0
  /-- tiles 0 to 11; 10 R320; reset normal -/
  tiles : Tab Tile := []
  /-- 1 bit; 10 R321 `copy_fail`; reset 0 -/
  copyFail : Bool := false
  /-- Q18.14 V by (bay × 3 + pier) × 800 + tick index, none when invalid; 10 R308; reset all invalid -/
  drive : Tab (Option Int) := []
  /-- positions whose copy fails its check in the coming sweep tick; 10 R310; reset none -/
  badCopies : List Nat := []
  /-- optional copy; 10 R302; reset none -/
  shadow : Option Shadow := none
  /-- commands since the copy, newest first; 10 R302 (journal); reset empty -/
  journal : List Instr := []
  /-- optional; 10 R316; reset none -/
  xfer : Option Transfer := none
  /-- 1 bit; 10 R317 (a planned switch waits for the boundary); reset 0 -/
  switchDue : Bool := false
  /-- 58 bits per keystone; 10 R303 (tick of the latest heartbeat); reset 0 -/
  beats : Tab Nat := []
  /-- 58 bits, the model's own; 10 R303 (tick of the latest stage 6, whose end heartbeats are due at); reset 0 -/
  sixTick : Nat := 0
  /-- 1 bit, the model's own; 11 R339 (a keystone starts without a copy: the tiles keep their parameters until it takes them over); reset 0 -/
  freshDue : Bool := false
  /-- slots 0 and 1 of the boot flash; 10 R317; reset DESIGN CHOICE empty (log 2) -/
  images : Tab Image := []
  /-- 1 bit; 10 R322 `slot_a`; reset 0 -/
  slotA : Nat := 0
  /-- 1 bit; 10 R322 `slot_b`; reset 0 -/
  slotB : Nat := 0
  /-- 1 bit; 11 R328 (slot recorded as last good); reset DESIGN CHOICE 0 (log 2) -/
  lastGood : Nat := 0
  /-- 3 bits; 10 R322 `update_phase`; reset 0 -/
  updatePhase : Nat := 0
  /-- 1 bit; 10 R322 `update_aborted`; reset 0 -/
  updateAborted : Bool := false
  /-- 1 bit; 10 R317 (slot that the keystone an update reboots ran before); reset 0 -/
  prevSlot : Nat := 0
  /-- 1 bit; 10 R317 (an abandoned update's keystone reboots from that slot); reset 0 -/
  backDue : Bool := false
  /-- ps since the standby's reboot of an update began; 10 R317; reset 0 -/
  updateAge : Nat := 0
  /-- 16 bits per keystone; 10 R322 `shadow_rev` (shadow format revision its image writes); reset 0 -/
  shadowRevs : Tab Nat := []
  /-- 32 bits per keystone; 15 R430 (firmware revision it runs); reset DESIGN CHOICE 0 (log 2) -/
  fwRevs : Tab Nat := []
  /-- five 32-bit counts: keystone takeovers, flywheel episodes, tile takeovers, transfers, copy failures; 15 R440; reset DESIGN CHOICE 0 (log 2) -/
  counts : List Nat := [0, 0, 0, 0, 0]
  /-- five 58-bit ticks of the latest of each; 15 R440; reset DESIGN CHOICE 0 (log 2) -/
  ticks : List Nat := [0, 0, 0, 0, 0]
  /-- 1 bit per keystone; 11 R327 (passed the self-test: a candidate); reset 0 -/
  candidates : Nat := 0
  /-- 1 bit per keystone; 11 R327 (failed the self-test: out until the next device reset); reset 0 -/
  ksFailed : Nat := 0
deriving DecidableEq, Repr

/-! ### Start-up, reset and safe stop (11, 18) -/

/-- Bay start states (R324). -/
inductive StartPhase where
  | waitDevice | lane | admitting | restoring | ready | syncing | energised | excluded | held
deriving DecidableEq, Repr

/-- Why a bay is excluded (R337). -/
inductive Exclusion where
  | none | command | tile
deriving DecidableEq, Repr

/-- The start state of one bay (R324, R332 to R337). -/
structure BayStart where
  /-- 4 bits; 11 R324; reset WAIT_DEVICE -/
  phase : StartPhase := .waitDevice
  /-- 8 bits; 15 R430 `reason`; reset 0 -/
  reason : Nat := 0
  /-- enumeration; 11 R337 (what excluded the bay); reset none -/
  excl : Exclusion := .none
  /-- 4 bits; 11 R337 (the step the bay had reached when it was excluded); reset WAIT_DEVICE -/
  back : StartPhase := .waitDevice
  /-- 8 bits; 11 R337 (the reason it had then); reset 0 -/
  backReason : Nat := 0
  /-- ps in the present step; 11 R323, R332, R333; reset 0 -/
  age : Nat := 0
  /-- 1 bit; 11 R335 (an accepted BAY_SYNC waits for the boundary); reset 0 -/
  syncDue : Bool := false
  /-- 1 bit; 11 R337 (an accepted BAY_EXCLUDE waits for the boundary); reset 0 -/
  exclDue : Bool := false
  /-- 1 bit; 11 R333 (START_RESTORE_SKIP acts in the next stage 2); reset 0 -/
  skipDue : Bool := false
  /-- 1 bit; 11 R333 (step 9 has restored or opened the bay's records); reset 0 -/
  restored : Bool := false
  /-- 1 bit; 11 R335 (ENERGISED, and its breaker has since been reported open); reset 0 -/
  opened : Bool := false
  /-- 1 bit; 11 R344 (ENERGISED, floated by a safe stop that has ended, its breaker not yet reported open); reset 0 -/
  stopFloat : Bool := false
deriving DecidableEq, Repr

/-- The synchronisation in progress (R336, R337). -/
structure Sync where
  /-- 8 bits; 11 R334 (the one bay that synchronises); reset: none -/
  bay : Nat
  /-- ticks since SYNCING began; 11 R336; reset: none -/
  ticks : Nat := 0
  /-- ticks the sync test has passed in a row; 11 R336; reset: none -/
  dwell : Nat := 0
  /-- ticks since *r* reached 1; 11 R336; reset: none -/
  waited : Nat := 0
  /-- 1 bit; 11 R336 (the test passes in the latest tick); reset: none -/
  passing : Bool := false
  /-- 1 bit; 11 R336 (a permit has been given since *r* reached 1); reset: none -/
  permitted : Bool := false
  /-- ps since SYNC_PERMIT was deasserted; 11 R337; reset: none -/
  permitAge : Nat := 0
  /-- up to 800 pairs of tick means at primary (the grid pair, GS_V4), newest first; 11 R334; reset: none -/
  hist : List (Int × Int) := []
  /-- 1 bit; 11 R337 (the close was reported in this tick; the bay runs in its mode from the next); reset: none -/
  closed : Bool := false
deriving DecidableEq, Repr

/-- Start-up and safe stop. -/
structure Startup where
  /-- 4 bits; 11 R346 `dev_step`; reset 0 -/
  devStep : Nat := 0
  /-- 1 bit; 11 R346 `boot_slot`; reset 0 -/
  bootSlot : Nat := 0
  /-- 1 bit; 11 R346 `other_slot_bad`; reset 0 -/
  otherSlotBad : Bool := false
  /-- 1 bit; 11 R346 `stopped`; reset 0 -/
  stopped : Bool := false
  /-- 1 bit; 11 R346 `sync_permit`; reset 0 -/
  syncPermit : Bool := false
  /-- 8 bits; 11 R346 `fault_code`; reset 0 -/
  faultCode : Nat := 0
  /-- 12 bits; 11 R346 `tile_failed`; reset 0 -/
  tileFailed : Nat := 0
  /-- 1 bit; 11 R323 (step 4 is complete); reset 0 -/
  step4 : Bool := false
  /-- 1 bit; 11 R323 (step 5 is complete); reset 0 -/
  step5 : Bool := false
  /-- 1 bit; 11 R327 (the 100 ms preference wait is over); reset 0 -/
  prefWaited : Bool := false
  /-- 1 bit; 11 R328 (both slots failed: the service UART accepts image writes); reset 0 -/
  uartOpen : Bool := false
  /-- 6 bits; 11 R347 SYS_RESET_CAUSE [5:0]; reset 0b000001 -/
  cause : Nat := 1
  /-- 16 bits; 11 R347 `resets`; reset 0 -/
  resets : Nat := 0
  /-- 2 bits; 11 R348 `phase`; reset 0 -/
  stopPhase : Nat := 0
  /-- 5 bits; 11 R348 `cause_vin` to `cause_footing`, from bit 0; reset 0 -/
  stopCauses : Nat := 0
  /-- 13 bits; 11 R348 `ramp_left`; reset 0 -/
  rampLeft : Nat := 0
  /-- 1 bit; 11 R348 `flush_skipped`; reset 0 -/
  flushSkipped : Bool := false
  /-- 1 bit; 11 R340 (a reset follows the safe stop); reset 0 -/
  resetAfter : Bool := false
  /-- 6 bits; 11 R347 (the causes of the reset that follows); reset 0 -/
  resetBits : Nat := 0
  /-- 1 bit; 11 R341 (an immediate safe stop: no ramp); reset 0 -/
  immediate : Bool := false
  /-- 1 bit; 11 R341 (the flush waits for the next cycle boundary); reset 0 -/
  flushDue : Bool := false
  /-- 1 bit; 11 R340 (both keystones are in thermal shutdown: no ledger flush); reset 0 -/
  noFlush : Bool := false
  /-- bays 0 to 143; 11 R324; reset WAIT_DEVICE -/
  bays : Tab BayStart := []
  /-- optional; 11 R334; reset none -/
  sync : Option Sync := none
  /-- 1 bit; 18 R505 (a bay lane has trained since the latest power-on reset); reset 0 -/
  laneSeen : Bool := false
  /-- instruction; 18 R505 (what the TAP acts as); reset BYPASS -/
  jtag : JtagIns := .bypass
  /-- one bit per ball, in the order of log 119; 18 R505 (boundary-scan cells of the 30 balls of the chain, as the latest instruction found them); reset DESIGN CHOICE 0 (log 119) -/
  scan : Nat := 0
  /-- 1 bit; 18 R498, R501 (step 6 has been reached since the device reset: the outputs are driven, NPE_PERST_N is released); reset 0 -/
  outputs : Bool := false
  /-- 1 bit; 11 R331 (some bay has been ENERGISED since the device reset); reset 0 -/
  onceEnergised : Bool := false
deriving DecidableEq, Repr

/-! ### Footing power (12) -/

/-- Footing states (R375). -/
inductive FtgPhase where
  | sequencing | running | holdup | powerdown | hold
deriving DecidableEq, Repr

/-- Charger states (R368). -/
inductive ChargerPhase where
  | off | precharge | cc | cv | done | fault
deriving DecidableEq, Repr

/-- Where a channel's rail stands after its filter (R359). -/
inductive RailPhase where
  | inBand | low | high | tripLow | tripHigh
deriving DecidableEq, Repr

/-- One supervisor channel (R357). -/
structure Chan where
  /-- enumeration; 12 R357, R359 (filtered crossing in progress); reset in band -/
  rail : RailPhase := .inBand
  /-- 1 bit; 12 R354 (the rail has risen past its warning band since its gate closed); reset 0 -/
  good : Bool := false
  /-- 16 bits; 12 R380 `uv_count`; reset 0 -/
  uv : Nat := 0
  /-- 16 bits; 12 R380 `ov_count`; reset 0 -/
  ov : Nat := 0
  /-- 16 bits; 12 R380 `retry_count`; reset 0 -/
  retry : Nat := 0
  /-- 16 bits; 12 R380 `trip_count`; reset 0 -/
  trip : Nat := 0
  /-- ages in ps of the retries of the latest 600 s; 12 R361; reset none -/
  retries : List Nat := []
  /-- 1 bit; 12 R361 (the off time of a retry runs); reset 0 -/
  offTime : Bool := false
  /-- 1 bit; 12 R361 (the gate has closed and the rail is being checked); reset 0 -/
  checking : Bool := false
  /-- 1 bit; 12 R378 `gate_closed`, channels 0 to 13; reset 0 -/
  gate : Bool := false
  /-- 1 bit; 12 R378 `latched_off`; reset 0 -/
  latched : Bool := false
  /-- 1 bit; 13 R389 (latched off by Die Thermal); reset 0 -/
  thermal : Bool := false
  /-- 1 bit; 12 R377 `brownout_cover`; reset 0 -/
  brownout : Bool := false
  /-- 1 bit; 12 R373 (its counters clear at the end of the tick); reset 0 -/
  clearDue : Bool := false
  /-- four 16-bit counts of the present tick: uv, ov, retry, trip; 12 R373, 00 R21; reset 0 -/
  tick : List Nat := [0, 0, 0, 0]
deriving DecidableEq, Repr

/-- Footing power. -/
structure Footing where
  /-- 3 bits; 12 R375 `ftg_state`; reset SEQUENCING -/
  phase : FtgPhase := .sequencing
  /-- 1 bit; 12 R375 `vin_ok`; reset 0 -/
  vinOk : Bool := false
  /-- 1 bit; 12 R351 (VIN_HOLD is present: not lost); reset DESIGN CHOICE 0 (log 2) -/
  vinPresent : Bool := false
  /-- 1 bit; 12 R375 `on_bank`; reset 0 -/
  onBank : Bool := false
  /-- 1 bit; 12 R350 (input path on); reset 0 -/
  inPath : Bool := false
  /-- 1 bit; 12 R375 `ov_warn`; reset 0 -/
  ovWarn : Bool := false
  /-- 1 bit; 12 R375 `brownout_any`; reset 0 -/
  brownoutAny : Bool := false
  /-- 1 bit; 12 R375 `trip_seen`; reset 0 -/
  tripSeen : Bool := false
  /-- 1 bit; 12 R375 `hu_low`; reset 0 -/
  huLow : Bool := false
  /-- 1 bit; 12 R375 `sat`; reset 0 -/
  sat : Bool := false
  /-- 4 bits; 12 R375 `position`; reset 0 -/
  position : Nat := 0
  /-- positions enabled, one bit each; 12 R353; reset 0 -/
  enabled : Nat := 0
  /-- positions ready, one bit each; 12 R354; reset 0 -/
  ready : Nat := 0
  /-- 1 bit; 12 R354 (the position waits its 10 ms off); reset 0 -/
  waiting : Bool := false
  /-- 2 bits per position; 12 R325, R354 (retries); reset 0 -/
  posRetries : Tab Nat := []
  /-- 8 bits; 12 R376 `fault_code`; reset 0 -/
  aonFault : Nat := 0
  /-- 5 bits; 12 R376 `last_trip_ch`; reset 0x1F -/
  lastTrip : Nat := 31
  /-- 3 bits; 12 R376 `last_reaction`; reset 0 -/
  lastReaction : Nat := 0
  /-- 2 bits; 12 R376 `retries`; reset 0 -/
  aonRetries : Nat := 0
  /-- channels 0 to 21; 12 R357; reset as fields -/
  chans : Tab Chan := []
  /-- words of FOOTING_CONFIG in force, by word index; 12 R358; reset defaults (none listed) -/
  config : Tab Nat := []
  /-- 16 bits mV; 12 R379 `bank_mv`; reset 0 -/
  bankMv : Nat := 0
  /-- mV; 12 R365 (nominal of LDO_FUSE in force); reset 1,800 -/
  ldoFuse : Nat := 1800
  /-- 3 bits; 12 R379 `chg_state`; reset OFF -/
  charger : ChargerPhase := .off
  /-- 1 bit; 12 R379 `chg_fault`; reset 0 -/
  chgFault : Bool := false
  /-- 1 bit; 12 R379 `cap_low`; reset 0 -/
  capLow : Bool := false
  /-- 16 bits; 12 R379 `cap_est`; reset 0xFFFF -/
  capEst : Nat := 0xFFFF
  /-- 16 bits; 12 R379 `switchovers`; reset 0 -/
  switchovers : Nat := 0
  /-- 1 bit; 12 R360 (a device reset follows the float blocks); reset 0 -/
  resetDue : Bool := false
  /-- ticks since the reaction that asked for it; 12 R360; reset 0 -/
  resetAge : Nat := 0
  /-- 16-bit word index; 12 R374 (I²C index register); reset DESIGN CHOICE 0 (log 2) -/
  i2cIndex : Nat := 0
  /-- 32 bits; 12 R374 (word the latest I²C read returned); reset DESIGN CHOICE 0 (log 3) -/
  i2cRead : Nat := 0
deriving DecidableEq, Repr

/-! ### Die thermal (13) -/

/-- Thermal levels (R384). -/
inductive Level where
  | normal | warning | throttle | shutdown
deriving DecidableEq, Repr

/-- One die (R381 to R393). -/
structure Die where
  /-- signed 1/128 °C, none reads 0x8000; 13 R393 `temp`; reset 0x8000 -/
  temp : Option Int := none
  /-- signed 1/128 °C, none reads 0x8000; 13 R393 `peak`; reset 0x8000 -/
  peak : Option Int := none
  /-- signed 1/128 °C; 15 R444 (peak since the latest THERMAL_STATUS_READ); reset DESIGN CHOICE 0x8000 (log 2) -/
  peakCmd : Option Int := none
  /-- 2 bits; 13 R392 `level`; reset NORMAL -/
  level : Level := .normal
  /-- 1 bit; 13 R392 `enforced`; reset 0 -/
  enforced : Bool := false
  /-- 1 bit; 13 R386 (a request in grace); reset 0 -/
  request : Bool := false
  /-- optional ps left of the grace; 13 R386; reset none -/
  grace : Option Nat := none
  /-- 1 bit; 13 R386 (the grace is over: enforcement at the boundary); reset 0 -/
  enforceDue : Bool := false
  /-- 1 bit; 13 R386 (the die fell below THROTTLE: release at the boundary); reset 0 -/
  releaseDue : Bool := false
  /-- 1 bit; 13 R392 `sensor_bad`; reset 0 -/
  bad : Bool := false
  /-- 3 bits; 13 R382 (consecutive conversions out of range); reset 0 -/
  outRange : Nat := 0
  /-- 14 bits; 13 R382 (consecutive conversions with an unchanged code); reset 0 -/
  stuck : Nat := 0
  /-- 12 bits; 13 R382 (consecutive good conversions while broken); reset 0 -/
  goodRun : Nat := 0
  /-- 1 bit; 13 R382 (the good run has not been all identical); reset 0 -/
  varied : Bool := false
  /-- raw code; 13 R382 (latest conversion); reset DESIGN CHOICE none (log 2) -/
  raw : Option Int := none
  /-- conversions at or above the thresholds of WARNING, THROTTLE, SHUTDOWN in a row; 13 R384; reset 0 -/
  above : List Nat := [0, 0, 0]
  /-- conversions at or below the same thresholds less *h* in a row; 13 R384; reset 0 -/
  below : List Nat := [0, 0, 0]
  /-- four 16-bit counts: warning entries, throttle requests, enforcements, sensor faults; 15 R444; reset DESIGN CHOICE 0 (log 2) -/
  counts : List Nat := [0, 0, 0, 0]
deriving DecidableEq, Repr

/-- Die thermal. -/
structure Thermal where
  /-- dies 0 to 13; 13 R381; reset as fields -/
  dies : Tab Die := []
  /-- 1 bit; 13 R391 `throttle_seen`; reset 0 -/
  throttleSeen : Bool := false
  /-- 1 bit; 13 R391 `sensor_fault_seen`; reset 0 -/
  sensorFaultSeen : Bool := false
  /-- words of THERMAL_CONFIG in force, key target × 8 + word (target 0 tiles, 1 keystones); 13 R385; reset defaults (none listed) -/
  config : Tab Nat := []
deriving DecidableEq, Repr

/-! ### Ledger (16) -/

/-- A stored page (R449). -/
structure Page where
  /-- 8 bits; 16 R449 `p_kind`; reset: no page -/
  kind : Nat
  /-- 16 bits; 16 R449 `p_count`; reset: no page -/
  count : Nat
  /-- 48 bits; 16 R449 `p_seq`; reset: no page -/
  seq : Nat
  /-- 32 bits; 16 R449 `p_epoch`; reset: no page -/
  epoch : Nat
  /-- 32 bits; 16 R449 `p_snapshot`; reset: no page -/
  snapshot : Nat
  /-- 32 bits; 16 R449 `p_first_unit`; reset: no page -/
  firstUnit : Nat
  /-- 16 bits; 16 R449 `p_flags`; reset: no page -/
  flags : Nat
  /-- 16 bits; 16 R449 `p_quality`; reset: no page -/
  quality : Nat
  /-- 64 bits; 16 R449 `p_stamp`; reset: no page -/
  stamp : Nat
  /-- 32 bits; 16 R449 `p_generation`; reset: no page -/
  generation : Nat
  /-- 32 bits; 16 R449 `p_est_error`; reset: no page -/
  est : Nat
  /-- 16 bytes; 16 R449 `p_prev`; reset: no page -/
  prev : List Nat
  /-- up to 3,968 bytes, zeros after them; 16 R449 (body); reset: no page -/
  body : List Nat
  /-- 64 bytes; 16 R450 (signature); reset: no page -/
  sig : List Nat
deriving DecidableEq, Repr

/-- A page kept by the ledger, with where it stands (R463). -/
structure Stored where
  /-- page; 16 R449; reset: none -/
  page : Page
  /-- 3 bits; 16 R463 (pair it goes to); reset: none -/
  pair : Nat
  /-- 1 bit; 16 R463; reset: none -/
  durable : Bool
  /-- 1 bit; 16 R448 (unreadable on every copy); reset: none -/
  lost : Bool
deriving DecidableEq, Repr

/-- One NVMe drive (R445 to R448). -/
structure Drive where
  /-- 1 bit; 16 R474 `present`; reset 0 -/
  present : Bool := false
  /-- optional; 16 R447 (binding block: plant binding ID, device serial, pair number); reset DESIGN CHOICE none (log 2) -/
  block : Option BindBlock := none
  /-- CNS values read with Identify; 16 R446; reset none -/
  identified : List Nat := []
  /-- features set; 16 R446 (06h, 07h, 08h); reset none -/
  features : List Nat := []
  /-- I/O queue pairs of 256 entries; 16 R446; reset 0 -/
  queues : Nat := 0
  /-- 32 bits; 16 R446 (Get Log Page 01h read after failed commands); reset 0 -/
  errorReads : Nat := 0
  /-- 1 bit; 16 R448 (declared failed); reset DESIGN CHOICE 0 (log 2) -/
  failed : Bool := false
  /-- 1 bit; 16 R447 (the background copy onto it runs); reset 0 -/
  copying : Bool := false
  /-- 1 bit; 16 R448 (a controller reset and retry is in progress); reset 0 -/
  retrying : Bool := false
  /-- bytes; 16 R447 (capacity); reset DESIGN CHOICE 0 (log 2) -/
  capacity : Nat := 0
  /-- 1 bit; 16 R446 (it needs no other part of the specification); reset DESIGN CHOICE 1 (log 2) -/
  supported : Bool := true
deriving DecidableEq, Repr

/-- An NVMe command under way to a pair (R446, R463). -/
structure NvmeOp where
  /-- 32 bits, the model's own number; 16 R463; reset: none -/
  ident : Nat
  /-- 3 bits; 16 R463 (pair); reset: none -/
  pair : Nat
  /-- keys of the pages it carries, none for a Flush; 16 R463; reset: none -/
  pages : List Nat
  /-- 1 bit; 16 R446 (Flush); reset: none -/
  flush : Bool
  /-- 1 bit; 16 R446 (an extent of the snapshot log, whose index is written with it); reset: none -/
  index : Bool
  /-- 2 bits; 16 R463 (drives of the pair that have not completed it); reset: none -/
  waiting : Nat
deriving DecidableEq, Repr

/-- An export of one slot (R466 to R470). -/
structure Export where
  /-- 64 bits; 16 R466 (ring base); reset: none -/
  base : Nat
  /-- 4 bits; 15 R441 `order`; reset: none -/
  order : Nat
  /-- 1 bit; 16 R467, R468 (caught up: pages are offered as they become durable); reset: none -/
  live : Bool
  /-- page key; 16 R468 (next page to deliver); reset: none -/
  next : Nat
  /-- 32 bits; 16 R466 (consumer index); reset: none -/
  cons : Nat
  /-- optional first key, last key, pages, reason; 16 R467 (a gap marker waits for an entry); reset: none -/
  gap : Option (Nat × Nat × Nat × Nat)
  /-- ring entries not yet acknowledged, by producer index: page key + 1, or 0 for a gap marker; 16 R466, R470; reset empty -/
  ring : Tab (Option Nat)
  /-- first 96 bytes of the gap markers not yet acknowledged, by producer index, zeros after them; 16 R470; reset empty -/
  markers : Tab (List Nat)
  /-- 32 bits; 15 R441 `pages` (pages delivered); reset 0 -/
  delivered : Nat
deriving DecidableEq, Repr

/-- A snapshot being captured (R455). -/
structure Capture where
  /-- 48 bits; 16 R455 (cycle of the sweep); reset: none -/
  cycle : Nat
  /-- 16 bits; 16 R449 `p_flags` of its pages; reset: none -/
  flags : Nat
  /-- 64 bits; 16 R449 `p_stamp`; reset: none -/
  stamp : Nat
  /-- 16 bits; 16 R449 `p_quality`; reset: none -/
  quality : Nat
  /-- 32 bits; 16 R449 `p_generation`; reset: none -/
  generation : Nat
  /-- 32 bits; 16 R449 `p_est_error`; reset: none -/
  est : Nat
  /-- 32-byte entries by position index, zeros where none; 16 R457; reset: none -/
  entries : Tab (List Nat)
deriving DecidableEq, Repr

/-- An event held for the ledger (R461). -/
structure Held32 where
  /-- ps since it was recorded; 16 R461; reset: none -/
  age : Nat
  /-- its one or two 32-byte slots; 16 R461; reset: none -/
  slots : List (List Nat)
deriving DecidableEq, Repr

/-- The ledger. -/
structure Ledger where
  /-- 3 bits; 16 R473 `lg_state`; reset 0 (UNBOUND) -/
  phase : Nat := 0
  /-- 1 bit; 16 R473 `skipped`; reset 0 -/
  skipped : Bool := false
  /-- 1 bit; 16 R473 `gap_seen`; reset 0 -/
  gapSeen : Bool := false
  /-- 1 bit; 16 R473 `drive_fail`; reset 0 -/
  driveFail : Bool := false
  /-- 48 bits; 16 R451 (sequence of the latest page sealed); reset 0 -/
  seq : Nat := 0
  /-- 48 bits; 16 R474 LG_SEQ (newest durable sequence); reset 0 -/
  durable : Nat := 0
  /-- 32 bits; 16 R474 LG_EPOCH; reset 0 -/
  epoch : Nat := 0
  /-- 32 bits; 16 R474 LG_LOST; reset 0 -/
  lost : Nat := 0
  /-- 32 bits; 16 R449 (snapshot number within the epoch, latest begun); reset DESIGN CHOICE 0 (log 2) -/
  snapshot : Nat := 0
  /-- 32 bits; 16 R461 (the ledger's own event number, latest); reset DESIGN CHOICE 0 (log 2) -/
  evNum : Nat := 0
  /-- 16 bytes; 16 R449, R451 (digest prefix of the latest page); reset DESIGN CHOICE zeros (log 2) -/
  prev : List Nat := []
  /-- drives 0 to 15; 16 R445; reset absent -/
  drives : Tab Drive := []
  /-- 3 bits; 16 R463 (pair the next extent goes to); reset DESIGN CHOICE 0 (log 2) -/
  nextPair : Nat := 0
  /-- pages held, key epoch × 2^48 + sequence; 16 R449; reset none -/
  pages : Tab (Option Stored) := []
  /-- first and last key of pages lost while the device ran; 16 R448, R470 (they were lost at no device stop); reset none -/
  lostRun : List (Nat × Nat) := []
  /-- page keys waiting to be written, in writing order; 16 R459; reset empty -/
  queue : List Nat := []
  /-- NVMe commands under way; 16 R446; reset none -/
  ops : List NvmeOp := []
  /-- 32 bits; 16 R463 (next command number); reset DESIGN CHOICE 0 (log 2) -/
  nextOp : Nat := 0
  /-- events held and not yet sealed, oldest first; 16 R461; reset empty -/
  slots : List Held32 := []
  /-- 32 bits; 16 R448 (held slots dropped while STALLED); reset DESIGN CHOICE 0 (log 2) -/
  slotDrops : Nat := 0
  /-- ms; 16 R453 (the last multiple of the cadence that fell due); reset DESIGN CHOICE 0 (log 2) -/
  lastDue : Nat := 0
  /-- 1 bit; 13 R388 (a snapshot has fallen due under enforcement: the interval is four times as long); reset 0 -/
  slowed : Bool := false
  /-- 1 bit; 16 R453 (a capture starts at the next boundary); reset 0 -/
  due : Bool := false
  /-- optional; 16 R455; reset none -/
  cap : Option Capture := none
  /-- optional first and last page key of the frame being written; 16 R459; reset none -/
  frame : Option (Nat × Nat) := none
  /-- 16 bits; 16 R472 (snapshots skipped in a row); reset 0 -/
  skips : Nat := 0
  /-- 1 bit; 16 R449 flag [3] (the next page is the first after a device start); reset 1 -/
  restart : Bool := true
  /-- exports of slots 0 to 7; 16 R466; reset none -/
  exports : Tab (Option Export) := []
  /-- 32 bits per slot; 16 R475 LG_EXP PROD; reset 0 -/
  prod : Tab Nat := []
  /-- 32 bits per slot; 16 R475 LG_EXP DROP; reset 0 -/
  drop : Tab Nat := []
  /-- images found on the drives: by position index, (page key × 256 + slot, 32 bytes); 16 R465; reset DESIGN CHOICE none (log 2) -/
  images : Tab (List (Nat × List Nat)) := []
  /-- 1 bit; 16 R464 (the drives have been searched in this run); reset 0 -/
  mounted : Bool := false
  /-- 1 bit; 16 R445 (the one drive is attached without a switch and is never written); reset 0 -/
  direct : Bool := false
  /-- 48 bits; 16 R464 (last intact sequence that a restart event has recorded); reset 0 -/
  lastIntact : Nat := 0
  /-- 1 bit; 16 R464 (the search that is due follows a keystone takeover); reset 0 -/
  takeover : Bool := false
  /-- 1 bit; 16 R341, R464 (the present run has ended with a complete flush); reset 0 -/
  flushed : Bool := false
deriving DecidableEq, Repr

/-! ### Fuses and identity (17) -/

/-- A journal entry of a region (R482). -/
structure JEntry where
  /-- 1 bit; 17 R482 (start bit); reset DESIGN CHOICE 0, blank (log 6) -/
  start : Bool := false
  /-- 7 bits; 17 R482 (word offset); reset DESIGN CHOICE 0 (log 6) -/
  off : Nat := 0
  /-- 5 bits; 17 R482 (word count); reset DESIGN CHOICE 0 (log 6) -/
  words : Nat := 0
  /-- 16 bits; 17 R482 (CRC-16 of the data); reset DESIGN CHOICE 0 (log 6) -/
  crc : Nat := 0
  /-- 1 bit; 17 R482 (end bit); reset DESIGN CHOICE 0 (log 6) -/
  fin : Bool := false
  /-- 1 bit; 17 R482 (marked bit); reset DESIGN CHOICE 0 (log 6) -/
  marked : Bool := false
  /-- 1 bit; 17 R482 (ended by a resumption); reset DESIGN CHOICE 0 (log 6) -/
  resumed : Bool := false
  /-- optional words and their CRC-16; 17 R482 (copy in the boot flash's journal sector); reset none -/
  copy : Option (List Nat × Nat) := none
deriving DecidableEq, Repr

/-- A programming command under way (R480). -/
structure Prog where
  /-- 3 bits; 17 R480 (region); reset: none -/
  region : Nat
  /-- 4 bits; 17 R482 (journal entry); reset: none -/
  entry : Nat
  /-- 7 bits; 17 R480 (first word); reset: none -/
  off : Nat
  /-- words; 17 R480 (data); reset: none -/
  data : List Nat
  /-- 4 bits; 14 R408, 17 R481 (slot that sent it, 8 after a keystone takeover); reset: none -/
  slot : Nat
  /-- the command's header; 14 R396 (for its reply); reset: none -/
  hdr : Hdr
deriving DecidableEq, Repr

/-- The fuse array. -/
structure Fuses where
  /-- 32-bit words, key region × 128 + word; 17 R476; reset fuse, as shipped (log 6) -/
  words : Tab Nat := [(63, 2791528945), (255, 263941460), (264, 1), (384, 1)]
  /-- three fuses, key region × 2 + kind (0 write, 1 read); 17 R476; reset fuse, as shipped: TRIM and IDENTITY write-locked, KEYS read-locked (log 6) -/
  locks : Tab Nat := [(0, 7), (2, 7), (5, 7)]
  /-- journal, key region × 16 + entry; 17 R482; reset fuse, blank (log 6) -/
  journal : Tab JEntry := []
  /-- 16 bits per region; 17 R478 (marginal bits); reset 0 -/
  marginal : Tab Nat := []
  /-- 1 bit; 17 R489 `maint`; reset 0 -/
  maint : Bool := false
  /-- 3 bits; 17 R480 (slot that entered the MAINTAIN state); reset DESIGN CHOICE 0 (log 2) -/
  owner : Nat := 0
  /-- optional; 17 R489 `prog_busy`; reset none -/
  prog : Option Prog := none
  /-- 1 bit; 17 R481 (the MAINTAIN state ends after the running command); reset 0 -/
  leaveDue : Bool := false
  /-- 1 bit; 17 R489 `marginal_seen`; reset 0 -/
  marginalSeen : Bool := false
  /-- 1 bit; 17 R489 `journal_marked`; reset 0 -/
  marked : Bool := false
  /-- 6 bits; 17 R489 `region_fail`; reset 0 -/
  fail : Nat := 0
  /-- 2 bits; 17 R489 `root_in_use`; reset fuse, none usable as shipped (log 6) -/
  root : Nat := 0
  /-- 1 bit per slot; 17 R483 (slots opened under root 0); reset DESIGN CHOICE 0 (log 2) -/
  underRoot0 : Nat := 0
  /-- 1 bit; 17 R483 (slots of root 0 close at the end of the tick); reset 0 -/
  rotateDue : Bool := false
deriving DecidableEq, Repr

/-! ### The machine -/

/-- The state of the block (19 R20, and every chapter's own state). -/
structure State where
  /-- commands waiting, first in first out; the model's own; reset empty -/
  pending : List Instr := []
  /-- timebase; 02; reset as its fields -/
  tb : Timebase := {}
  /-- waveform ports; 03; reset as its fields -/
  sp : Ports := {}
  /-- crosspoint and parameter banks; 04; reset as its fields -/
  xp : Crosspoint := {}
  /-- control engine; 05; reset as its fields -/
  ce : Control := {}
  /-- modulation, trip path, freeze; 06; reset as its fields -/
  md : Modulator := {}
  /-- brick records; 07; reset as its fields -/
  rc : Records := {}
  /-- impedance; 08; reset as its fields -/
  z : Impedance := {}
  /-- load models; 08; reset as its fields -/
  ld : Loads := {}
  /-- bay links; 09; reset as its fields -/
  lk : Links := {}
  /-- redundancy; 10; reset as its fields -/
  rd : Redundancy := {}
  /-- start-up and safe stop; 11; reset as its fields -/
  st : Startup := {}
  /-- footing; 12; reset as its fields -/
  ftg : Footing := {}
  /-- die thermal; 13; reset as its fields -/
  thm : Thermal := {}
  /-- host slots; 14; reset as its fields -/
  hs : HostIf := {}
  /-- ledger; 16; reset as its fields -/
  lg : Ledger := {}
  /-- fuses; 17; reset as its fields -/
  fu : Fuses := {}
  /-- events page; 19; reset as its fields -/
  ev : Events := {}
  /-- system page; 19; reset as its fields -/
  sys : SysPage := {}
  /-- counter of the free values drawn; the model's own; reset DESIGN CHOICE 0 (log 1) -/
  freeCtr : Nat := 0
deriving DecidableEq, Repr

/-- Why a command stops the block. Each one is safe: the hardware has no such command to carry out. -/
inductive Fault where
  /-- an event row names a lane, bay, pier, tile, die, channel or slot the variant does not have (R4, R15); raised by the event rows that take a unit; safe -/
  | noSuchUnit
deriving DecidableEq, Repr

/-- Why the model refuses a command. -/
inductive Refusal where
  /-- the command has no meaning in the model yet; raised by the dispatch alone; safe -/
  | notModelled (mnemonic : String)
deriving DecidableEq, Repr

/-- The block right after a power-on reset, before any command (R339). -/
def State.reset : State := {}

end Sys2Proof.Machine
end

