-- ==== Sys2Proof/Machine/Tab.lean ====
section
/-! DEFINITION. Reading and writing sparse tables in their canonical form. -/

namespace Sys2Proof.Machine
open Sys2Proof

/-- The value at key `k`, `d` where the key is not listed. -/
def tget {α : Type} (d : α) : Tab α → Nat → α
  | [], _ => d
  | (k', v) :: r, k => if k = k' then v else if k < k' then d else tget d r k

/-- Write `v` at key `k`, keeping the form: writing the default removes the entry. -/
def tset {α : Type} [DecidableEq α] (d : α) : Tab α → Nat → α → Tab α
  | [], k, v => if v = d then [] else [(k, v)]
  | (k', v') :: r, k, v =>
    if k < k' then (if v = d then (k', v') :: r else (k, v) :: (k', v') :: r)
    else if k = k' then (if v = d then r else (k, v) :: r)
    else (k', v') :: tset d r k v

/-- Change the value at key `k`. -/
def tmod {α : Type} [DecidableEq α] (d : α) (t : Tab α) (k : Nat) (f : α → α) : Tab α := tset d t k (f (tget d t k))

/-- All keys of `t` are above `lo` and rise, and no value is the default. -/
def twfFrom {α : Type} [DecidableEq α] (d : α) : Nat → Tab α → Bool
  | _, [] => true
  | lo, (k, v) :: r => decide (lo ≤ k) && decide (v ≠ d) && twfFrom d (k + 1) r

/-- The canonical form of a table. -/
def twf {α : Type} [DecidableEq α] (d : α) (t : Tab α) : Bool := twfFrom d 0 t

/-- Change every listed entry whose key meets `p`, keeping the form. -/
def tmapIf {α : Type} [DecidableEq α] (d : α) (p : Nat → Bool) (f : Nat → α → α) : Tab α → Tab α
  | [] => []
  | (k, v) :: r =>
    if p k then (if f k v = d then tmapIf d p f r else (k, f k v) :: tmapIf d p f r) else (k, v) :: tmapIf d p f r

/-- Change every listed entry, keeping the form. -/
def tmapAll {α : Type} [DecidableEq α] (d : α) (f : α → α) (t : Tab α) : Tab α := tmapIf d (fun _ => true) (fun _ => f) t

/-- Drop every entry whose key meets `p`. -/
def tdrop {α : Type} (p : Nat → Bool) (t : Tab α) : Tab α := t.filter (fun e => !p e.1)

/-- The entries whose keys lie in `[lo, lo + n)`. -/
def trange {α : Type} (t : Tab α) (lo n : Nat) : Tab α := t.filter (fun e => decide (lo ≤ e.1) && decide (e.1 < lo + n))

end Sys2Proof.Machine
end

