-- ==== Sys2Proof/Machine/Units.lean ====
section
/-! DEFINITION. Variants, unit IDs, positions, tiles, twins, neighbours (00, 01). -/

namespace Sys2Proof.Machine
open Sys2Proof

/-- A journal entry of the region that covers word `w` is marked: the word is spoiled (R482). -/
def Fuses.spoiled (f : Fuses) (region w : Nat) : Bool :=
  f.journal.any (fun e => decide (e.1 / 16 = region) && e.2.marked && decide (e.2.off ≤ w) && decide (w < e.2.off + e.2.words))

/-- The POLICY word as the device uses it; a spoiled one is not used and counts as unprogrammed (R476, R482; DESIGN CHOICE, log 120). -/
def Fuses.policy (f : Fuses) : Nat := if f.spoiled 3 0 then 0 else tget 0 f.words 384

/-- The variant field of POLICY (R4, R490). -/
def State.variant (s : State) : Nat := bits s.fu.policy 2 2

/-- Bays the variant serves (R4). -/
def State.nBays (s : State) : Nat := if s.variant = 1 then 48 else 144

/-- Tiles the variant has (R4). -/
def State.nTiles (s : State) : Nat := if s.variant = 1 then 4 else 12

/-- LAB_ENABLE is blown: a production part, whatever the journal says of the word, since lab freeze exists only on a part whose fuse is unblown (R7, R213, R476). -/
def State.production (s : State) : Bool := (tget 0 s.fu.words 384).testBit 0

/-- The tile that serves a bay (R30). -/
def tileOf (bay : Nat) : Nat := bay / 12

/-- A tile's neighbour (R30). -/
def neighbour (t : Nat) : Nat := if t % 2 = 0 then t + 1 else t - 1

/-- A bay's twin (R30). -/
def twin (bay : Nat) : Nat := if tileOf bay % 2 = 0 then bay + 12 else bay - 12

/-- A pier's index bay × 3 + pier. -/
def pierIx (bay pier : Nat) : Nat := bay * 3 + pier

/-- A brick's position index (R456). -/
def posIx (bay pier course brick : Nat) : Nat := bay * 36864 + pier * 12288 + course * 96 + brick

/-- The parts of a position index. -/
def posBay (x : Nat) : Nat := x / 36864
def posPier (x : Nat) : Nat := x / 12288
def posCourse (x : Nat) : Nat := x / 96
def posBrick (x : Nat) : Nat := x % 96

/-- A unit ID from its fields (R15). -/
def uid (level bay pier course brick : Nat) : Nat :=
  level * 2 ^ 29 + bay * 2 ^ 21 + pier * 2 ^ 19 + course * 2 ^ 12 + brick * 2 ^ 5

/-- The plant's unit ID (R16). -/
def plantUid : Nat := 0x80000000
/-- The unit of an event that concerns no unit of the plant (R414). -/
def noUnit : Nat := 0
def bayUid (b : Nat) : Nat := uid 3 b 0 0 0
/-- The unit ID of pier index `p`. -/
def pierUid (p : Nat) : Nat := uid 2 (p / 3) (p % 3) 0 0
/-- The unit ID of course index `c` = bay × 384 + pier × 128 + course. -/
def courseUid (c : Nat) : Nat := uid 1 (c / 384) (c / 128 % 3) (c % 128) 0
/-- The unit ID of position index `x`. -/
def brickUid (x : Nat) : Nat := uid 0 (x / 36864) (x / 12288 % 3) (x / 96 % 128) (x % 96)

/-- A unit as its ID gives it. -/
structure Unit4 where
  level : Nat
  bay : Nat
  pier : Nat
  course : Nat
  brick : Nat
deriving DecidableEq, Repr

/-- The fields of a unit ID (R15). -/
def unitFields (w : Nat) : Unit4 := ⟨bits w 29 3, bits w 21 8, bits w 19 2, bits w 12 7, bits w 5 7⟩

/-- What the device makes of a unit ID: a status, 0 where it is taken, and the unit (R15, R5). -/
def checkUid (nb w : Nat) : Nat × Unit4 :=
  let u := unitFields w
  if 4 < u.level ∨ w % 32 ≠ 0 ∨ pow32 ≤ w ∨ (1 ≤ u.level ∧ u.brick ≠ 0) ∨ (2 ≤ u.level ∧ u.course ≠ 0) ∨
     (3 ≤ u.level ∧ u.pier ≠ 0) ∨ (4 ≤ u.level ∧ u.bay ≠ 0) then (0x0302, u)
  else if nb ≤ u.bay ∨ 2 < u.pier ∨ 95 < u.brick then (0x0303, u)
  else (0, u)

/-- The same for a command that takes one level only; another level is malformed for it (R15, log 10). -/
def checkLevel (nb level w : Nat) : Nat × Unit4 :=
  let r := checkUid nb w
  if r.1 = 0 ∧ r.2.level ≠ level then (0x0302, r.2) else r

/-- Course index bay × 384 + pier × 128 + course. -/
def courseIx (bay pier course : Nat) : Nat := bay * 384 + pier * 128 + course

/-- The lowest position index below a unit, and how many positions it has (R32). -/
def unitSpan (nb : Nat) (u : Unit4) : Nat × Nat :=
  match u.level with
  | 0 => (posIx u.bay u.pier u.course u.brick, 1)
  | 1 => (posIx u.bay u.pier u.course 0, 96)
  | 2 => (posIx u.bay u.pier 0 0, 12288)
  | 3 => (posIx u.bay 0 0 0, 36864)
  | _ => (0, nb * 36864)

end Sys2Proof.Machine
end

