-- ==== Sys2Proof/Machine/Ops.lean ====
section
/-! DEFINITION. The named operations every chapter uses: time, banks, events, interrupts, replies, refusals. -/

namespace Sys2Proof.Machine
open Sys2Proof

/-! ### Status codes (R416) -/

def stOk : Nat := 0x0000
def stAccepted : Nat := 0x0001
def stQueueFull : Nat := 0x0102
def stDenied : Nat := 0x0201
def stRightsChanged : Nat := 0x0202
def stAuth : Nat := 0x0203
def stNoSession : Nat := 0x0205
def stGrant : Nat := 0x0206
def stBadOpcode : Nat := 0x0301
def stBadParam : Nat := 0x0302
def stRange : Nat := 0x0303
def stBadLength : Nat := 0x0304
def stBadVersion : Nat := 0x0305
def stState : Nat := 0x0401
def stPending : Nat := 0x0402
def stInternal : Nat := 0x0601
def stVerify : Nat := 0x0603

/-! ### Time -/

/-- The cycle counter, its due increment included (R51, log 11). -/
def Timebase.cycleNow (t : Timebase) : Nat := (t.cycle + bit t.bnd) % 2 ^ 48

/-- The absolute tick (R53). -/
def Timebase.absTick (t : Timebase) : Nat := t.cycleNow * 800 + t.idx

/-- Plant time in ns (R14, R67). -/
def PlantTime.ns (p : PlantTime) : Nat := p.atto / 1000000000

def State.absTick (s : State) : Nat := s.tb.absTick

/-- Plant time is LOCKED or HOLDOVER (R398, R400). -/
def PlantTime.good (p : PlantTime) : Bool := p.phase == .locked || p.phase == .holdover

/-! ### Banks (R127, R424) -/

/-- The key of a row (`Bank.rows`). -/
def rowKey (op tgt row : Nat) : Nat := (op * 512 + tgt) * 64 + row

/-- A row's words in a bank: the default where nothing is staged. -/
def Bank.row (b : Bank) (op tgt row : Nat) : List Nat :=
  match tget [] b.rows (rowKey op tgt row) with
  | [] => rowDefault op tgt row
  | ws => ws

/-- Word `i` of a row. -/
def Bank.word (b : Bank) (op tgt row i : Nat) : Nat := (b.row op tgt row).getD i 0

/-- Word `i` of a row as a signed number. -/
def Bank.int (b : Bank) (op tgt row i : Nat) : Int := signedOf 32 (b.word op tgt row i)

/-- Write a row; a row at its default is not listed. -/
def Bank.setRow (b : Bank) (op tgt row : Nat) (ws : List Nat) : Bank :=
  { b with rows := tset [] b.rows (rowKey op tgt row) (if ws = rowDefault op tgt row then [] else ws) }

/-- A word in force. -/
def State.prm (s : State) (op tgt row i : Nat) : Nat := s.xp.act.word op tgt row i
/-- A signed word in force. -/
def State.prmI (s : State) (op tgt row i : Nat) : Int := s.xp.act.int op tgt row i

/-! ### Free values (log 1) -/

/-- Draw a `w`-bit value the spec leaves open. -/
def State.free (s : State) (w : Nat) : Nat × State :=
  (Config.freeValue s.freeCtr % 2 ^ w, { s with freeCtr := s.freeCtr + 1 })

/-! ### Interrupts (R405) -/

/-- Signal a vector: one interrupt at once, or a pending item while its moderation time runs. -/
def HostIf.signal (h : HostIf) (v : Nat) : HostIf :=
  let m := if v = 16 then 20 else (tget {} h.slots (v / 2)).moderation
  { h with vectors := tmod {} h.vectors v (fun x =>
      if x.left = 0 then { x with raised := incWrap 32 x.raised, left := m * 1000000, pending := false } else { x with pending := true }) }

/-! ### Events (R414, R415, R461, R537) -/

/-- An event before it is stamped. -/
structure Evt where
  kind : EvKind
  unit : Nat := 0
  detail : Nat := 0
deriving DecidableEq, Repr

/-- A packet the device sends on slot `i`: header and parameters of a reply, and the trailer under a key where it carries one (R394, R395). -/
def Reply.packet (r : Reply) (i kind : Nat) (key : List Nat) : List Nat :=
  let b := le 2 0x4F48 ++ [1, i, kind, bit r.auth] ++ le 2 r.opcode ++ le 2 r.tag ++ le 2 r.status ++ le 4 r.seq ++ le 4 r.gen ++ le 2 r.params.length ++ le 2 r.qualifier ++
    le 4 r.retryAfter ++ le 4 r.tick ++ r.params
  if r.auth then b ++ (hmac key b).take 16 else b

/-- An event record's 32 bytes (R414, R461). -/
def EvRec.bytes (r : EvRec) : List Nat :=
  le 4 r.seq ++ le 2 r.code ++ le 2 r.rep ++ le 8 r.tick ++ le 8 r.stamp ++ le 4 r.unit ++ le 4 r.detail

/-- The datagram that carries an event record (R394, R395, R415). -/
def Slot.eventPacket (sl : Slot) (i : Nat) (r : EvRec) : List Nat :=
  ({ opcode := 0, tag := 0, status := 0, seq := sl.devSeq, gen := sl.gen, qualifier := 0, retryAfter := 0, tick := 0, params := r.bytes, auth := true } : Reply).packet i 3 sl.key

/-- A slot's 64-byte write-back area (R402). -/
def Slot.writeBack (x : Slot) : List Nat := le 4 x.cmdCons ++ le 4 x.rplProd ++ le 4 x.evqProd ++ List.replicate 52 0

/-- The host address of a reply ring's entry: the index modulo the ring's size (R402). -/
def Slot.replyAddr (x : Slot) (index : Nat) : Nat := x.rings.rplBase + index % 2 ^ x.rings.rplOrder * 4096

/-- The host address of an event ring's entry (R402). -/
def Slot.eventAddr (x : Slot) (index : Nat) : Nat := x.rings.evqBase + index % 2 ^ x.rings.evqOrder * 32

/-- The reply ring has no free entry (R404). -/
def Slot.replyFull (x : Slot) : Bool := decide (2 ^ x.rings.rplOrder ≤ (x.rplProd + pow32 - x.rplCons) % pow32)

/-- Write bytes into host memory (R402). -/
def HostIf.put (h : HostIf) (addr : Nat) (bytes : List Nat) : HostIf := { h with mem := tset [] h.mem addr bytes }

/-- Write slot `i`'s write-back area, after the entries it announces (R402). -/
def HostIf.announce (h : HostIf) (i : Nat) : HostIf := let x := tget {} h.slots i; h.put x.rings.wb x.writeBack

/-- Send a reply packet on slot `i`: as a datagram, or into its reply ring, or held while that has no free entry, so that none is lost (R402, R404, log 75). -/
def HostIf.post (h : HostIf) (i : Nat) (udp : Bool) (c : HeldReply) : HostIf :=
  let x := tget {} h.slots i
  let bytes := c.reply.packet i 2 c.key
  if udp then { h with slots := tset {} h.slots i { x with sent := bytes } }
  else if x.replyFull then { h with slots := tset {} h.slots i { x with held := x.held ++ [c] } }
  else
    ((({ h with slots := tset {} h.slots i { x with sent := bytes, rplProd := incWrap 32 x.rplProd } } : HostIf).put (x.replyAddr x.rplProd) bytes).announce i).signal (2 * i)

/-- A held reply as it is written: with the rights generation then in force (R394); a copy keeps its own. -/
def HeldReply.now (c : HeldReply) (gen : Nat) : HeldReply := if c.use = .copy then c else { c with reply := { c.reply with gen := gen } }

/-- Send what slot `i` holds, as far as its reply ring has entries (R394, R404). -/
def HostIf.flush (h : HostIf) (i : Nat) : HostIf :=
  let x := tget {} h.slots i
  x.held.foldl (fun (g : HostIf) c => g.post i false (c.now x.gen)) { h with slots := tset {} h.slots i { x with held := [] } }

/-- Hand an event record to open slot `i`: its kept list, and its ring or datagram (R404, R415). -/
def Slot.deliver (sl : Slot) (i : Nat) (r : EvRec) : Slot × Bool × Bool :=
  let r' := { r with seq := sl.evSeq }
  let sl1 := { sl with events := (r' :: sl.events).take 1024, evSeq := incWrap 32 sl.evSeq }
  match sl.phase with
  | .closed => (sl, false, false)
  | .udp => ({ sl1 with devSeq := incWrap 32 sl.devSeq, sent := sl.eventPacket i r' }, false, false)
  | .pcie =>
    if 2 ^ sl.rings.evqOrder ≤ (sl.evqProd + 2 ^ 32 - sl.evqCons) % 2 ^ 32 then
      ({ sl1 with dropped := satU 32 (sl.dropped + 1) }, false, true)
    else ({ sl1 with evqProd := incWrap 32 sl.evqProd, devSeq := incWrap 32 sl.devSeq }, true, false)

/-- Deliver to slot `i` where its mask admits the group. -/
def HostIf.deliver (h : HostIf) (i : Nat) (force : Bool) (r : EvRec) : HostIf :=
  let sl := tget {} h.slots i
  if sl.phase ≠ .closed ∧ (force ∨ sl.mask.testBit (r.code / 256)) then
    let d := sl.deliver i r
    let h1 := { h with slots := tset {} h.slots i d.1, evqOverflow := h.evqOverflow || d.2.2 }
    if d.2.1 then ((h1.put (sl.eventAddr sl.evqProd) ({ r with seq := sl.evSeq } : EvRec).bytes).announce i).signal (2 * i + 1) else h1
  else h

/-- The active keystone sheds telemetry (R388). -/
def State.shedding (s : State) : Bool := s.rd.haveActive && (tget {} s.thm.dies (12 + s.rd.active)).enforced

/-- How many values of an event's detail name its source where its unit names none: the die, channel, drive, pair, region or slot in its low bits (R388). -/
def evSources : EvKind → Nat
  | .thermalLevel | .sensorFault | .throttleRequest | .fuseJournal => 16
  | .excursion | .railTrip | .driveFailed | .pairDegraded | .resilvered | .fuseProgrammed | .fuseMarginal | .fuseLock | .transferEnded => 256
  | .slotGone | .commitError => 8
  | .bootSlotBad => 2
  | _ => 1

/-- Two records are of the same kind and source and fall within 100 ms (R388). -/
def EvRec.mergesInto (r : EvRec) (m : Nat) (e : EvRec) : Bool :=
  e.code == r.code && e.unit == r.unit && e.detail % m == r.detail % m && decide (r.stamp < e.stamp + 100000000)

/-- Change the first element that `p` holds of. -/
def modFirst {α : Type} (p : α → Bool) (f : α → α) : List α → List α
  | [] => []
  | x :: r => if p x then f x :: r else x :: modFirst p f r

/-- Deliver a repeat while the keystone sheds: the latest kept record of the same kind and source within 100 ms takes it (R388). -/
def HostIf.merge (h : HostIf) (i : Nat) (force : Bool) (m : Nat) (r : EvRec) : HostIf :=
  let sl := tget {} h.slots i
  if sl.phase ≠ .closed ∧ (force ∨ sl.mask.testBit (r.code / 256)) then
    if sl.events.any (r.mergesInto m) then
      { h with slots := tset {} h.slots i { sl with events := modFirst (r.mergesInto m) (fun e => { e with rep := incSat 16 e.rep }) sl.events } }
    else h.deliver i force r
  else h

/-- Drop the oldest held events until at most `n` slots are left; the rest and the number of slots dropped (R448). -/
def trimHeld (n : Nat) : List Held32 → List Held32 × Nat
  | [] => ([], 0)
  | h :: r => if n < sumN ((h :: r).map (fun e => e.slots.length)) then let t := trimHeld n r; (t.1, t.2 + h.slots.length) else (h :: r, 0)

/-- Hold an event for the ledger; while no page can be written the keystone holds 4,096 slots and drops the oldest (R448, R461). -/
def Ledger.hold (l : Ledger) (ss : List (List Nat)) : Ledger :=
  let t := if l.phase = 2 then (l.slots ++ [{ age := 0, slots := ss }], 0) else trimHeld 4096 (l.slots ++ [{ age := 0, slots := ss }])
  { l with slots := t.1, slotDrops := satU 32 (l.slotDrops + t.2), evNum := (l.evNum + 1) % 2 ^ 32 }

/-- Record an event in the ledger, with a second slot where it carries one (R461). -/
def Ledger.record (l : Ledger) (r : EvRec) (extra : List (List Nat)) : Ledger :=
  l.hold (({ r with seq := (l.evNum + 1) % 2 ^ 32 }).bytes :: extra)

/-- A held slot's event as a record (R414, R461). -/
def slotRec (bs : List Nat) : EvRec :=
  { seq := getLe bs 0 4, code := getLe bs 4 2, rep := getLe bs 6 2, tick := getLe bs 8 8, stamp := getLe bs 16 8, unit := getLe bs 24 4, detail := getLe bs 28 4 }

/-- Record an event while the keystone sheds: the latest one still held and of the same kind and source within 100 ms takes it as a repeat (R388). -/
def Ledger.mergeRecord (l : Ledger) (r : EvRec) (m : Nat) (extra : List (List Nat)) : Ledger :=
  let takes := fun (h : Held32) => match h.slots with | [x] => r.mergesInto m (slotRec x) | _ => false
  if extra.isEmpty && l.slots.any takes then
    { l with slots := (modFirst takes (fun h => { h with slots := h.slots.map (fun x => let e := slotRec x; { e with rep := incSat 16 e.rep }.bytes) }) l.slots.reverse).reverse }
  else l.record r extra

/-- The record of an event raised now, before a slot numbers it (R414). -/
def State.stampEvt (s : State) (e : Evt) : EvRec :=
  { seq := 0, code := e.kind.code, rep := 0, tick := s.absTick, stamp := s.tb.stamp, unit := e.unit, detail := e.detail % pow32 }

/-- Show an event in EV_LAST and hand it to the slots whose mask admits it and to those that `force` names (R414, R537; merging, R388). -/
def State.publish (s : State) (e : Evt) (force : Nat → Bool) : State :=
  let r := s.stampEvt e
  let m := evSources e.kind
  let seq := incWrap 32 s.ev.seq
  let last := if s.shedding && r.mergesInto m s.ev.last then { s.ev.last with seq := seq, rep := incSat 16 s.ev.last.rep } else { r with seq := seq }
  { s with
    ev := { s.ev with seq := seq, last := last }
    hs := (List.range 8).foldl (fun (h : HostIf) i => if s.shedding then h.merge i (force i) m r else h.deliver i (force i) r) s.hs }

/-- Raise an event, with the second ledger slot a record-image or binding event carries. -/
def State.raiseX (s : State) (e : Evt) (extra : List (List Nat)) : State :=
  let r := s.stampEvt e
  { s.publish e (fun _ => false) with
    lg := if ¬ e.kind.ledgered then s.lg else if s.shedding then s.lg.mergeRecord r (evSources e.kind) extra else s.lg.record r extra }

/-- Raise an event (R414). -/
def State.raise (s : State) (e : Evt) : State := s.raiseX e []

/-- Raise events in order. -/
def State.raiseAll (s : State) (es : List Evt) : State := es.foldl State.raise s

/-- Raise an event of group 0x0E that concerns slot `i`: it reaches it whatever its mask (R414). -/
def State.raiseTo (s : State) (i : Nat) (e : Evt) : State := s.publish e (fun j => decide (j = i))

/-- Raise an event that every live slot receives (R386, R412). -/
def State.raiseLive (s : State) (e : Evt) : State := s.publish e (fun _ => true)

/-- Vector 16 for a bit of EV_FAULT that has gone from 0 to 1 (R536). -/
def State.vector16 (s : State) (k : Nat) (was : Bool) : State :=
  if ¬ was ∧ s.ev.mask.testBit (k - 1) then { s with hs := s.hs.signal 16 } else s

/-- Assert FAULT_N (R325, R523, R536). -/
def State.assertFault (s : State) : State :=
  ({ s with ev := { s.ev with faultN := true, faultEdge := true } }).vector16 1 s.ev.faultEdge

/-! ### Replies (R394, R396, R400, R404, R420) -/

/-- What a command answers with. -/
structure Ans where
  status : Nat := 0
  params : List Nat := []
  retry : Nat := 0
deriving DecidableEq, Repr

def okAns (params : List Nat := []) : Ans := { status := stOk, params := params }
def acceptedAns (params : List Nat := []) : Ans := { status := stAccepted, params := params }

/-- The 8-byte refusal detail (R420). -/
def detail8 (op row target : Nat) : List Nat := le 2 op ++ le 1 row ++ [0] ++ le 4 target

/-- A refusal; those of R420 carry their detail. -/
def refuseAns (status op row target : Nat) : Ans :=
  { status := status
    params := if status = stBadParam ∨ status = stRange ∨ status = stState ∨ status = stPending then detail8 op row target else [] }

/-- Write a reply packet to a slot, whatever its state; its trailer is under `key`. -/
def State.writeReplyUnder (s : State) (key : List Nat) (h : Hdr) (op qualifier : Nat) (a : Ans) (use : ReplyUse := .answer) : State :=
  let sl := tget {} s.hs.slots h.slot
  let r : Reply := { opcode := op, tag := h.tag, status := a.status, seq := sl.devSeq, gen := sl.gen, qualifier := qualifier,
                     retryAfter := a.retry, tick := s.absTick % pow32, params := a.params, auth := h.auth }
  let sl' := { sl with devSeq := incWrap 32 sl.devSeq, replies := tset none sl.replies h.tag (some r), lastReply := some r }
  let s1 := { s with hs := ({ s.hs with slots := tset {} s.hs.slots h.slot sl' } : HostIf).post h.slot h.udp { reply := r, key := key, use := use } }
  if a.status = stInternal then ({ s1 with ev := { s1.ev with internal := true } }).vector16 4 s.ev.internal else s1

/-- Write a reply packet under the slot's key (R395). -/
def State.writeReply (s : State) (h : Hdr) (op qualifier : Nat) (a : Ans) (use : ReplyUse := .answer) : State := s.writeReplyUnder (tget {} s.hs.slots h.slot).key h op qualifier a use

/-- The qualifier of a command that executes now (R400). -/
def State.qualifier (s : State) (h : Hdr) : Nat :=
  if (tget {} s.hs.slots h.slot).gen = h.gen then 0 else stRightsChanged

/-- The commands executed before the device steps are complete (R422). -/
def earlyOp (op : Nat) : Bool :=
  [0x0101, 0x0104, 0x0B05, 0x0B06, 0x0F02].contains op || op / 256 == 2 || op / 256 == 13 || op / 256 == 14

/-- A command is allowed in the present device step (R422). -/
def State.opAllowed (s : State) (op : Nat) : Bool := s.st.devStep == 7 || earlyOp op

/-- Execute a host command: its effect and its answer, or the refusal of R422; then its reply, which a closed slot discards (R412). -/
def State.host (s : State) (h : Hdr) (op : Nat) (f : State → State × Ans) : State :=
  let q := s.qualifier h
  let r := if s.opAllowed op then f s else (s, refuseAns stState op 255 0)
  if (tget {} r.1.hs.slots h.slot).phase = .closed then r.1 else r.1.writeReply h op q r.2

/-- Add an immediate command that changes device state to the standby's journal (R302). -/
def State.journal (s : State) (i : Instr) : State :=
  { s with rd := { s.rd with journal := i :: s.rd.journal } }

/-- Execute an immediate command that changes device state when it is not refused (R302). -/
def State.hostJ (s : State) (i : Instr) (h : Hdr) (op : Nat) (f : State → State × Ans) : State :=
  s.host h op (fun t => let r := f t; if r.2.status = stOk ∨ r.2.status = stAccepted then (r.1.journal i, r.2) else r)

/-- The cursor form (R421): `next`, `count` and as many items as fit. -/
def cursor (udp : Bool) (size start max : Nat) (items : List (List Nat)) : List Nat :=
  let fit := ((if udp then 1424 else 4048) - 4) / size
  let got := (items.drop start).take (Nat.min max fit)
  let next := if start + got.length < items.length then start + got.length else 0xFFFF
  le 2 next ++ le 2 got.length ++ got.flatten

end Sys2Proof.Machine
end

