-- ==== Sys2Proof/Machine/Flags.lean ====
section
/-! DEFINITION. The register words of BAR0 as the state gives them (19 R521 and the field maps it names). -/

namespace Sys2Proof.Machine
open Sys2Proof

/-- One bit of a word. -/
def b1 (b : Bool) (k : Nat) : Nat := if b then 2 ^ k else 0

/-- The 32 flags of word `w`, bit `j` for bay 32 w + j. -/
def bayWord (nb w : Nat) (f : Nat → Bool) : Nat :=
  sumN ((List.range 32).map (fun j => b1 (decide (32 * w + j < nb) && f (32 * w + j)) j))

/-- How many of the first `n` meet `f`. -/
def countB (n : Nat) (f : Nat → Bool) : Nat := ((List.range n).filter f).length

/-! ### Derived conditions -/

def State.pierMod (s : State) (p : Nat) : PierMod := tget {} s.md.piers p
def State.bayMod (s : State) (b : Nat) : BayMod := tget {} s.md.bays b
def State.bayLink (s : State) (b : Nat) : BayLink := tget {} s.lk.bays b
def State.bayCtl (s : State) (b : Nat) : BayCtl := tget {} s.ce.bays b
def State.pierCtl (s : State) (p : Nat) : PierCtl := tget {} s.ce.piers p
def State.bayStart (s : State) (b : Nat) : BayStart := tget {} s.st.bays b
def State.tile (s : State) (t : Nat) : Tile := tget {} s.rd.tiles t
def State.die (s : State) (d : Nat) : Die := tget {} s.thm.dies d
def State.slot (s : State) (i : Nat) : Slot := tget {} s.hs.slots i
def State.chan (s : State) (c : Nat) : Chan := tget {} s.ftg.chans c

/-- A pier is enabled (R220). -/
def Modulator.pierOn (m : Modulator) (p : Nat) : Bool := (tget {} m.piers p).mode == .enabled

/-- All three piers of a bay are enabled (R220). -/
def Modulator.bayOn (m : Modulator) (b : Nat) : Bool := m.pierOn (3 * b) && m.pierOn (3 * b + 1) && m.pierOn (3 * b + 2)

/-- A bay is not disabled: some pier of it is enabled. -/
def Modulator.bayLive (m : Modulator) (b : Nat) : Bool := m.pierOn (3 * b) || m.pierOn (3 * b + 1) || m.pierOn (3 * b + 2)

/-- The device asks for a high PLANT_TRIP (R211). -/
def Modulator.plantTrip (m : Modulator) : Bool := m.latch || m.bays.any (fun e => e.2.marginTrip)

/-- A course whose bricks are treated as unavailable: dark, or withdrawn and still in service (R287, R296). -/
def State.darkCourse (s : State) (c : Nat) : Bool := let k := tget {} s.lk.courses c; k.dark || (k.phase == .withdrawn && decide (k.withdrawTick < s.absTick))

/-- A bay's bricks are commanded ALL_FLOAT (R220); those of a frozen bay hold (R205). -/
def Modulator.bayFloat (m : Modulator) (b : Nat) : Bool :=
  m.ran && (m.latch || !(tget {} m.bays b).frozen && ((tget {} m.bays b).plumbFloat ||
    ((tget {} m.piers (3 * b)).mode == .floated && (tget {} m.piers (3 * b + 1)).mode == .floated && (tget {} m.piers (3 * b + 2)).mode == .floated)))

/-- A law shows a sticky saturation flag (R146). -/
def LawState.anySat (l : LawState) : Bool := l.outSat || l.secs.any (fun x => x.sat)

/-- A bay has a sticky saturation flag (R181). -/
def Control.baySat (c : Control) (b : Nat) : Bool :=
  (tget {} c.bays b).pLaw.anySat || (tget {} c.bays b).qLaw.anySat ||
  (List.range 3).any (fun k => let p := tget {} c.piers (3 * b + k); p.inner.anySat || p.dc.anySat || p.limits.any LawState.anySat)

/-- A pier of the bay runs on its model estimate (R173). -/
def Control.bayModel (c : Control) (b : Nat) : Bool := (List.range 3).any (fun k => (tget {} c.piers (3 * b + k)).model)

/-- `est_error` as it reads: all ones while nothing bounds the error (R67, R70). -/
def PlantTime.estRead (p : PlantTime) : Nat :=
  if p.phase = .unset ∨ (p.phase = .acquiring ∧ ¬ p.inUse) then 0xFFFFFF else if p.est < 0xFFFFFF then p.est else 0xFFFFFF

/-- Plant time is degraded (R67, R68, R69, R70). -/
def State.degraded (s : State) : Bool :=
  decide (s.prm 0x0302 0 2 0 < s.tb.pt.estRead) || (s.tb.pt.slewBack && decide (s.tb.pt.slewLeft < 0))

/-! ### Tick sources (R50, R54, R55) -/

/-- The bays of the variant. -/
def State.allBays (s : State) : List Nat := List.range s.nBays

/-- The bay's mode in force: 0 OFF, 1 GFL, 2 GFM (R141). -/
def State.bayMode (s : State) (b : Nat) : Nat := s.prm 0x0601 b 0 0

/-- The nominal frequency (R427). -/
def State.nominal (s : State) : Rat := (s.prm 0x0301 0 6 0 : Rat) / 1000

/-- The frequency of a source as its estimate stands (R54, R61). -/
def State.srcFreq (s : State) (k : Src) : Rat :=
  match k with
  | .grid => s.tb.pll.freq
  | .sv => s.tb.svPll.freq
  | .formed => (s.ce.vm.w : Rat) / (2 ^ 60 : Nat) * s.nominal
  | .free => if s.tb.pt.good then s.nominal / (1 + s.tb.pt.refErr) else s.nominal

/-- Grid-forming loops are enabled and running in at least one bay (R54). -/
def State.formedLive (s : State) : Bool :=
  s.ce.vm.running && s.allBays.any (fun b => s.bayMode b == 2 && s.md.bayLive b)

/-- The source's frequency lies within 45 Hz to 65 Hz (R50). -/
def State.srcInRange (s : State) (k : Src) : Bool := decide (45 ≤ s.srcFreq k) && decide (s.srcFreq k ≤ 65)

/-- A source is qualified now (R50, R54). -/
def State.srcOk (s : State) (k : Src) : Bool :=
  match k with
  | .grid => s.tb.pll.locked && s.srcInRange .grid
  | .formed => s.formedLive && s.srcInRange .formed
  | .sv => let v := tget {} s.sp.sv (s.prm 0x0301 0 1 0); !v.timedOut && !v.invalid && v.aligned && s.tb.pt.phase == .locked && s.tb.svPll.locked && s.srcInRange .sv
  | .free => true

/-- A source is eligible: it was found so and is still qualified (R55). -/
def State.eligible (s : State) (k : Src) : Bool :=
  match k with
  | .grid => s.tb.qGrid.eligible && s.srcOk .grid
  | .formed => s.tb.qFormed.eligible && s.srcOk .formed
  | .sv => s.tb.qSv.eligible && s.srcOk .sv
  | .free => true

/-- A slot is live (R412). -/
def Slot.live (sl : Slot) : Bool := sl.phase != .closed

/-- No slot is live (R417). -/
def HostIf.allLost (h : HostIf) : Bool := (List.range 8).all (fun i => !(tget {} h.slots i).live)

/-- Neither slot authentication root is usable (R399, R417, R483). -/
def State.bootstrap (s : State) : Bool := s.fu.root == 0

/-- A lock is blown: two of its three fuses (R476). -/
def Fuses.lock (f : Fuses) (region kind : Nat) : Bool :=
  let v := tget 0 f.locks (region * 2 + kind); decide (2 ≤ bits v 0 1 + bits v 1 1 + bits v 2 1)

/-- Words of a region. -/
def Fuses.read (f : Fuses) (region off n : Nat) : List Nat := (List.range n).map (fun i => tget 0 f.words (region * 128 + off + i))

/-- The bytes of words, each little-endian. -/
def wordBytes (ws : List Nat) : List Nat := (ws.map (le 4)).flatten

/-- The ledger signing key: a number of 8 words, the first the least significant (R10, R476, log 139). -/
def Fuses.signingKey (f : Fuses) : Nat := getLe (wordBytes (f.read 2 0 8)) 0 32

/-- The words of a place are programmed and none is spoiled. -/
def Fuses.usable (f : Fuses) (region off n : Nat) : Bool :=
  (f.read region off n).any (fun w => w != 0) && (List.range n).all (fun i => !f.spoiled region (off + i))

/-- The plant binding ID in use: place 0, or place 1 where place 0 is spoiled (R484). -/
def Fuses.plantId (f : Fuses) : Option (List Nat) :=
  if f.fail.testBit 4 then none
  else if f.usable 4 0 4 then some (wordBytes (f.read 4 0 4))
  else if (List.range 4).any (fun i => f.spoiled 4 i) && f.usable 4 4 4 then some (wordBytes (f.read 4 4 4)) else none

/-- The slot authentication root in use (R483). -/
def Fuses.rootInUse (f : Fuses) : Nat := if f.usable 2 24 8 then 2 else if f.usable 2 16 8 then 1 else 0

/-- A channel is masked (R358): its position has not started, its gate is open, or its tile is not fitted. -/
def chanPosition (c : Nat) : Nat :=
  if c < 12 then (if c % 2 = 0 then 3 else 4) else if c = 12 then 3 else if c = 13 then 4 else if c = 14 then 5 else if c = 15 then 6
  else if c = 16 then 7 else if c = 17 then 2 else if c = 18 then 0 else 1

def State.masked (s : State) (c : Nat) : Bool :=
  !s.ftg.enabled.testBit (chanPosition c) || (decide (c < 14) && !(s.chan c).gate) ||
  (decide (4 ≤ c ∧ c < 12) && s.variant == 1 && decide (2 ≤ s.st.devStep))

/-! ### Pages 0 to 2 -/

def State.sysStatus (s : State) : Nat := b1 s.sys.badAccess 0 + b1 (s.st.devStep == 7) 1 + b1 s.ev.faultN 2 + fld s.sys.badCount 16 16

def State.stgPending (s : State) : Nat := b1 s.sys.pend0 0 + b1 s.sys.pend8 8 + b1 (s.hs.stagedSlots != 0) 12

def State.bootState (s : State) : Nat :=
  fld s.st.devStep 0 4 + fld s.st.bootSlot 4 1 + b1 s.st.otherSlotBad 5 + b1 s.st.stopped 6 + b1 s.st.syncPermit 7 +
  fld s.st.faultCode 8 8 + fld s.st.tileFailed 16 12

def State.resetCause (s : State) : Nat := fld s.st.cause 0 6 + fld s.st.resets 16 16

def State.stopStatus (s : State) : Nat :=
  fld s.st.stopPhase 0 2 + b1 s.ftg.onBank 2 + fld s.st.stopCauses 3 5 + b1 s.st.flushSkipped 8 + fld s.st.rampLeft 16 13

/-- GPIO `k` is enabled as a trip input (R513). -/
def State.gpioTrip (s : State) (k : Nat) : Bool := decide (12 ≤ k) && s.prm 0x0703 (8 + (k - 12)) 0 0 == 1

/-- The instruction drives balls (R505). -/
def jtagDrives (i : JtagIns) : Bool := i == .extest || i == .clamp || i == .highz

/-- The level of a ball to which its function gives `own` and which reads `rest` while nothing drives it: boundary scan may drive the ball, or leave it undriven (R500, R505). The cells of the chain, in the order of log 119: GPIO0 to GPIO15, PPS_OUT, PLANT_TRIP, NPE_PERST_N, SPI_CLK, SPI_CS_N, SPI_IO0 to SPI_IO3, UART_TX, UART_RX, PPS_IN, HPE_PERST_N, SETP_PULSE; the last four balls are inputs, and their cells drive nothing. -/
def State.driven (s : State) (cell : Nat) (rest own : Bool) : Bool :=
  if jtagDrives s.st.jtag then (if s.st.jtag = .highz then rest else s.st.scan.testBit cell) else own

/-- The level at the ball of GPIO `k` (R498, R505, R513, R524, R525). -/
def State.gpioLevel (s : State) (k : Nat) : Bool :=
  let pin := s.sys.gpioPins.testBit k
  s.driven k pin
    (if s.gpioTrip k || !s.st.outputs then pin
     else if k = 11 ∧ 0 < s.sys.permitLow then false
     else if k = 11 ∧ s.sys.permitEn then s.st.syncPermit
     else if s.sys.gpioDir.testBit k then s.sys.gpioOut.testBit k else pin)

/-- The level of PPS_OUT (R71, R498). -/
def State.ppsOutBall (s : State) : Bool := s.driven 16 false (s.st.outputs && s.tb.pt.ppsOut)

/-- The level of PLANT_TRIP: low until step 6 (R211, R498). -/
def State.plantTripBall (s : State) : Bool := s.driven 17 false (s.st.outputs && s.md.plantTrip)

/-- The level of NPE_PERST_N: driven low until step 6 (R500, R501). -/
def State.npePerstN (s : State) : Bool := s.driven 18 false s.st.outputs

/-- The level of SPI_CLK, SPI_CS_N, SPI_IO0 to SPI_IO3 or UART_TX (`k` from 0): boundary scan, or until step 6 the pull-up (R498, R500, R505); none while the ball carries its own traffic, which no command brings. -/
def State.serialBall (s : State) (k : Nat) : Option Bool :=
  if jtagDrives s.st.jtag || !s.st.outputs then some (s.driven (19 + k) true true) else none

def State.gpioIn (s : State) : Nat := sumN ((List.range 16).map (fun k => b1 (s.gpioLevel k) k))

def FtgPhase.code : FtgPhase → Nat
  | .sequencing => 0 | .running => 1 | .holdup => 2 | .powerdown => 3 | .hold => 4

def ChargerPhase.code : ChargerPhase → Nat
  | .off => 0 | .precharge => 1 | .cc => 2 | .cv => 3 | .done => 4 | .fault => 5

def State.ftgStatus (s : State) : Nat :=
  fld s.ftg.phase.code 0 3 + b1 s.ftg.vinOk 3 + b1 s.ftg.onBank 4 + b1 s.ftg.brownoutAny 5 + b1 s.ftg.ovWarn 6 +
  b1 s.ftg.tripSeen 7 + b1 s.ftg.huLow 8 + b1 s.ftg.sat 9 + fld s.ftg.position 16 4

def State.aonStatus (s : State) : Nat :=
  fld s.ftg.aonFault 0 8 + fld s.ftg.lastTrip 8 5 + fld s.ftg.lastReaction 13 3 + fld s.ftg.aonRetries 16 2

def State.railOk (s : State) : Nat :=
  sumN ((List.range 22).map (fun c => b1 (!s.masked c && (s.chan c).good && (s.chan c).rail == .inBand) c))

def State.brownout (s : State) : Nat := sumN ((List.range 22).map (fun c => b1 (s.chan c).brownout c))

/-- The variant has the channel's domain (R358, R516). -/
def State.chanFitted (s : State) (c : Nat) : Bool := !(decide (4 ≤ c ∧ c < 12) && s.variant == 1)

/-- FTG_GATE (R378); a domain the variant does not have reads its reset value (R516). -/
def State.ftgGate (s : State) : Nat :=
  sumN (((List.range 14).filter s.chanFitted).map (fun c => b1 (s.chan c).gate c + b1 (s.chan c).latched (16 + c)))

/-- A FOOTING_CONFIG word in force (R358): the footing's own copy, which keeps the defaults until a swap changes them. -/
def State.ftgWord (s : State) (row i : Nat) : Nat :=
  tget ((rowDefault 0x0201 0 row).getD i 0) s.ftg.config (row * 64 + i)

/-- The reaction configured for channel `c`: 0 IGNORE to 3 SYSTEM_RESET (R361, R378). -/
def State.reaction (s : State) (c : Nat) : Nat := s.ftgWord 2 c

/-- FTG_REACTION (R378); a channel the variant does not have reads its reset value, GROUP_SHUTDOWN (R516). -/
def State.ftgReaction (s : State) : Nat := sumN ((List.range 14).map (fun c => fld (if s.chanFitted c then s.reaction c else 2) (2 * c) 2))

/-- The bank stands at or above the ready level (R367, R379). -/
def State.huReady (s : State) : Bool := decide (s.ftgWord 5 1 ≤ s.ftg.bankMv)

def State.huStatus (s : State) : Nat :=
  fld s.ftg.bankMv 0 16 + fld s.ftg.charger.code 16 3 + b1 (s.huReady) 19 + b1 s.ftg.chgFault 20 + b1 s.ftg.capLow 21

def State.huCap (s : State) : Nat := fld s.ftg.capEst 0 16 + fld s.ftg.switchovers 16 16

def Level.code : Level → Nat
  | .normal => 0 | .warning => 1 | .throttle => 2 | .shutdown => 3

/-- A die is fitted (R381). -/
def State.dieFitted (s : State) (d : Nat) : Bool := decide (d < s.nTiles) || d == 12 || d == 13

/-- A signed 16-bit reading, 0x8000 where there is none (R393). -/
def temp16 : Option Int → Nat
  | none => 0x8000
  | some t => patternOf 16 t

/-- Milliseconds of a grace left, rounded up (R391, R444). -/
def graceMs : Option Nat → Nat
  | none => 0xFFFF
  | some ps => divCeil ps 1000000000

def State.thmStatus (s : State) : Nat :=
  let ds := (List.range 14).map s.die
  b1 (ds.any (fun d => d.level != .normal)) 0 + b1 (ds.any (fun d => d.level == .throttle && !d.enforced)) 1 +
  b1 (ds.any (fun d => d.enforced)) 2 + b1 (ds.any (fun d => d.level == .shutdown)) 3 + b1 (ds.any (fun d => d.bad)) 4 +
  b1 ((s.die 12).bad || (s.die 13).bad) 5 + b1 s.thm.throttleSeen 6 + b1 s.thm.sensorFaultSeen 7 +
  fld (minN 0xFFFF (ds.map (fun d => graceMs d.grace))) 16 16

def State.thmLevel (s : State) : Nat := sumN ((List.range 14).map (fun d => fld (s.die d).level.code (2 * d) 2))

def State.thmFlags (s : State) : Nat :=
  sumN ((List.range 14).map (fun d => b1 (s.die d).enforced d + b1 (s.die d).bad (16 + d)))

def State.thmTemp (s : State) (d : Nat) : Nat :=
  fld (if (s.die d).bad then 0x8000 else temp16 (s.die d).temp) 0 16 + fld (temp16 (s.die d).peak) 16 16

/-! ### Page 3 -/

def Src.code : Src → Nat
  | .grid => 0 | .formed => 1 | .sv => 2 | .free => 3

def PtPhase.code : PtPhase → Nat
  | .unset => 0 | .acquiring => 1 | .locked => 2 | .holdover => 3

/-- The 26-bit tick angle at the latest boundary or read (R52). -/
def State.tickAngle (s : State) : Nat := fld s.tb.idx 16 10 + s.tb.acc / 2 ^ 32 % 65536

def State.srcStatus (s : State) : Nat :=
  fld s.tb.target.code 0 2 + b1 s.tb.slewing 2 + b1 s.tb.retargeted 3 + b1 (s.eligible .grid) 4 + b1 (s.eligible .formed) 5 +
  b1 (s.eligible .sv) 6 + 128 + fld (s.prm 0x0301 0 1 0) 8 3 + b1 s.tb.pll.locked 11 + b1 s.tb.pll.frozen 12 +
  fld (if 254 < s.tb.slewLeft then 255 else s.tb.slewLeft) 16 8 + b1 s.tb.running 31

def State.ptStatus (s : State) : Nat :=
  fld s.tb.pt.phase.code 0 2 + b1 s.tb.pt.discPps 2 + b1 (s.degraded && s.tb.running) 3 + b1 s.tb.pt.stepped 4 + b1 s.tb.pt.refclkFault 5 +
  fld s.tb.pt.estRead 8 24

def State.tbFreq (s : State) : Nat := (s.tb.freq * 1000000).floor.toNat % 2 ^ 26

/-! ### Page 4 -/

def WavePhase.code : WavePhase → Nat
  | .idle => 0 | .waiting => 1 | .rampUp => 2 | .live => 3 | .hold => 4 | .rampDown => 5

def State.portStatus (s : State) (p : Nat) : Nat :=
  let q := tget {} s.sp.serial p
  fld (if q.valid then (if q.qual < 1600 then 1 else 2) else 0) 0 2 + b1 q.lost 2 + b1 q.slip 3 + b1 q.clip 4 +
  b1 (s.prm 0x0404 p 3 0 == 1 && s.tb.running) 5 + fld q.res.fifo.length 8 7 + fld q.qual 16 11

def State.setpStatus (s : State) : Nat :=
  let q := s.sp.setp
  patternOf 24 q.y + b1 q.valid 24 + b1 q.qualified 25 + b1 q.lost 26 + b1 q.pulse 27

def State.slotState (s : State) (w : Nat) : Nat :=
  sumN ((List.range 8).map (fun k => fld (tget {} s.sp.slots (8 * w + k)).shown.code (4 * k) 4))

/-! ### Pages 5 to 7 -/

def State.setStatus (s : State) : Nat :=
  let m := match s.xp.pend with | some p => p.mode | none => 0
  fld m 0 2 + b1 (s.xp.pend.isNone && s.st.stopPhase != 1 && s.st.stopPhase != 2) 2 + b1 s.xp.split 3 + b1 s.xp.swapLost 4 + b1 s.xp.shapeSat 5 +
  b1 s.xp.outSat 6 + b1 s.xp.hardClamp 7 + fld s.xp.glideLeft 8 10 + fld s.xp.windows 18 2

/-- CE_STATUS as the end of stage 5 finds it (R180). -/
def Control.statusNow (c : Control) (nb : Nat) : Nat :=
  b1 c.p.fallback 0 + b1 c.q.fallback 1 + b1 ((List.range nb).any c.baySat) 2 + b1 c.copeClamp 3 +
  b1 (c.piers.any (fun e => e.2.model)) 4 + b1 c.plumbFloat 5 + b1 (c.bays.any (fun e => decide (2 ≤ e.2.misses))) 6 +
  b1 c.vm.running 7 + fld c.nLimited 8 8 + fld c.nGfm 16 8 + fld c.nGfl 24 8

def State.ceWinner (s : State) (w : Nat) : Nat :=
  sumN ((List.range 4).map (fun k => let b := s.bayCtl (4 * w + k)
    fld (b.code + b.pier * 16 + bit b.changed * 64 + bit b.modelShown * 128) (8 * k) 8))

def State.loadStatus (s : State) : Nat :=
  let bs := (List.range s.nBays).map (fun b => tget {} s.ld.bays b)
  b1 (bs.any (fun b => b.fallback)) 0 + b1 s.ld.fallbackSeen 1 + b1 (bs.any (fun b => b.hsWarn)) 2 + b1 (bs.any (fun b => b.oilWarn)) 3 +
  b1 ((List.range s.nBays).any (fun b => s.prm 0x0702 b 5 0 == 1 && (List.range 3).any (fun k => (tget {} s.ld.piers (3 * b + k)).hold))) 4 +
  b1 s.ld.diagDrift 5 + b1 s.z.grid.isSome 6 + b1 s.z.gridDone 7

def State.mdStatus (s : State) : Nat :=
  b1 s.md.latch 0 + b1 s.plantTripBall 1 + b1 s.md.frozen 2 + b1 s.md.overdraw 3 + b1 s.md.offTarget 4 + b1 s.md.entryCap 5 + b1 s.md.courseFault 6 +
  fld (if s.md.ran then countB (3 * s.nBays) (fun p => !s.md.pierOn p || (s.bayMod (p / 3)).plumbFloat) else 0) 8 9

def State.tripStatus (s : State) : Nat :=
  fld s.md.gsIn 0 8 + fld s.md.gpioIn 8 4 + b1 s.sp.isoFault 12 + fld s.md.gsCause 16 8 + fld s.md.gpioCause 24 4 + b1 s.md.isoCause 28 +
  b1 s.md.cmdCause 29 + b1 s.md.freezeCause 30

/-! ### Pages 8 to 10 -/

/-- The tile runs its records at half or quarter rate: it runs no passes (R246, R250). -/
def State.halfRate (s : State) (t : Nat) : Bool := (s.tile t).transferHalf || (s.tile t).phase == .carrying || (s.die t).enforced

def State.zStatus (s : State) : Nat :=
  b1 (s.prm 0x0901 0 0 0 == 1 && s.tb.running) 0 +
  b1 ((List.range s.nTiles).any s.halfRate) 1 +
  b1 s.z.tClip 2 + b1 s.z.offsetClip 3 + b1 s.z.freqSkip 4 + b1 s.z.voidPass 5

def State.zSlot (s : State) (r : Nat) : Nat :=
  match (tget {} s.z.slots r).run with
  | none => 0
  | some p => fld p.pier 0 9 + b1 true 9 + b1 p.requested 10 + fld (s.tb.cycleNow - p.cycle) 16 7

def State.urStatus (s : State) : Nat := fld s.sys.urState 0 2 + fld s.sys.urFilled 8 6 + fld s.sys.urNext 16 16

def State.lkStatus (s : State) : Nat :=
  let bs := (List.range s.nBays).map s.bayLink
  b1 (s.lk.courses.any (fun e => e.2.hand)) 0 + b1 (s.lk.courses.any (fun e => e.2.pending)) 1 + b1 s.lk.misrouted 2 +
  b1 s.lk.escOverflow 3 + b1 (bs.any (fun b => b.ringSplit != 0)) 4 + b1 (bs.any (fun b => b.xlinkDown)) 5 + b1 (s.lk.courses.any (fun e => s.darkCourse e.1)) 6 +
  b1 s.lk.linkFloat 7 + fld (if 1 < s.st.devStep then (bs.filter (fun b => !b.trained)).length else 0) 8 8 +
  fld (bs.filter (fun b => b.detour)).length 16 8 + fld (bs.filter (fun b => b.maint.isSome)).length 24 8

def StandbyState.code : StandbyState → Nat
  | .absent => 0 | .booting => 1 | .syncing => 2 | .ready => 3

def State.unmirrored (s : State) : Bool := s.st.devStep == 7 && (List.range s.nTiles).any (fun t => !(s.tile t).mirrorValid)

def State.rdStatus (s : State) : Nat :=
  fld s.rd.active 0 1 + fld s.rd.standby.code 1 2 + b1 s.rd.tracking 3 + b1 s.rd.flywheel 4 + b1 s.rd.ramp 5 + b1 s.rd.ksTakeover 6 +
  b1 s.rd.tileTakeover 7 + b1 s.unmirrored 8 + b1 s.rd.flyFloat 9 + fld s.rd.flyTicks 16 16

def TilePhase.code : TilePhase → Nat
  | .normal => 0 | .carrying => 1 | .out => 2 | .transfer => 3

/-- A carrying tile at quarter record rate (R314, R387). -/
def State.quarter (s : State) (t : Nat) : Bool := (s.tile t).phase == .carrying && (s.die t).enforced

def State.tileState (s : State) : Nat :=
  sumN ((List.range s.nTiles).map (fun t => fld (s.tile t).phase.code (2 * t) 2)) + b1 ((List.range s.nTiles).any s.quarter) 24

def State.mirror (s : State) : Nat :=
  sumN ((List.range s.nTiles).map (fun t => b1 (s.tile t).mirrorValid t)) + b1 s.rd.copyFail 12 + fld s.tb.idx 16 10

def State.fwStatus (s : State) : Nat :=
  fld s.rd.slotA 0 1 + fld s.rd.slotB 1 1 + fld s.rd.updatePhase 2 3 + b1 s.rd.updateAborted 5 + fld (tget 0 s.rd.shadowRevs s.rd.active) 16 16

/-! ### Pages 11 to 15 -/

def State.drive (s : State) (d : Nat) : Drive := tget {} s.lg.drives d

/-- The drive is bound to this plant: its binding block carries the plant binding ID in use (R447, R484). -/
def State.ownDrive (s : State) (d : Drive) : Bool := d.block.any (fun b => s.fu.plantId == some b.plant)

/-- The drive is bound to another plant (R447). -/
def State.foreignDrive (s : State) (d : Drive) : Bool := d.block.isSome && !s.ownDrive d

/-- A drive takes part: bound to this plant, present and not failed (R474). -/
def State.driveOk (s : State) (k : Nat) : Bool := let d := s.drive k; d.present && s.ownDrive d && !d.failed

/-- A drive holds the whole of its pair's pages. -/
def State.driveWhole (s : State) (k : Nat) : Bool := s.driveOk k && !(s.drive k).copying

/-- A pair has been bound. -/
def State.pairBound (s : State) (p : Nat) : Bool := s.ownDrive (s.drive (2 * p)) || s.ownDrive (s.drive (2 * p + 1))

/-- A pair is written: in the mask, and some drive takes part; a drive that stands alone is not (R445, R447, R448). -/
def State.pairOk (s : State) (p : Nat) : Bool :=
  (s.prm 0x0C01 0 1 0).testBit p && (s.driveWhole (2 * p) || s.driveWhole (2 * p + 1)) && !s.lg.direct

/-- A bound pair with exactly one whole drive (R447, R448). -/
def State.pairDegraded (s : State) (p : Nat) : Bool := s.pairBound p && (s.driveWhole (2 * p) != s.driveWhole (2 * p + 1))

def State.lgStatus (s : State) : Nat :=
  fld s.lg.phase 0 3 + b1 (s.lg.cap.isSome || s.lg.frame.isSome) 3 + b1 s.shedding 4 + b1 s.lg.skipped 5 + b1 s.lg.gapSeen 6 + b1 s.lg.driveFail 7 +
  sumN ((List.range 8).map (fun p => b1 (s.pairOk p) (8 + p) + b1 (s.pairDegraded p) (16 + p) + b1 (tget none s.lg.exports p).isSome (24 + p)))

def State.lgDrives (s : State) : Nat :=
  sumN ((List.range 16).map (fun d => b1 (s.drive d).present d + b1 (s.driveOk d) (16 + d)))

def State.hsStatus (s : State) : Nat :=
  sumN ((List.range 8).map (fun i => b1 (s.slot i).live i)) + b1 s.hs.allLost 8 + b1 s.bootstrap 9 + b1 s.hs.commitErr 10 + b1 s.hs.authFail 11 +
  b1 s.hs.refused 12 + b1 s.hs.evqOverflow 13 + (match s.sp.dma.owner with | some o => fld o 16 3 + b1 true 19 | none => 0)

def SlotPhase.code : SlotPhase → Nat
  | .closed => 0 | .pcie => 1 | .udp => 2

/-- A slot's SLOT_STAT word (R418). -/
def Slot.stat (sl : Slot) : Nat := fld sl.phase.code 0 2 + fld sl.queue.length 8 7 + fld (sl.bucket / 1000000000000) 16 9

/-- A slot's RIGHTS word (R418). -/
def Slot.rightsWord (sl : Slot) : Nat := fld sl.rights 0 8 + fld sl.gen 8 24

def Rings.sizeWord (r : Rings) : Nat := fld r.cmdOrder 0 4 + fld r.rplOrder 4 4 + fld r.evqOrder 8 4 + b1 r.valid 12

def Slot.reg (sl : Slot) (o : Nat) : Nat :=
  match o with
  | 0x00 => sl.rings.cmdBase % pow32
  | 0x04 => sl.rings.cmdBase / pow32 % pow32
  | 0x08 => sl.rings.rplBase % pow32
  | 0x0C => sl.rings.rplBase / pow32 % pow32
  | 0x10 => sl.rings.evqBase % pow32
  | 0x14 => sl.rings.evqBase / pow32 % pow32
  | 0x18 => sl.rings.wb % pow32
  | 0x1C => sl.rings.wb / pow32 % pow32
  | 0x20 => sl.rings.sizeWord
  | 0x24 => sl.cmdProd
  | 0x28 => sl.rplCons
  | 0x2C => sl.evqCons
  | 0x30 => sl.stat
  | 0x34 => sl.refused
  | 0x38 => sl.authFail
  | 0x3C => sl.rightsWord
  | _ => 0

def State.fuStatus (s : State) : Nat :=
  b1 s.fu.maint 0 + b1 s.fu.prog.isSome 1 + b1 s.fu.marginalSeen 2 + b1 s.fu.marked 3 + fld s.fu.root 4 2 + b1 s.fu.plantId.isSome 6 +
  sumN ((List.range 6).map (fun r => b1 (s.fu.lock r 0) (8 + r) + b1 (s.fu.lock r 1) (16 + r))) + fld s.fu.fail 24 6

def State.evFault (s : State) : Nat :=
  b1 s.ev.faultN 0 + b1 s.ev.faultEdge 1 + b1 s.ev.takeover 2 + b1 s.hs.commitErr 3 + b1 s.ev.internal 4

def State.dbgFreeze (s : State) : Nat :=
  b1 s.md.freezeReq 0 + b1 s.md.frozen 1 + b1 (!s.production) 2 + b1 s.md.freezeDenied 3 + fld s.md.freezeLimit 16 16

/-- A word of the footing page (R375 to R380). -/
def State.footingReg (s : State) (o : Nat) : Nat :=
  match o with
  | 0x000 => s.ftgStatus
  | 0x004 => s.aonStatus
  | 0x008 => s.railOk
  | 0x00C => s.brownout
  | 0x010 => s.ftgGate
  | 0x014 => s.ftgReaction
  | 0x018 => s.huStatus
  | 0x01C => s.huCap
  | _ =>
    if 0x100 ≤ o ∧ o ≤ 0x1AC ∧ o % 4 = 0 then
      let c := s.chan ((o - 0x100) / 8)
      if o % 8 = 0 then fld c.uv 0 16 + fld c.ov 16 16 else fld c.retry 0 16 + fld c.trip 16 16
    else 0

/-- A word of pages 0 to 4. -/
def State.regLow (s : State) (o : Nat) : Nat :=
  match o with
  | 0x0000 => 0x5300 + fld (Config.siliconRev (s.fu.read 0 0 63)) 16 8 + 0x01000000
  | 0x0004 => if s.st.step4 then tget 0 s.rd.fwRevs s.rd.active else 0
  | 0x0008 => s.sysStatus
  | 0x000C => s.stgPending
  | 0x0020 => s.bootState
  | 0x0024 => s.resetCause
  | 0x0028 => s.stopStatus
  | 0x0030 => s.sys.gpioDir
  | 0x0034 => s.sys.gpioOut
  | 0x0038 => s.gpioIn
  | 0x003C => bit s.sys.permitEn
  | 0x2000 => s.thmStatus
  | 0x2004 => s.thmLevel
  | 0x2008 => s.thmFlags
  | 0x3000 => s.tb.tickReg % pow32
  | 0x3004 => s.tb.tickReg / pow32
  | 0x3008 => s.tickAngle
  | 0x300C => s.tbFreq
  | 0x3010 => s.srcStatus
  | 0x3014 => s.ptStatus
  | 0x3018 => s.tb.incr % pow32
  | 0x301C => s.tb.incr / pow32
  | 0x3020 => s.tb.stamp % pow32
  | 0x3024 => s.tb.stamp / pow32
  | 0x4000 => s.portStatus 0
  | 0x4004 => s.portStatus 1
  | 0x4010 => s.sp.dma.inProd
  | 0x4014 => s.sp.dma.outCons
  | 0x4020 => s.setpStatus
  | _ =>
    if o / 0x1000 = 1 then s.footingReg (o % 0x1000)
    else if 0x2010 ≤ o ∧ o ≤ 0x2044 then s.thmTemp ((o - 0x2010) / 4)
    else if 0x4030 ≤ o ∧ o ≤ 0x4040 then s.slotState ((o - 0x4030) / 4)
    else 0

/-- A word of pages 5 to 15. The fields whose reset is a fuse, here and on page 0, follow the fuse array as it stands (R24, log 100). -/
def State.regHigh (s : State) (o : Nat) : Nat :=
  match o with
  | 0x5000 => s.setStatus
  | 0x5004 => s.xp.generation
  | 0x5008 => s.xp.swapTick % pow32
  | 0x500C => s.xp.swapTick / pow32
  | 0x6000 => s.ce.status
  | 0x6080 => s.ce.winTick % pow32
  | 0x6084 => s.ce.winTick / pow32
  | 0x6200 => s.loadStatus
  | 0x7000 => s.mdStatus
  | 0x7004 => s.tripStatus
  | 0x7008 => s.md.tripStamp % pow32
  | 0x700C => s.md.tripStamp / pow32
  | 0x8000 => s.sys.urUnit
  | 0x8004 => s.sys.urScope
  | 0x8008 => s.urStatus
  | 0x800C => s.sys.urErr
  | 0x8010 => s.sys.urSnap % pow32
  | 0x8014 => s.sys.urSnap / pow32
  | 0x8018 => s.sys.urSeq
  | 0x8E00 => s.zStatus
  | 0x8E04 => s.z.passes
  | 0x9000 => s.lkStatus
  | 0xA000 => s.rdStatus
  | 0xA004 => s.tileState
  | 0xA008 => s.mirror
  | 0xA00C => s.fwStatus
  | 0xB000 => s.lgStatus
  | 0xB004 => s.lg.durable % pow32
  | 0xB008 => s.lg.durable / pow32
  | 0xB00C => s.lg.epoch
  | 0xB010 => s.lgDrives
  | 0xB014 => s.lg.lost
  | 0xC000 => s.hsStatus
  | 0xD000 => s.fuStatus
  | 0xD004 => bits (tget 0 s.fu.words 384) 0 4
  | 0xD010 => tget 0 s.fu.words 128
  | 0xD014 => tget 0 s.fu.words 129
  | 0xD018 => tget 0 s.fu.words 130
  | 0xE000 => s.evFault
  | 0xE004 => s.ev.mask * 2
  | 0xE008 => s.ev.seq
  | 0xF000 => s.sys.scratch0
  | 0xF004 => s.sys.scratch1
  | 0xF010 => s.dbgFreeze
  | _ =>
    let w := (o % 16) / 4 + (o / 16 % 2 + 1) % 2 * 4   -- word of a bay-flag group at x10 to x20
    if 0x6010 ≤ o ∧ o ≤ 0x6020 then bayWord s.nBays w s.ce.baySat
    else if 0x6030 ≤ o ∧ o ≤ 0x6040 then bayWord s.nBays w (fun b => s.ce.bayModel b || (s.bayMod b).plumbFloat)
    else if 0x6100 ≤ o ∧ o ≤ 0x618C then s.ceWinner ((o - 0x6100) / 4)
    else if 0x7010 ≤ o ∧ o ≤ 0x7020 then bayWord s.nBays w s.md.bayOn
    else if 0x7030 ≤ o ∧ o ≤ 0x7040 then bayWord s.nBays w s.md.bayFloat
    else if 0x8100 ≤ o ∧ o ≤ 0x8CFC then tget 0 s.sys.urData ((o - 0x8100) / 4)
    else if 0x8E10 ≤ o ∧ o ≤ 0x8E6C then s.zSlot ((o - 0x8E10) / 4)
    else if 0x9010 ≤ o ∧ o ≤ 0x9020 then bayWord s.nBays w (fun b => (s.bayLink b).trained && (s.bayLink b).accepted && (s.bayLink b).own)
    else if 0x9030 ≤ o ∧ o ≤ 0x9040 then bayWord s.nBays w (fun b => (s.bayLink b).detour)
    else if 0x9050 ≤ o ∧ o ≤ 0x9060 then bayWord s.nBays w (fun b => (s.bayLink b).lost)
    else if 0xB100 ≤ o ∧ o ≤ 0xB13C then (if o % 8 = 0 then tget 0 s.lg.prod ((o - 0xB100) / 8) else tget 0 s.lg.drop ((o - 0xB100) / 8))
    else if 0xC100 ≤ o ∧ o ≤ 0xC2FC then (s.slot ((o - 0xC100) / 64)).reg (o % 64)
    else if 0xE010 ≤ o ∧ o ≤ 0xE02C then getLe s.ev.last.bytes (o - 0xE010) 4
    else 0

/-- The word a register holds (R20, R514, R521). -/
def State.reg (s : State) (o : Nat) : Nat := (if o < 0x5000 then s.regLow o else s.regHigh o) % pow32

end Sys2Proof.Machine
end

