-- ==== Sys2Proof/Machine/Bays.lean ====
section
/-! DEFINITION. Floating bays, ending a synchronisation, starting a safe stop: the operations several chapters share (05 R174, 06 R205 to R211, 11 R340 to R343). -/

namespace Sys2Proof.Machine
open Sys2Proof

/-- Set how a pier is disabled; an enable that waits is withdrawn (R206, log 13). -/
def Modulator.setPier (m : Modulator) (p : Nat) (d : PierMode) : Modulator :=
  { m with piers := tmod {} m.piers p (fun q => { q with mode := d, enabling := false, first := false, stepped := false }) }

/-- Disable a bay to FLOAT; PLANT_TRIP rises where its float-margin event is raised (R38, R206, R211). -/
def Modulator.floatBay (m : Modulator) (b : Nat) : Modulator :=
  let m1 := ((m.setPier (3 * b) .floated).setPier (3 * b + 1) .floated).setPier (3 * b + 2) .floated
  { m1 with bays := tmod {} m1.bays b (fun x => { x with marginTrip := x.marginTrip || x.marginRaised }) }

/-- Drive PLANT_TRIP high for a floated bay whatever its margin (R309, R284, R314). -/
def Modulator.tripBay (m : Modulator) (b : Nat) : Modulator :=
  { m with bays := tmod {} m.bays b (fun x => { x with marginTrip := true }) }

/-- Disable every bay of the list to FLOAT. -/
def Modulator.floatBays (m : Modulator) (bs : List Nat) : Modulator := bs.foldl Modulator.floatBay m

/-- A brick is available (R36). -/
def RecState.available (r : RecState) : Bool := r == .active || r == .resting

/-- Ticks since the stage 2 from which the course is treated as dark (R287, R296). -/
def State.darkAge (s : State) (c : Nat) : Nat :=
  let k := tget {} s.lk.courses c
  Nat.max (if k.dark then k.darkTicks else 0) (if k.phase = .withdrawn then s.absTick - k.withdrawTick - 1 else 0)

/-- The snapshot holds the brick `r` at position `x` as available: its state, and a course that was not dark when it was frozen (R36, R77, R287). -/
def State.snapAvailable (s : State) (x : Nat) (r : Rec) : Bool := r.state.available && !s.rc.snapDark.contains (x / 96)

/-- The snapshot's brick `r` at position `x` is still available in this tick (R36, R77, R287). -/
def State.selectable (s : State) (x : Nat) (r : Rec) : Bool :=
  s.snapAvailable x r && (tget {} s.rc.bricks x).state.available && !s.rc.leaving.contains x && !s.darkCourse (x / 96) && (tget none s.rc.snapKeys x).isSome

/-- A tile serves the bay: its own, or the neighbour that carries it (R313). -/
def State.served (s : State) (b : Nat) : Bool :=
  let t := tileOf b
  (s.tile t).phase != .out || (s.tile (neighbour t)).phase == .carrying

/-- The follower's value in Q2.30 (R150). -/
def Follower.out (f : Follower) : Int := satS 32 (shrRne f.y 40)

/-- The MAINTAIN state ends, after the command under way (R442, R481). -/
def Fuses.leaveMaint (f : Fuses) : Fuses := if f.prog.isSome then { f with leaveDue := f.maint } else { f with maint := false }

/-- Change one channel. -/
def State.modChan (s : State) (c : Nat) (f : Chan → Chan) : State := { s with ftg := { s.ftg with chans := tmod {} s.ftg.chans c f } }

/-- The charger may work: VIN_HOLD feeds VSYS and the footing is RUNNING (R368). -/
def State.chargerMay (s : State) : Bool := s.ftg.vinPresent && s.ftg.inPath && s.ftg.phase == .running

/-- A keystone is live: active, its start complete (R303, R304). -/
def State.ksLive (s : State) : Bool := s.rd.haveActive && s.st.devStep == 7

/-- A keystone runs its stages: the live one, or one that tracks (R304, R307). -/
def State.ksRuns (s : State) : Bool := s.ksLive || s.rd.tracking

/-- The bays of a tile. -/
def tileBays (t : Nat) : List Nat := (List.range 12).map (12 * t + ·)

/-- The hub reports the bay's breaker closed; without an accepted frame in the latest tick, or with invalid contacts, it counts as closed (R297, log 14). -/
def BayLink.closed (l : BayLink) : Bool := !l.accepted || !l.brkValid || l.brkClosed

/-- The hub reports the bay's breaker open. -/
def BayLink.opened (l : BayLink) : Bool := l.accepted && l.brkValid && !l.brkClosed

/-- End the synchronisation in progress: SYNC_PERMIT falls, the bay is disabled to FLOAT and is READY again (R336, R343). A bay whose close has been reported stays in service (R337). -/
def State.endSync (s : State) (reason : Nat) : State :=
  match s.st.sync with
  | none => s
  | some y => if y.closed then { s with st := { s.st with sync := none } } else { s with
      md := s.md.floatBay y.bay
      st := { s.st with sync := none, syncPermit := false,
                        bays := tmod {} s.st.bays y.bay (fun x => { x with phase := .ready, reason := reason, age := 0 }) } }

/-- The bit of SYS_RESET_CAUSE that a trigger's reset sets (R340, R347). -/
def stopResetBit (cause : Nat) : Nat := if cause = 3 then 4 else if cause = 4 then 3 else 2

/-- Start a safe stop, or add a cause to the one that runs (R340, R343, R348). `cause` is the bit of `stopCauses`. A flywheel ramp that runs goes on falling from where it is (R309, R341). -/
def State.startStop (s : State) (cause : Nat) (immediate reset noFlush : Bool) : State :=
  let running := s.st.stopPhase = 1 ∨ s.st.stopPhase = 2
  if running then
    { s with st := { s.st with stopCauses := setBit s.st.stopCauses cause true, resetAfter := s.st.resetAfter || reset, noFlush := s.st.noFlush || noFlush,
                               immediate := s.st.immediate || immediate, rampLeft := if immediate then 0 else s.st.rampLeft, resetBits := if reset then setBit s.st.resetBits (stopResetBit cause) true else s.st.resetBits } }
  else
    let s1 := s.endSync 0
    let tilesCarry := !s.ksLive || s.rd.flywheel
    { s1 with
      st := { s1.st with stopPhase := 1, stopCauses := setBit 0 cause true, rampLeft := if immediate then 0 else 8000, resetAfter := reset,
                         immediate := immediate, noFlush := noFlush, flushDue := false, resetBits := if reset then 2 ^ stopResetBit cause else 0 }
      rd := if tilesCarry && !immediate then { s1.rd with stopRamp := true, ramp := true, rampTicks := if s1.rd.ramp then s1.rd.rampTicks else 0 } else s1.rd }

/-- A safe stop is in progress (R343). -/
def State.stopping (s : State) : Bool := s.st.stopPhase == 1 || s.st.stopPhase == 2

/-- On the hold-up bank a safe stop saves energy: no impedance passes, export or DMA output (R343). -/
def State.saving (s : State) : Bool := s.stopping && s.ftg.onBank

/-- Set the trip latch (R209, R211, R219): its causes, its stamp, its event; every bay is floated as a disable to FLOAT leaves it (R212) and a synchronisation ends. -/
def State.setLatch (s : State) (mark : Modulator → Modulator) : State :=
  if s.md.latch then { s with md := mark s.md }
  else
    let m := mark { s.md with latch := true, tripStamp := s.tb.stamp, gsCause := 0, gpioCause := 0, isoCause := false, cmdCause := false,
                              freezeCause := false, resetDue := false }
    let s1 := ({ s with md := m.floatBays s.allBays }).endSync 0
    s1.raise { kind := .trip, unit := plantUid, detail := s1.tripStatus / 65536 }

end Sys2Proof.Machine
end

