-- ==== Sys2Proof/Machine/Banks.lean ====
section
/-! DEFINITION. Staging into the shadow bank: the row form and the list form, and what reads and discards it (04 R127, 15 R424 to R429, R434). -/

namespace Sys2Proof.Machine
open Sys2Proof

/-! ### Items (R127) -/

/-- The key of a staged item: a row, a node, a shaping section, a law. -/
def itemRow (op tgt row : Nat) : Nat := rowKey op tgt row * 4
def itemNode (dest src : Nat) : Nat := (dest * 64 + src) * 4 + 1
def itemSection (dest sec : Nat) : Nat := (dest * 4 + sec) * 4 + 2
def itemLaw (bay law : Nat) : Nat := (bay * 11 + law) * 4 + 3

/-- Take a changed shadow bank: the items are counted once each and the slot is noted (R127). -/
def State.stage (s : State) (slot : Nat) (b : Bank) (items : List Nat) : State :=
  { s with xp := { s.xp with shadow := b, staged := items.foldl (fun l k => if l.contains k then l else k :: l) s.xp.staged,
                             stagers := setBit s.xp.stagers slot true } }

/-- Staging is closed: a swap is pending or a safe stop runs (R129, R343). -/
def State.stagingClosed (s : State) : Bool := s.xp.pend.isSome || s.stopping

/-! ### The row form (R424) -/

/-- Cut a command's words into its rows. -/
def cutRows : List (List WordSpec) → List Nat → List (List Nat)
  | [], _ => []
  | r :: rs, ws => ws.take r.length :: cutRows rs (ws.drop r.length)

/-- The bank targets a target word names: an error status, or the targets (R424). -/
def stageTargets (nb : Nat) (k : TargetKind) (w : Nat) : Nat × List Nat :=
  match k with
  | .plant => if w = plantUid then (0, [0]) else (stBadParam, [])
  | .index n => if w < n then (0, [w]) else (stRange, [])
  | .bay =>
    if w = plantUid then (0, List.range nb)
    else let r := checkLevel nb 3 w; if r.1 = 0 then (0, [r.2.bay]) else (r.1, [])

/-- The first applied row a value of which is out of range (R424); `cross` says of a row whether a range that another word sets holds it out. -/
def badRow (cross : Nat → Bool) : Nat → List (List WordSpec) → List (List Nat) → Nat → Option Nat
  | _, [], _, _ => none
  | k, r :: rs, ws, mask =>
    if mask.testBit k && (!((r.zip (ws.headD [])).all (fun e => e.1.ok e.2)) || cross k) then some k else badRow cross (k + 1) rs ws.tail mask

/-- No source is named twice (R54). -/
def noRepeat (ws : List Nat) : Bool := let l := ws.filter (fun w => decide (w < 3)); decide (l.dedup.length = l.length)

/-- The highest port and channel of a channel kind (R427). -/
def routeTops (kind : Nat) : Nat × Nat := if kind = 1 then (1, 31) else if kind = 2 ∨ kind = 3 then (7, 7) else (7, 31)

/-- Ranges of row `k` that another word sets, read in the bank as it would stand: the preference list has no repeats (R54), a route's port and channel suit its kind (R427), the minimum pulse is not below the dead time (R216), a damping input is a channel or a pier destination of the variant (R113, R126). Staging judges an applied row so, and XP_SWAP every row (log 78). -/
def crossBad (nb op : Nat) (b : Bank) (tgt k : Nat) : Bool :=
  if op = 0x0301 ∧ k = 0 then !noRepeat (b.row op tgt 0)
  else if op = 0x0401 ∧ k = 1 then decide ((routeTops (b.word op tgt 0 0)).1 < b.word op tgt 1 0)
  else if op = 0x0401 ∧ k = 2 then decide ((routeTops (b.word op tgt 0 0)).2 < b.word op tgt 2 0)
  else if op = 0x0701 ∧ k = 9 then decide (b.word op tgt 9 0 < b.word op tgt 8 0)
  else if op = 0x0505 ∧ k = 1 then decide ((if b.word op tgt 0 0 = 0 then 8 else 3 * nb) ≤ b.word op tgt 1 0)
  else false

/-- Write the applied rows of one target. -/
def Bank.setRows (b : Bank) (op tgt mask : Nat) (rows : List (List Nat)) : Bank :=
  rows.zipIdx.foldl (fun b r => if mask.testBit r.2 then b.setRow op tgt r.2 r.1 else b) b

/-- The keys of the applied rows. -/
def rowItems (op tgt mask n : Nat) : List Nat := ((List.range n).filter (fun k => mask.testBit k)).map (itemRow op tgt)

/-- A row-form staging command (R424). DESIGN CHOICE (log 91): while staging is closed the answer is ST_STATE even where the target names a bay outside the variant; the spec gives ST_STATE (R129, R343) and ST_RANGE (R5) no order between them. -/
def stageRows (slot op : Nat) (g : Stg) (s : State) : State × Ans :=
  match stagedSpec op with
  | none => (s, refuseAns stBadOpcode op 255 g.target)
  | some sp =>
    if s.stagingClosed then (s, refuseAns stState op 255 g.target) else
    if g.words.length ≠ stagedWords sp then (s, refuseAns stBadLength op 255 g.target) else
    let t := stageTargets s.nBays sp.target g.target
    if t.1 ≠ 0 then (s, refuseAns t.1 op 255 g.target) else
    if 2 ^ sp.rows.length ≤ g.mask then (s, refuseAns stBadParam op 255 g.target) else
    let rows := cutRows sp.rows g.words
    let b := t.2.foldl (fun b i => b.setRows op i g.mask rows) s.xp.shadow
    match badRow (fun k => t.2.any (fun i => crossBad s.nBays op b i k)) 0 sp.rows rows g.mask with
    | some k => (s, refuseAns stRange op k g.target)
    | none => (s.stage slot b (t.2.flatMap (fun i => rowItems op i g.mask sp.rows.length)), okAns)

/-- NET_CONFIG (R427, R424). -/
def doNetConfig (h : Hdr) (g : Stg) (s : State) : State := s.host h 0x0102 (stageRows h.slot 0x0102 g)
def execNetConfig (h : Hdr) (g : Stg) (s : State) : Host.Outcome State Fault Refusal := .next (doNetConfig h g s)

/-- START_CONFIG (R338, R424). -/
def doStartConfig (h : Hdr) (g : Stg) (s : State) : State := s.host h 0x0103 (stageRows h.slot 0x0103 g)
def execStartConfig (h : Hdr) (g : Stg) (s : State) : Host.Outcome State Fault Refusal := .next (doStartConfig h g s)

/-- FOOTING_CONFIG (R358, R424). -/
def doFootingConfig (h : Hdr) (g : Stg) (s : State) : State := s.host h 0x0201 (stageRows h.slot 0x0201 g)
def execFootingConfig (h : Hdr) (g : Stg) (s : State) : Host.Outcome State Fault Refusal := .next (doFootingConfig h g s)

/-- TICK_SOURCE_SET (R54, R424). -/
def doTickSourceSet (h : Hdr) (g : Stg) (s : State) : State := s.host h 0x0301 (stageRows h.slot 0x0301 g)
def execTickSourceSet (h : Hdr) (g : Stg) (s : State) : Host.Outcome State Fault Refusal := .next (doTickSourceSet h g s)

/-- PLANT_TIME_CONFIG (R65, R424). -/
def doPlantTimeConfig (h : Hdr) (g : Stg) (s : State) : State := s.host h 0x0302 (stageRows h.slot 0x0302 g)
def execPlantTimeConfig (h : Hdr) (g : Stg) (s : State) : Host.Outcome State Fault Refusal := .next (doPlantTimeConfig h g s)

/-- STREAM_ROUTE (R82, R424). -/
def doStreamRoute (h : Hdr) (g : Stg) (s : State) : State := s.host h 0x0401 (stageRows h.slot 0x0401 g)
def execStreamRoute (h : Hdr) (g : Stg) (s : State) : Host.Outcome State Fault Refusal := .next (doStreamRoute h g s)

/-- STREAM_PORT_CONFIG (R93, R424). -/
def doStreamPortConfig (h : Hdr) (g : Stg) (s : State) : State := s.host h 0x0404 (stageRows h.slot 0x0404 g)
def execStreamPortConfig (h : Hdr) (g : Stg) (s : State) : Host.Outcome State Fault Refusal := .next (doStreamPortConfig h g s)

/-- SV_SUBSCRIBE (R96, R424). -/
def doSvSubscribe (h : Hdr) (g : Stg) (s : State) : State := s.host h 0x0405 (stageRows h.slot 0x0405 g)
def execSvSubscribe (h : Hdr) (g : Stg) (s : State) : Host.Outcome State Fault Refusal := .next (doSvSubscribe h g s)

/-- SETPOINT_INPUT_CONFIG (R105, R424). -/
def doSetpointInputConfig (h : Hdr) (g : Stg) (s : State) : State := s.host h 0x0407 (stageRows h.slot 0x0407 g)
def execSetpointInputConfig (h : Hdr) (g : Stg) (s : State) : Host.Outcome State Fault Refusal := .next (doSetpointInputConfig h g s)

/-- GRID_SENSE_CONFIG (R109, R424). -/
def doGridSenseConfig (h : Hdr) (g : Stg) (s : State) : State := s.host h 0x0408 (stageRows h.slot 0x0408 g)
def execGridSenseConfig (h : Hdr) (g : Stg) (s : State) : Host.Outcome State Fault Refusal := .next (doGridSenseConfig h g s)

/-- XP_DEST_CONFIG (R114, R424). -/
def doXpDestConfig (h : Hdr) (g : Stg) (s : State) : State := s.host h 0x0503 (stageRows h.slot 0x0503 g)
def execXpDestConfig (h : Hdr) (g : Stg) (s : State) : Host.Outcome State Fault Refusal := .next (doXpDestConfig h g s)

/-- XP_PROBE_SET (R124, R424). -/
def doXpProbeSet (h : Hdr) (g : Stg) (s : State) : State := s.host h 0x0504 (stageRows h.slot 0x0504 g)
def execXpProbeSet (h : Hdr) (g : Stg) (s : State) : Host.Outcome State Fault Refusal := .next (doXpProbeSet h g s)

/-- XP_DAMP_SET (R126, R424). -/
def doXpDampSet (h : Hdr) (g : Stg) (s : State) : State := s.host h 0x0505 (stageRows h.slot 0x0505 g)
def execXpDampSet (h : Hdr) (g : Stg) (s : State) : Host.Outcome State Fault Refusal := .next (doXpDampSet h g s)

/-- XP_IDLE_CONFIG (R137, R424). -/
def doXpIdleConfig (h : Hdr) (g : Stg) (s : State) : State := s.host h 0x0506 (stageRows h.slot 0x0506 g)
def execXpIdleConfig (h : Hdr) (g : Stg) (s : State) : Host.Outcome State Fault Refusal := .next (doXpIdleConfig h g s)

/-- CE_BAY_CONFIG (R427, R424). -/
def doCeBayConfig (h : Hdr) (g : Stg) (s : State) : State := s.host h 0x0601 (stageRows h.slot 0x0601 g)
def execCeBayConfig (h : Hdr) (g : Stg) (s : State) : Host.Outcome State Fault Refusal := .next (doCeBayConfig h g s)

/-- CE_PLANT_CONFIG (R427, R424). -/
def doCePlantConfig (h : Hdr) (g : Stg) (s : State) : State := s.host h 0x0603 (stageRows h.slot 0x0603 g)
def execCePlantConfig (h : Hdr) (g : Stg) (s : State) : Host.Outcome State Fault Refusal := .next (doCePlantConfig h g s)

/-- MD_BAY_CONFIG (R216, R424). -/
def doMdBayConfig (h : Hdr) (g : Stg) (s : State) : State := s.host h 0x0701 (stageRows h.slot 0x0701 g)
def execMdBayConfig (h : Hdr) (g : Stg) (s : State) : Host.Outcome State Fault Refusal := .next (doMdBayConfig h g s)

/-- BAY_PROFILE_SET (R427, R424). -/
def doBayProfileSet (h : Hdr) (g : Stg) (s : State) : State := s.host h 0x0702 (stageRows h.slot 0x0702 g)
def execBayProfileSet (h : Hdr) (g : Stg) (s : State) : Host.Outcome State Fault Refusal := .next (doBayProfileSet h g s)

/-- TRIP_CONFIG (R208, R424). -/
def doTripConfig (h : Hdr) (g : Stg) (s : State) : State := s.host h 0x0703 (stageRows h.slot 0x0703 g)
def execTripConfig (h : Hdr) (g : Stg) (s : State) : Host.Outcome State Fault Refusal := .next (doTripConfig h g s)

/-- UNIT_PROFILE_SET (R242, R424). -/
def doUnitProfileSet (h : Hdr) (g : Stg) (s : State) : State := s.host h 0x0801 (stageRows h.slot 0x0801 g)
def execUnitProfileSet (h : Hdr) (g : Stg) (s : State) : Host.Outcome State Fault Refusal := .next (doUnitProfileSet h g s)

/-- Z_CONFIG (R265, R424). -/
def doZConfig (h : Hdr) (g : Stg) (s : State) : State := s.host h 0x0901 (stageRows h.slot 0x0901 g)
def execZConfig (h : Hdr) (g : Stg) (s : State) : Host.Outcome State Fault Refusal := .next (doZConfig h g s)

/-- Z_TEMP_TABLE_SET (R253, R424). -/
def doZTempTableSet (h : Hdr) (g : Stg) (s : State) : State := s.host h 0x0902 (stageRows h.slot 0x0902 g)
def execZTempTableSet (h : Hdr) (g : Stg) (s : State) : Host.Outcome State Fault Refusal := .next (doZTempTableSet h g s)

/-- LOAD_MODEL_CONFIG (R266, R424). -/
def doLoadModelConfig (h : Hdr) (g : Stg) (s : State) : State := s.host h 0x0907 (stageRows h.slot 0x0907 g)
def execLoadModelConfig (h : Hdr) (g : Stg) (s : State) : Host.Outcome State Fault Refusal := .next (doLoadModelConfig h g s)

/-- LINK_CONFIG (R298, R424). -/
def doLinkConfig (h : Hdr) (g : Stg) (s : State) : State := s.host h 0x0A01 (stageRows h.slot 0x0A01 g)
def execLinkConfig (h : Hdr) (g : Stg) (s : State) : Host.Outcome State Fault Refusal := .next (doLinkConfig h g s)

/-- LEDGER_CONFIG (R427, R424). -/
def doLedgerConfig (h : Hdr) (g : Stg) (s : State) : State := s.host h 0x0C01 (stageRows h.slot 0x0C01 g)
def execLedgerConfig (h : Hdr) (g : Stg) (s : State) : Host.Outcome State Fault Refusal := .next (doLedgerConfig h g s)

/-- SLOT_LIMITS_SET (R409, R424). -/
def doSlotLimitsSet (h : Hdr) (g : Stg) (s : State) : State := s.host h 0x0E06 (stageRows h.slot 0x0E06 g)
def execSlotLimitsSet (h : Hdr) (g : Stg) (s : State) : Host.Outcome State Fault Refusal := .next (doSlotLimitsSet h g s)

/-- THERMAL_CONFIG (R385, R424). -/
def doThermalConfig (h : Hdr) (g : Stg) (s : State) : State := s.host h 0x0F01 (stageRows h.slot 0x0F01 g)
def execThermalConfig (h : Hdr) (g : Stg) (s : State) : Host.Outcome State Fault Refusal := .next (doThermalConfig h g s)

/-- STREAM_DMA_CONFIG (R100, R429): refused while another live slot owns the rings; its sender is noted as their coming owner. -/
def stageDma (slot : Nat) (g : Stg) (s : State) : State × Ans :=
  let other := match s.sp.dma.owner with
    | some o => o ≠ slot && (s.slot o).live
    | none => false
  if other then (s, refuseAns stState 0x0406 255 g.target)
  else
    let r := stageRows slot 0x0406 g s
    if r.2.status = stOk then ({ r.1 with xp := { r.1.xp with dmaStager := some slot } }, r.2) else r
def doStreamDmaConfig (h : Hdr) (g : Stg) (s : State) : State := s.host h 0x0406 (stageDma h.slot g)
def execStreamDmaConfig (h : Hdr) (g : Stg) (s : State) : Host.Outcome State Fault Refusal := .next (doStreamDmaConfig h g s)

/-! ### The list form (R428) -/

/-- A destination exists in the variant (R113). -/
def State.destOk (s : State) (d : Nat) : Bool := decide (d < 3 * s.nBays) || (decide (432 ≤ d) && decide (d < 448))

/-- Coefficient words as sections (R118). -/
def sections : Nat → List Nat → List Biquad
  | 0, _ => []
  | n + 1, ws =>
    { b0 := signedOf 32 (ws.getD 0 0), b1 := signedOf 32 (ws.getD 1 0), b2 := signedOf 32 (ws.getD 2 0), a1 := signedOf 32 (ws.getD 3 0), a2 := signedOf 32 (ws.getD 4 0) } ::
      sections n (ws.drop 5)

/-- XP_GAIN_SET (R115, R428). -/
def gainSet (h : Hdr) (es : List GainEntry) (s : State) : State × Ans :=
  if s.stagingClosed then (s, refuseAns stState 0x0501 255 0) else
  if es.isEmpty ∨ (if h.udp then 177 else 505) < es.length then (s, refuseAns stRange 0x0501 255 0) else
  match es.find? (fun e => !(s.destOk e.dest && decide (e.src < 64) && decide (e.path < 2) && (satS 24 (signedOf 32 e.gain) == signedOf 32 e.gain))) with
  | some e => (s, refuseAns stRange 0x0501 255 e.dest)
  | none =>
    let b := es.foldl (fun (b : Bank) e => { b with nodes := tset {} b.nodes (e.dest * 64 + e.src) { gain := signedOf 32 e.gain, direct := e.path == 1 } }) s.xp.shadow
    (s.stage h.slot b (es.map (fun e => itemNode e.dest e.src)), okAns)
def doXpGainSet (h : Hdr) (es : List GainEntry) (s : State) : State := s.host h 0x0501 (gainSet h es)
def execXpGainSet (h : Hdr) (es : List GainEntry) (s : State) : Host.Outcome State Fault Refusal := .next (doXpGainSet h es s)

/-- XP_SHAPE_SET (R118, R428). -/
def shapeSet (h : Hdr) (dest first count : Nat) (coefs : List Nat) (s : State) : State × Ans :=
  if s.stagingClosed then (s, refuseAns stState 0x0502 255 dest) else
  if coefs.length ≠ 5 * count then (s, refuseAns stBadLength 0x0502 255 dest) else
  if ¬ s.destOk dest then (s, refuseAns stRange 0x0502 255 dest) else
  if 3 < first ∨ count = 0 ∨ 4 < first + count then (s, refuseAns stRange 0x0502 first dest) else
  let qs := sections count coefs
  let b := qs.zipIdx.foldl (fun (b : Bank) q => { b with shapes := tset {} b.shapes (dest * 4 + first + q.2) q.1 }) s.xp.shadow
  (s.stage h.slot b ((List.range count).map (fun k => itemSection dest (first + k))), okAns)
def doXpShapeSet (h : Hdr) (dest first count : Nat) (coefs : List Nat) (s : State) : State := s.host h 0x0502 (shapeSet h dest first count coefs)
def execXpShapeSet (h : Hdr) (dest first count : Nat) (coefs : List Nat) (s : State) : Host.Outcome State Fault Refusal := .next (doXpShapeSet h dest first count coefs s)

/-- CE_LAW_SET (R146, R428). -/
def lawSet (h : Hdr) (bay law count shift : Nat) (coefs : List Nat) (s : State) : State × Ans :=
  let u := checkLevel s.nBays 3 bay
  let sh := signedOf 8 shift
  if s.stagingClosed then (s, refuseAns stState 0x0602 255 bay) else
  if coefs.length ≠ 5 * count then (s, refuseAns stBadLength 0x0602 255 bay) else
  if u.1 ≠ 0 then (s, refuseAns u.1 0x0602 255 bay) else
  if 10 < law ∨ 8 < count ∨ sh < -8 ∨ 8 < sh then (s, refuseAns stRange 0x0602 law bay) else
  let b := { s.xp.shadow with laws := tset {} s.xp.shadow.laws (u.2.bay * 11 + law) { shift := sh, secs := sections count coefs } }
  (s.stage h.slot b [itemLaw u.2.bay law], okAns)
def doCeLawSet (h : Hdr) (bay law count shift : Nat) (coefs : List Nat) (s : State) : State := s.host h 0x0602 (lawSet h bay law count shift coefs)
def execCeLawSet (h : Hdr) (bay law count shift : Nat) (coefs : List Nat) (s : State) : Host.Outcome State Fault Refusal :=
  .next (doCeLawSet h bay law count shift coefs s)

/-! ### Reading and discarding the shadow bank (R127, R434) -/

/-- The cycle a pending swap lands at (R434). -/
def PendSwap.lands (p : PendSwap) : Nat := if p.mode = 1 then (p.tick + 1) / 800 else if p.mode = 2 then p.tick / 800 + 1 else p.cycle

/-- The reply of XP_STATUS (R434). -/
def Crosspoint.statusBytes (x : Crosspoint) : List Nat :=
  let p := match x.pend with
    | some p => (p.mode, p.lands)
    | none => (0, 0)
  le 4 x.staged.length ++ le 1 x.stagers ++ le 1 p.1 ++ le 2 0 ++ le 4 x.generation ++ le 8 p.2

/-- XP_STATUS (R127, R434). -/
def doXpStatus (h : Hdr) (s : State) : State := s.host h 0x0508 (fun t => (t, okAns t.xp.statusBytes))
def execXpStatus (h : Hdr) (s : State) : Host.Outcome State Fault Refusal := .next (doXpStatus h s)

/-- XP_SHADOW_DISCARD (R127, R434): no item is staged any more; the mask of the slots that have staged since the last swap stays. The standby hears of it, as of every immediate command (R302). -/
def shadowDiscard (s : State) : State × Ans :=
  if s.xp.pend.isSome then (s, refuseAns stState 0x0509 255 0)
  else ({ s with xp := { s.xp with shadow := s.xp.act, staged := [], dmaStager := none } }, okAns)
def doXpShadowDiscard (h : Hdr) (s : State) : State := s.hostJ (.xpShadowDiscard h) h 0x0509 shadowDiscard
def execXpShadowDiscard (h : Hdr) (s : State) : Host.Outcome State Fault Refusal := .next (doXpShadowDiscard h s)

end Sys2Proof.Machine
end

