-- ==== Sys2Proof/Machine/Trig.lean ====
section
/-! DEFINITION. Sine, cosine, arctangent, exponential and logarithm as integers with guard bits, so that a chapter's
rounding is made once (log 12). -/

namespace Sys2Proof.Machine
open Sys2Proof

/-- The guard scale. -/
def gOne : Int := 2 ^ 110
/-- π and ln 2 at the guard scale. -/
def gPi : Int := 4078020416507594100416871540687068
def gLn2 : Int := 899756482030919243385101862361404

/-- Product at the guard scale. -/
def gMul (a b : Int) : Int := a * b / gOne
/-- Quotient at the guard scale. -/
def gDiv (a b : Int) : Int := a * gOne / b

/-- The alternating series of sine (start 1) or cosine (start 0): the terms after the first. -/
def gSeries : Nat → Int → Int → Int → Int → Int
  | 0, _, _, _, acc => acc
  | n + 1, k, x2, t, acc =>
    let t' := -(gMul t x2) / ((k + 1) * (k + 2))
    gSeries n (k + 2) x2 t' (acc + t')

def gSin (x : Int) : Int := gSeries 20 1 (gMul x x) x x
def gCos (x : Int) : Int := gSeries 20 0 (gMul x x) gOne gOne

/-- sin(2π n / d) at the guard scale. -/
def sinTurn (n : Int) (d : Nat) : Int :=
  let r := n % (d : Int)
  let q := 4 * r / d
  let x := gPi * (4 * r % d) / (2 * d)
  if q = 0 then gSin x else if q = 1 then gCos x else if q = 2 then -gSin x else -gCos x

/-- cos(2π n / d) at the guard scale. -/
def cosTurn (n : Int) (d : Nat) : Int := sinTurn (4 * n + d) (4 * d)

/-- sin of an angle in turns. -/
def sinRat (t : Rat) : Int := sinTurn t.num t.den
def cosRat (t : Rat) : Int := cosTurn t.num t.den

/-- Narrow a guard-scale value to `f` fractional bits, to nearest, ties to even. -/
def gTo (f : Nat) (x : Int) : Int := shrRne x (110 - f)

/-- The square root of a guard-scale value not below 0. -/
def gSqrt (x : Int) : Int := (Nat.sqrt (x * gOne).toNat : Int)

/-- The series of arctangent. -/
def gAtanSeries : Nat → Int → Int → Int → Int → Int
  | 0, _, _, _, acc => acc
  | n + 1, k, x2, p, acc => let p' := -(gMul p x2); gAtanSeries n (k + 2) x2 p' (acc + p' / (k + 2))

/-- Halve the argument of an arctangent `n` times. -/
def gHalf : Nat → Int → Int
  | 0, t => t
  | n + 1, t => gHalf n (gDiv t (gOne + gSqrt (gOne + gMul t t)))

/-- arctan of t, 0 to 1. -/
def gAtan (t : Int) : Int := let u := gHalf 4 t; 16 * gAtanSeries 22 1 (gMul u u) u u

/-- The angle of the point (x, y) in turns at the guard scale, in (−1/2, 1/2]; 0 for the origin. -/
def atan2Turn (y x : Int) : Int :=
  let ay : Int := if y < 0 then -y else y
  let ax : Int := if x < 0 then -x else x
  if ay = 0 ∧ ax = 0 then 0 else
  let base := if ay ≤ ax then gAtan (ay * gOne / ax) * gOne / (2 * gPi) else gOne / 4 - gAtan (ax * gOne / ay) * gOne / (2 * gPi)
  let h := if x < 0 then gOne / 2 - base else base
  if y < 0 then -h else h

/-- The series of the exponential. -/
def gExpSeries : Nat → Int → Int → Int → Int → Int
  | 0, _, _, _, acc => acc
  | n + 1, k, x, t, acc => let t' := gMul t x / k; gExpSeries n (k + 1) x t' (acc + t')

/-- e to the x, x at the guard scale. -/
def gExp (x : Int) : Int :=
  let k := x / gLn2
  let r := x - k * gLn2
  let v := gExpSeries 28 1 r gOne gOne
  if 0 ≤ k then v * 2 ^ k.toNat else v / 2 ^ (-k).toNat

/-- The logarithm's series in z = (m − 1)/(m + 1). -/
def gLnSeries : Nat → Int → Int → Int → Int → Int
  | 0, _, _, _, acc => acc
  | n + 1, k, z2, p, acc => let p' := gMul p z2; gLnSeries n (k + 2) z2 p' (acc + p' / (k + 2))

/-- ln x for x above 0 at the guard scale. -/
def gLn (x : Int) : Int :=
  let e : Int := (Nat.log2 x.toNat : Int) - 110
  let m := if 0 ≤ e then x / 2 ^ e.toNat else x * 2 ^ (-e).toNat
  let z := gDiv (m - gOne) (m + gOne)
  e * gLn2 + 2 * gLnSeries 36 1 (gMul z z) z z

/-- x to the y, x above 0, both at the guard scale; 0 to any power above 0 is 0. -/
def gPow (x y : Int) : Int := if x ≤ 0 then 0 else gExp (gMul y (gLn x))

/-- A rational at the guard scale. -/
def gRat (q : Rat) : Int := q.num * gOne / q.den

end Sys2Proof.Machine
end

