-- ==== Sys2Proof/Machine/Timebase.lean ====
section
/-! DEFINITION. Tick and plant time: the tick generator, source selection, the PLLs, plant time (02). -/

namespace Sys2Proof.Machine
open Sys2Proof

/-! ### The tick generator (R49 to R53) -/

/-- A frequency within 45 Hz to 65 Hz (R50). -/
def clampHz (f : Rat) : Rat := if f < 45 then 45 else if 65 < f then 65 else f

/-- The NCO increment for a frequency (R49). -/
def incrOf (f : Rat) : Nat := (ratRne ((2 ^ 48 : Nat) * 800 * f / 1600000000)).toNat

/-- Periods of 0.625 ns to the accumulator's next overflow (R49). -/
def Timebase.toOverflow (t : Timebase) : Nat := divCeil (2 ^ 48 - t.acc) t.incr

/-- The angle of a source at the latest boundary, in ticks, its offset added (R54, R61). -/
def State.srcAngle (s : State) (k : Src) : Rat :=
  match k with
  | .grid => s.tb.pll.angle + (s.prmI 0x0301 0 2 0 : Rat) / 65536
  | .formed => ((s.ce.vm.theta * 800 + s.ce.vm.w : Int) : Rat) / (2 ^ 60 : Nat) + (s.prmI 0x0301 0 2 1 : Rat) / 65536
  | .sv => s.tb.svPll.angle + (s.prmI 0x0301 0 2 2 : Rat) / 65536
  | .free => 0

/-- Wrap ticks into (−400, +400] (R59). -/
def wrapTicks (d : Rat) : Rat := let r := d - 800 * ((d / 800).floor : Rat); if 400 < r then r - 800 else r

/-- The cap on *k* (R59): 8 c × 100 ticks, c in Q10.22. -/
def State.slewCap (s : State) : Rat := (s.prm 0x0301 0 5 0 : Rat) / 4194304 * 800

/-- Limit a correction to the cap (R59). -/
def capTicks (c k : Rat) : Rat := if k < -c then -c else if c < k then c else k

/-- The frequency of the tick angle in force: the held one, or the target's with the correction (R58, R59). -/
def State.freqInForce (s : State) : Rat :=
  clampHz (if s.tb.hold then s.tb.freq else s.srcFreq s.tb.target * (1 + s.tb.corr / 800))

/-- Take up the frequency in force (R49, R58). -/
def State.setFreq (s : State) : State := let f := s.freqInForce; { s with tb := { s.tb with freq := f, incr := incrOf f } }

/-- Within a cycle the tick follows its target's frequency estimate tick by tick, and during a slew it keeps what the cycle boundary set (R59, R527). -/
def State.followFreq (s : State) : State := if s.tb.slewing then s else s.setFreq

/-! ### Source selection (R55 to R61) -/

/-- One tick of qualification (R55). -/
def SrcQual.tick (q : SrcQual) (ok : Bool) : SrcQual := if ok then { q with ticks := satU 18 (q.ticks + 1) } else { ticks := 0, eligible := false }

/-- Qualified for `n` ticks: eligible (R55). -/
def SrcQual.ripe (q : SrcQual) (n : Nat) : SrcQual := if n ≤ q.ticks then { q with eligible := true } else q

/-- A source that stops being qualified within a tick starts its count again, and the target's loss holds the frequency (R55, R58). -/
def State.requalify (s : State) : State :=
  let keep := fun (k : Src) (q : SrcQual) => if s.srcOk k then q else {}
  { s with tb := { s.tb with qGrid := keep .grid s.tb.qGrid, qFormed := keep .formed s.tb.qFormed, qSv := keep .sv s.tb.qSv, hold := s.tb.hold || !s.srcOk s.tb.target } }

def srcOfCode (c : Nat) : Src := if c = 0 then .grid else if c = 1 then .formed else if c = 2 then .sv else .free

/-- The preference list in force; FREE is always last (R54). -/
def State.preferences (s : State) : List Src := ((s.xp.act.row 0x0301 0 0).filter (fun c => decide (c < 3))).map srcOfCode ++ [.free]

/-- The first eligible source of the list (R56). -/
def State.firstEligible (s : State) : Src := (s.preferences.find? s.eligible).getD .free

/-- Qualification, loss and the selection snapshot in one tick (R55, R56, R58). -/
def State.selectTick (s : State) : State :=
  let t := s.tb
  let t1 := { t with qGrid := t.qGrid.tick (s.srcOk .grid), qFormed := t.qFormed.tick (s.srcOk .formed), qSv := t.qSv.tick (s.srcOk .sv),
                     hold := t.hold || !s.srcOk t.target }
  let n := 800 * s.prm 0x0301 0 3 0
  if t1.idx = 799 then
    let s1 := { s with tb := { t1 with qGrid := t1.qGrid.ripe n, qFormed := t1.qFormed.ripe n, qSv := t1.qSv.ripe n } }
    { s1 with tb := { s1.tb with snapTarget := s1.firstEligible } }
  else { s with tb := t1 }

/-- The detail of the source event: R61 names its contents (the old and the new target, whether it is a retarget, Δ) and no layout. DESIGN CHOICE (log 30): the old target in [1:0], the new one in [3:2], the retarget in bit 4, Δ in 1/16 tick, signed, in [31:16]; the cycle number is the event's tick. -/
def retargetDetail (old new : Src) (slewing : Bool) (delta : Rat) : Nat :=
  old.code + new.code * 4 + bit slewing * 16 + fld (patternOf 16 (ratRne (delta * 16))) 16 16

/-- The target, the slew and the correction at a cycle boundary (R56 to R61). DESIGN CHOICE (log 105): where the cap has left an offset after S cycles, r and `slew_left` stay 1; a snapshot's target that is lost before the boundary is taken there as named, and the next tick holds. -/
def State.selectCycle (s : State) : State :=
  let t := s.tb
  let new := t.snapTarget
  let delta := wrapTicks (s.srcAngle new)
  let big := (if delta < 0 then -delta else delta)
  let cap := s.slewCap
  let len := s.prm 0x0301 0 4 0
  let changed := new ≠ t.target
  let t0 := { t with target := new, hold := false }
  let t1 :=
    if changed then
      { t0 with slewing := true, slewLeft := len, corr := capTicks cap (delta / len), retargeted := t.retargeted || t.slewing }
    else if t.slewing then
      if big < 1 / 16 then { t0 with slewing := false, slewLeft := 0, corr := capTicks cap delta }
      else let r := if 1 < t.slewLeft then t.slewLeft - 1 else 1
           { t0 with slewLeft := r, corr := capTicks cap (delta / r) }
    else if 1 ≤ big then { t0 with slewing := true, slewLeft := len, corr := capTicks cap (delta / len) }
    else { t0 with corr := capTicks cap delta }
  -- a slew whose first boundary finds the offset below 1/16 tick ends at it (log 15)
  let t2 := if changed ∧ big < 1 / 16 then { t1 with slewing := false, slewLeft := 0, corr := capTicks cap delta } else t1
  let s1 := { s with tb := t2 }
  let s2 := if changed then
      s1.raise { kind := .retarget, unit := noUnit, detail := retargetDetail t.target new t.slewing delta }
    else s1
  s2.setFreq

/-! ### The PLLs (R63, R64) -/

/-- An angle `freq` further by `ps`, in ticks below 800. -/
def turnOn (angle freq : Rat) (ps : Nat) : Rat := let a := angle + freq * 800 * ps / 1000000000000; a - 800 * ((a / 800).floor : Rat)

/-- What is left of the offset a PLL takes out after a freeze, in steps of 2⁻⁴⁰ tick (R64, log 25). -/
def Pll.pullTick (p : Pll) (x : PllIn) (ps bw : Nat) : Rat :=
  let d := (if p.resume then wrapTicks (turnOn p.angle p.heldFreq ps - x.angle) else p.pull) * (Config.pllKeep bw ps % pow32 : Nat) / (pow32 : Nat)
  ((d * (2 ^ 40 : Nat)).floor : Rat) / (2 ^ 40 : Nat)

/-- One tick of a PLL instance: what it observes, and the counts of its lock rules. `ps` is the tick's length, `bw` the loop bandwidth. While frozen the angle goes on at the held frequency; after it the loop sets off from the frozen angle (R64). -/
def Pll.tick (p : Pll) (x : PllIn) (ps bw : Nat) : Pll :=
  let bigErr : Bool := decide (2560 < x.err) || decide (x.err < -2560)
  let frozen := p.frozen
  let pull : Rat := if frozen then 0 else p.pullTick x ps bw
  let angle : Rat := if frozen then turnOn p.angle p.heldFreq ps else x.angle + pull
  let freq : Rat := if frozen then p.heldFreq else x.freq
  let inRange : Bool := decide ((45 : Rat) ≤ freq) && decide (freq ≤ 65)
  let fast : Bool := decide ((5 : Rat) < x.rocof) || decide (x.rocof < -5)
  let sum := p.sumSq + (x.err * x.err).toNat
  let full := p.sumTicks + 1 = 800
  { p with
    angle := angle, freq := freq, low := x.low, pull := pull, resume := frozen && p.resume
    errTicks := if bigErr && !frozen then satU 5 (p.errTicks + 1) else 0
    rangeTicks := if inRange || frozen then 0 else satU 10 (p.rangeTicks + 1)
    rateTicks := if fast && !frozen then satU 12 (p.rateTicks + 1) else 0
    sumSq := if full then 0 else sum
    sumTicks := if full then 0 else p.sumTicks + 1
    goodCycles := if full then (if sum < 800 * 65536 && inRange then satU 3 (p.goodCycles + 1) else 0) else p.goodCycles
    frozenTicks := if frozen then satU 20 (p.frozenTicks + 1) else 0
    recoverTicks := if x.low then 0 else satU 10 (p.recoverTicks + 1) }

/-- The conditions of the lock rules (R63). -/
def Pll.canLock (p : Pll) : Bool := !p.locked && decide (4 ≤ p.goodCycles)
def Pll.mustUnlock (p : Pll) (limitCycles : Nat) : Bool :=
  p.locked && (decide (16 ≤ p.errTicks) || decide (800 ≤ p.rangeTicks) || decide (3200 ≤ p.rateTicks) || decide (800 * limitCycles < p.frozenTicks))
def Pll.lock (p : Pll) : Pll := { p with locked := true }
def Pll.unlock (p : Pll) : Pll := { p with locked := false, goodCycles := 0, errTicks := 0, rangeTicks := 0, rateTicks := 0, sumSq := 0, sumTicks := 0 }
def Pll.freeze (p : Pll) : Pll := { p with frozen := true, heldFreq := p.freq, frozenTicks := 0 }
def Pll.thaw (p : Pll) : Pll := { p with frozen := false, frozenTicks := 0, resume := true }

/-- The SV PLL's lock and freeze act by themselves: no row names them (R63, log 16). -/
def Pll.auto (p : Pll) (limitCycles : Nat) : Pll :=
  let p1 := if p.low && !p.frozen then p.freeze else if p.frozen && decide (800 ≤ p.recoverTicks) then p.thaw else p
  if p1.mustUnlock limitCycles then p1.unlock else if p1.canLock then p1.lock else p1

/-- The positive-sequence magnitude of 800 tick means, newest first, each given as three times its phase values (R540): the fundamental's single-bin DFT, in the unit of the means. -/
def posSeqMag (idx : Nat) (h : List (Int × Int × Int)) : Nat :=
  let acc := h.zipIdx.foldl (fun (a : Int × Int) e =>
    let n : Int := (idx : Int) - (e.2 : Int)
    let c0 := gTo 40 (cosTurn n 800); let s0 := gTo 40 (sinTurn n 800)
    let c1 := gTo 40 (cosTurn (3 * n - 800) 2400); let s1 := gTo 40 (sinTurn (3 * n - 800) 2400)
    let c2 := gTo 40 (cosTurn (3 * n + 800) 2400); let s2 := gTo 40 (sinTurn (3 * n + 800) 2400)
    (a.1 + e.1.1 * c0 + e.1.2.1 * c1 + e.1.2.2 * c2, a.2 - e.1.1 * s0 - e.1.2.1 * s1 - e.1.2.2 * s2)) (0, 0)
  sqrtNear ((acc.1 * acc.1 + acc.2 * acc.2).toNat * 4) (7200 * 7200 * 2 ^ 80)

/-! ### Plant time (R65 to R72) -/

/-- The span of the 64-bit count, in attoseconds (R14). -/
def ptSpan : Nat := 2 ^ 64 * 1000000000

/-- Plant time passes by `ps` picoseconds: the count, its slew, the timers (R68). -/
def PlantTime.advance (p : PlantTime) (ps : Nat) : PlantTime :=
  let rate := if p.slewBack then 2000 else 10000
  let most : Int := (ps * 1000000 / rate : Nat)
  let move := clampI (-most) most p.slewLeft
  let left := p.slewLeft - move
  { p with
    atto := ((p.atto + ps * 1000000 : Nat) + move).toNat % ptSpan
    slewLeft := left, slewBack := p.slewBack && decide (left < 0)
    armedAge := if p.armed.isSome then p.armedAge + ps else 0
    ppsAge := p.ppsAge + ps, annAge := p.annAge + ps, syncAge := p.syncAge + ps
    holdT := if p.phase = .holdover then p.holdT + ps else p.holdT }

/-- The estimated error in HOLDOVER (R69); `a` in 10⁻¹³ per second. Rounded to nearest (log 4). -/
def PlantTime.holdEst (p : PlantTime) (a : Nat) : Nat :=
  let t := p.holdT / 1000
  p.holdE0 + (divRne ((p.holdY * t * 20000000000 + a * t * t : Nat) : Int) (20000000000000000000000 : Int)).toNat

/-- A correction to the count after the first set (R68), `offset` in attoseconds: slewed up to 1 ms, stepped forward, slewed back. A measurement replaces what is left of a slew. DESIGN CHOICE (log 106): a backward slew above 1 ms that such a measurement finds still unfinished goes on at its rate, `degraded` set, until nothing is left of it. The second result says that the count was stepped. -/
def PlantTime.correct (p : PlantTime) (offset : Int) : PlantTime × Bool :=
  if 10 ^ 15 < offset then ({ p with atto := ((p.atto : Int) + offset).toNat % ptSpan, stepped := true, slewLeft := 0, slewBack := false }, true)
  else ({ p with slewLeft := offset, slewBack := decide (offset < -(10 ^ 15)) || (p.slewBack && decide (offset < 0)) }, false)

/-- The first set after reset replaces the count at once (R68); `atto` is the new count in attoseconds. -/
def PlantTime.firstSet (p : PlantTime) (atto : Nat) : PlantTime :=
  { p with atto := atto % ptSpan, stepped := true, phase := .acquiring, slewLeft := 0, slewBack := false }

/-- Plant time enters a state; PPS_OUT is high in LOCKED and HOLDOVER only (R67, R71). -/
def PlantTime.enter (p : PlantTime) (ph : PtPhase) : PlantTime :=
  { p with phase := ph, wasLocked := p.wasLocked || ph == .locked, ppsOut := p.ppsOut && (ph == .locked || ph == .holdover) }

/-- The discipline configured: PTP is used, PPS is used (R65, R427). -/
def State.usesPtp (s : State) : Bool := s.prm 0x0302 0 0 0 == 1 || s.prm 0x0302 0 0 0 == 3
def State.usesPps (s : State) : Bool := s.prm 0x0302 0 0 0 == 2 || s.prm 0x0302 0 0 0 == 3

/-- A measurement of the discipline source in use: offset in attoseconds (R67, R68). The servo's error, frequency and uncertainty estimates are values the spec does not give: free values (log 1). After a REFCLK fault the state stays HOLDOVER (R72). -/
def State.discipline (s : State) (pps : Bool) (offset : Int) : State :=
  if s.tb.pt.onOscillator then s else
  let d1 := s.free 24
  let d2 := d1.2.free 32
  let d3 := d2.2.free 32
  let s1 := d3.2
  let p := s1.tb.pt
  let p0 := { p with discPps := pps, inUse := true, ptpGone := p.ptpGone && pps, est := d1.1, servoY := d2.1, refErr := ((d3.1 : Int) - 2 ^ 31 : Int) / (1000000000000 : Rat) }
  let r := if p.phase = .unset then
      (if 0 < offset then (p0.firstSet (((p.atto : Int) + offset).toNat), true) else ({ p0 with inUse := false }, false))
    else let c := p0.correct offset; (c.1.enter (if p.phase = .holdover then .acquiring else p.phase), c.2)
  let s2 := { s1 with tb := { s1.tb with pt := r.1 } }
  if r.2 then s2.raise { kind := .timeStep, unit := noUnit, detail := 0 } else s2

/-- The discipline source in use is lost: HOLDOVER where LOCKED had been reached (R65, R67). -/
def PlantTime.lose (p : PlantTime) : PlantTime :=
  let h : Bool := p.wasLocked && (p.phase == .locked || p.phase == .acquiring)
  let p1 := { p with inUse := false, goodPs := 0 }
  if h then { p1.enter .holdover with holdE0 := p.est, holdY := p.servoY, holdT := 0 } else p1

/-- A landing swap takes the source in use out of the configuration: it is lost, and a grandmaster with it (R65). -/
def State.dropDiscipline (s : State) : State :=
  let p := s.tb.pt
  let p1 := if s.usesPtp then p else { p with grandmaster := none, syncInterval := 0 }
  { s with tb := { s.tb with pt := if p.inUse && !(if p.discPps then s.usesPps else s.usesPtp) then p1.lose else p1 } }

/-- Plant time's part of a tick: the count, the lock threshold's run, the holdover estimate, REFCLK's watch, PPS_OUT (R67 to R72). -/
def State.plantTick (s : State) (ps : Nat) : State :=
  let p := s.tb.pt.advance ps
  let within := p.inUse && decide (p.est ≤ s.prm 0x0302 0 2 0)
  let p1 := { p with
    goodPs := if within then p.goodPs + ps else 0
    est := if p.phase = .holdover ∧ ¬ p.onOscillator then p.holdEst (s.prm 0x0302 0 3 0) else p.est
    refBad := if p.good && (decide ((500 : Rat) / 1000000 < p.refErr) || decide (p.refErr < -(500 : Rat) / 1000000)) then p.refBad + ps else 0
    ppsOut := p.ppsOut && p.good }
  { s with tb := { s.tb with pt := p1 } }

/-! ### The tick itself -/

/-- The tick generator's part of a tick boundary (R49, R51, R73): the tick ends, time passes, the next tick begins and is stamped. -/
def State.advanceTick (s : State) : State :=
  let t := s.tb
  let n := t.toOverflow
  let wrap := t.idx = 799
  let t1 := { t with acc := (t.acc + n * t.incr) % 2 ^ 48, periods := n, periods1 := t.periods, idx := if wrap then 0 else t.idx + 1, bnd := wrap }
  let s1 := ({ s with tb := t1 }).plantTick (n * 625)
  { s1 with tb := { s1.tb with stamp := s1.tb.pt.ns, tickReg := s1.tb.absTick } }

/-- What the PLLs observe at the boundary (R63, R64). -/
def State.pllTick (s : State) (g v : PllIn) : State :=
  let ps := s.tb.periods * 625
  { s with tb := { s.tb with pll := s.tb.pll.tick g ps (s.prm 0x0301 0 7 0), svPll := (s.tb.svPll.tick v ps (s.prm 0x0301 0 7 1)).auto (s.prm 0x0301 0 8 0) } }

/-- The cycle boundary's count and record (R51, R74). -/
def State.openCycle (s : State) : State :=
  let t := { s.tb with cycle := (s.tb.cycle + 1) % 2 ^ 48, bnd := false }
  { s with tb := t }

def State.recordCycle (s : State) : State :=
  let t := s.tb
  let r : CycleRec := { cycle := t.cycleNow, stamp := t.stamp, target := t.target, slewing := t.slewing, phase := t.pt.phase, degraded := s.degraded, est := t.pt.estRead }
  { s with tb := { t with records := (r :: t.records).take 4096 } }

/-! ### Meanings -/

/-- GRID_PLL_LOCK (R63). -/
def doGridPllLock (s : State) : State := if s.tb.pll.canLock then { s with tb := { s.tb with pll := s.tb.pll.lock } } else s
def execGridPllLock (s : State) : Host.Outcome State Fault Refusal := .next (doGridPllLock s)

/-- GRID_PLL_LOCK_LOSS (R63). -/
def doGridPllLockLoss (s : State) : State :=
  if s.tb.pll.mustUnlock (s.prm 0x0301 0 8 0) then ({ s with tb := { s.tb with pll := s.tb.pll.unlock } }).requalify else s
def execGridPllLockLoss (s : State) : Host.Outcome State Fault Refusal := .next (doGridPllLockLoss s)

/-- PLL_FREEZE (R64). -/
def doPllFreeze (s : State) : State :=
  if s.tb.pll.low ∧ ¬ s.tb.pll.frozen then { s with tb := { s.tb with pll := s.tb.pll.freeze } } else s
def execPllFreeze (s : State) : Host.Outcome State Fault Refusal := .next (doPllFreeze s)

/-- PLL_FREEZE_EXIT (R64). -/
def doPllFreezeExit (s : State) : State :=
  if s.tb.pll.frozen ∧ 800 ≤ s.tb.pll.recoverTicks then { s with tb := { s.tb with pll := s.tb.pll.thaw } } else s
def execPllFreezeExit (s : State) : Host.Outcome State Fault Refusal := .next (doPllFreezeExit s)

/-- SOURCE_ELIGIBLE (R55): the source has been qualified for Q whole cycles. -/
def doSourceEligible (k : SrcName) (s : State) : State :=
  let q := 800 * s.prm 0x0301 0 3 0
  match k with
  | .grid => if q ≤ s.tb.qGrid.ticks then { s with tb := { s.tb with qGrid := { s.tb.qGrid with eligible := true } } } else s
  | .formed => if q ≤ s.tb.qFormed.ticks then { s with tb := { s.tb with qFormed := { s.tb.qFormed with eligible := true } } } else s
  | .sv => if q ≤ s.tb.qSv.ticks then { s with tb := { s.tb with qSv := { s.tb.qSv with eligible := true } } } else s
def execSourceEligible (k : SrcName) (s : State) : Host.Outcome State Fault Refusal := .next (doSourceEligible k s)

/-- PTP_SYNC (R65, R66): `offset` is reference less count in ps, `interval` the sync interval in ns (log 27). -/
def doPtpSync (offset interval : Int) (s : State) : State :=
  if s.usesPtp ∧ s.tb.pt.grandmaster.isSome then
    ({ s with tb := { s.tb with pt := { s.tb.pt with syncAge := 0, syncInterval := interval.toNat } } }).discipline false (offset * 1000000)
  else s
def execPtpSync (offset interval : Int) (s : State) : Host.Outcome State Fault Refusal := .next (doPtpSync offset interval s)

/-- PTP_ANNOUNCE (R65, R66): the lower rank is the better data set; equal identity refreshes the selected grandmaster. -/
def doPtpAnnounce (identity rank interval : Nat) (s : State) : State :=
  if ¬ s.usesPtp then s else
  let p := s.tb.pt
  let take := match p.grandmaster with
    | none => true
    | some g => g.1 == identity || decide (rank < g.2)
  let sa : Nat := if p.grandmaster.isNone then 0 else p.syncAge
  if take then { s with tb := { s.tb with pt := { p with grandmaster := some (identity, rank), annAge := 0, annInterval := interval, syncAge := sa } } } else s
def execPtpAnnounce (identity rank interval : Nat) (s : State) : Host.Outcome State Fault Refusal := .next (doPtpAnnounce identity rank interval s)

/-- PTP_PDELAY (R65, R66): the peer delay measured. -/
def doPtpPdelay (delay : Nat) (s : State) : State := { s with tb := { s.tb with pt := { s.tb.pt with peerDelay := delay } } }
def execPtpPdelay (delay : Nat) (s : State) : Host.Outcome State Fault Refusal := .next (doPtpPdelay delay s)

/-- PTP_LOST (R65, R66): three announce intervals or four sync intervals have passed; PPS takes over where it is LOCKED. -/
def doPtpLost (s : State) : State :=
  let p := s.tb.pt
  if p.grandmaster.isSome ∧ (3000 * p.annInterval ≤ p.annAge ∨ (0 < p.syncInterval ∧ 4000 * p.syncInterval ≤ p.syncAge)) then
    let p1 := { p with grandmaster := none, syncInterval := 0 }
    let p2 := if p.inUse ∧ ¬ p.discPps then
        (if s.usesPps ∧ p.ppsPresent ∧ 16000000000000 ≤ p.ppsGood then { p1 with discPps := true } else { p1.lose with ptpGone := true })
      else p1
    let s1 := { s with tb := { s.tb with pt := p2 } }
    if p2.phase = p.phase then s1 else s1.requalify
  else s
def execPtpLost (s : State) : Host.Outcome State Fault Refusal := .next (doPtpLost s)

/-- PPS is the source in use, or may become it: with both sources configured PTP is preferred, and PPS takes over only at the moment PTP is lost (R65). -/
def State.ppsMay (s : State) : Bool :=
  s.usesPps && ((s.tb.pt.inUse && s.tb.pt.discPps) || (!s.tb.pt.inUse && !(s.usesPtp && s.tb.pt.ptpGone)))

/-- PPS_EDGE (R65, R66, R432, R503): an edge `after` periods of 0.625 ns into the present tick. -/
def doPpsEdge (after : Nat) (s : State) : State :=
  let p := s.tb.pt
  let late := after * 625000000
  let now := p.atto + late
  let sec : Nat := (now + 5 * 10 ^ 17) / 10 ^ 18 * 10 ^ 18
  let off : Int := (sec : Int) - now
  let outlier : Bool := (decide (10 ^ 14 < off) || decide (off < -(10 ^ 14))) && !p.reacquire
  let p1 := { p with ppsAge := 0, ppsPresent := true }
  match p.armed with
  | some t =>
    if p.phase = .unset then
      if t * 10 ^ 9 ≤ now then ({ s with tb := { s.tb with pt := { p1 with armed := none } } }).raise { kind := .setLapsed, unit := noUnit }
      else ({ s with tb := { s.tb with pt := { (p1.firstSet (t * 10 ^ 9 - late)) with armed := none } } }).raise { kind := .timeStep, unit := noUnit }
    else
      let c := ({ p1 with armed := none } : PlantTime).correct (((t * 10 ^ 9 : Nat) : Int) - (now : Int))
      let s1 := { s with tb := { s.tb with pt := c.1 } }
      s1.raise { kind := if c.2 then .timeStep else .setLanded, unit := noUnit }
  | none =>
    if outlier then
      let n := p.outliers + 1
      let p2 := { p1 with outliers := if n = 8 then 0 else n, outlierCount := satU 32 (p.outlierCount + 1), ppsGood := 0, ppsWithin := false }
      let g3 : Nat := if s.ppsMay then 0 else p.goodPs
      let p3 := if n = 8 then ({ p2 with reacquire := true, goodPs := g3 } : PlantTime).enter (if p.phase ≠ PtPhase.unset ∧ s.ppsMay then .acquiring else p.phase) else p2
      let s1 := { s with tb := { s.tb with pt := p3 } }
      if p3.phase = p.phase then s1 else s1.requalify
    else
      let thr := s.prm 0x0302 0 2 0
      let good : Bool := decide (off ≤ thr * 10 ^ 9) && decide (-(thr * 10 ^ 9 : Int) ≤ off)
      let run : Bool := good && p.ppsWithin && p.ppsPresent && decide (p.ppsAge < 2000000000000)
      let p2 := { p1 with outliers := 0, reacquire := false, ppsWithin := good, ppsGood := if run then p.ppsGood + p.ppsAge else 0 }
      let s1 := { s with tb := { s.tb with pt := p2 } }
      if p.phase ≠ .unset ∧ s.ppsMay then s1.discipline true off else s1
def execPpsEdge (after : Nat) (s : State) : Host.Outcome State Fault Refusal := .next (doPpsEdge after s)

/-- PPS_LOST (R66): no edge for 2 s. -/
def doPpsLost (s : State) : State :=
  let p := s.tb.pt
  if p.ppsPresent ∧ 2000000000000 ≤ p.ppsAge then
    let p1 := { p with ppsPresent := false, ppsGood := 0, ppsWithin := false }
    if p.inUse ∧ p.discPps then ({ s with tb := { s.tb with pt := p1.lose } }).requalify else { s with tb := { s.tb with pt := p1 } }
  else s
def execPpsLost (s : State) : Host.Outcome State Fault Refusal := .next (doPpsLost s)

/-- PLANT_TIME_SET_LAPSE (R432). -/
def doPlantTimeSetLapse (s : State) : State :=
  if s.tb.pt.armed.isSome ∧ 2000000000000 ≤ s.tb.pt.armedAge then
    ({ s with tb := { s.tb with pt := { s.tb.pt with armed := none, armedAge := 0 } } }).raise { kind := .setLapsed, unit := noUnit }
  else s
def execPlantTimeSetLapse (s : State) : Host.Outcome State Fault Refusal := .next (doPlantTimeSetLapse s)

/-- PLANT_TIME_LOCKED (R67): the error has stayed within the threshold for 16 s. -/
def doPlantTimeLocked (s : State) : State :=
  if s.tb.pt.phase = .acquiring ∧ 16000000000000 ≤ s.tb.pt.goodPs then { s with tb := { s.tb with pt := s.tb.pt.enter .locked } } else s
def execPlantTimeLocked (s : State) : Host.Outcome State Fault Refusal := .next (doPlantTimeLocked s)

/-- PPS_OUT_PULSE (R71): the rise at a whole second, the fall 100 ms after it. -/
def doPpsOutPulse (rise : Bool) (s : State) : State :=
  let p := s.tb.pt
  let sec := p.ns / 1000000000 * 1000000000
  if rise ∧ p.good ∧ p.ppsOutAt < sec then { s with tb := { s.tb with pt := { p with ppsOut := true, ppsOutAt := sec } } }
  else if ¬ rise ∧ p.ppsOutAt + 100000000 ≤ p.ns then { s with tb := { s.tb with pt := { p with ppsOut := false } } }
  else s
def execPpsOutPulse (rise : Bool) (s : State) : Host.Outcome State Fault Refusal := .next (doPpsOutPulse rise s)

/-- REFCLK_FAULT (R72, R340): the internal oscillator, HOLDOVER at the largest error, a safe stop that ends in a reset. -/
def doRefclkFault (s : State) : State :=
  ({ s with tb := { s.tb with pt := { s.tb.pt with onOscillator := true, refclkFault := true, phase := .holdover, inUse := false, est := 0xFFFFFF } } }).startStop 3 false true false
def execRefclkFault (s : State) : Host.Outcome State Fault Refusal := .next (doRefclkFault s)

/-- The answer of PLANT_TIME_SET (R68, R432): a set that is taken replaces an armed one. -/
def plantTimeSet (time atPps : Nat) (s : State) : State × Ans :=
  let p := { s.tb.pt with armed := none, armedAge := 0 }
  if 1 < atPps then (s, refuseAns stRange 0x0303 255 0)
  else if atPps = 1 then ({ s with tb := { s.tb with pt := { p with armed := some time } } }, acceptedAns)
  else if p.phase = .unset then
    if time ≤ p.ns then (s, refuseAns stRange 0x0303 255 0)
    else (({ s with tb := { s.tb with pt := p.firstSet (time * 10 ^ 9) } }).raise { kind := .timeStep, unit := noUnit }, okAns)
  else
    let c := p.correct ((time * 10 ^ 9 : Nat) - (p.atto : Int))
    let s1 := { s with tb := { s.tb with pt := c.1 } }
    (if c.2 then s1.raise { kind := .timeStep, unit := noUnit } else s1, okAns)

/-- PLANT_TIME_SET (R68, R432). -/
def doPlantTimeSet (h : Hdr) (time atPps : Nat) (s : State) : State :=
  s.hostJ (.plantTimeSet h time atPps) h 0x0303 (plantTimeSet time atPps)
def execPlantTimeSet (h : Hdr) (time atPps : Nat) (s : State) : Host.Outcome State Fault Refusal := .next (doPlantTimeSet h time atPps s)

/-- A cycle record's 20 bytes (R432). -/
def CycleRec.bytes (r : CycleRec) : List Nat :=
  le 6 r.cycle ++ le 1 r.target.code ++ le 1 (bit r.slewing + r.phase.code * 2 + bit r.degraded * 8) ++ le 8 r.stamp ++ le 4 r.est

/-- The reply of TIMEBASE_STATUS (R74, R432). -/
def timebaseStatus (udp : Bool) (first max : Nat) (s : State) : List Nat :=
  let rs := s.tb.records.reverse.filter (fun r => decide (first ≤ r.cycle))
  let fit := ((if udp then 1424 else 4048) - 26) / 20
  let got := rs.take (Nat.min max fit)
  let next := match rs.drop got.length with | r :: _ => r.cycle | [] => 0xFFFFFFFFFFFFFFFF
  le 4 s.srcStatus ++ le 4 s.ptStatus ++ le 8 s.absTick ++ le 8 next ++ le 2 got.length ++ (got.map CycleRec.bytes).flatten

/-- TIMEBASE_STATUS (R74, R432). -/
def doTimebaseStatus (h : Hdr) (first max : Nat) (s : State) : State :=
  s.host h 0x0304 (fun t => (t, okAns (timebaseStatus h.udp first max t)))
def execTimebaseStatus (h : Hdr) (first max : Nat) (s : State) : Host.Outcome State Fault Refusal := .next (doTimebaseStatus h first max s)

end Sys2Proof.Machine
end

