-- ==== Sys2Proof/Machine/Ports.lean ====
section
/-! DEFINITION. Waveform ports: slots, serial ports, sampled values, host DMA, the set-point input, grid sense (03). -/

namespace Sys2Proof.Machine
open Sys2Proof

/-! ### Channels (R82, R85) -/

/-- A channel's number: 0 none, else by kind. -/
def chanId (kind w1 w2 : Nat) : Nat :=
  if kind = 1 then 1024 + w1 * 32 + w2 else if kind = 2 then 2048 + w1 * 8 + w2 else if kind = 3 then 3072 + w2 else if kind = 4 then 4096 else 0

/-- The channel STREAM_ROUTE binds slot `i` to (R82). -/
def State.route (s : State) (i : Nat) : Nat := chanId (s.prm 0x0401 i 0 0) (s.prm 0x0401 i 1 0) (s.prm 0x0401 i 2 0)

/-- The ramp length of slot `i` (R84). -/
def State.rampLen (s : State) (i : Nat) : Nat := s.prm 0x0401 i 3 0

/-- What a slot sees of its channel at a latch. -/
structure ChanView where
  value : Int := 0
  missing : Bool := true
  gone : Bool := false
  qualTime : Nat := 1600
  usable : Bool := true
deriving DecidableEq, Repr

/-- The channel as the present latch finds it (R85, R111); the set-point input is not used while it is lost or qualifying (R106). -/
def State.chanView (s : State) (id : Nat) : ChanView :=
  let c := tget {} s.sp.chans id
  let k := id / 1024
  if k = 1 then { value := c.value, missing := c.missing, gone := !(tget {} s.sp.serial ((id - 1024) / 32)).valid }
  else if k = 2 then { value := c.value, missing := c.missing, gone := c.gone || decide (4 ≤ c.run) || (tget {} s.sp.sv ((id - 2048) / 8)).timedOut }
  else if k = 3 then { value := c.value, missing := c.missing, gone := decide (s.prm 0x0406 0 5 0 ≤ c.run), qualTime := 0 }
  else if k = 4 then { value := s.sp.setp.y, missing := !s.sp.setp.valid, gone := s.sp.setp.lost || decide (16 ≤ s.sp.setp.badRun), qualTime := 800, usable := s.sp.setp.qualified && !s.sp.setp.lost }
  else {}

/-! ### Slots (R84 to R87) -/

/-- The value a slot presents (R84). -/
def WaveSlot.present (w : WaveSlot) : Int :=
  match w.phase with
  | .idle => 0
  | .waiting => 0
  | .live => w.v
  | _ => satQ22 (ratRne (w.g * w.v))

/-- Take the live value unless it is frozen, present, and show the state. -/
def WaveSlot.finish (w : WaveSlot) (value : Int) : WaveSlot :=
  let w1 := if w.frozen then w else { w with v := value }
  { w1 with out := w1.present, shown := w1.phase }

/-- One tick of a ramp (R84). -/
def rampUpG (len : Nat) (g : Rat) : Rat := if len = 0 then 1 else if 1 ≤ g + 1 / len then 1 else g + 1 / len
def rampDownG (len : Nat) (g : Rat) : Rat := if len = 0 then 0 else if g ≤ 1 / len then 0 else g - 1 / len

/-- A stop (R85, R86). A change of binding leaves the started mark. -/
def WaveSlot.stop (w : WaveSlot) (keepMark : Bool) : WaveSlot :=
  let m := keepMark && w.started
  match w.phase with
  | .waiting => if keepMark then w else { w with phase := .idle, started := false }
  | .rampUp => { w with phase := .rampDown, afterLoss := false, started := m }
  | .live => { w with phase := .rampDown, afterLoss := false, started := m }
  | .hold => { w with phase := .rampDown, afterLoss := false, started := m }
  | .rampDown => if w.afterLoss then { w with started := m } else w
  | .idle => w

/-- The channel is lost (R85). -/
def WaveSlot.lose (w : WaveSlot) : WaveSlot :=
  match w.phase with
  | .rampUp => { w with phase := .rampDown, frozen := true, afterLoss := true }
  | .live => { w with phase := .rampDown, frozen := true, afterLoss := true }
  | .hold => { w with phase := .rampDown, frozen := true, afterLoss := true }
  | .rampDown => { w with frozen := true }
  | _ => w

/-- A loss changes the slot. -/
def WaveSlot.canLose (w : WaveSlot) : Bool :=
  match w.phase with
  | .rampUp => true
  | .live => true
  | .hold => true
  | .rampDown => !w.frozen
  | _ => false

/-- A start (R85). R85 and R86 do not say what a start does in a ramp down that a change of binding began. DESIGN CHOICE (log 89): as in any ramp down after a stop, the slot returns to RAMP_UP on the old channel while that is good, and the new binding waits for a later end of a ramp down. -/
def WaveSlot.start (w : WaveSlot) (good : Bool) : WaveSlot :=
  match w.phase with
  | .idle => { w with phase := .waiting, started := true, qual := 0 }
  | .rampDown =>
    if w.afterLoss then { w with started := true }
    else if good then { w with phase := .rampUp, frozen := false, started := true }
    else { w with frozen := true, started := true }
  | _ => { w with started := true }

/-- The channel is missing or good again (R85): a slot that has counted its qualification ticks is due to start its ramp; a hold that ends keeps its gain for the tick. -/
def WaveSlot.hear (w : WaveSlot) (c : ChanView) : WaveSlot :=
  match w.phase with
  | .waiting => if c.missing then { w with qual := 0 } else if c.qualTime ≤ w.qual then { w with due := bit c.usable } else { w with qual := w.qual + 1 }
  | .rampUp => if c.missing then { w with phase := .hold, heldLive := false, frozen := true } else w
  | .live => if c.missing then { w with phase := .hold, heldLive := true, frozen := true } else w
  | .hold => if c.missing then w else { w with phase := if w.heldLive then .live else .rampUp, frozen := false }
  | _ => w

/-- The ramp's step, or its end found due (R84, R85). -/
def WaveSlot.ramp (w : WaveSlot) (len : Nat) : WaveSlot :=
  match w.phase with
  | .rampUp => if w.g = 1 then { w with due := 4 } else { w with g := rampUpG len w.g }
  | .rampDown => if w.g = 0 then { w with due := 4 } else { w with g := rampDownG len w.g }
  | .live => { w with g := 1 }
  | .idle => { w with g := 0 }
  | .waiting => { w with g := 0 }
  | .hold => w

/-- What the 4th consecutive latch miss makes of the channel for the slot (R87). -/
def ChanView.unread (c : ChanView) (miss : Bool) : ChanView := if miss then { c with missing := true, gone := true } else c

/-- One stage-3 latch of a slot (R85 to R87): misses one to three change nothing. A loss is left to CHANNEL_LOST, a qualification to CHANNEL_QUALIFY, the end of a ramp to SLOT_RAMP_END. -/
def WaveSlot.latch (w : WaveSlot) (len : Nat) (c : ChanView) (miss : Bool) : WaveSlot :=
  let n := if miss then satU 3 (w.misses + 1) else 0
  if miss ∧ n < 4 then { w with misses := n, due := 0 } else
  let c := c.unread miss
  let w0 := { w with misses := n, due := 0, heard := c.missing, events := satU 32 (w.events + bit (w.asked.testBit 0) + bit (w.asked.testBit 1) + bit (w.heard != c.missing)) }
  let w1 := if w.asked.testBit 1 then w0.stop false else w0
  if c.gone ∧ w1.canLose then { w1 with asked := w.asked % 2, due := 2 } else
  let w2 := if w.asked.testBit 0 then w1.start (!c.missing) else w1
  let w3 := ({ w2 with asked := 0 }).hear c
  let held := w2.phase = .hold
  ((if held then w3 else w3.ramp len)).finish c.value

/-- CHANNEL_QUALIFY (R85). -/
def doChannelQualify (i : Nat) (s : State) : State :=
  let w := tget {} s.sp.slots i
  if w.phase = .waiting ∧ w.due.testBit 0 then
    let w1 := { w with phase := .rampUp, frozen := false, afterLoss := false, due := 0, g := rampUpG (s.rampLen i) 0, events := satU 32 (w.events + 1) }
    { s with sp := { s.sp with slots := tset {} s.sp.slots i (w1.finish (s.chanView w.bound).value) } }
  else s
def execChannelQualify (i : Nat) (s : State) : Host.Outcome State Fault Refusal :=
  if 40 ≤ i then .fault .noSuchUnit else .next (doChannelQualify i s)

/-- CHANNEL_LOST (R85, R86): the loss, then a start that came with it. -/
def doChannelLost (i : Nat) (s : State) : State :=
  let w := tget {} s.sp.slots i
  if w.due.testBit 1 then
    let w1 := ({ w with due := 0, events := satU 32 (w.events + 1) }).lose
    let w2 := if w.asked.testBit 0 then w1.start false else w1
    { s with sp := { s.sp with slots := tset {} s.sp.slots i ((({ w2 with asked := 0 }).ramp (s.rampLen i)).finish (s.chanView w.bound).value) } }
  else s
def execChannelLost (i : Nat) (s : State) : Host.Outcome State Fault Refusal :=
  if 40 ≤ i then .fault .noSuchUnit else .next (doChannelLost i s)

/-- SLOT_RAMP_END (R85, R86): LIVE at the top; at the bottom WAITING or IDLE, with the binding now in force; a tick whose latch missed for the 4th time or more counts no qualification (R87). -/
def doSlotRampEnd (i : Nat) (s : State) : State :=
  let w := tget {} s.sp.slots i
  if w.due.testBit 2 then
    let w0 := { w with due := 0, events := satU 32 (w.events + 1) }
    let w1 := if w.phase = .rampUp then { w0 with phase := .live }
      else { w0 with phase := if w.started then .waiting else .idle, bound := s.route i, qual := bit (!((s.chanView (s.route i)).unread (decide (4 ≤ w.misses))).missing), frozen := false, afterLoss := false, g := 0 }
    { s with sp := { s.sp with slots := tset {} s.sp.slots i (w1.finish (s.chanView w1.bound).value) } }
  else s
def execSlotRampEnd (i : Nat) (s : State) : Host.Outcome State Fault Refusal :=
  if 40 ≤ i then .fault .noSuchUnit else .next (doSlotRampEnd i s)

/-- What a swap does to a slot whose binding it changes (R86). -/
def WaveSlot.rebind (w : WaveSlot) (new : Nat) : WaveSlot :=
  if w.bound = new then w else
  match w.phase with
  | .idle => { w with bound := new }
  | .waiting => { w with bound := new, qual := 0 }
  | _ => w.stop true

/-- Take up the bindings in force after a swap (R86). -/
def State.rebindSlots (s : State) : State :=
  { s with sp := { s.sp with slots := iter 40 (fun i t => tset {} t i ((tget {} t i).rebind (s.route i))) s.sp.slots } }

/-- The answer of STREAM_START and STREAM_STOP; bits 63:40 are reserved and ignored (R23, R85, R433). -/
def streamAsk (bitNo slots : Nat) (s : State) : State × Ans :=
  ({ s with sp := { s.sp with slots := iter 40 (fun i t => if slots.testBit i then tmod {} t i (fun w => { w with asked := setBit w.asked bitNo true }) else t) s.sp.slots } }, okAns)

/-- STREAM_START (R85, R433). -/
def doStreamStart (h : Hdr) (slots : Nat) (s : State) : State := s.hostJ (.streamStart h slots) h 0x0402 (streamAsk 0 slots)
def execStreamStart (h : Hdr) (slots : Nat) (s : State) : Host.Outcome State Fault Refusal := .next (doStreamStart h slots s)

/-- STREAM_STOP (R85, R433). -/
def doStreamStop (h : Hdr) (slots : Nat) (s : State) : State := s.hostJ (.streamStop h slots) h 0x0403 (streamAsk 1 slots)
def execStreamStop (h : Hdr) (slots : Nat) (s : State) : Host.Outcome State Fault Refusal := .next (doStreamStop h slots s)

/-- The reply of STREAM_STATUS_READ (R433). -/
def Ports.statusBytes (p : Ports) : List Nat :=
  (List.range 40).map (fun i => (tget {} p.slots i).phase.code) ++
  ((List.range 8).map (fun k => let v := tget {} p.sv k
    le 4 (bit v.timedOut + 2 * bit v.invalid + 4 * bit v.questionable + 8 * bit v.aligned + fld v.discarded 16 16))).flatten ++
  le 4 p.dma.bad ++ le 4 p.dma.late ++ le 4 p.dma.dropped

/-- STREAM_STATUS_READ (R433). -/
def doStreamStatusRead (h : Hdr) (s : State) : State := s.host h 0x0409 (fun t => (t, okAns t.sp.statusBytes))
def execStreamStatusRead (h : Hdr) (s : State) : Host.Outcome State Fault Refusal := .next (doStreamStatusRead h s)

/-! ### Serial ports (R88 to R94) -/

/-- A received 32-bit slot as Q1.23 (R88, R90). -/
def slotSample (w : Nat) : Int := signedOf 24 (w / 256)

/-- A frame enters the FIFO (R91); a full FIFO takes none until it is re-centred (R92). -/
def Resampler.push (r : Resampler) (d : Nat) (f : List Int) : Resampler :=
  let r1 := { r with frames := satU 16 (r.frames + 1) }
  if r.fifo.length < d then { r1 with fifo := f :: r.fifo } else { r1 with full := true }

/-- A rational in steps of 2⁻⁴⁰, rounded down. -/
def step40 (x : Rat) : Rat := ((x * (2 ^ 40 : Nat)).floor : Rat) / (2 ^ 40 : Nat)

/-- π as a rational. -/
def ratPi : Rat := (gPi : Rat) / (gOne : Rat)

/-- The gains of a resampler's loop, in ppm per frame and per frame and tick, at a frame rate in mHz and a tick of `ps`: a proportional-integral loop whose natural frequency is the stated 0.5 Hz, with a damping in 2⁻¹⁶ (R91, log 8). -/
def loopGains (damping rate ps : Nat) : Rat × Rat :=
  (2 * (damping : Rat) / 65536 * ratPi * 1000000000 / (rate : Rat), ratPi * ratPi * (ps : Rat) / (1000 * (rate : Rat)))

/-- The steering of the proportional-integral loop, in ppm of the starting ratio: what its gains make of the FIFO's distance from *D*/2 and of its sum, within ±2,000 (R91). -/
def Resampler.steerPpm (r : Resampler) (d : Nat) (gains : Rat × Rat) : Rat :=
  let e : Int := r.fifo.length - (d / 2 : Nat)
  let x : Rat := gains.1 * (e : Rat) + gains.2 * ((r.sum + e : Int) : Rat)
  if x < -2000 then -2000 else if 2000 < x then 2000 else x

/-- One tick of the NCO (R91): it starts at the measured ratio `meas` once the FIFO stands at *D*/2, and then takes frames at that ratio, steered to keep the FIFO there. -/
def Resampler.advance (r : Resampler) (d : Nat) (meas : Rat) (gains : Rat × Rat) : Resampler :=
  if r.ratio = 0 then (if d / 2 ≤ r.fifo.length then { r with ratio := meas, phase := 0, sum := 0 } else r) else
  let a := step40 (r.phase + r.ratio * (1 + r.steerPpm d gains / 1000000))
  let left := r.fifo.length - a.floor.toNat
  { r with fifo := r.fifo.take left, hist := (r.fifo.drop left ++ r.hist).take 64, phase := a - (a.floor : Rat), sum := satS 32 (r.sum + (r.fifo.length - (d / 2 : Nat) : Int)) }

/-- The FIFO is re-centred to *D*/2 by repeating or dropping frames (R92). -/
def Resampler.recentre (r : Resampler) (d : Nat) (full : Bool) : Resampler :=
  let last := r.fifo.headD (r.hist.headD [])
  { r with fifo := if full then r.fifo.take (d / 2) else (List.replicate (d / 2 - r.fifo.length) last ++ r.fifo).take (d / 2), full := false }

/-- SSP_RX_FRAME (R88 to R91): a frame's slots, by channel, enter the FIFO; the run of clip codes goes on or ends. A frame of another length counts towards R89's test and does not enter (log 8). -/
def doSspRxFrame (port : Nat) (words : List Nat) (s : State) : State :=
  if s.prm 0x0404 port 0 0 = 0 then s else
  let n := 4 * s.prm 0x0404 port 1 0
  let q := tget {} s.sp.serial port
  if words.length ≠ n then
    let k := Nat.min (q.badFrames + 1) 2
    { s with sp := { s.sp with serial := tset {} s.sp.serial port { q with badFrames := k, badClk := q.badClk || k == 2 } } }
  else
  let vs := words.map slotSample
  let runs := iter n (fun c t => tset 0 t c (if vs.getD c 0 = 8388607 ∨ vs.getD c 0 = -8388608 then satU 4 (tget 0 t c + 1) else 0)) q.clipRun
  let q1 := { q with clipRun := runs, clip := q.clip || runs.any (fun e => decide (8 ≤ e.2)), badFrames := 0, res := q.res.push (s.prm 0x0404 port 2 0) (vs.map (fun v => divRne v 2)) }
  { s with sp := { s.sp with serial := tset {} s.sp.serial port q1 } }
def execSspRxFrame (port : Nat) (words : List Nat) (s : State) : Host.Outcome State Fault Refusal :=
  if 2 ≤ port then .fault .noSuchUnit else .next (doSspRxFrame port words s)

/-- SSP_RX_SLIP (R92), on a FIFO that is full or empty: it is re-centred by repeating or dropping frames; the clip runs end. -/
def doSspRxSlip (port : Nat) (full : Bool) (s : State) : State :=
  if s.prm 0x0404 port 0 0 = 0 then s else
  let d := s.prm 0x0404 port 2 0
  let q := tget {} s.sp.serial port
  if (if full then q.res.fifo.length < d else q.res.fifo ≠ []) then s else
  { s with sp := { s.sp with serial := tset {} s.sp.serial port { q with res := q.res.recentre d full, slip := true, slips := satU 32 (q.slips + 1), slipTick := true, clipRun := [] } } }
def execSspRxSlip (port : Nat) (full : Bool) (s : State) : Host.Outcome State Fault Refusal :=
  if 2 ≤ port then .fault .noSuchUnit else .next (doSspRxSlip port full s)

/-- Valid frame clocks (R89): no gap, no two consecutive frames of another length, and the measured rate within 1 % of the declared one, both in mHz. -/
def rxClkOk (x : RxClk) (badClk : Bool) (declared : Nat) : Bool :=
  !x.gap && !badClk && decide (99 * declared ≤ 100 * x.rate) && decide (100 * x.rate ≤ 101 * declared)

/-- The receive half's tick (R89 to R91): valid frame clocks in the ended tick of `ps`, the qualification count, the NCO. Without valid clocks the resampler stops and starts anew with them (log 8). -/
def SerialPort.tickRx (q : SerialPort) (valid : Bool) (d rate ps : Nat) (gains : Rat × Rat) : SerialPort :=
  let q1 := { q with badClk := false }
  if valid then { q1 with valid := true, qual := if q.qual < 1600 then q.qual + 1 else 1600, res := q.res.advance d ((rate * ps : Nat) / (10 ^ 15 : Nat)) gains }
  else { q1 with valid := false, qual := 0, lost := q.lost || q.valid, clipRun := [], res := {} }

/-- The resampler's value of a channel for the tick (R91): the filter's taps are not in the spec (log 8). -/
def State.serialValue (s : State) (port c : Nat) : Int :=
  let r := (tget {} s.sp.serial port).res
  satQ22 (Config.resample port c (r.hist.map (fun f => f.getD c 0)) r.ratio r.phase)

/-- The port's delay before the stage-3 latch, in ns (R91): *D*/2 input frames and 16 periods of the lower of frame and tick rate. The port holds it; the spec names no command and no register that carries it (log 8). -/
def State.rxDelayNs (s : State) (port : Nat) : Nat :=
  let frame : Rat := (10 ^ 12 : Nat) / (s.prm 0x0404 port 1 1 : Nat)
  let tick : Rat := (s.tb.periods * 625 : Nat) / (1000 : Nat)
  (ratRne ((s.prm 0x0404 port 2 0 / 2 : Nat) * frame + 16 * (if frame < tick then tick else frame))).toNat

/-- What transmit slot `k` of a port carries (R93): an auxiliary destination, a grid-sense tick value, or zero. -/
def State.txValue (s : State) (port k : Nat) : Int :=
  let w := s.prm 0x0404 port 4 k
  if 512 ≤ w then (tget {} s.sp.gs (w - 512)).tick else if 256 ≤ w then (tget {} s.xp.dests (432 + (w - 256))).out else 0

/-- The same one tick earlier. -/
def State.txValuePrev (s : State) (port k : Nat) : Int :=
  let w := s.prm 0x0404 port 4 k
  if 512 ≤ w then (tget {} s.sp.gs (w - 512)).prev else if 256 ≤ w then (tget {} s.xp.dests (432 + (w - 256))).prevOut else 0

/-- The transmit half's frames of the tick that begins (R93). -/
def State.txPort (s : State) (port : Nat) : State :=
  if s.prm 0x0404 port 3 0 = 0 then s else
  let n := 4 * s.prm 0x0404 port 3 1
  let v := (List.range n).map (s.txValue port)
  let q := tget {} s.sp.serial port
  let v2 := (List.range n).map (s.txValuePrev port)
  let mean := (v.zip v2).map (fun e => divRne (e.1 + e.2) 2)
  let q1 := { q with txFrames := if s.prm 0x0404 port 3 2 = 2 then [mean, v] else [v], txSync := if s.tb.idx = 0 then 2 else 1, txPrev := v2 }
  { s with sp := { s.sp with serial := tset {} s.sp.serial port q1 } }

/-! ### Sampled values (R95 to R99) -/

/-- Samples per second of stream `k` (R96). -/
def State.svRate (s : State) (k : Nat) : Nat := s.prm 0x0405 k 4 0 * (s.prm 0x0405 k 4 1 / 1000)

/-- An ASDU matches the subscription of stream `k` (R96). -/
def State.svMatches (s : State) (k : Nat) (a : Asdu) : Bool :=
  s.prm 0x0405 k 7 0 == 1 && s.prm 0x0405 k 0 0 == a.dst % pow32 && s.prm 0x0405 k 0 1 == a.dst / pow32 && s.prm 0x0405 k 0 2 == a.appid &&
  decide (a.svId.length ≤ 34) && s.xp.act.row 0x0405 k 1 == wordsOf 9 a.svId && (s.prm 0x0405 k 3 0 == 255 || s.prm 0x0405 k 3 0 == a.port)

/-- A value's quality and conversion (R97). -/
def svSample (testMode : Bool) (f : Nat) (v : SvValue) : Option Int :=
  if v.invalid || (v.test && !testMode) then none else some (satQ22 (divRne (v.value * one22) f))

/-- The plant second of a count that has just arrived: the one that puts its sample nearest to now (R98, log 24). -/
def svSecond (now count rate : Nat) : Nat :=
  let sec := now / 1000000000
  let at' := now % 1000000000 * rate
  let c := count * 1000000000
  let half := 500000000 * rate
  if at' + half < c then sec - 1 else if c + half < at' then sec + 1 else sec

/-- The samples that a later count skips, newest first: missing (R97). -/
def svSkipped (n count rate now : Nat) : List SvSample :=
  (List.range (Nat.min n 16)).map (fun k => let c := (count + 2 * rate - 1 - k) % rate; { second := svSecond now c rate, count := c, port := 2, values := [] })

/-- A sample's values as the FIFO takes them: a missing one holds the channel's last (R99). -/
def Resampler.fill (r : Resampler) (xs : List (Option Int)) : List Int :=
  let last := r.fifo.headD (r.hist.headD [])
  (List.range 8).map (fun c => (xs.getD c none).getD (last.getD c 0))

/-- One stream takes an ASDU that matches it (R97 to R99); `full` is each channel's full scale. R97 gives no bound between an earlier and a later count. DESIGN CHOICE (log 103): up to half the wrap range ahead is later, the rest earlier. A sample that an interpolation has needed already is missing (R98). -/
def SvStream.take (v : SvStream) (a : Asdu) (confRev rate : Nat) (full : List Nat) (now : Nat) (testMode good : Bool) : SvStream :=
  if a.confRev ≠ confRev then { v with invalid := true, discarded := satU 16 (v.discarded + 1) } else
  let step := match v.prev with | some p => (a.count + rate - p) % rate | none => 1
  let copy := v.samples.any (fun x => x.count == a.count && x.port != a.port && decide (x.port < 2))
  if step = 0 ∨ rate / 2 < step then { v with invalid := false, discarded := if copy then v.discarded else satU 16 (v.discarded + 1) }
  else
    let sec := svSecond now a.count rate
    let al : Bool := a.sync == 2 && good
    let vals := if al ∧ sec * rate + a.count ≤ v.need then [] else (a.values.zip full).map (fun x => svSample testMode x.2 x.1)
    let skip := svSkipped (step - 1) a.count rate now
    { v with
      invalid := false, timedOut := false, prev := some a.count, age := 0, absent := step - 1,
      questionable := v.questionable || a.values.any (fun x => x.questionable), aligned := al,
      fresh := Nat.min (v.fresh + skip.length + 1) 32, res := if al then {} else v.res.push 16 (v.res.fill vals),
      samples := ({ second := sec, count := a.count, port := a.port, values := vals } :: (skip ++ v.samples)).take 512 }

/-- SV_ASDU (R95 to R98). -/
def doSvAsdu (a : Asdu) (s : State) : State :=
  let sv := iter 8 (fun k t =>
      if s.svMatches k a ∧ a.values.length = 8 ∧ a.count < s.svRate k then
        tmod {} t k (fun v => v.take a (s.prm 0x0405 k 2 0) (s.svRate k) ((List.range 8).map (s.prm 0x0405 k 5)) s.tb.pt.ns (s.prm 0x0405 k 8 0 == 1) s.tb.pt.good)
      else t) s.sp.sv
  { s with sp := { s.sp with sv := sv } }
def execSvAsdu (a : Asdu) (s : State) : Host.Outcome State Fault Refusal := .next (doSvAsdu a s)

/-- SV_STREAM_TIMEOUT (R99): four consecutive counts absent altogether. -/
def doSvStreamTimeout (k : Nat) (s : State) : State :=
  let v := tget {} s.sp.sv k
  if 4 ≤ v.absent ∨ 4000000000000 ≤ v.age * s.svRate k then
    ({ s with sp := { s.sp with sv := tset {} s.sp.sv k { v with timedOut := true, absent := 0 } } }).requalify
  else s
def execSvStreamTimeout (k : Nat) (s : State) : Host.Outcome State Fault Refusal :=
  if 8 ≤ k then .fault .noSuchUnit else .next (doSvStreamTimeout k s)

/-- A sample of a stream by its index, second × rate + count. -/
def SvStream.at? (v : SvStream) (rate i : Nat) : Option SvSample := v.samples.find? (fun x => x.second * rate + x.count == i)

/-- One channel of a sample, none where missing or absent. -/
def SvStream.value (v : SvStream) (rate i c : Nat) : Option Int :=
  match v.at? rate i with
  | some x => x.values.getD c none
  | none => none

/-- The run of missing samples goes on through `xs`, oldest first, and whether it reached the 4th (R99). -/
def missRun (run : Nat) (xs : List (Option Int)) : Nat × Bool :=
  xs.foldl (fun a x => if x.isSome then (0, a.2) else (satU 10 (a.1 + 1), a.2 || decide (4 ≤ a.1 + 1))) (run, false)

/-- The channel's value for the tick of a time-aligned stream (R98, R99): linear interpolation at the stamp less the alignment delay. -/
def SvStream.aligned1 (v : SvStream) (c rate stamp delay : Nat) (ch : ChanState) : ChanState :=
  let x := (stamp - delay) * rate
  let a := x / 1000000000
  let f := x % 1000000000
  let b := if f = 0 then a else a + 1
  let n := Nat.min (b - v.need) 16
  let r := missRun ch.run ((List.range n).map (fun k => v.value rate (b - n + 1 + k) c))
  match v.value rate a c, v.value rate b c with
  | some p, some q => { value := satQ22 (divRne (p * 1000000000 + (q - p) * (f : Int)) 1000000000), missing := false, run := r.1, gone := r.2 }
  | _, _ => { ch with missing := true, run := r.1, gone := r.2 }

/-- The channel's value of a buffer-steered stream (R98): through a resampler with a FIFO of 16 samples (log 8). Any sample missing since the latest latch makes the tick one with a missing sample (R99). -/
def SvStream.steered1 (v : SvStream) (k c : Nat) (ch : ChanState) : ChanState :=
  let xs := (v.samples.take v.fresh).reverse.map (fun x => x.values.getD c none)
  let r := missRun ch.run xs
  if 0 < r.1 ∨ xs.any (fun x => x.isNone) ∨ v.slipTick ∨ v.res.ratio = 0 then { ch with missing := true, run := r.1, gone := r.2 }
  else { value := satQ22 (Config.resample (8 + k) c (v.res.hist.map (fun f => f.getD c 0)) v.res.ratio v.res.phase), missing := false, run := 0, gone := r.2 }

/-! ### Host DMA (R100 to R104) -/

/-- A DMA configuration is in force (R100, R528). -/
def State.dmaOn (s : State) : Bool := s.prm 0x0406 0 0 0 == 1

/-- The host address of a ring's place (R100): base and order in row `row`, places of one block rounded up to 64 bytes. -/
def State.dmaPlace (s : State) (row channels index : Nat) : Nat :=
  s.prm 0x0406 0 row 0 + s.prm 0x0406 0 row 1 * pow32 + index % 2 ^ s.prm 0x0406 0 row 2 * (divCeil (16 + 256 * channels) 64 * 64)

/-- The indices are written back to the address that row 4 names (R100, R427). -/
def State.dmaWriteBack (s : State) (d : DmaState) : DmaState :=
  { d with wbAddr := s.prm 0x0406 0 4 0 + s.prm 0x0406 0 4 1 * pow32, wb := le 4 d.inCons ++ le 4 d.outProd }

/-- SP_DMA_IN_PROD (R100, R102, R528). -/
def doSpDmaInProd (index : Nat) (s : State) : State :=
  let d := s.sp.dma
  if ¬ s.dmaOn then s else
  let step := (index + 2 ^ 32 - d.inProd) % 2 ^ 32
  let ahead := (index + 2 ^ 32 - d.inCons) % 2 ^ 32
  if 2 ^ 31 ≤ step ∨ 2 ^ s.prm 0x0406 0 2 2 < ahead then { s with sp := { s.sp with dma := { d with bad := satU 32 (d.bad + 1) } } }
  else { s with sp := { s.sp with dma := { d with inProd := index % 2 ^ 32, posted := d.posted ++ List.replicate step s.absTick } } }
def execSpDmaInProd (index : Nat) (s : State) : Host.Outcome State Fault Refusal := .next (doSpDmaInProd index s)

/-- SP_DMA_OUT_CONS (R100, R528). -/
def doSpDmaOutCons (index : Nat) (s : State) : State :=
  let d := s.sp.dma
  if ¬ s.dmaOn then s else
  if 2 ^ 31 ≤ (index + 2 ^ 32 - d.outCons) % 2 ^ 32 then { s with sp := { s.sp with dma := { d with bad := satU 32 (d.bad + 1) } } }
  else { s with sp := { s.sp with dma := { d with outCons := index % 2 ^ 32 } } }
def execSpDmaOutCons (index : Nat) (s : State) : Host.Outcome State Fault Refusal := .next (doSpDmaOutCons index s)

/-- A word of an input block: Q10.22, out of range where bits 31:24 differ from the sign of bit 23 (R101, R102). -/
def dmaWord (w : Nat) : Option Int :=
  let v := signedOf 32 w
  if satS 24 v = v then some v else none

/-- DMA_INPUT_BLOCK (R101, R102): the posted block at the ring's consumer index; once the owning slot is lost no input data arrive (R103, R412). -/
def doDmaInputBlock (block : List Nat) (s : State) : State :=
  let d := s.sp.dma
  if !(match d.owner with | some o => (s.slot o).live | none => false) then s else
  match d.posted with
  | [] => s
  | post :: rest =>
    let first := getLe block 8 6 * 800 + getLe block 14 2 % 1024
    let d1 := s.dmaWriteBack { d with posted := rest, inAddr := s.dmaPlace 2 (s.prm 0x0406 0 1 0) d.inCons, inCons := incWrap 32 d.inCons }
    let d2 :=
      if first % 64 ≠ 0 ∨ first < d.expect.getD 0 then { d1 with bad := satU 32 (d1.bad + 1) }
      else
        let c := s.prm 0x0406 0 1 0
        let late := (List.range 64).filter (fun k => decide (first + k ≤ post + 16))
        let rows := iter 64 (fun k t => if first + k ≤ post + 16 then t
          else tset [] t (first + k) ((List.range c).map (fun j => dmaWord (getLe block (16 + (k * c + j) * 4) 4)))) d1.ticks
        { d1 with expect := some (first + 64), ticks := rows, late := satU 32 (d1.late + late.length) }
    { s with sp := { s.sp with dma := d2 } }
def execDmaInputBlock (block : List Nat) (s : State) : Host.Outcome State Fault Refusal := .next (doDmaInputBlock block s)

/-- Stage 4's row of the output block (R101, R104): auxiliary destinations 432 up; a row begins a block at a multiple of 64. A block that has lost a tick is dropped: no part of a block is written. -/
def State.dmaRow (s : State) : State :=
  let n := s.absTick
  let d0 := s.sp.dma
  let d := if d0.outRows ≠ [] ∧ d0.outStart.1 + d0.outRows.length ≠ n then { d0 with outRows := [], dropped := satU 32 (d0.dropped + 1), gapDue := true } else d0
  if ¬ s.dmaOn ∨ (d.outRows = [] ∧ n % 64 ≠ 0) then { s with sp := { s.sp with dma := d } } else
  let row := (List.range (s.prm 0x0406 0 1 1)).map (fun c => satQ22 (tget {} s.xp.dests (432 + c)).out)
  let first := d.outRows = []
  let rows := row :: d.outRows
  let d1 := { d with outRows := rows, outStart := if first then (n, s.tb.stamp) else d.outStart,
                     outSlew := (!decide first && d.outSlew) || s.tb.slewing, outDegraded := (!decide first && d.outDegraded) || s.degraded }
  let d2 := if rows.length < 64 then d1 else
    { d1 with outRows := []
              outDone := le 8 d1.outStart.2 ++ le 6 (d1.outStart.1 / 800) ++ le 2 (d1.outStart.1 % 800 + b1 d1.outSlew 14 + b1 d1.outDegraded 15) ++
                (rows.reverse.flatten.map (leS 4)).flatten }
  { s with sp := { s.sp with dma := d2 } }

/-- DMA_OUTPUT_BLOCK (R104): the completed block is written and the owner's event vector signalled, or dropped whole. -/
def doDmaOutputBlock (s : State) : State :=
  let d := s.sp.dma
  if d.outDone = [] then s
  else if 2 ^ s.prm 0x0406 0 3 2 ≤ (d.outProd + 2 ^ 32 - d.outCons) % 2 ^ 32 then
    { s with sp := { s.sp with dma := { d with outDone := [], dropped := satU 32 (d.dropped + 1), gapDue := true } } }
  else
    let blk := if d.gapDue then d.outDone.set 15 (d.outDone.getD 15 0 + 32) else d.outDone
    let s1 := { s with sp := { s.sp with dma := s.dmaWriteBack { d with outDone := [], lastBlock := blk, outAddr := s.dmaPlace 3 (s.prm 0x0406 0 1 1) d.outProd, gapDue := false, outProd := incWrap 32 d.outProd } } }
    match d.owner with
    | some o => { s1 with hs := s1.hs.signal (2 * o + 1) }
    | none => s1
def execDmaOutputBlock (s : State) : Host.Outcome State Fault Refusal := .next (doDmaOutputBlock s)

/-- A STREAM_DMA_CONFIG lands (R102, R528): its sender owns the rings, the indices restart. -/
def DmaState.land (d : DmaState) (owner : Option Nat) : DmaState :=
  { owner := owner, bad := d.bad, late := d.late, dropped := d.dropped, lastBlock := d.lastBlock }

/-- The channel's data for the tick (R102, R103). -/
def DmaState.chan (d : DmaState) (tick c : Nat) (ch : ChanState) : ChanState :=
  match (tget [] d.ticks tick).getD c none with
  | some v => { value := v, missing := false, run := 0 }
  | none => { ch with missing := true, run := satU 10 (ch.run + 1) }

/-! ### Set-point input (R105 to R107) -/

/-- The mean in µA of the tick's current samples, which come in steps of 0.2 µA (R105, R507). -/
def meanCurrent (xs : List Nat) : Rat := if xs = [] then 0 else (sumN xs : Nat) / (5 * xs.length : Nat)

/-- The edges of the ended tick, which took `ps`: the last full period and the age of the latest edge (R105, R106). -/
def Setpoint.edges (q : Setpoint) (es : List Nat) (ps : Nat) : Setpoint :=
  let r := es.foldl (fun (a : Option Nat × Nat) e => (some e, match a.1 with | some b => e - b | none => match q.edgeAge with | some g => g + e | none => a.2)) (none, q.period)
  { q with period := r.2, edgeAge := match r.1 with | some e => some (ps - e) | none => q.edgeAge.map (· + ps) }

/-- The pulse frequency in mHz, by reciprocal counting over the tick's edges; with fewer than two, from the last full period (R105). -/
def Setpoint.pulseRate (q : Setpoint) (es : List Nat) : Rat :=
  match es, es.getLast? with
  | e :: _ :: _, some l => if l ≤ e then 0 else ((es.length - 1) * 10 ^ 15 : Nat) / (l - e : Nat)
  | _, _ => if q.period = 0 then 0 else (10 ^ 15 : Nat) / (q.period : Nat)

/-- A rising edge came within the last 4 / *f*_lo, *f*_lo in mHz (R106). -/
def Setpoint.edgeOk (q : Setpoint) (lo : Nat) : Bool := match q.edgeAge with | some a => decide (a * lo ≤ 4 * 10 ^ 15) | none => false

/-- The reading's value and validity (R105, R106): below 100 Hz only an excess over 1.05 *f*_hi is a loss. -/
def State.setpRead (s : State) (reading : Rat) (edge : Bool) : Int × Bool :=
  let pulse := s.prm 0x0407 0 0 0 = 1
  let lo : Rat := if pulse then s.prm 0x0407 0 2 0 else 4000
  let hi : Rat := if pulse then s.prm 0x0407 0 2 1 else 20000
  let r := if reading < lo then lo else if hi < reading then hi else reading
  let a := s.prmI 0x0407 0 1 0
  let b := s.prmI 0x0407 0 1 1
  let valid : Bool := if pulse then (decide (lo < 100000) || (decide (9 / 10 * lo ≤ reading) && edge)) && decide (reading ≤ 105 / 100 * hi) else decide ((3600 : Rat) ≤ reading) && decide (reading ≤ 21000)
  (satQ22 (ratRne (a + (r - lo) / (hi - lo) * ((b - a : Int) : Rat))), valid)

/-- The runs start again and the input is lost when its mode changes (R529). -/
def Setpoint.setMode (q : Setpoint) (pulse : Bool) : Setpoint :=
  if q.pulse = pulse then q else { q with pulse := pulse, qualified := false, lost := true, goodRun := 0, badRun := 0 }

/-- The input's tick (R106): the runs, and the filter while it is qualified. -/
def Setpoint.tick (q : Setpoint) (x : Int) (valid : Bool) (k : Nat) : Setpoint :=
  let y := if valid ∧ q.qualified ∧ ¬ q.lost then satQ22 (divRne (q.y * (2 ^ k : Nat) + (x - q.y)) ((2 ^ k : Nat) : Int)) else q.y
  { q with x := x, valid := valid, y := y,
           goodRun := if valid then satU 10 (q.goodRun + 1) else 0, badRun := if valid then 0 else satU 5 (q.badRun + 1) }

/-- SETPOINT_QUALIFY (R106). -/
def doSetpointQualify (s : State) : State :=
  let q := s.sp.setp
  if 800 ≤ q.goodRun ∧ ¬ q.qualified then { s with sp := { s.sp with setp := { q with qualified := true, lost := false, y := q.x } } } else s
def execSetpointQualify (s : State) : Host.Outcome State Fault Refusal := .next (doSetpointQualify s)

/-- SETPOINT_LOST (R106). -/
def doSetpointLost (s : State) : State :=
  let q := s.sp.setp
  if 16 ≤ q.badRun ∧ ¬ q.lost then { s with sp := { s.sp with setp := { q with qualified := false, lost := true } } } else s
def execSetpointLost (s : State) : Host.Outcome State Fault Refusal := .next (doSetpointLost s)

/-! ### Grid sense (R108 to R110) -/

/-- Primary mV or mA of a corrected per-unit value (R108, R109). -/
def State.gsPrimary (s : State) (k : Nat) (c : Rat) : Int :=
  let ratio : Rat := (s.prm 0x0408 k 1 0 : Rat) / 1000
  let full : Rat := if k < 4 then 300000 else 5000 / ((s.prm 0x0408 k 2 0 : Rat) / 1000000)
  ratRne (c * full * ratio)

/-- One bit through the sinc³ filter, ±1; every 20th bit yields a fast sample, ±8,000 at full scale (R109). -/
def Sinc3.bit (q : Sinc3 × List Int) (b : Bool) : Sinc3 × List Int :=
  let f := q.1
  let i1 := (f.i1 + if b then 1 else pow32 - 1) % pow32
  let i2 := (f.i2 + i1) % pow32
  let i3 := (f.i3 + i2) % pow32
  if f.count < 19 then ({ f with i1 := i1, i2 := i2, i3 := i3, count := f.count + 1 }, q.2) else
  let d1 := (i3 + pow32 - f.c1) % pow32
  let d2 := (d1 + pow32 - f.c2) % pow32
  let d3 := (d2 + pow32 - f.c3) % pow32
  ({ i1 := i1, i2 := i2, i3 := i3, c1 := i3, c2 := d1, c3 := d2, count := 0 }, signedOf 32 d3 :: q.2)

/-- A tick's bits: the filter after them and the fast samples in them. -/
def Sinc3.run (f : Sinc3) (bs : List Bool) : Sinc3 × List Int := bs.foldl Sinc3.bit (f, [])

/-- A channel's tick (R109, R110). R109 does not say what *c*(n − 1) is in the first valid tick after an invalid one. DESIGN CHOICE (log 90): 0, as the invalid channel was presented. -/
def State.gsTick (s : State) (k : Nat) (x : SenseIn) : GridSense :=
  let g := tget {} s.sp.gs k
  let r := g.sinc.run x.bits
  let sat := r.2.any (fun y => decide (8000 ≤ y.natAbs))
  if s.sp.isoFault ∨ ¬ x.valid ∨ r.2 = [] then { sinc := r.1, invalid := true, ovr := sat, prev := g.tick } else
  let c := satQ22 (divRne (sumI r.2 * one22) (8000 * r.2.length) - s.prmI 0x0408 k 4 0)
  let d : Rat := (s.prmI 0x0408 k 5 0 : Rat) / 65536
  let rcf : Rat := (s.prmI 0x0408 k 3 0 : Rat) / 1073741824
  let c' : Rat := ((1 - d) * c + d * g.c) / 4194304 * rcf
  { sinc := r.1, c := c, tick := satQ22 (ratRne (c' * 4194304)), primary := s.gsPrimary k c', invalid := false, ovr := sat, stale := false, prev := g.tick }

/-- GRID_SENSE_INVALID (R110): the channel is invalid at once, and presented as 0. -/
def doGridSenseInvalid (k : Nat) (s : State) : State := { s with sp := { s.sp with gs := tset {} s.sp.gs k { invalid := true } } }
def execGridSenseInvalid (k : Nat) (s : State) : Host.Outcome State Fault Refusal :=
  if 8 ≤ k then .fault .noSuchUnit else .next (doGridSenseInvalid k s)

/-! ### The stage-3 latch (R76, R84 to R111) -/

/-- Grid sense at the latch (R109, R110). -/
def State.latchSense (s : State) (xs : List SenseIn) : State :=
  if s.sp.gsLatchMiss then
    let n := satU 3 (s.sp.gsMisses + 1)
    { s with sp := { s.sp with gsMisses := n, gs := iter 8 (fun k t => tmod {} t k (fun g => let f := (g.sinc.run (xs.getD k ⟨false, []⟩).bits).1
      if 4 ≤ n then { sinc := f, invalid := true, stale := true, prev := g.tick } else { g with sinc := f, stale := true, prev := g.tick })) s.sp.gs } }
  else { s with sp := { s.sp with gsMisses := 0, gs := iter 8 (fun k t => tset {} t k (s.gsTick k (xs.getD k ⟨false, []⟩))) s.sp.gs } }

/-- The channels the slots are bound to, or take at the end of a ramp (R82, R86). -/
def State.boundChans (s : State) : List Nat :=
  (((List.range 40).map (fun i => (tget {} s.sp.slots i).bound)) ++ (List.range 40).map s.route).dedup.filter (fun id => decide (0 < id))

/-- One channel at the latch. -/
def State.chanTick (s : State) (id : Nat) : ChanState :=
  let ch := tget {} s.sp.chans id
  let k := id / 1024
  if k = 1 then
    let q := tget {} s.sp.serial ((id - 1024) / 32)
    if q.valid ∧ ¬ q.slipTick then { value := s.serialValue ((id - 1024) / 32) (id % 32), missing := false } else { ch with missing := true }
  else if k = 2 then
    let st := (id - 2048) / 8
    let v := tget {} s.sp.sv st
    if v.timedOut then { ch with missing := true }
    else if v.aligned then v.aligned1 (id % 8) (s.svRate st) s.tb.stamp (s.prm 0x0405 st 6 0) ch
    else v.steered1 st (id % 8) ch
  else if k = 3 then s.sp.dma.chan s.absTick (id - 3072) ch
  else ch

/-- The sample index the tick's interpolation needs (R98). -/
def State.svNeed (s : State) (k : Nat) : Nat := divCeil ((s.tb.stamp - s.prm 0x0405 k 6 0) * s.svRate k) 1000000000

/-- The measuring of the frame rate over a tick of `ps`: from the tick of the first frame to that of the latest (R91, R98). -/
def Resampler.time (r : Resampler) (ps : Nat) (arrived : Bool) : Resampler :=
  if r.frames = 0 ∨ r.frames = 65535 then r
  else if !r.timed then { r with timed := true }
  else { r with age := r.age + ps, span := if arrived then r.age + ps else r.span }

/-- Frames per tick of `ps`, as measured: one interval fewer than frames. -/
def Resampler.measured (r : Resampler) (ps : Nat) : Rat := ((r.frames - 1) * ps : Nat) / (r.span : Nat)

/-- A buffer-steered stream's resampler over a tick of `ps` (R91, R92, R98). Its ratio starts as measured, and starts anew as measured by then where the FIFO has to be re-centred (log 8). -/
def SvStream.steer (v : SvStream) (ps : Nat) (gains : Rat × Rat) : SvStream :=
  if v.aligned then { v with slipTick := false } else
  let r0 := v.res.time ps (decide (0 < v.fresh))
  let r := r0.advance 16 (r0.measured ps) gains
  if r.full ∨ (r.ratio ≠ 0 ∧ r.fifo = []) then { v with res := { r.recentre 16 r.full with ratio := r0.measured ps, sum := 0 }, slipTick := true } else { v with res := r, slipTick := false }

/-- Ports before the channels are read: clocks, ages, alignment, the set-point input. -/
def State.latchPorts (s : State) (clocks : List RxClk) (currents edges : List Nat) : State :=
  let ps := s.tb.periods * 625
  let ser := iter 2 (fun p t => tmod {} t p (fun q => let x := clocks.getD p ⟨true, 0⟩
    q.tickRx (s.prm 0x0404 p 0 0 == 1 && rxClkOk x q.badClk (s.prm 0x0404 p 1 1)) (s.prm 0x0404 p 2 0) x.rate ps (loopGains (Config.rxDamping p) x.rate ps))) s.sp.serial
  let ser := iter 2 (fun p t => tmod {} t p (fun q => { q with delay := if q.res.ratio = 0 then 0 else s.rxDelayNs p })) ser
  let sv := iter 8 (fun k t => tmod {} t k (fun v => if v.timedOut && v.samples.isEmpty then v
    else ({ v with age := v.age + ps, aligned := v.aligned && s.tb.pt.good }).steer ps (loopGains (Config.rxDamping (8 + k)) (s.svRate k * 1000) ps))) s.sp.sv
  let q := s.sp.setp.edges edges ps
  let r := s.setpRead (if s.prm 0x0407 0 0 0 = 1 then q.pulseRate edges else meanCurrent currents) (q.edgeOk (s.prm 0x0407 0 2 0))
  { s with sp := { s.sp with serial := ser, sv := sv, setp := (q.setMode (s.prm 0x0407 0 0 0 == 1)).tick r.1 r.2 (s.prm 0x0407 0 3 0) } }

/-- The channels and the slots at the latch; then what was due is forgotten. -/
def State.latchSlots (s : State) : State :=
  let chans := s.boundChans.foldl (fun t id => tset {} t id (s.chanTick id)) s.sp.chans
  let n := s.absTick
  let s1 := { s with sp := { s.sp with
    chans := chans
    sv := iter 8 (fun k t => let v : SvStream := tget {} t k; tset {} t k { v with fresh := 0, need := if v.aligned then s.svNeed k else v.need }) s.sp.sv
    dma := { s.sp.dma with ticks := tdrop (fun k => decide (k ≤ n)) s.sp.dma.ticks } } }
  { s1 with sp := { s1.sp with
    slots := iter 40 (fun i t => tmod {} t i (fun w => w.latch (s1.rampLen i) (s1.chanView w.bound) (s1.sp.latchMiss.contains i))) s1.sp.slots
    serial := iter 2 (fun p t => tmod {} t p (fun q => { q with slipTick := false })) s1.sp.serial
    latchMiss := [], gsLatchMiss := false } }

/-- The stage-3 latch (R76). -/
def State.stage3 (s : State) (inp : TickIn) : State :=
  ((s.latchSense inp.sense).latchPorts inp.clocks inp.setpoint inp.edges).latchSlots

end Sys2Proof.Machine
end

