-- ==== Sys2Proof/Machine/Crosspoint.lean ====
section
/-! DEFINITION. Stage 4: the gain matrix, shaping, coping, the generators, idle detection, and the crosspoint's commands (04, 15 R434). -/

namespace Sys2Proof.Machine
open Sys2Proof

/-! ### Biquads (R118) -/

/-- One section in direct form I: the result and the new states (R118). -/
def BiState.run (q : BiState) (c : Biquad) (x : Int) : Int × BiState :=
  let y := shrRne (c.b0 * x + c.b1 * q.x1 + c.b2 * q.x2 - c.a1 * q.y1 - c.a2 * q.y2) 30
  let y' := satS 32 y
  (y', { x1 := x, x2 := q.x1, y1 := y', y2 := q.y1, sat := q.sat || y' != y })

/-- Sections in series, and whether one saturated now. -/
def runSections : List (Biquad × BiState) → Int → Int × List BiState × Bool
  | [], x => (x, [], false)
  | (c, q) :: r, x =>
    let a := ({ q with sat := false } : BiState).run c x
    let b := runSections r a.1
    (b.1, { a.2 with sat := q.sat || a.2.sat } :: b.2.1, a.2.sat || b.2.2)

/-! ### The gain matrix (R115, R116, R130) -/

/-- A node's gain in force, its glide included (R130). -/
def Crosspoint.gainNow (x : Crosspoint) (k : Nat) (n : Node) : Int :=
  match tget none x.glideFrom k with
  | none => n.gain
  | some g0 =>
    if x.glideLeft = 0 ∨ x.glideLen = 0 then n.gain
    else divRne (g0 * x.glideLeft + n.gain * ((x.glideLen : Int) - x.glideLeft)) x.glideLen

/-- The nodes of a destination that count now: source, path, gain. A node that glides to 0 still counts. -/
def Crosspoint.nodesOf (x : Crosspoint) (d : Nat) : List (Nat × Bool × Int) :=
  (((trange x.act.nodes (d * 64) 64).map (fun e => e.1)) ++ ((trange x.glideFrom (d * 64) 64).map (fun e => e.1))).dedup.map
    (fun k => let n := tget {} x.act.nodes k; (k % 64, n.direct, x.gainNow k n))

/-- The 64 sources' values of the tick (R112). -/
def State.source (s : State) (i : Nat) : Int :=
  if i < 40 then (tget {} s.sp.slots i).out
  else if i < 48 then (tget {} s.xp.probes (i - 40)).out
  else if i < 52 then (tget {} s.xp.damps (i - 48)).out
  else s.ce.out.getD (i - 52) 0

/-- The shaped sum and the direct sum of a destination (R115, R116). -/
def State.sums (s : State) (d : Nat) : Int × Int :=
  let ns := s.xp.nodesOf d
  let f := fun (direct : Bool) => shrRne (sumI ((ns.filter (fun n => n.2.1 == direct)).map (fun n => s.source n.1 * n.2.2))) 22
  (f false, f true)

/-! ### Coping (R120 to R123) -/

/-- V_CELL codes of a pier's bricks that the snapshot holds as available, summed; what has left since counts until the next snapshot (R77, R120). -/
def State.availCodes (s : State) (p : Nat) : Nat :=
  sumN ((trange s.rc.snapBricks (p * 12288) 12288).map (fun e => if s.snapAvailable e.1 e.2 then e.2.vCell else 0))

/-- The rated line-to-line voltage of a bay in mV (R37). -/
def State.vll (s : State) (b : Nat) : Nat := s.prm 0x0702 b 2 0

/-- The live limit in Q2.30, rounded down (R120): *k*_c, 5 V per 65,536 codes, and the base of R114. -/
def State.liveLimit (s : State) (p : Nat) : Nat :=
  let b := p / 3
  let num := s.prm 0x0503 b 1 0 * s.availCodes p * 5000 * 2 ^ 30
  let den := 32768 * 65536 * s.vll b
  if den = 0 then 0 else satU 32 (isqrt (num * num * 3 / (den * den * 2)))

/-- The lookahead limiter's gain (R121), over the window oldest first. -/
def copeGain (l : Nat) (line : List Int) (gPrev u : Int) : Int :=
  let one : Int := 1073741824
  let g0 := if gPrev + u < one then gPrev + u else one
  line.zipIdx.foldl (fun g e =>
    let q : Int := if e.1 = 0 then one else let v := ((l * 2 ^ 22 / e.1.natAbs : Nat) : Int); if v < one then v else one
    let c := gPrev + (q - gPrev) / ((e.2 : Int) + 1)
    if c < g then c else g) g0

/-- What one destination's stage 4 gives besides its new state. -/
structure DestOut where
  dest : Dest
  clamped : Bool
  outSat : Bool
  secSat : Bool
deriving DecidableEq, Repr

/-- A pier destination (R117, R118, R120 to R123). -/
def Dest.pierRun (q : Dest) (cs : List Biquad) (sums : Int × Int) (current : Bool) (l : Nat) (u : Int) : DestOut :=
  let line := q.line.drop 1 ++ [q.latched]
  let r := runSections (cs.zip q.secs) sums.1
  let old := line.headD 0
  let g := if current then 1073741824 else copeGain l line q.g u
  let raw := divTrunc (g * old) 1073741824 + sums.2
  let lim : Int := ((l / 256 : Nat) : Int)
  let held := if current then satQ22 raw else clampI (-lim) lim raw
  let out := satQ22 held
  { dest := { q with secs := r.2.1, latched := r.1, line := line, g := g, prevOut := q.out, out := out, sum := sums.1 + sums.2, misses := 0 }
    clamped := held != raw, outSat := out != held, secSat := r.2.2 }

/-- An auxiliary destination (R118). -/
def Dest.auxRun (q : Dest) (cs : List Biquad) (sums : Int × Int) : DestOut :=
  let r := runSections (cs.zip q.secs) sums.1
  let raw := q.latched + sums.2
  let out := satQ22 raw
  { dest := { q with secs := r.2.1, latched := r.1, prevOut := q.out, out := out, sum := sums.1 + sums.2, misses := 0 }
    clamped := false, outSat := out != raw, secSat := r.2.2 }

/-- A missed stage 4 (R79, R123): the first miss repeats the previous change, later ones hold. -/
def Dest.miss (q : Dest) : DestOut :=
  let raw := if q.misses = 0 then q.out + (q.out - q.prevOut) else q.out
  let out := satQ22 raw
  { dest := { q with prevOut := q.out, out := out, misses := satU 2 (q.misses + 1) }, clamped := false, outSat := out != raw, secSat := false }

/-- The destination's open window takes the tick (R123, R136); a missed stage 4 forms no sum. -/
def DestStat.count (w : DestStat) (d : Dest) (clamped sat missed slewing standby : Bool) : DestStat :=
  { w with
    ticks := incSat 16 w.ticks, slewing := w.slewing || slewing, missed := w.missed || missed, standby := w.standby || standby,
    peakSum := if missed then w.peakSum else Nat.max w.peakSum d.sum.natAbs, sumSq := w.sumSq + d.out.natAbs * d.out.natAbs,
    minG := Nat.min w.minG d.g.toNat, limited := satU 16 (w.limited + bit (decide (d.g < 1073741824))),
    clamped := satU 16 (w.clamped + bit clamped), saturated := satU 16 (w.saturated + bit sat) }

/-- A bay is in standby. -/
def State.inStandby (s : State) (b : Nat) : Bool := (tget {} s.xp.idle b).standby

/-- Stage 4 of one destination, its statistics and the sticky flags. -/
def State.destStage (s : State) (d : Nat) : State :=
  let q := tget {} s.xp.dests d
  let standby := decide (d < 432) && s.inStandby (d / 3)
  let out : DestOut :=
    if s.xp.missNext.contains d then q.miss
    else
      let cs := (List.range 4).map (fun k => tget {} s.xp.act.shapes (d * 4 + k))
      if d < 432 then q.pierRun cs (s.sums d) (s.prm 0x0503 (d / 3) 0 0 == 1) (s.liveLimit d) (2 ^ (30 - s.prm 0x0503 (d / 3) 2 0)) else q.auxRun cs (s.sums d)
  let w := out.dest.win.count out.dest out.clamped (out.outSat || out.secSat) (s.xp.missNext.contains d) s.tb.slewing standby
  { s with xp := { s.xp with
    dests := tset {} s.xp.dests d { out.dest with win := w }
    shapeSat := s.xp.shapeSat || out.secSat, outSat := s.xp.outSat || out.outSat, hardClamp := s.xp.hardClamp || out.clamped } }

/-! ### Probe tones (R124, R125) -/

/-- A parameter of generator `k` in the active bank, rows 0 to 7. -/
def State.probeWords (s : State) (k : Nat) : List Nat := (List.range 8).map (fun r => s.prm 0x0504 k r 0)

/-- The PRBS register's length and second tap by polynomial (R124). -/
def prbsTaps (poly : Nat) : Nat × Nat := if poly = 0 then (7, 6) else if poly = 1 then (15, 14) else (23, 18)

/-- One step of the PRBS register; its highest bit is the output. -/
def prbsStep (poly r : Nat) : Nat :=
  let t := prbsTaps poly
  (r * 2 + (bit (r.testBit (t.1 - 1)) + bit (r.testBit (t.2 - 1))) % 2) % 2 ^ t.1

/-- A generator starts: the accumulator takes the start phase, the register all ones (R125). -/
def Probe.begin (p : Probe) (w : List Nat) : Probe :=
  if w.getD 0 0 = 0 then { p with phase := .off, words := w, out := 0, amp := 0 }
  else { p with phase := .run, words := w, acc := w.getD 3 0 * 65536, prbs := 2 ^ (prbsTaps (w.getD 4 0)).1 - 1, chip := 0, cycles := 0, amp := 0,
                step := (signedOf 32 (w.getD 1 0) : Rat) / (if w.getD 7 0 = 0 then 1 else w.getD 7 0) }

/-- The magnitude of a rational. -/
def magR (x : Rat) : Rat := if x < 0 then -x else x

/-- A ramp to 0 from the present amplitude, over *L*_g ticks as a slot's gain falls (R84, R125). DESIGN CHOICE (log 107): while *A* itself is moving, its step is that of the larger of the two, so that the ramp ends within *L*_g ticks. -/
def Probe.down (p : Probe) : Probe :=
  let a : Rat := magR (signedOf 32 (p.words.getD 1 0))
  { p with phase := .down, step := (if magR p.amp < a then a else magR p.amp) / (if p.words.getD 7 0 = 0 then 1 else p.words.getD 7 0) }

/-- A generator at a cycle boundary (R125). DESIGN CHOICE (log 91): a stop that a swap landing at this boundary brings starts its ramp here and not one boundary later; R125 says only "at the next cycle boundary". -/
def Probe.atCycle (p : Probe) (w : List Nat) : Probe :=
  match p.phase with
  | .off => if p.done then p else p.begin w
  | .run =>
    if w.getD 0 0 ≠ p.words.getD 0 0 ∨ w.getD 2 0 ≠ p.words.getD 2 0 ∨ w.getD 4 0 ≠ p.words.getD 4 0 then p.down else { p with cycles := satU 16 (p.cycles + 1) }
  | .down => if p.amp = 0 then (if p.done then { p with phase := .off, out := 0 } else p.begin w) else p

/-- A swap reaches a generator between boundaries: what it changes besides mode, frequency and polynomial is taken up; a changed amplitude moves over the ramp length, and where *A* stays a running ramp goes on as it was (R125). DESIGN CHOICE (log 126): a generator whose burst has ended starts again at the next boundary after a swap that staged one of its rows, changed or not. -/
def Probe.onSwap (p : Probe) (w : List Nat) (stagedRow : Bool) : Probe :=
  let p1 := { p with done := p.done && !stagedRow }
  if p1.phase = .run ∧ w.getD 0 0 = p1.words.getD 0 0 ∧ w.getD 2 0 = p1.words.getD 2 0 ∧ w.getD 4 0 = p1.words.getD 4 0 then
    let d := (signedOf 32 (w.getD 1 0) : Rat) - p1.amp
    { p1 with words := w, step := if w.getD 1 0 = p1.words.getD 1 0 then p1.step else magR d / (if w.getD 7 0 = 0 then 1 else w.getD 7 0) }
  else p1

/-- Move the amplitude towards `a` by one step. -/
def ampStep (amp a step : Rat) : Rat := if amp < a then (if a ≤ amp + step then a else amp + step) else if amp - step ≤ a then a else amp - step

/-- One tick of a generator (R124, R125). -/
def Probe.tick (p : Probe) : Probe :=
  match p.phase with
  | .off => p
  | _ =>
    let amp := ampStep p.amp (if p.phase = .run then signedOf 32 (p.words.getD 1 0) else 0) p.step
    if p.words.getD 0 0 = 1 then
      { p with amp := amp, out := satQ22 (ratRne (amp * ((sinTurn p.acc (2 ^ 32) : Int) : Rat) / gOne)), acc := (p.acc + p.words.getD 2 0) % 2 ^ 32 }
    else
      let one := p.prbs.testBit ((prbsTaps (p.words.getD 4 0)).1 - 1)
      let last := p.words.getD 5 0 ≤ p.chip + 1
      { p with amp := amp, out := satQ22 (ratRne (if one then amp else -amp)), chip := if last then 0 else p.chip + 1,
               prbs := if last then prbsStep (p.words.getD 4 0) p.prbs else p.prbs }

/-- PROBE_BURST_END (R125): the boundary after the burst's last cycle. -/
def doProbeBurstEnd (k : Nat) (s : State) : State :=
  let p := tget {} s.xp.probes k
  if p.phase = .run ∧ p.words.getD 6 0 ≠ 0 ∧ p.words.getD 6 0 ≤ p.cycles ∧ s.tb.idx = 0 then
    { s with xp := { s.xp with probes := tset {} s.xp.probes k { p.down with done := true } } }
  else s
def execProbeBurstEnd (k : Nat) (s : State) : Host.Outcome State Fault Refusal :=
  if 8 ≤ k then .fault .noSuchUnit else .next (doProbeBurstEnd k s)

/-! ### Damping injection (R126) -/

/-- The ten coefficient words of a generator as two sections. -/
def State.dampSections (s : State) (k : Nat) : List Biquad := sectionsOf (s.xp.act.row 0x0505 k 2)
where
  /-- five words a section -/
  sectionsOf (ws : List Nat) : List Biquad :=
    [0, 5].map (fun o => { b0 := signedOf 32 (ws.getD o 0), b1 := signedOf 32 (ws.getD (o + 1) 0), b2 := signedOf 32 (ws.getD (o + 2) 0),
                           a1 := signedOf 32 (ws.getD (o + 3) 0), a2 := signedOf 32 (ws.getD (o + 4) 0) })

/-- A generator's input, none where it is invalid or stale (R126). -/
def State.dampInput (s : State) (k : Nat) : Option Int :=
  let i := s.prm 0x0505 k 1 0
  if s.prm 0x0505 k 0 0 = 0 then (let g := tget {} s.sp.gs i; if g.invalid || g.stale then none else some g.tick)
  else (let p := s.pierCtl i; if p.imStale then none else some p.im)

/-- One tick of a damping generator, and whether a section saturated: an invalid input clears the four states of a section and leaves its sticky flag (R118, R126). -/
def State.dampTick (s : State) (k : Nat) : Damp × Bool :=
  let d := tget {} s.xp.damps k
  match s.dampInput k with
  | none => ({ secs := d.secs.map (fun q => { sat := q.sat }), invalid := incSat 32 d.invalid, out := 0 }, false)
  | some x =>
    let r := runSections ((s.dampSections k).zip d.secs) x
    let m := s.prmI 0x0505 k 4 0
    ({ d with secs := r.2.1, out := satQ22 (clampI (-m) m (shrRne (r.1 * s.prmI 0x0505 k 3 0) 22)) }, r.2.2)

/-- A damping generator of stage 4, with the flag its sections raise (R118, R126). -/
def State.dampStage (s : State) (k : Nat) : State :=
  let r := s.dampTick k
  { s with xp := { s.xp with damps := tset {} s.xp.damps k r.1, shapeSat := s.xp.shapeSat || r.2 } }

/-! ### Idle and standby (R137 to R140) -/

/-- The idle conditions of a bay in this tick (R137). -/
def State.idleHolds (s : State) (b : Nat) : Bool :=
  let w := s.prmI 0x0601 b 2 0
  let pw := s.prm 0x0506 b 2 0
  let rw := s.prm 0x0506 b 1 0
  decide ((w * s.ce.p.out).natAbs ≤ pw * 2 ^ 30) && decide ((w * s.ce.q.out).natAbs ≤ pw * 2 ^ 30) &&
  (s.prm 0x0503 b 0 0 == 0 || (List.range 3).all (fun k => decide ((tget {} s.xp.dests (3 * b + k)).sum.natAbs ≤ rw))) &&
  (List.range 3).all (fun k => (s.xp.nodesOf (3 * b + k)).all (fun n => !(decide (40 ≤ n.1) && decide (n.1 < 52) && n.2.2 != 0 && s.source n.1 != 0)))

/-- One tick of idle detection (R137, R140): a condition that fails ends the dwell and wakes a bay in standby, as does a breaker that a hub has reported closed in the tick; a disabled bay leaves detection. -/
def State.idleTick (s : State) (b : Nat) : State :=
  let i0 := tget {} s.xp.idle b
  let i := { i0 with wake := i0.wake || (i0.standby && (s.bayLink b).closed) }
  let i1 : IdleState :=
    if ¬ s.md.bayLive b then {}
    else if s.prm 0x0506 b 0 0 = 1 ∧ s.idleHolds b then i
    else { i with held := false, dwell := 0, idle := false, wake := i.wake || i.standby }
  { s with xp := { s.xp with idle := tset {} s.xp.idle b i1 } }

/-- Idle detection at a cycle boundary (R137): a cycle in which the conditions held throughout counts. DESIGN CHOICE (log 108): the dwell counts whole cycles that begin at a cycle boundary, since standby starts and ends at one; R137 does not say where its cycles begin. -/
def IdleState.cycle (i : IdleState) : IdleState := { i with dwell := if i.held then incSat 16 i.dwell else 0, held := true }

/-- BAY_IDLE (R138). -/
def doBayIdle (b : Nat) (s : State) : State :=
  let i := tget {} s.xp.idle b
  if s.prm 0x0506 b 0 0 = 1 ∧ s.md.bayLive b ∧ s.prm 0x0506 b 3 0 ≤ i.dwell ∧ ¬ i.idle ∧ ¬ i.standby then
    ({ s with xp := { s.xp with idle := tset {} s.xp.idle b { i with idle := true } } }).raise { kind := .bayIdle, unit := bayUid b }
  else s
def execBayIdle (b : Nat) (s : State) : Host.Outcome State Fault Refusal := if s.nBays ≤ b then .fault .noSuchUnit else .next (doBayIdle b s)

/-- STANDBY_ENTRY (R138, R139): at a cycle boundary, idle, with the breaker reported open; in flywheel a bay stays as it is (R307). -/
def doStandbyEntry (b : Nat) (s : State) : State :=
  let i := tget {} s.xp.idle b
  if i.idle ∧ ¬ i.standby ∧ s.tb.idx = 0 ∧ (s.bayLink b).opened ∧ s.md.bayLive b ∧ ¬ s.rd.flywheel then
    { s with xp := { s.xp with idle := tset {} s.xp.idle b { i with standby := true, wake := false } } }
  else s
def execStandbyEntry (b : Nat) (s : State) : Host.Outcome State Fault Refusal := if s.nBays ≤ b then .fault .noSuchUnit else .next (doStandbyEntry b s)

/-- STANDBY_EXIT (R140): at the first cycle boundary after a trigger; the dwell counts from zero, and each pier modulates as one that resumes, and its drive table starts anew (R175, R187, R308). In flywheel a bay in standby stays in it (R307). -/
def doStandbyExit (b : Nat) (s : State) : State :=
  let i := tget {} s.xp.idle b
  if i.standby ∧ s.tb.idx = 0 ∧ i.wake ∧ ¬ s.rd.flywheel then
    { s with xp := { s.xp with idle := tset {} s.xp.idle b { held := !s.tb.bnd } }, rd := { s.rd with drive := tdrop (fun k => decide (k / 2400 = b)) s.rd.drive } }
  else s
def execStandbyExit (b : Nat) (s : State) : Host.Outcome State Fault Refusal := if s.nBays ≤ b then .fault .noSuchUnit else .next (doStandbyExit b s)

/-- The answer of BAY_WAKE (R140, R434). -/
def bayWake (unit : Nat) (s : State) : State × Ans :=
  let u := checkLevel s.nBays 3 unit
  if u.1 ≠ 0 then (s, refuseAns u.1 0x050C 255 unit)
  else if ¬ s.inStandby u.2.bay then (s, refuseAns stState 0x050C 255 unit)
  else ({ s with xp := { s.xp with idle := tmod {} s.xp.idle u.2.bay (fun i => { i with wake := true }) } }, okAns)
def doBayWake (h : Hdr) (unit : Nat) (s : State) : State := s.hostJ (.bayWake h unit) h 0x050C (bayWake unit)
def execBayWake (h : Hdr) (unit : Nat) (s : State) : Host.Outcome State Fault Refusal := .next (doBayWake h unit s)

/-! ### Stage 4 -/

/-- The destinations of the variant (R113). -/
def State.destList (s : State) : List Nat := List.range (3 * s.nBays) ++ (List.range 16).map (432 + ·)

/-- CROSSPOINT_STAGE (R76, R112 to R126, R137): generators, every destination, the DMA output row, idle detection. -/
def doCrosspointStage (s : State) : State :=
  if !s.ksRuns then s else
  let s1 := { s with xp := { s.xp with probes := iter 8 (fun k t => tmod {} t k Probe.tick) s.xp.probes } }
  let s2 := iter 4 (fun k (t : State) => t.dampStage k) s1
  let s3 := s2.destList.foldl State.destStage s2
  let s4 := s3.allBays.foldl State.idleTick { s3 with xp := { s3.xp with missNext := [] } }
  if s4.saving then s4 else s4.dmaRow

/-! ### Windows (R134 to R136) -/

/-- A fresh window. -/
def freshDest (cycle window generation first : Nat) (split : Bool) : DestStat :=
  { cycle := cycle, window := window, split := split, generation := generation, firstTick := first }

/-- Close a destination's window and open another; records of the latest 16 cycles stay. -/
def Dest.turn (d : Dest) (split : Bool) (w : DestStat) : Dest :=
  { d with win := w, recs := ({ d.win with split := d.win.split || split } :: d.recs).filter (fun r => decide (w.cycle < r.cycle + 17)) }

/-- A record's 32 bytes (R136). -/
def DestStat.bytes (w : DestStat) (dest : Nat) : List Nat :=
  le 6 w.cycle ++
  le 2 (fld dest 0 9 + fld w.window 9 2 + b1 w.split 11 + b1 w.slewing 12 + b1 w.missed 13 + b1 w.standby 14) ++ le 4 w.generation ++
  le 2 w.firstTick ++ le 2 w.ticks ++ le 4 w.peakSum ++ le 4 (if w.ticks = 0 then 0 else sqrtNear w.sumSq w.ticks) ++
  le 2 (if w.minG = 1073741824 then 0xFFFF else w.minG / 16384) ++ le 2 w.limited ++ le 2 w.clamped ++ le 2 w.saturated

/-- The answer of XP_STATS_READ (R136, R434). -/
def xpStats (h : Hdr) (dest start max : Nat) (s : State) : State × Ans :=
  if ¬ (decide (dest < 3 * s.nBays) || (decide (432 ≤ dest) && decide (dest < 448))) then (s, refuseAns stRange 0x050B 255 dest)
  else (s, okAns (cursor h.udp 32 start max ((tget {} s.xp.dests dest).recs.map (fun r => r.bytes dest))))
def doXpStatsRead (h : Hdr) (dest start max : Nat) (s : State) : State := s.host h 0x050B (xpStats h dest start max)
def execXpStatsRead (h : Hdr) (dest start max : Nat) (s : State) : Host.Outcome State Fault Refusal := .next (doXpStatsRead h dest start max s)

/-! ### Flags (R133, R434) -/

/-- Clear the sticky flags whose bits of XP_SET_STATUS are set; bit 5 takes every section's flag with it (R434). -/
def Crosspoint.clearFlags (x : Crosspoint) (w : Nat) : Crosspoint :=
  { x with
    split := x.split && !w.testBit 3, swapLost := x.swapLost && !w.testBit 4, shapeSat := x.shapeSat && !w.testBit 5,
    outSat := x.outSat && !w.testBit 6, hardClamp := x.hardClamp && !w.testBit 7,
    dests := if w.testBit 5 then tmapAll {} (fun d => { d with secs := d.secs.map (fun q => { q with sat := false }) }) x.dests else x.dests
    damps := if w.testBit 5 then tmapAll {} (fun d => { d with secs := d.secs.map (fun q => { q with sat := false }) }) x.damps else x.damps }

/-- XP_FLAGS_CLEAR (R434): at the end of the tick; other bits are reserved (R23). -/
def doXpFlagsClear (h : Hdr) (flags : Nat) (s : State) : State :=
  s.hostJ (.xpFlagsClear h flags) h 0x050A (fun t => ({ t with xp := { t.xp with clearDue := t.xp.clearDue ||| (flags / 8 % 32) } }, okAns))
def execXpFlagsClear (h : Hdr) (flags : Nat) (s : State) : Host.Outcome State Fault Refusal := .next (doXpFlagsClear h flags s)

end Sys2Proof.Machine
end

