-- ==== Sys2Proof/Machine/Bases.lean ====
section
/-! DEFINITION. Per-unit bases, the referral of the grid voltages, and the modulating state of a bay: what stage 5 and the load models share (01 R37, 04 R114, 05 R160, R161, R179). -/

namespace Sys2Proof.Machine
open Sys2Proof

/-- A signed square root. -/
def signSqrt (x : Int) (num den : Nat) : Int := if x < 0 then -((sqrtNear num den : Nat) : Int) else ((sqrtNear num den : Nat) : Int)

/-- √3 at the guard scale. -/
def gSqrt3 : Int := gSqrt (3 * gOne)

/-- A fraction at the guard scale. -/
def gFrac (n : Int) (d : Nat) : Int := n * gOne / d

/-- Rated line-to-line voltage in mV and rated chain current in mA of a bay (R37, R114). -/
def State.vllOf (s : State) (b : Nat) : Nat := s.prm 0x0702 b 2 0
def State.irOf (s : State) (b : Nat) : Nat := s.prm 0x0702 b 4 0

/-- A transformer is fitted (R427). -/
def State.transformer (s : State) (b : Nat) : Bool := s.prm 0x0702 b 5 0 == 1

/-- Volts in Q18.14 as pu of the VOLTAGE base, Q10.22. -/
def State.voltsToPu (s : State) (b : Nat) (u : Int) : Int :=
  satS 32 (signSqrt u ((u.natAbs * 256000) ^ 2 * 3) (2 * s.vllOf b ^ 2))

/-- A pu voltage in Q2.22 as volts in Q18.14 (R160). -/
def State.puToVolts (s : State) (b : Nat) (v : Int) : Int :=
  satS 32 (signSqrt v ((v.natAbs * s.vllOf b) ^ 2 * 2) (3 * 256000 ^ 2))

/-- Primary mV as pu of the bay's base, through its ratio (R161, R540), Q2.22. -/
def State.primaryToPu (s : State) (b : Nat) (mv : Nat) : Int :=
  let k := s.prm 0x0702 b 7 0
  satQ22 ((sqrtNear ((mv * k) ^ 2 * 3) (2 * s.vllOf b ^ 2) : Nat) : Int)

/-- Three times the phase quantities of the three voltage channels: the channels themselves in STAR, the phase values of the line pairs in DELTA (R108). -/
def phases3 (delta : Bool) (a b c : Int) : Int × Int × Int := if delta then (a - c, b - a, c - b) else (3 * a, 3 * b, 3 * c)

/-- The grid-sense connection of the voltage channels (R427, R429). -/
def State.gsDelta (s : State) : Bool := s.prm 0x0408 0 0 0 == 1

/-- The grid-sense phase values, three times mV. -/
def State.gridPhases3 (s : State) : Int × Int × Int :=
  phases3 s.gsDelta (tget {} s.sp.gs 0).primary (tget {} s.sp.gs 1).primary (tget {} s.sp.gs 2).primary

/-- A grid-sense voltage channel of GS_V1 to GS_V3 is invalid (R110). -/
def State.gsBad (s : State) (k : Nat) : Bool := (tget {} s.sp.gs k).invalid

/-- The pier's voltage rests on an invalid channel (R178): its own in STAR, either of its pairs in DELTA. -/
def State.vBadPier (s : State) (p : Nat) : Bool := if s.gsDelta then s.gsBad p || s.gsBad ((p + 2) % 3) else s.gsBad p

/-- The three grid voltages referred to the pier terminals of a bay, in pu, Q10.22 (R161). -/
def State.referred (s : State) (b : Nat) : List Int :=
  let q := s.gridPhases3
  let sum := q.1 + q.2.1 + q.2.2
  let al := 3 * q.1 - sum                     -- nine times the alpha component
  let d := q.2.1 - q.2.2                      -- three times √3 beta
  let shift := s.prmI 0x0702 b 7 1
  let c := cosTurn shift 92160
  let n := sinTurn shift 92160
  let k : Int := s.prm 0x0702 b 7 0
  let z := if s.prm 0x0702 b 6 0 = 1 ∧ ¬ s.gsDelta then gFrac sum 9 else 0
  let ac := al * c / 9
  let as' := al * n / 9
  let dc := d * c / 3
  let ds := d * n / 3
  let i3 := gDiv gOne gSqrt3
  let v0 := ac - gMul ds i3
  let v1 := -ac / 2 + gMul ds i3 / 2 + gMul as' gSqrt3 / 2 + dc / 2
  let v2 := -ac / 2 + gMul ds i3 / 2 - gMul as' gSqrt3 / 2 - dc / 2
  -- times ratio / 2^22, over √(2/3) V_LL
  let f := fun (v : Int) => satS 32 (gTo 22 (gMul (gMul ((v + z) * k / 4194304) (gSqrt (3 * gOne / 2))) (gFrac 1 (s.vllOf b))))
  [f v0, f v1, f v2]

/-- A pier modulates (R179): enabled, its bay neither in OFF nor in standby nor tripped. -/
def State.pierRuns (s : State) (p : Nat) : Bool :=
  s.md.pierOn p && s.bayMode (p / 3) != 0 && !(tget {} s.xp.idle (p / 3)).standby && !s.md.latch

/-- Some pier of the bay modulates. -/
def State.bayRuns (s : State) (b : Nat) : Bool := (List.range 3).any (fun k => s.pierRuns (3 * b + k))

/-- The bay that synchronises (R336). -/
def State.syncingBay (s : State) (b : Nat) : Bool :=
  match s.st.sync with
  | some y => y.bay == b
  | none => false

/-- Bays that are floated end a synchronisation of one of them, as a disable does (R336, R343, log 138). -/
def State.endSyncOf (s : State) (bs : List Nat) : State := if bs.any s.syncingBay then s.endSync 0 else s

/-- The bay's lane has trained and its hub is admitted: step 7 is done (R323). -/
def State.hubIn (s : State) (b : Nat) : Bool := (s.bayLink b).trained && (s.bayLink b).hub.isSome

end Sys2Proof.Machine
end

