-- ==== Sys2Proof/Machine/Loads.lean ====
section
/-! DEFINITION. Load models: ambient, reactor and transformer heat, core flux, load diagnosis, and their commands (08 R257 to R264, 15 R438). -/

namespace Sys2Proof.Machine
open Sys2Proof

/-! ### Ambient (R257) -/

/-- The ambient a bay uses, in 1/128 °C (R257). -/
def State.ambientOf (s : State) (b : Nat) : Int :=
  let x := tget {} s.ld.bays b
  if x.fallback then s.prmI 0x0907 b 12 0 else (x.ambient.getD (s.ld.ambient.getD (s.prmI 0x0907 b 12 0)))

/-- A value in 1/128 °C as °C with 40 fractional bits. -/
def deg40 (t : Int) : Int := t * 2 ^ 33

/-- °C with 40 fractional bits as signed 16 bits of 1/128 °C. -/
def deg128 (t : Int) : Int := satS 16 (shrRne t 33)

/-- The reactor winding hot-spot of a pier (R258), °C with 40 fractional bits. -/
def State.reactorHot (s : State) (p : Nat) : Int := let l := tget {} s.ld.piers p; deg40 (s.ambientOf (p / 3)) + l.d1 + l.d2

/-- Top oil and hot-spot of a bay's transformer (R259). -/
def State.oilTemp (s : State) (b : Nat) : Int := deg40 (s.ambientOf b) + (tget {} s.ld.bays b).oil
def State.hotSpot (s : State) (b : Nat) : Int := let x := tget {} s.ld.bays b; s.oilTemp b + x.dh1 - x.dh2

/-- The answer of LOAD_AMBIENT_SET (R257, R438). -/
def ambientSet (unit temp : Nat) (s : State) : State × Ans :=
  let t := signedOf 16 temp
  let u := checkUid s.nBays unit
  if u.1 ≠ 0 then (s, refuseAns u.1 0x0908 255 unit)
  else if u.2.level < 3 then (s, refuseAns stBadParam 0x0908 255 unit)
  else if t < -6400 ∨ 7680 < t then (s, refuseAns stRange 0x0908 255 unit)
  else if u.2.level = 4 then ({ s with ld := { s.ld with ambNext := some t } }, okAns)
  else ({ s with ld := { s.ld with bays := tmod {} s.ld.bays u.2.bay (fun x => { x with ambNext := some t }) } }, okAns)
def doLoadAmbientSet (h : Hdr) (unit temp : Nat) (s : State) : State := s.hostJ (.loadAmbientSet h unit temp) h 0x0908 (ambientSet unit temp)
def execLoadAmbientSet (h : Hdr) (unit temp : Nat) (s : State) : Host.Outcome State Fault Refusal := .next (doLoadAmbientSet h unit temp s)

/-- Values of the ended cycle take effect at the boundary; a set ends the fallback (R257). DESIGN CHOICE (log 134): a plant set reaches the timer and the fallback of a bay with a value of its own too. -/
def Loads.takeAmbient (l : Loads) (nb : Nat) : Loads :=
  let plant := l.ambNext.isSome
  let bays := iter nb (fun b t => tmod {} t b (fun x =>
    if plant || x.ambNext.isSome then { x with ambient := x.ambNext.or x.ambient, ambNext := none, ambAge := 0, fallback := false } else x)) l.bays
  { l with ambient := l.ambNext.or l.ambient, ambNext := none, bays := bays }

/-- AMBIENT_TIMEOUT (R257). -/
def doAmbientTimeout (b : Nat) (s : State) : State :=
  let x := tget {} s.ld.bays b
  if ¬ x.fallback ∧ s.prm 0x0907 b 12 1 * 1000000000 ≤ x.ambAge then
    ({ s with ld := { s.ld with bays := tset {} s.ld.bays b { x with fallback := true }, fallbackSeen := true } }).raise { kind := .ambientFallback, unit := bayUid b }
  else s
def execAmbientTimeout (b : Nat) (s : State) : Host.Outcome State Fault Refusal := if s.nBays ≤ b then .fault .noSuchUnit else .next (doAmbientTimeout b s)

/-- The ambient timers of a tick. -/
def Loads.age (l : Loads) (ps : Nat) : Loads := { l with bays := tmapAll {} (fun x => if x.fallback then x else { x with ambAge := x.ambAge + ps }) l.bays }

/-! ### Heat (R258, R259) -/

/-- The square of K: the cycle's mean squared current in pu of peak, doubled, at the guard scale. -/
def PierLoad.k2 (l : PierLoad) : Int := if l.sqTicks = 0 then 0 else gFrac (2 * l.sqSum : Nat) (l.sqTicks * 2 ^ 44)

/-- °C with 40 fractional bits from the guard scale, and back. -/
def g40 (x : Int) : Int := gTo 40 x
def to110 (x : Int) : Int := x * 2 ^ 70

/-- One rise of the winding model over a cycle of `tc` seconds (R258). -/
def rise (d : Int) (rated : Int) (k2 tc : Int) (tauMs : Nat) : Int :=
  let f := gOne - gExp (-(tc * 1000 / tauMs))
  d + g40 (gMul (gMul (rated * gOne / 128) k2 - to110 d) f)

/-- The reactor model of a pier over the ended cycle (R258). -/
def State.reactorCycle (s : State) (tc : Int) (p : Nat) (l : PierLoad) : PierLoad :=
  let b := p / 3
  let k2 := l.k2
  { l with d1 := rise l.d1 (s.prmI 0x0907 b 3 0) k2 tc (s.prm 0x0907 b 4 0), d2 := rise l.d2 (s.prmI 0x0907 b 3 1) k2 tc (s.prm 0x0907 b 4 1) }

/-- A Q10.22 word at the guard scale. -/
def State.gPrm (s : State) (b row i : Nat) : Int := gFrac (s.prmI 0x0907 b row i) 4194304

/-- The transformer model of a bay over the ended cycle (R259). -/
def State.transformerCycle (s : State) (tc : Int) (b : Nat) (k2 : Int) (x : BayLoad) : BayLoad :=
  let dt := tc / 60
  let tauO := gFrac (s.prm 0x0907 b 9 0) 60000
  let tauW := gFrac (s.prm 0x0907 b 9 1) 60000
  let r := s.gPrm b 7 0
  let ky := gPow (gSqrt k2) (s.gPrm b 7 2)
  let k11 := s.gPrm b 8 0
  let k21 := s.gPrm b 8 1
  let k22 := s.gPrm b 8 2
  let dor := gFrac (s.prmI 0x0907 b 6 0) 128
  let dhr := gFrac (s.prmI 0x0907 b 6 1) 128
  let load := gPow (gDiv (gOne + gMul k2 r) (gOne + r)) (s.gPrm b 7 1)
  let oil := x.oil + g40 (gMul (gDiv dt (gMul k11 tauO)) (gMul load dor - to110 x.oil))
  let dh1 := x.dh1 + g40 (gMul (gDiv dt (gMul k22 tauW)) (gMul (gMul k21 ky) dhr - to110 x.dh1))
  let dh2 := x.dh2 + g40 (gMul (gDiv (gMul dt k22) tauO) (gMul (gMul (k21 - gOne) ky) dhr - to110 x.dh2))
  let hot := to110 (deg40 (s.ambientOf b) + oil + dh1 - dh2)
  let aged := gMul (gExp (gMul gLn2 ((hot - 98 * gOne) / 6))) dt
  { x with oil := oil, dh1 := dh1, dh2 := dh2, life := x.life + (g40 aged).toNat }

/-- A warning with 2 °C of hysteresis (R259). -/
def warns (was : Bool) (t thr : Int) : Bool := if was then decide (thr - deg40 256 < t) else decide (thr < t)

/-- The heat models at a cycle boundary; `tc` is the cycle's length in seconds at the guard scale. DESIGN CHOICE (log 133): with the hot-spot model off, or no transformer, the two warnings stand as they were. -/
def State.heatCycle (s : State) (tc : Int) : State :=
  let piers := iter (3 * s.nBays) (fun p (t : Tab PierLoad) => tset {} t p (s.reactorCycle tc p (tget {} t p))) s.ld.piers
  let k2 := fun b => ((List.range 3).map (fun k => (tget {} s.ld.piers (3 * b + k)).k2)).foldl (fun a c => if a < c then c else a) 0
  let s1 := { s with ld := { s.ld with piers := piers, bays := iter s.nBays (fun b (t : Tab BayLoad) =>
    if s.transformer b ∧ s.prm 0x0907 b 5 0 = 1 then tset {} t b (s.transformerCycle tc b (k2 b) (tget {} t b : BayLoad)) else t) s.ld.bays } }
  s1.allBays.foldl (fun (s : State) b =>
    if s.transformer b ∧ s.prm 0x0907 b 5 0 = 1 then
      let x : BayLoad := tget {} s.ld.bays b
      let hs := warns x.hsWarn (s.hotSpot b) (deg40 (s.prmI 0x0907 b 10 0))
      let oil := warns x.oilWarn (s.oilTemp b) (deg40 (s.prmI 0x0907 b 10 1))
      let s2 := { s with ld := { s.ld with bays := tset {} s.ld.bays b { x with hsWarn := hs, oilWarn := oil } } }
      let s3 := if hs ≠ x.hsWarn then s2.raise { kind := .hotSpot, unit := bayUid b, detail := bit hs } else s2
      if oil ≠ x.oilWarn then s3.raise { kind := .hotSpot, unit := bayUid b, detail := 2 + bit oil } else s3
    else s) s1

/-! ### Core flux (R260, R261) -/

/-- I_base / V_base of a bay in 1/Ω at the guard scale: √3 I_r / V_LL. -/
def State.ibOverVb (s : State) (b : Nat) : Int := if s.vllOf b = 0 then 0 else gSqrt3 * s.irOf b / s.vllOf b

/-- The outputs of the flux model with the tick's ψ: peak and mean of the latest 800 ticks (R261). -/
def PierLoad.fluxOut (l : PierLoad) (psi : Int) : PierLoad :=
  let h := (psi :: l.psiHist).take 800
  { l with psi := psi, psiHist := h, peak := satQ22 (shrRne (((h.map Int.natAbs).foldl Nat.max 0 : Nat) : Int) 38), bias := satQ22 (divRne (sumI h) (2 ^ 38 * h.length)) }

/-- The core flux model of one pier in stage 5 of tick m (R260, R261). -/
def State.fluxTick (s : State) (p : Nat) (l : PierLoad) : PierLoad :=
  let b := p / 3
  let run := s.bayRuns b || s.syncingBay b
  if ¬ run ∧ (s.bayLink b).opened then ({ l with phi := 0, hold := true }).fluxOut 0 else
  let u := fun k => (s.pierCtl (3 * b + k)).ur
  let ppu : Int := if run then
      gMul (gMul ((3 * u (p % 3) - (u 0 + u 1 + u 2)) * gOne / (3 * 16384)) (gSqrt (3 * gOne / 2))) (gFrac 1000 (s.vllOf b))
    else gFrac ((s.bayCtl b).vg.getD (p % 3) 0) 4194304
  let i := gFrac (s.pierCtl p).im 4194304
  let w := 2 * gPi                                                        -- 2π f0 is w × f0
  let f0 := gRat (s.prm 0x0301 0 6 0 / 1000 : Rat)
  let tm := gFrac (s.tb.toOverflow * 625) 1000000000000
  let k := s.ibOverVb b
  let rf := gMul (gFrac (s.prm 0x0907 b 1 0 + s.prm 0x0907 b 1 1) 1000000) k
  let xr := gMul (gMul (gMul w f0) (gFrac (s.prm 0x0907 b 0 0) 1000000000)) k
  let tau := gFrac (s.prm 0x0907 b 11 0) 1000
  let phi0 := l.phi * 2 ^ 50
  let phi := gMul phi0 (gOne - gDiv tm tau) + gMul (gMul (gMul w f0) tm) (ppu - gMul rf i)
  let psi := gTo 60 (phi - gMul xr i)
  ({ l with phi := gTo 60 phi, hold := !run }).fluxOut psi

/-- The flux models of a tick: transformer bays only (R260). -/
def State.fluxStage (s : State) : State :=
  { s with ld := { s.ld with piers := iter (3 * s.nBays) (fun p (t : Tab PierLoad) => if s.transformer (p / 3) then tset {} t p (s.fluxTick p (tget {} t p)) else t) s.ld.piers } }

/-! ### Load diagnosis (R263, R264) -/

/-- The cycle sums of one pier in stage 5 (R258, R263). -/
def State.diagTick (s : State) (p : Nat) (l : PierLoad) : PierLoad :=
  let b := p / 3
  let c := s.pierCtl p
  let sq := { l with sqSum := l.sqSum + c.im.natAbs * c.im.natAbs, sqTicks := l.sqTicks + 1 }
  if ¬ s.pierRuns p then sq else
  let y := satS 32 (s.voltsToPu b c.ur2 - (s.bayCtl b).vg1.getD (p % 3) 0)
  let t := gFrac (s.tb.periods1 * 625) 1000000000000
  let den := gMul (gMul (2 * gPi) (gRat (s.prm 0x0301 0 6 0 / 1000 : Rat))) t
  let x := if den = 0 then 0 else satS 32 (gTo 22 (gDiv (gFrac (c.im - c.imPrev) 4194304) den))
  let z := divRne (c.im + c.imPrev) 2
  { sq with cycSums := (l.cycSums.zip [x * x, x * z, z * z, x * y, z * y]).map (fun e => satS 64 (e.1 + e.2)) }

/-- The cycle's sums join the window, unless a swap in the cycle has discarded the window they belong to (R263). DESIGN CHOICE (log 132): the floor in pu is compared with the cycle's rms over the rated rms, and a cycle in which the pier does not modulate does not count towards N_d. -/
def State.diagCycle (s : State) (p : Nat) (l : PierLoad) : PierLoad :=
  let b := p / 3
  let floor := s.prm 0x0907 b 14 0
  let ok : Bool := decide (0 < l.sqTicks) && decide (floor * floor * l.sqTicks ≤ 2 * l.sqSum) && !l.touched
  let l1 := if s.pierRuns p ∧ !l.skip then
      { l with cycles := incSat 16 l.cycles, thetaSum := l.thetaSum + deg40 (s.ambientOf b) + l.d2,
               winSums := if ok then (l.winSums.zip l.cycSums).map (fun e => e.1 + e.2) else l.winSums, used := if ok then incSat 16 l.used else l.used }
    else l
  { l1 with cycSums := [0, 0, 0, 0, 0], touched := false, skip := false, sqSum := 0, sqTicks := 0 }

/-- An open window is discarded (R263). -/
def PierLoad.discard (l : PierLoad) : PierLoad := { l with winSums := [0, 0, 0, 0, 0], used := 0, cycles := 0, thetaSum := 0 }

/-- A swap changes the bay's series path or load model: the open window goes with the cycle in progress, and the next cycle opens a new one (R263). -/
def PierLoad.drop (l : PierLoad) : PierLoad := { l.discard with cycSums := [0, 0, 0, 0, 0], skip := true }

/-- A drift in 0.01 % of the baseline (R264); from a baseline of 0 the spec gives none. -/
def driftOf (now base : Nat) : Int := satS 16 (divRne (((now : Int) - base) * 10000) base)

/-- The fit's result in Ω-like units: pu × V_base / I_base in µΩ, and in nH (R264). -/
def State.diagFit (s : State) (p : Nat) (l : PierLoad) : Option (Nat × Nat × Nat) :=
  let b := p / 3
  match l.winSums with
  | [sxx, sxz, szz, sxy, szy] =>
    let d := sxx * szz - sxz * sxz
    if d ≤ 0 ∨ l.used * 2 < s.prm 0x0907 b 13 0 ∨ l.cycles = 0 then none else
    let x := (sxy * szz - szy * sxz) * gOne / d
    let r := (szy * sxx - sxy * sxz) * gOne / d
    let zb := gDiv (gFrac (s.vllOf b) (s.irOf b)) gSqrt3
    let lnh := gDiv (gMul x zb) (gMul (2 * gPi) (gRat (s.prm 0x0301 0 6 0 / 1000 : Rat))) * 1000000000
    let ru := gMul r zb * 1000000
    let km := if s.prm 0x0907 b 2 0 = 0 then gFrac 469 2 else 225 * gOne
    let th := to110 l.thetaSum / l.cycles
    let r75 := gMul ru (gDiv (km + 75 * gOne) (km + th))
    some (satU 32 (gTo 0 lnh).toNat, satU 32 (gTo 0 ru).toNat, satU 32 (gTo 0 r75).toNat)
  | _ => none

/-- DIAG_WINDOW_CLOSE (R263, R264). -/
def doDiagWindowClose (p : Nat) (s : State) : State :=
  let b := p / 3
  let l := tget {} s.ld.piers p
  if l.cycles < s.prm 0x0907 b 13 0 then s else
  let put := fun (s : State) (l : PierLoad) => { s with ld := { s.ld with piers := tset {} s.ld.piers p l.discard } }
  match s.diagFit p l with
  | none => put s { l with result := { closed := s.tb.cycleNow, used := l.used, insufficient := true } }
  | some (lh, r, r75) =>
    let res : DiagResult := { closed := s.tb.cycleNow, used := l.used, l := lh, r := r, r75 := r75, insufficient := false }
    match l.baseline with
    | none => put s { l with result := res, lastGood := some (lh, r75) }
    | some (bl, br) =>
      let f1 := s.free 16
      let f2 := f1.2.free 16
      let dr := if br = 0 then signedOf 16 f1.1 else driftOf r75 br
      let dl := if bl = 0 then signedOf 16 f2.1 else driftOf lh bl
      let big : Bool := decide (s.prm 0x0907 b 15 0 * 10000 < dr.natAbs * 4194304) || decide (s.prm 0x0907 b 15 1 * 10000 < dl.natAbs * 4194304)
      let s1 := put f2.2 { l with result := { res with dr := dr, dl := dl, drift := big }, lastGood := some (lh, r75) }
      if big then ({ s1 with ld := { s1.ld with diagDrift := true } }).raise { kind := .drift, unit := pierUid p } else s1
def execDiagWindowClose (p : Nat) (s : State) : Host.Outcome State Fault Refusal := if 3 * s.nBays ≤ p then .fault .noSuchUnit else .next (doDiagWindowClose p s)

/-- The answer of LOAD_BASELINE_SET (R264, R438). -/
def baselineSet (pier source l r : Nat) (s : State) : State × Ans :=
  let u := checkLevel s.nBays 2 pier
  if u.1 ≠ 0 then (s, refuseAns u.1 0x090A 255 pier)
  else if 1 < source then (s, refuseAns stRange 0x090A 255 pier)
  else
    let p := pierIx u.2.bay u.2.pier
    let x := tget {} s.ld.piers p
    match (if source = 1 then some (l, r) else x.lastGood) with
    | none => (s, refuseAns stState 0x090A 255 pier)
    | some v => ({ s with ld := { s.ld with piers := tset {} s.ld.piers p { x with baseline := some v } } }, okAns)
def doLoadBaselineSet (h : Hdr) (pier source l r : Nat) (s : State) : State :=
  s.hostJ (.loadBaselineSet h pier source l r) h 0x090A (baselineSet pier source l r)
def execLoadBaselineSet (h : Hdr) (pier source l r : Nat) (s : State) : Host.Outcome State Fault Refusal := .next (doLoadBaselineSet h pier source l r s)

/-! ### Reading (R438) -/

/-- The reply of LOAD_MODEL_READ. -/
def State.loadModelBytes (s : State) (b : Nat) : List Nat :=
  let l := fun k => tget {} s.ld.piers (3 * b + k)
  ((List.range 3).map (fun k => leS 2 (deg128 (s.reactorHot (3 * b + k))))).flatten ++ leS 2 (deg128 (s.oilTemp b)) ++ leS 2 (deg128 (s.hotSpot b)) ++
  leS 2 (s.ambientOf b) ++ le 1 (bit (tget {} s.ld.bays b).fallback) ++ le 1 (sumN ((List.range 3).map (fun k => b1 (l k).hold k))) ++
  ((List.range 3).map (fun k => leS 4 (l k).peak)).flatten ++ ((List.range 3).map (fun k => leS 4 (l k).bias)).flatten ++
  le 4 (satU 32 ((tget {} s.ld.bays b).life / 2 ^ 40))

/-- LOAD_MODEL_READ (R266, R438). -/
def doLoadModelRead (h : Hdr) (bay : Nat) (s : State) : State :=
  s.host h 0x0909 (fun t => let u := checkLevel t.nBays 3 bay; if u.1 ≠ 0 then (t, refuseAns u.1 0x0909 255 bay) else (t, okAns (t.loadModelBytes u.2.bay)))
def execLoadModelRead (h : Hdr) (bay : Nat) (s : State) : Host.Outcome State Fault Refusal := .next (doLoadModelRead h bay s)

/-- A pier's 28 bytes of LOAD_DIAG_READ. -/
def PierLoad.diagBytes (l : PierLoad) : List Nat :=
  le 6 l.result.closed ++ le 2 l.result.used ++ le 4 l.result.l ++ le 4 l.result.r ++ le 4 l.result.r75 ++ leS 2 l.result.dr ++ leS 2 l.result.dl ++
  le 1 (b1 l.result.insufficient 0 + b1 l.baseline.isNone 1 + b1 l.result.drift 2) ++ [0, 0, 0]

/-- LOAD_DIAG_READ (R264, R438). -/
def doLoadDiagRead (h : Hdr) (bay : Nat) (s : State) : State :=
  s.host h 0x090B (fun t => let u := checkLevel t.nBays 3 bay
    if u.1 ≠ 0 then (t, refuseAns u.1 0x090B 255 bay) else (t, okAns ((List.range 3).map (fun k => (tget {} t.ld.piers (3 * u.2.bay + k)).diagBytes)).flatten))
def execLoadDiagRead (h : Hdr) (bay : Nat) (s : State) : Host.Outcome State Fault Refusal := .next (doLoadDiagRead h bay s)

end Sys2Proof.Machine
end

