-- ==== Sys2Proof/Machine/Control.lean ====
section
/-! DEFINITION. Stage 5: followers, virtual machine, limit loops, arbitration, outer and inner laws, plumb check, and the control commands (05, 11 R336, 15 R435). -/

namespace Sys2Proof.Machine
open Sys2Proof

/-! ### Laws (R146, R147) -/

/-- A law's sections, eight with the pass-through ones. -/
def Law.all (l : Law) : List Biquad := (List.range 8).map (fun k => l.secs.getD k {})

/-- Times 2 to the shift. -/
def shiftBy (sh x : Int) : Int := if 0 ≤ sh then x * 2 ^ sh.toNat else shrRne x (-sh).toNat

/-- The output a law holds: the newest output of its cascade through the shift. -/
def LawState.held (q : LawState) (l : Law) : Int := satS 32 (shiftBy l.shift (q.secs.getD 7 {}).y1)

/-- One tick of a law (R146). -/
def LawState.run (q : LawState) (l : Law) (x : Int) : Int × LawState :=
  let r := runSections (l.all.zip q.secs) x
  let y := shiftBy l.shift r.1
  let y' := satS 32 y
  (y', { secs := r.2.1, outSat := q.outSat || y' != y })

/-- Refer a clamped output back through the shift (R147). -/
def LawState.refer (q : LawState) (l : Law) (v : Int) : LawState :=
  let n := l.secs.length
  if n = 0 then q else
  let w := satS 32 (shiftBy (-l.shift) v)
  { q with secs := q.secs.zipIdx.map (fun e => if e.2 + 1 < n then e.1 else if e.2 + 1 = n then { e.1 with y1 := w } else { e.1 with x1 := w, y1 := w }) }

/-- Clear the states of a law; its flags stay (R142, R179). -/
def LawState.clear (q : LawState) : LawState := { q with secs := q.secs.map (fun b => { x1 := 0, x2 := 0, y1 := 0, y2 := 0, sat := b.sat }) }

/-- Clear the flags of a law (R146). -/
def LawState.clearFlags (q : LawState) : LawState := { secs := q.secs.map (fun b => { b with sat := false }), outSat := false }

/-- Law `k` of bay `b` in force (R428). -/
def State.law (s : State) (b k : Nat) : Law := tget {} s.xp.act.laws (b * 11 + k)

/-- A parameter of the bay's control rows. -/
def State.cePrm (s : State) (b row i : Nat) : Int := s.prmI 0x0601 b row i

/-! ### Conditions of a tick -/

/-- Some grid-sense voltage channel is invalid (R178). -/
def State.vInvalid (s : State) : Bool := s.gsBad 0 || s.gsBad 1 || s.gsBad 2

/-- A pier current of the bay is stale (R79). -/
def State.bayStale (s : State) (b : Nat) : Bool := (List.range 3).any (fun k => (s.pierCtl (3 * b + k)).imStale)

/-- Stage 5 missed its deadline for the bay, or the current of a pier that modulates is stale (R79, R177). -/
def State.bayMisses (s : State) (b : Nat) : Bool :=
  s.ce.missNext.contains b || (List.range 3).any (fun k => s.pierRuns (3 * b + k) && (s.pierCtl (3 * b + k)).imStale)

/-- The stop scale in 1/8,000 (R341). -/
def State.stopScale (s : State) : Nat := if s.st.stopPhase = 1 then s.st.rampLeft else if s.st.stopPhase = 2 then 0 else 8000

/-- The grid-voltage estimate of R161, Q10.22. -/
def State.vHat (s : State) (p : Nat) : Int :=
  let c := s.bayCtl (p / 3)
  satS 32 (3 * c.vg.getD (p % 3) 0 - 2 * c.vg1.getD (p % 3) 0)

/-- The tick angle at the start of tick n + 2 less the pier's 120 degrees, in 1/2,400 of a turn (R157). -/
def State.pierAngle (s : State) (p : Nat) : Int := 3 * ((s.tb.idx : Int) + 2) - 800 * ((p % 3 : Nat) : Int)

/-- The estimate used: where the pier's voltage rests on an invalid channel, the held amplitude on the tick angle (R178). -/
def State.vEst (s : State) (p : Nat) : Int :=
  if s.vBadPier (p % 3) then satS 32 (gTo 22 (gMul (gFrac (s.bayCtl (p / 3)).vHeld 4194304) (sinTurn (s.pierAngle p) 2400))) else s.vHat p

/-- The live limit on the Q2.22 grid (R120). -/
def State.limit22 (s : State) (p : Nat) : Int := Nat.min (s.liveLimit p / 256) 8388607

/-! ### Plumb check (R172 to R175) -/

/-- The prediction of sample n − 1 (R172). -/
def State.plumbPred (s : State) (p : Nat) (c : PierCtl) : Int :=
  let b := p / 3
  let ks : Int := s.prm 0x0601 b 7 1
  let drive := s.voltsToPu b c.ur2 - (s.bayCtl b).vg1.getD (p % 3) 0
  satQ22 (shrRne (c.fb * 2 ^ 46 + ks * (drive * 4194304 - s.cePrm b 7 2 * c.fb)) 46)

/-- The check is suspended: on resuming (R175), or in the first 8 ticks of a tile that took the pier over (R313). -/
def PierCtl.suspended (c : PierCtl) (now : Nat) : Bool :=
  decide (c.resumed < 8) || (match c.suspendFrom with | some f => decide (f ≤ now) && decide (now < f + 8) | none => false)

/-- A tick joins the window's largest *ρ*, which a suspended check holds (R175, R176). -/
def PierCtl.noteRho (c : PierCtl) : PierCtl := { c with rhoMax := if c.rhoMax < c.rho then satQ22 c.rho else c.rhoMax }

/-- A tick that stage 5 missed leaves the check and any model estimate where they are; the sample's measured current is the next prediction's start (R172, R177). The ticks since a resume go on (R175). -/
def State.missFeedback (s : State) (p : Nat) (c : PierCtl) : PierCtl :=
  { c.noteRho with fb := if c.model || c.imStale then c.fb else c.im, resumed := if s.pierRuns p && !s.syncingBay (p / 3) then Nat.min 8 (c.resumed + 1) else 0 }

/-- The check of one pier: its new state and the feedback of this tick; the second flag says that it was declared now. DESIGN CHOICE (log 109): `model` is set in the declaring tick, so that CE_STATUS and CE_WINNER show it from the end of that tick's stage 5, one tick before the inner law runs on the estimate (R173, R180, R182). DESIGN CHOICE (log 129): *ρ* is held in Q10.22, a format R145 does not give. -/
def State.plumbPier (s : State) (p : Nat) (c : PierCtl) : PierCtl × Int × Bool :=
  let b := p / 3
  let pred := s.plumbPred p c
  let use := if c.model then pred else c.im
  let runs := s.pierRuns p && !s.syncingBay b
  let c1 := { c with fb := use, resumed := if runs then Nat.min 8 (c.resumed + 1) else 0 }
  if c.imStale ∨ s.vInvalid ∨ ¬ runs ∨ c.suspended s.absTick then (c1.noteRho, use, false) else
  let m := s.prm 0x0601 b 13 1
  let w := s.cePrm b 13 0
  let r : Int := ((c.im - pred).natAbs : Int)
  let rho := satS 32 (shrRne (c.rho * 2 ^ m + r - c.rho) m)
  let c2 := ({ c1 with rho := rho } : PierCtl).noteRho
  if c.model then ({ c2 with modelTicks := Nat.min 16 (c.modelTicks + 1), goodTicks := if 2 * rho < w then Nat.min 4 (c.goodTicks + 1) else 0 }, use, false)
  else if w < rho then ({ c2 with model := true, modelTicks := 0, goodTicks := 0, fb := pred }, use, true)
  else (c2, use, false)

/-- Measured feedback again (R174). -/
def PierCtl.measured (c : PierCtl) : PierCtl := { c with model := false, modelTicks := 0, goodTicks := 0, fb := c.im }

/-- PLUMB_RECOVERY (R174). -/
def doPlumbRecovery (p : Nat) (s : State) : State :=
  let c := s.pierCtl p
  if c.model ∧ 4 ≤ c.goodTicks ∧ c.modelTicks ≤ 16 then
    ({ s with ce := { s.ce with
        piers := tset {} s.ce.piers p c.measured
        bays := tmod {} s.ce.bays (p / 3) (fun x => { x with recovered := incSat 32 x.recovered }) } }).raise { kind := .plumbRecovered, unit := pierUid p }
  else s
def execPlumbRecovery (bay pier : Nat) (s : State) : Host.Outcome State Fault Refusal := if s.nBays ≤ bay ∨ 3 ≤ pier then .fault .noSuchUnit else .next (doPlumbRecovery (pierIx bay pier) s)

/-- PLUMB_FLOAT (R174): the bay is floated as a disable to FLOAT does it, and its declarations end. -/
def doPlumbFloat (p : Nat) (s : State) : State :=
  let c := s.pierCtl p
  let b := p / 3
  if c.model ∧ 16 ≤ c.modelTicks ∧ c.goodTicks < 4 then
    let m := s.md.floatBay b
    (State.endSyncOf { s with
        md := { m with bays := tmod {} m.bays b (fun x => { x with plumbFloat := true }) }
        ce := { s.ce with
          floatNow := true
          piers := iter 3 (fun k (t : Tab PierCtl) => tmod {} t (3 * b + k) PierCtl.measured) s.ce.piers
          bays := tmod {} s.ce.bays b (fun x => { x with floated := incSat 32 x.floated }) } } [b]).raise { kind := .plumbFloated, unit := bayUid b }
  else s
def execPlumbFloat (bay pier : Nat) (s : State) : Host.Outcome State Fault Refusal := if s.nBays ≤ bay ∨ 3 ≤ pier then .fault .noSuchUnit else .next (doPlumbFloat (pierIx bay pier) s)

/-! ### Plant loops (R150 to R156) -/

/-- The target a source gives, 70 fractional bits (R152). -/
def State.sourceTarget (s : State) (src : Nat) (host : Int) : Int :=
  if src = 0 then host
  else if src = 1 then (if s.sp.setp.qualified && !s.sp.setp.lost then s.sp.setp.y * 2 ^ 48 else 0)
  else (tget {} s.sp.slots (src - 256)).out * 2 ^ 48

/-- Move towards the target by at most r/800 (R150). -/
def Follower.step (f : Follower) : Follower :=
  let st := divRne (f.rate * 2 ^ 48) 800
  let d := f.target - f.y
  { f with y := if d.natAbs ≤ st.natAbs then f.target else if 0 < d then f.y + st else f.y - st }

/-- The waiting sets of a quantity that begin in this tick, in order (R152). -/
def Control.dueSets (c : Control) (now q : Nat) : List PendSet := c.sets.filter (fun p => p.quantity == q && decide (p.tick < now))

/-- The end of a fallback: the normal rate, and for the HOST source the present value until a command arrives (R153). -/
def State.endFallback (s : State) (f : Follower) (q : Nat) : Follower :=
  { f with fallback := false, rate := s.prm 0x0603 0 1 0, host := if s.prm 0x0603 0 0 q = 0 then f.y else f.host }

/-- A follower's target and rate of a tick: an ended fallback first, then the commands that begin in the tick, in order (R151 to R153). DESIGN CHOICE (log 127): the fallback is in force while no slot is live, before any slot has been live and after the last was closed as well. -/
def State.retarget (s : State) (f : Follower) (q : Nat) : Follower :=
  let lost := s.hs.allLost
  let f0 := if f.fallback && !lost then s.endFallback f q else f
  let f1 := (s.ce.dueSets s.absTick q).foldl (fun (f : Follower) p => { f with host := p.value * 2 ^ 48, rate := if p.rate = 0 then f.rate else p.rate }) f0
  if lost then { f1 with fallback := true, rate := s.prm 0x0603 0 1 1, target := if q = 0 then s.sourceTarget 1 0 else 0 }
  else { f1 with target := s.sourceTarget (s.prm 0x0603 0 0 q) f1.host }

/-- One tick of a follower (R150 to R153). -/
def State.followTick (s : State) (f : Follower) (q : Nat) : Follower := (s.retarget f q).step

/-- The bays of the list weighted by rating: the sum of x × rating over the sum of ratings, none where that is 0. -/
def State.weighted (s : State) (bs : List Nat) (f : Nat → Int) : Option Int :=
  let tot := sumN (bs.map (fun b => s.vllOf b * s.irOf b))
  if tot = 0 then none else some (divRne (sumI (bs.map (fun b => f b * ((s.vllOf b * s.irOf b : Nat) : Int)))) tot)

/-- A mean of a kept list, 0 where it is empty. -/
def meanOf (l : List Int) : Int := if l = [] then 0 else divRne (sumI l) l.length

/-- The enabled bays in GFM mode (R155). -/
def State.gfmBays (s : State) : List Nat := s.allBays.filter (fun b => s.bayMode b == 2 && s.md.bayLive b)

/-- The nominal frequency in mHz. -/
def State.f0mHz (s : State) : Nat := s.prm 0x0301 0 6 0

/-- The grid's positive-sequence magnitude in pu of a bay's base, Q2.22 (R540). -/
def State.vBar (s : State) (b : Nat) : Int := s.primaryToPu b s.tb.vbar

/-- The virtual machine's start (R155). -/
def State.vmStart (s : State) (b : Nat) : VirtMachine :=
  let e := s.vBar b
  { running := true
    theta := divRne ((s.tb.idx : Int) * 2 ^ 60) 800
    w := ratRne (s.tb.freq / s.nominal * (2 ^ 60 : Nat))
    e := (if 2 * e < 4194304 then s.prmI 0x0603 0 5 0 else e) * 2 ^ 38 }

/-- The virtual machine's angle advances at the *w* held (R155, R177). -/
def VirtMachine.turn (v : VirtMachine) : VirtMachine := { v with theta := (v.theta + divRne v.w 800) % 2 ^ 60 }

/-- One advance of the virtual machine (R155), each of its terms rounded at 60 fractional bits (DESIGN CHOICE, log 129). While a grid-sense voltage is invalid its power terms, and so *w* and *e*, hold zero increment (R178, log 92). -/
def State.vmTick (s : State) (v : VirtMachine) (yP yQ : Int) : VirtMachine :=
  if s.vInvalid then v.turn else
  let one : Int := 2 ^ 60
  let f0 : Int := s.f0mHz
  let dw := v.w - one
  let pErr := yP * 2 ^ 30 - meanOf v.pHist * 2 ^ 38 - divRne (dw * 4194304) (s.prmI 0x0603 0 3 0) - divRne (dw * s.prmI 0x0603 0 4 0) 4194304
  let w := clampI (divRne (45000 * one) f0) (divRne (65000 * one) f0) (v.w + divRne (pErr * 1000000) (2 * s.prm 0x0603 0 2 0 * 800 * f0))
  let droop := divRne (s.prmI 0x0603 0 6 0 * (meanOf v.qHist * 2 ^ 38 - yQ * 2 ^ 30)) 4194304
  let e := v.e + divRne (s.prmI 0x0603 0 5 0 * 2 ^ 38 - droop - v.e) (800 * s.prm 0x0603 0 7 0)
  ({ v with w := w, e := e }).turn

/-- CE0 to CE11 (R156). -/
def State.ceOutputs (s : State) (p q : Follower) (v : VirtMachine) : List Int :=
  let lead : Int := s.prm 0x0603 0 8 0
  let three := [0, 1, 2]
  let formed := three.map (fun (k : Int) =>
    if v.running then satQ22 (shrRne (v.e * sinTurn (v.theta * 2400 + (3 * lead - 800 * k) * 2 ^ 60) (2400 * 2 ^ 60)) 148) else 0)
  let grid := three.map (fun (k : Int) => satQ22 (gTo 22 (sinTurn (3 * ((s.tb.idx : Int) + lead) - 800 * k) 2400)))
  formed ++ grid ++ [satQ22 (shrRne p.out 8), satQ22 (shrRne q.out 8), if v.running then satQ22 (shrRne (v.w - 2 ^ 60) 38) else 0,
    satQ22 (meanOf s.ce.pHist), satQ22 (meanOf s.ce.qHist), if p.fallback then one22 else 0]

/-- The plant loops; in a tick that stage 5 missed for a bay the followers take their targets and do not move, and of the virtual machine only the angle moves (R143, R151, R177). -/
def State.plantLoops (s : State) : State :=
  let c := s.ce
  if c.missNext ≠ [] then
    { s with ce := { c with p := s.retarget c.p 0, q := s.retarget c.q 1, sets := c.sets.filter (fun x => !decide (x.tick < s.absTick)),
                            vm := if c.vm.running then c.vm.turn else c.vm } } else
  let p := s.followTick c.p 0
  let q := s.followTick c.q 1
  let v := match s.gfmBays with
    | [] => ({} : VirtMachine)
    | b :: _ => if c.vm.running then s.vmTick c.vm p.out q.out else s.vmStart b
  { s with ce := { c with p := p, q := q, sets := c.sets.filter (fun x => !decide (x.tick < s.absTick)), vm := v, out := s.ceOutputs p q v } }

/-! ### Bay measurements (R157) -/

/-- A bay's active and reactive power of the tick, Q10.22. -/
def State.bayPower (s : State) (b : Nat) : Int × Int :=
  let v := fun k => (s.bayCtl b).vg.getD k 0
  let i := fun k => (s.pierCtl (3 * b + k)).im
  let p := v 0 * i 0 + v 1 * i 1 + v 2 * i 2
  let q := (v 1 - v 2) * i 0 + (v 2 - v 0) * i 1 + (v 0 - v 1) * i 2
  (satS 32 (divRne (2 * p) (3 * 4194304)), satS 32 (shrRne (2 * q * gOne * gOne / (3 * gSqrt3)) 132))

/-- The bay's measurement joins its means; it holds while a voltage is invalid or a current stale (R178). The amplitude of the latest tick in which every channel was valid is the one held: DESIGN CHOICE (log 91), a second channel that goes invalid while one already is leaves it; R178 speaks of one channel only. -/
def State.measureBay (s : State) (b : Nat) (x : BayCtl) : BayCtl :=
  let x1 := { x with vBad := s.vInvalid, vHeld := if s.vInvalid then x.vHeld else s.vBar b }
  if s.vInvalid ∨ s.ce.missNext.contains b ∨ s.bayStale b then x1 else
  let pq := s.bayPower b
  let ph := (pq.1 :: x.pHist).take 800
  let qh := (pq.2 :: x.qHist).take 800
  { x1 with pHist := ph, qHist := qh, pMeas := meanOf ph, qMeas := meanOf qh }

/-- A bay that has fitted courses (R28). -/
def State.fitted (s : State) (b : Nat) : Bool := (s.xp.act.row 0x0702 b 0).any (fun w => w != 0)

/-- The mean active and reactive power of some bays goes on with the tick, unless a voltage is invalid or a current of one of them is stale (R178). -/
def State.pushPowers (s : State) (bs : List Nat) (h : List Int × List Int) : List Int × List Int :=
  if s.vInvalid || bs.any s.bayStale then h else
  let push := fun (l : List Int) (x : Option Int) => (x.getD 0 :: l).take 800
  (push h.1 (s.weighted bs (fun b => (s.bayCtl b).pHist.headD 0)), push h.2 (s.weighted bs (fun b => (s.bayCtl b).qHist.headD 0)))

/-- A grid-sense phase current is invalid (R110). -/
def State.iInvalid (s : State) : Bool := s.gsBad 4 || s.gsBad 5 || s.gsBad 6

/-- Every bay's measurement, the virtual machine's powers over the GFM bays, and the plant's over the fitted ones, which an invalid current channel of either kind holds (R155, R156, R178, log 86). -/
def State.measure (s : State) : State :=
  let s1 := { s with ce := { s.ce with bays := iter s.nBays (fun b (t : Tab BayCtl) => tset {} t b (s.measureBay b (tget {} t b))) s.ce.bays } }
  let c := s1.ce
  let m := s1.pushPowers s1.gfmBays (c.vm.pHist, c.vm.qHist)
  let w := if s1.iInvalid then (c.pHist, c.qHist) else s1.pushPowers (s1.allBays.filter s1.fitted) (c.pHist, c.qHist)
  { s1 with ce := { c with pHist := w.1, qHist := w.2, vm := if c.vm.running then { c.vm with pHist := m.1, qHist := m.2 } else c.vm } }

/-! ### Limit loops (R164 to R167) -/

/-- The bay's direction of the previous tick: 0 both, 1 discharge, 2 charge; both in the first tick after a mode change or a resume (R166). -/
def State.direction (s : State) (b : Nat) : Nat := if (s.bayCtl b).idValid then (s.bayCtl b).dir else 0

/-- The direction a tick ends with, from a quantity in 1/`unit` of a Q2.22 step: beyond 0.02 pu (R166). -/
def directionOf (x : Int) (unit : Int) : Nat := if 4194304 * unit < x * 50 then 1 else if x * 50 < -(4194304 * unit) then 2 else 0

/-- The normalised error of loop `code` (R165), Q10.22. -/
def State.limitError (s : State) (p code : Nat) : Int :=
  let b := p / 3
  let lim := s.cePrm b 10 (code - 2)
  let span := s.cePrm b 11 (code - 2)
  let g := tget {} s.rc.piers p
  let l := tget {} s.ld.piers p
  let q := fun (num den : Int) => satS 32 (divRne (num * 4194304) den)
  match code with
  | 2 => q (lim * 65536 - g.hiV * 5000) (65536 * span)
  | 3 => q (g.loV * 5000 - lim * 65536) (65536 * span)
  | 4 => q (lim - g.hiCore) span
  | 5 => q (deg40 lim - s.reactorHot p) (deg40 span)
  | 6 => q (lim - l.peak) span
  | 7 => q (lim - (l.bias.natAbs : Int)) span
  | _ => q (s.limit22 p - (((s.pierCtl p).vHist.map Int.natAbs).foldl Nat.max 0 : Nat) - lim) span

/-- PIER_CURRENT's permitted magnitude (R164). -/
def State.pierCap (s : State) (p : Nat) : Int :=
  let g := tget {} s.rc.piers p
  let d := s.direction (p / 3)
  let f := if d = 1 then g.limDis else if d = 2 then g.limChg else Nat.min g.limDis g.limChg
  let cap := s.cePrm (p / 3) 9 0
  if cap < (f : Int) * 32768 then cap else (f : Int) * 32768

/-- A loop that applies takes part in the minimum (R164, R166). -/
def State.loopApplies (s : State) (b code : Nat) : Bool :=
  match code with
  | 2 => s.direction b != 1
  | 3 => s.direction b != 2
  | 6 => s.transformer b
  | 7 => s.transformer b
  | _ => true

/-- The limit loops of a pier: their new states, and the permitted magnitudes with their codes (R164 to R167). -/
def State.pierLimits (s : State) (p : Nat) (c : PierCtl) : PierCtl × List (Int × Nat) :=
  let b := p / 3
  let a : Int := if s.pierRuns p then divRne (s.bayCtl b).a 800 else 0
  let top := clampI 0 8384414 (a + s.cePrm b 12 0)
  let rs := c.limits.zipIdx.map (fun e =>
    let code := e.2 + 2
    let r := e.1.run (s.law b (code + 2)) (s.limitError p code)
    let v := clampI 0 top r.1
    (v, code, if v = r.1 then r.2 else r.2.refer (s.law b (code + 2)) v))
  let ms := (s.pierCap p, 1) :: (rs.filter (fun e => s.loopApplies b e.2.1)).map (fun e => (e.1, e.2.1))
  ({ c with limits := rs.map (fun e => e.2.2), perm := (ms.map (fun e => e.1)).foldl (fun x y => if y < x then y else x) 8388607 }, ms)

/-- The lowest of (magnitude, code, pier), the lower code first, then the lower pier (R167). -/
def lowest (l : List (Int × Nat × Nat)) : Int × Nat × Nat :=
  l.foldl (fun a e => if e.1 < a.1 ∨ (e.1 = a.1 ∧ (e.2.1 < a.2.1 ∨ (e.2.1 = a.2.1 ∧ e.2.2 < a.2.2))) then e else a) (8388607, 15, 3)

/-! ### Outer loops (R157, R158, R168, R169) -/

/-- The active command (R157), Q10.22. -/
def State.pCommand (s : State) (b : Nat) : Int :=
  let d := s.tb.freq - s.nominal
  let db : Rat := (s.prm 0x0601 b 4 0 : Rat) / 1000
  let ex : Rat := if db < d then d - db else if d < -db then d + db else 0
  let mf : Rat := (s.prm 0x0603 0 3 0 : Rat) / 4194304
  satS 32 (ratRne ((s.cePrm b 2 0 * s.ce.p.out : Int) / (1073741824 : Rat) - ex / (mf * s.nominal) * 4194304))

/-- The reactive command (R157), Q10.22. -/
def State.qCommand (s : State) (b : Nat) : Int :=
  let w : Rat := (s.cePrm b 2 0 * s.ce.q.out : Int) / (1073741824 : Rat)
  let v : Rat := if s.cePrm b 3 0 = 1 then ((s.cePrm b 3 1 - s.vBar b : Int) : Rat) * 4194304 / (s.cePrm b 3 2) else 0
  satS 32 (ratRne (w + v))

/-- What the outer loops and the arbitration of a bay give. -/
structure Outer where
  bay : BayCtl
  refs : List Int
deriving DecidableEq, Repr

/-- Towards 0 by `st`. -/
def rampZero (x : Int) (st : Nat) : Int := if x.natAbs ≤ st then 0 else if 0 < x then x - st else x + st

/-- Reduce (i_d, i_q) to magnitude `a` by priority (R168); all in 1/800 of a Q2.22 step. -/
def reduce (prio : Nat) (id iq a mag : Int) : Int × Int :=
  if mag ≤ a then (id, iq)
  else if prio = 0 then (if mag = 0 then (0, 0) else (divRne (id * a) mag, divRne (iq * a) mag))
  else
    let first := fun x => clampI (-a) a x
    let rest := fun (x y : Int) => let m : Int := isqrtNear (a * a - y * y).toNat; clampI (-m) m x
    if prio = 1 then (let d := first id; (d, rest iq d)) else (let q := first iq; (rest id q, q))

/-- A pier's destination value under the stop scale (R341). -/
def State.destValue (s : State) (p : Nat) : Int := divRne ((tget {} s.xp.dests p).out * s.stopScale) 8000

/-- The applied magnitude under the stop scale (R341). -/
def State.scaled (s : State) (a : Int) : Int := divRne (a * s.stopScale) 8000

/-- A GFL bay (R157, R158, R168, R169): *A* and a ramp to 0 go on from their own previous values, and the stop scale acts on what is applied (R341); of the laws, one whose current was reduced is referred back (R147). DESIGN CHOICE (log 128): where a FREE period ends before the ramp has reached 0, the currents rise from the value reached. -/
def State.outerGfl (s : State) (b : Nat) (x : BayCtl) (ap : Int) : Outer :=
  let r := s.prm 0x0603 0 1 0
  let free := s.tb.target = .free
  let pc := s.pCommand b
  let qc := s.qCommand b
  let vm : Int := let v := s.vBar b; if v < 2097152 then 2097152 else v
  let hold : Bool := s.vInvalid || decide (s.tb.target = .free)
  let rp := if hold then (x.pLaw.held (s.law b 1), x.pLaw) else x.pLaw.run (s.law b 1) (satS 32 (pc - x.pMeas))
  let rq := if hold then (x.qLaw.held (s.law b 2), x.qLaw) else x.qLaw.run (s.law b 2) (satS 32 (qc - x.qMeas))
  let fp := satS 32 (divRne (pc * 4194304) vm)
  let fq := satS 32 (divRne (qc * 4194304) vm)
  let id := if free then rampZero x.id r else satQ22 (fp + rp.1) * 800
  let iq := if free then rampZero x.iq r else satQ22 (fq + rq.1) * 800
  let mag : Int := isqrtNear (id * id + iq * iq).toNat
  let c := if mag ≤ x.c + r then mag else x.c + r
  let a0 := if c ≤ ap * 800 then c else ap * 800
  let a := if a0 ≤ x.a + r then a0 else x.a + r
  let own := reduce (s.prm 0x0601 b 1 0) id iq a mag
  let red := reduce (s.prm 0x0601 b 1 0) id iq (s.scaled a) mag
  let refs := (List.range 3).map (fun k =>
    let p := 3 * b + k
    if s.pierRuns p then
      clampI (-ap) ap (satQ22 (divRne (red.1 * sinTurn (s.pierAngle p) 2400 - red.2 * cosTurn (s.pierAngle p) 2400) (800 * gOne) + s.destValue p))
    else 0)
  { bay := { x with
      pLaw := if red.1 != id && !hold then rp.2.refer (s.law b 1) (satS 32 (divRne red.1 800 - fp)) else rp.2
      qLaw := if red.2 != iq && !hold then rq.2.refer (s.law b 2) (satS 32 (divRne red.2 800 - fq)) else rq.2
      id := own.1, iq := own.2, idValid := true, dir := directionOf red.1 800, c := c, a := a }
    refs := refs }

/-- A GFM bay (R159). -/
def State.outerGfm (s : State) (b : Nat) (x : BayCtl) (ap : Int) : Outer :=
  let kv : Int := s.prm 0x0601 b 8 0
  let rv := s.cePrm b 8 1
  let raw := (List.range 3).map (fun k =>
    let p := 3 * b + k
    let i := (s.pierCtl p).istar
    if s.pierRuns p then satQ22 (shrRne (i * 2 ^ 46 + kv * ((s.destValue p - s.vEst p) * 4194304 - rv * i)) 46) else 0)
  let c : Int := ((raw.map Int.natAbs).foldl Nat.max 0 : Nat)
  let a := if c ≤ ap then c else ap
  { bay := { x with idValid := true, dir := directionOf x.pMeas 1, id := 0, iq := 0, c := c * 800, a := a * 800 }
    refs := raw.map (clampI (-(s.scaled a)) (s.scaled a)) }

/-! ### The voltage command (R160 to R163, R177) -/

/-- The zero-sequence term (R162). -/
def State.zeroSeq (s : State) (b : Nat) : Int :=
  satQ22 (shrRne (shrRne (s.cePrm b 5 0 * (s.bayCtl b).eb * sinTurn (3 * ((s.tb.idx : Int) + 1)) 800) 22) 110)

/-- The DC correction of a pier: its output and its new state (R163). -/
def State.dcTerm (s : State) (p : Nat) (c : PierCtl) : Int × LawState :=
  let b := p / 3
  if ¬ s.transformer b then (0, c.dc) else
  let l := tget {} s.ld.piers p
  let r := if l.hold then (c.dc.held (s.law b 3), c.dc) else c.dc.run (s.law b 3) (-l.bias)
  let v := clampI (-41943) 41943 r.1
  (v, if v = r.1 ∨ l.hold then r.2 else r.2.refer (s.law b 3) v)

/-- A command leaves stage 5: the previous ones shift, the volts of stage 6, the magnitudes of HEADROOM (R160, R164). -/
def State.setCommand (s : State) (p : Nat) (c : PierCtl) (v : Int) : PierCtl :=
  { c with vPrev := c.v, v := v, u := s.puToVolts (p / 3) v, vHist := (((v.natAbs : Nat) : Int) :: c.vHist).take 400, live := s.liveLimit p }

/-- The command of a modulating pier in step 6: new state, and whether the clamp acted (R160). -/
def State.composePier (s : State) (p : Nat) (c : PierCtl) (istar use : Int) : PierCtl × Bool :=
  let b := p / 3
  let r := c.inner.run (s.law b 0) (satS 32 (istar - use))
  let dc := s.dcTerm p c
  let kl : Int := s.prm 0x0601 b 7 0
  let v := shrRne (r.1 * 2 ^ 24 + s.cePrm b 6 0 * s.vEst p * 4 + kl * (istar - c.istar) + (s.zeroSeq b + dc.1) * 2 ^ 24) 24
  let lim := s.limit22 p
  let v' := clampI (-lim) lim v
  let c1 := { c with inner := if v' = v then r.2 else r.2.refer (s.law b 0) (satS 32 (r.1 + v' - v)), dc := dc.2, istar := istar }
  (s.setCommand p c1 v', v' != v)

/-- The command of a pier under synchronisation, and whether the clamp acted (R180, R336). -/
def State.syncPier (s : State) (p : Nat) (c : PierCtl) : PierCtl × Bool :=
  let ramp := s.prm 0x0103 0 1 0 * 800
  let t := match s.st.sync with | some y => Nat.min ramp y.ticks | none => 0
  let lim := s.limit22 p
  let raw := if ramp = 0 then s.vEst p else divRne (s.vEst p * t) ramp
  let v := clampI (-lim) lim raw
  (s.setCommand p { c with inner := c.inner.clear, istar := 0 } v, v != raw)

/-- A pier that does not modulate (R179). -/
def State.restPier (s : State) (p : Nat) (c : PierCtl) : PierCtl := s.setCommand p { c with inner := c.inner.clear, istar := 0 } 0

/-- A missed tick (R177), and whether the clamp acted; a pier that does not modulate rests as in any tick (R179). -/
def State.missPier (s : State) (p : Nat) (c : PierCtl) (first : Bool) : PierCtl × Bool :=
  let lim := s.limit22 p
  let raw := if first then c.v + (c.v - c.vPrev) else c.v
  let v := clampI (-lim) lim raw
  if s.pierRuns p then (s.setCommand p c v, v != raw) else (s.restPier p c, false)

/-! ### A bay in stage 5 -/

/-- The fundamental of the bay's positive-sequence command grows by the tick (R162). -/
def State.ebTick (s : State) (b : Nat) (x : BayCtl) : BayCtl :=
  let part := fun (f : Int → Nat → Int) => sumI ((List.range 3).map (fun k => (s.pierCtl (3 * b + k)).v * gTo 30 (f (3 * ((s.tb.idx : Int) + 1) - 800 * (k : Int)) 2400)))
  { x with ebSin := x.ebSin + part sinTurn, ebCos := x.ebCos + part cosTurn }

/-- *E*_b at a cycle boundary (R162). -/
def BayCtl.ebCycle (x : BayCtl) : BayCtl :=
  { x with eb := satQ22 (sqrtNear ((x.ebSin * x.ebSin + x.ebCos * x.ebCos).toNat * 4) (2400 * 2400 * 2 ^ 60)), ebSin := 0, ebCos := 0 }

/-- The winner of the tick joins the window and the flags (R134, R139, R170, R171). -/
def BayCtl.publish (x : BayCtl) (code pier : Nat) (slewing standby : Bool) (low : Option (Int × Nat × Nat)) : BayCtl :=
  let w := { x.win with won := tmod 0 x.win.won code (incSat 16), ticks := incSat 16 x.win.ticks, slewing := x.win.slewing || slewing, standby := x.win.standby || standby }
  let w1 := match low with
    | some l => if l.1 < w.lowA then { w with lowA := l.1, lowCode := l.2.1, lowPier := l.2.2 } else w
    | none => w
  { x with code := code, pier := pier, changed := code != x.code || pier != x.pier, limited := x.limited || (decide (1 ≤ code) && decide (code ≤ 8)), win := w1 }

/-- Replace a bay's three piers and the bay. -/
def State.putBay (s : State) (b : Nat) (x : BayCtl) (c0 c1 c2 : PierCtl) : State :=
  { s with ce := { s.ce with bays := tset {} s.ce.bays b x,
                             piers := tset {} (tset {} (tset {} s.ce.piers (3 * b) c0) (3 * b + 1) c1) (3 * b + 2) c2 } }

/-- Stage 5 of one bay (R143). -/
def State.controlBay (s : State) (b : Nat) : State :=
  let x := s.bayCtl b
  let ps := (List.range 3).map (fun k =>
    let c := s.pierCtl (3 * b + k)
    if s.ce.missNext.contains b then (s.missFeedback (3 * b + k) c, c.im, false) else s.plumbPier (3 * b + k) c)
  let decl := (ps.filter (fun e => e.2.2)).length
  let x0 := { x with declared := satU 32 (x.declared + decl) }
  let touch := fun (s : State) => { s with ld := { s.ld with piers := iter 3 (fun k (t : Tab PierLoad) =>
    let e := ps.getD k ({}, 0, false)
    let c := s.pierCtl (3 * b + k)
    if e.2.2 || e.1.model || c.imStale || s.vInvalid || c.suspended s.absTick then tmod {} t (3 * b + k) (fun l => { l with touched := true }) else t) s.ld.piers } }
  let runs := s.bayRuns b
  if s.bayMisses b then
    let cs := (List.range 3).map (fun k => s.missPier (3 * b + k) (ps.getD k ({}, 0, false)).1 (x.misses == 0))
    let clamped := cs.any (fun e => e.2)
    let c := fun (k : Nat) => (cs.getD k ({}, false)).1
    let s1 := (touch s).putBay b x0 (c 0) (c 1) (c 2)
    let x1 := { s1.ebTick b (s1.bayCtl b) with misses := if runs then Nat.min 2 (x.misses + 1) else 0, clamps := satU 32 (x.clamps + bit clamped) }
    let s2 := s1.putBay b (x1.publish (if runs then 14 else 15) 3 s.tb.slewing (s.inStandby b) none) (c 0) (c 1) (c 2)
    { s2 with ce := { s2.ce with copeClamp := s2.ce.copeClamp || clamped } }
  else
    let ls := (List.range 3).map (fun k => s.pierLimits (3 * b + k) (ps.getD k ({}, 0, false)).1)
    let part := (List.range 3).filter (fun k => s.pierRuns (3 * b + k) || !runs)
    let low := lowest ((part.map (fun k => (ls.getD k ({}, [])).2.map (fun e => (e.1, e.2, k)))).flatten)
    let ap := low.1
    let x1 := { x0 with ap := ap, misses := 0 }
    let live := runs && !s.syncingBay b
    let o : Outer :=
      if ¬ live then { bay := { x1 with id := 0, iq := 0, idValid := false, dir := 0, c := 0, a := 0 }, refs := [0, 0, 0] }
      else if s.bayMode b = 1 then s.outerGfl b x1 ap else s.outerGfm b x1 ap
    let cs := (List.range 3).map (fun k =>
      let p := 3 * b + k
      let c := (ls.getD k ({}, [])).1
      if ¬ s.pierRuns p then (s.restPier p c, false)
      else if s.syncingBay b then s.syncPier p c
      else s.composePier p c (o.refs.getD k 0) (ps.getD k ({}, 0, false)).2.1)
    let clamped := cs.any (fun e => e.2)
    let c := fun (k : Nat) => (cs.getD k ({}, false)).1
    let s1 := (touch s).putBay b o.bay (c 0) (c 1) (c 2)
    let x2 := { s1.ebTick b o.bay with clamps := satU 32 (x.clamps + bit clamped) }
    let win := if ¬ runs then (15, 3) else if o.bay.c ≤ ap * 800 then (0, 3) else (low.2.1, low.2.2)
    let s2 := s1.putBay b (x2.publish win.1 win.2 s.tb.slewing (s.inStandby b) (some low)) (c 0) (c 1) (c 2)
    { s2 with ce := { s2.ce with copeClamp := s2.ce.copeClamp || clamped } }

/-! ### Flywheel targets and the drive table (10 R304, R308) -/

/-- The flywheel's scale in 1/8,000 (R308, R341). -/
def State.flyScale (s : State) : Nat := if s.rd.ramp then 8000 - s.rd.rampTicks else 8000

/-- The flywheel's target of a pier in volts (R308). -/
def State.flyTarget (s : State) (p : Nat) : Int :=
  let b := p / 3
  let lim := s.puToVolts b (s.limit22 p)
  clampI (-lim) lim (satS 32 (s.puToVolts b (satQ22 (s.vHat p)) + divRne ((tget none s.rd.drive (p * 800 + s.tb.idx)).getD 0 * s.flyScale) 8000))

/-- Each tile's drive table takes the tick's targets (R308). -/
def State.driveTick (s : State) : State :=
  { s with rd := { s.rd with drive := iter (3 * s.nBays) (fun p (t : Tab (Option Int)) =>
      if s.pierRuns p then tset none t (p * 800 + s.tb.idx) (some (satS 32 ((s.pierCtl p).u - s.puToVolts (p / 3) (satQ22 (s.vHat p))))) else t) s.rd.drive } }

/-- Volts as a pu command of the bay's base, Q2.22. -/
def State.voltsToQ22 (s : State) (b : Nat) (u : Int) : Int := satQ22 (s.voltsToPu b u)

/-- One pier of a tracking keystone: its inner law takes the flywheel target, its reference the measured current (R304). -/
def State.trackPier (s : State) (p : Nat) (c : PierCtl) : PierCtl :=
  let w := s.law (p / 3) 0
  { c with inner := c.inner.refer w (satS 32 (c.inner.held w + s.voltsToQ22 (p / 3) (s.flyTarget p) - c.v)), istar := c.im }

/-- A tracking keystone's tick (R304). -/
def State.trackTick (s : State) : State :=
  { s with ce := { s.ce with piers := iter (3 * s.nBays) (fun p (t : Tab PierCtl) => if s.pierRuns p then tmod {} t p (s.trackPier p) else t) s.ce.piers } }

/-! ### Stage 5 -/

/-- What the CE registers show from the end of stage 5 on (R180, R182, R183). -/
def State.publishCe (s : State) : State :=
  let n := fun (f : Nat → Bool) => (s.allBays.filter f).length
  let lim := n (fun b => decide (1 ≤ (s.bayCtl b).code) && decide ((s.bayCtl b).code ≤ 8))
  let gfm := n (fun b => s.bayMode b == 2)
  let gfl := n (fun b => s.bayMode b == 1)
  let bays := iter s.nBays (fun b (t : Tab BayCtl) => tmod {} t b (fun x => { x with modelShown := s.ce.bayModel b })) s.ce.bays
  let c := { s.ce with winTick := s.absTick, missNext := [], nLimited := lim, nGfm := gfm, nGfl := gfl, bays := bays, plumbFloat := s.ce.plumbFloat || s.ce.floatNow, floatNow := false }
  { s with ce := { c with status := c.statusNow s.nBays } }

/-- The cycle sums of load diagnosis (R263). -/
def State.diagStage (s : State) : State :=
  { s with ld := { s.ld with piers := iter (3 * s.nBays) (fun p (t : Tab PierLoad) => tset {} t p (s.diagTick p (tget {} t p))) s.ld.piers } }

/-- CONTROL_STAGE (R143): nothing runs while no keystone is active or tracks (R307). -/
def doControlStage (s : State) : State :=
  if !s.ksRuns then s else
  let s1 := s.plantLoops.measure
  let s2 := s1.allBays.foldl State.controlBay s1
  let s3 := s2.publishCe.diagStage.fluxStage
  if s3.rd.tracking then s3.trackTick else if s3.rd.flywheel then s3 else s3.driveTick

/-! ### Commands (R435) -/

/-- The answer of CE_SETPOINT_SET (R152, R435). -/
def ceSetpointSet (quantity value rate : Nat) (s : State) : State × Ans :=
  if 1 < quantity then (s, refuseAns stRange 0x0604 255 0)
  else if signedOf 32 value ≠ satQ22 (signedOf 32 value) ∨ 8384414 < rate then (s, refuseAns stRange 0x0604 255 0)
  else if s.prm 0x0603 0 0 quantity ≠ 0 then (s, refuseAns stState 0x0604 255 0)
  else ({ s with ce := { s.ce with sets := s.ce.sets ++ [{ quantity := quantity, value := signedOf 32 value, rate := rate, tick := s.absTick }] } }, okAns)
def doCeSetpointSet (h : Hdr) (quantity value rate : Nat) (s : State) : State :=
  s.hostJ (.ceSetpointSet h quantity value rate) h 0x0604 (ceSetpointSet quantity value rate)
def execCeSetpointSet (h : Hdr) (quantity value rate : Nat) (s : State) : Host.Outcome State Fault Refusal := .next (doCeSetpointSet h quantity value rate s)

/-- The laws of a bay as CE_FLAGS_READ numbers them; a law that runs per pier shows the flags of any pier (R428, R435). -/
def State.lawStates (s : State) (b : Nat) : List (List LawState) :=
  let c := s.bayCtl b
  let ps := (List.range 3).map (fun k => s.pierCtl (3 * b + k))
  [ps.map (fun p => p.inner), [c.pLaw], [c.qLaw], ps.map (fun p => p.dc)] ++ (List.range 7).map (fun j => ps.map (fun p => p.limits.getD j {}))

/-- The answer of CE_FLAGS_READ (R435). -/
def ceFlagsRead (unit : Nat) (s : State) : State × Ans :=
  let u := checkLevel s.nBays 3 unit
  if u.1 ≠ 0 then (s, refuseAns u.1 0x0605 255 unit) else
  let ls := s.lawStates u.2.bay
  let outs := sumN (ls.zipIdx.map (fun e => b1 (e.1.any (fun q => q.outSat)) e.2))
  let secs := ls.map (fun l => sumN ((List.range 8).map (fun j => b1 (l.any (fun q => (q.secs.getD j {}).sat)) j)))
  (s, okAns (le 2 outs ++ secs ++ [0] ++ le 4 (s.bayCtl u.2.bay).clamps))
def doCeFlagsRead (h : Hdr) (unit : Nat) (s : State) : State := s.host h 0x0605 (ceFlagsRead unit)
def execCeFlagsRead (h : Hdr) (unit : Nat) (s : State) : Host.Outcome State Fault Refusal := .next (doCeFlagsRead h unit s)

/-- The answer of CE_FLAGS_CLEAR (R435): a bay, or the plant for all. -/
def ceFlagsClear (unit : Nat) (s : State) : State × Ans :=
  let u := checkUid s.nBays unit
  if u.1 ≠ 0 then (s, refuseAns u.1 0x0606 255 unit)
  else if u.2.level = 4 then ({ s with ce := { s.ce with clearDue := s.allBays } }, okAns)
  else if u.2.level = 3 then ({ s with ce := { s.ce with clearDue := s.ce.clearDue ++ [u.2.bay] } }, okAns)
  else (s, refuseAns stBadParam 0x0606 255 unit)
def doCeFlagsClear (h : Hdr) (unit : Nat) (s : State) : State := s.hostJ (.ceFlagsClear h unit) h 0x0606 (ceFlagsClear unit)
def execCeFlagsClear (h : Hdr) (unit : Nat) (s : State) : Host.Outcome State Fault Refusal := .next (doCeFlagsClear h unit s)

/-- The flags of a bay are cleared at the end of the tick (R146). -/
def State.clearBayFlags (s : State) (b : Nat) : State :=
  let x := s.bayCtl b
  let f := fun (c : PierCtl) => { c with inner := c.inner.clearFlags, dc := c.dc.clearFlags, limits := c.limits.map LawState.clearFlags }
  s.putBay b { x with pLaw := x.pLaw.clearFlags, qLaw := x.qLaw.clearFlags } (f (s.pierCtl (3 * b))) (f (s.pierCtl (3 * b + 1))) (f (s.pierCtl (3 * b + 2)))

/-- The cleared flags of a tick. -/
def State.clearCeFlags (s : State) : State :=
  let s1 := s.ce.clearDue.foldl State.clearBayFlags s
  { s1 with ce := { s1.ce with clearDue := [] } }

/-- A record of CE_WINNER_STATS, 52 bytes (R435). -/
def WinStat.bytes (w : WinStat) : List Nat :=
  le 6 w.cycle ++ [w.window, 0] ++ le 4 w.generation ++ ((List.range 16).map (fun k => le 2 (tget 0 w.won k))).flatten ++
  leS 4 w.lowA ++ [w.lowCode, w.lowPier, 0, 0]

/-- The answer of CE_WINNER_STATS (R435). -/
def ceWinnerStats (h : Hdr) (unit start max : Nat) (s : State) : State × Ans :=
  let u := checkLevel s.nBays 3 unit
  if u.1 ≠ 0 then (s, refuseAns u.1 0x0607 255 unit)
  else (s, okAns (cursor h.udp 52 start max ((s.bayCtl u.2.bay).recs.map WinStat.bytes)))
def doCeWinnerStats (h : Hdr) (unit start max : Nat) (s : State) : State := s.host h 0x0607 (ceWinnerStats h unit start max)
def execCeWinnerStats (h : Hdr) (unit start max : Nat) (s : State) : Host.Outcome State Fault Refusal := .next (doCeWinnerStats h unit start max s)

/-- The answer of CE_PLUMB_STATUS (R176, R435). -/
def cePlumbStatus (unit : Nat) (s : State) : State × Ans :=
  let u := checkLevel s.nBays 3 unit
  if u.1 ≠ 0 then (s, refuseAns u.1 0x0608 255 unit) else
  let b := u.2.bay
  let x := s.bayCtl b
  let model := sumN ((List.range 3).map (fun k => b1 (s.pierCtl (3 * b + k)).model k))
  (s, okAns (le 4 x.declared ++ le 4 x.recovered ++ le 4 x.floated ++ [model, 0, 0, 0] ++
    ((List.range 16).map (fun k => leS 4 (x.recs.getD k {}).rhoMax)).flatten))
def doCePlumbStatus (h : Hdr) (unit : Nat) (s : State) : State := s.host h 0x0608 (cePlumbStatus unit)
def execCePlumbStatus (h : Hdr) (unit : Nat) (s : State) : Host.Outcome State Fault Refusal := .next (doCePlumbStatus h unit s)

/-! ### Windows and the cycle boundary (R171) -/

/-- Turn a bay's windows: the largest ρ of its piers goes into the closing one; a swap within a cycle splits both (R134, R135). -/
def State.turnWin (s : State) (b : Nat) (cycle window generation first : Nat) (split : Bool) : State :=
  let x := s.bayCtl b
  let ps := (List.range 3).map (fun k => s.pierCtl (3 * b + k))
  let top := (ps.map (fun p => p.rhoMax)).foldl (fun a c => if a < c then c else a) 0
  let old : WinStat := { x.win with rhoMax := top, split := x.win.split || split }
  let recs := (old :: x.recs).filter (fun (r : WinStat) => decide (cycle < r.cycle + 17))
  let x1 := { x with win := { cycle := cycle, window := window, generation := generation, firstTick := first, split := split }, recs := recs, clamps := if split then x.clamps else 0 }
  let z := fun (c : PierCtl) => ({ c with rhoMax := 0 } : PierCtl)
  s.putBay b x1 (z (ps.getD 0 {})) (z (ps.getD 1 {})) (z (ps.getD 2 {}))

/-- The limit event of a cycle boundary (R171). The lists of the bays that entered and left the limited set stand in the state, since a record of R414 has no room for them; its detail carries their lengths (log 30). -/
def State.limitEvent (s : State) : State :=
  let ent := s.allBays.filter (fun b => (s.bayCtl b).limited && !(s.bayCtl b).wasLimited)
  let lft := s.allBays.filter (fun b => !(s.bayCtl b).limited && (s.bayCtl b).wasLimited)
  let s1 := { s with ce := { s.ce with bays := tmapAll {} (fun x => { x with wasLimited := x.limited, limited := false }) s.ce.bays } }
  if ent.isEmpty && lft.isEmpty then s1
  else ({ s1 with ce := { s1.ce with entered := ent, left := lft } }).raise { kind := .bayLimited, unit := plantUid, detail := ent.length * 65536 + lft.length }

end Sys2Proof.Machine
end

