-- ==== Sys2Proof/Machine/Deadlines.lean ====
section
/-! DEFINITION. Stage deadlines (02 R79 to R81). -/

namespace Sys2Proof.Machine
open Sys2Proof

/-- The tile that works for a bay: its own, or the neighbour that carries it. -/
def State.workTile (s : State) (b : Nat) : Nat := if (s.tile (tileOf b)).phase = .out then neighbour (tileOf b) else tileOf b

/-- The bays that a stage's units lie in: stage 1 takes bays 0 to 143 and courses from 144, stage 2 positions, stage 6 piers 0 to 431 and courses from 432. -/
def missBays (stage : Nat) (units : List Nat) : List Nat :=
  (match stage with
   | 1 => units.map (fun u => if u < 144 then u else (u - 144) / 384)
   | 2 => units.map posBay
   | 6 => units.map (fun u => if u < 432 then u / 3 else (u - 432) / 384)
   | _ => []).eraseDups

/-- The tiles or the keystone whose work missed. -/
def State.missUnits (s : State) (stage : Nat) (units : List Nat) : List Nat :=
  if stage = 3 ∨ stage = 4 ∨ stage = 5 then [12 + s.rd.active] else ((missBays stage units).map s.workTile).eraseDups

/-- A counter of R81 rises; at its limit its saturation flag sets. -/
def Timebase.countMiss (t : Timebase) (stage unit : Nat) : Timebase :=
  let n := tget 0 t.missCount (stage * 64 + unit)
  { t with missCount := tset 0 t.missCount (stage * 64 + unit) (incSat 32 n), missSat := if n + 1 < pow32 - 1 then t.missSat else tset false t.missSat (stage * 64 + unit) true }

/-- A bay's counter, stages 1 and 6. -/
def Timebase.countMissBay (t : Timebase) (stage b : Nat) : Timebase :=
  let n := tget 0 t.missBay (stage * 256 + b)
  { t with missBay := tset 0 t.missBay (stage * 256 + b) (incSat 32 n), missSat := if n + 1 < pow32 - 1 then t.missSat else tset false t.missSat (4096 + stage * 256 + b) true }

/-- The counters and what the tick's one event will name (R81). -/
def State.countMisses (s : State) (stage : Nat) (units : List Nat) : State :=
  let us := s.missUnits stage units
  let t1 := us.foldl (fun (t : Timebase) u => t.countMiss stage u) s.tb
  let t2 := if stage = 1 ∨ stage = 6 then (missBays stage units).foldl (fun (t : Timebase) b => t.countMissBay stage b) t1 else t1
  let now := (s.tb.missNow.1 ||| 2 ^ stage, us.foldl (fun (m : Nat) u => m ||| 2 ^ u) s.tb.missNow.2)
  { s with tb := if stage = 3 then { t2 with missLatch := true } else { t2 with missNow := now } }

/-- What the coming stage drops (R79): its fallback is that stage's own. -/
def State.dropWork (s : State) (stage : Nat) (units : List Nat) : State :=
  match stage with
  | 1 =>
    let cs := (units.filter (fun u => decide (144 ≤ u))).map (fun u => u - 144)
    let bs := units.filter (fun u => decide (u < 144))
    { s with lk := { s.lk with missNext := s.lk.missNext ++ units }
             rc := { s.rc with delivered := s.rc.delivered.filter (fun c => !cs.contains c) }
             ce := { s.ce with piers := bs.foldl (fun (t : Tab PierCtl) b => iter 3 (fun k (t : Tab PierCtl) => tmod {} t (3 * b + k) (fun c => { c with imStale := true })) t) s.ce.piers } }
  | 2 => { s with rc := { s.rc with missNext := s.rc.missNext ++ units } }
  | 3 => { s with sp := { s.sp with latchMiss := s.sp.latchMiss ++ units.filter (fun u => decide (u < 40)), gsLatchMiss := s.sp.gsLatchMiss || units.any (fun u => decide (40 ≤ u)) } }
  | 4 => { s with xp := { s.xp with missNext := s.xp.missNext ++ units } }
  | 5 => { s with ce := { s.ce with missNext := s.ce.missNext ++ units } }
  | 6 => { s with md := { s.md with missPiers := s.md.missPiers ++ units.filter (fun u => decide (u < 432)),
                                    missCourses := s.md.missCourses ++ (units.filter (fun u => decide (432 ≤ u))).map (fun u => u - 432) } }
  | _ => s

/-- STAGE_DEADLINE_MISS (R79): told before the stage's own step, which then takes the fallback for these units. -/
def doStageDeadlineMiss (stage : Nat) (units : List Nat) (s : State) : State :=
  if units = [] ∨ ¬ s.tb.running then s else (s.countMisses stage units).dropWork stage units
def execStageDeadlineMiss (stage : Nat) (units : List Nat) (s : State) : Host.Outcome State Fault Refusal :=
  if stage = 0 ∨ 6 < stage ∨ (missBays stage units).any (fun b => decide (s.nBays ≤ b)) then .fault .noSuchUnit else .next (doStageDeadlineMiss stage units s)

/-! ### The tick's one deadline event (R81, R537) -/

/-- The record as it stands after merging. -/
def MissRec.rec' (m : MissRec) : EvRec := { code := EvKind.deadline.code, rep := m.rep, tick := m.first, stamp := m.stamp, unit := noUnit, detail := m.stages + m.units * 65536 }

/-- Rewrite a merged event where it is kept. -/
def State.rewriteMiss (s : State) (m : MissRec) : State :=
  let r := m.rec'
  let seq := incWrap 32 s.ev.seq
  { s with
    tb := { s.tb with missLast := some m }
    ev := { s.ev with seq := seq, last := { r with seq := seq } }
    hs := { s.hs with slots := tmapAll {} (fun (x : Slot) => { x with events := x.events.map (fun e =>
      if e.code == r.code && e.tick == r.tick && e.detail == r.detail then { e with rep := r.rep } else e) }) s.hs.slots } }

/-- At the tick's end: one event for the stages that missed in it, merged with the preceding tick's where their content is the same. -/
def State.missEvent (s : State) : State :=
  let now := s.tb.missNow
  let s1 := { s with tb := { s.tb with missNow := if s.tb.missLatch then (8, 2 ^ (12 + s.rd.active)) else (0, 0), missLatch := false } }
  if now.1 = 0 then s1
  else
    let fresh := fun (t : State) => ({ t with tb := { t.tb with missLast := some { tick := t.absTick, stages := now.1, units := now.2, first := t.absTick, stamp := t.tb.stamp, rep := 0 } } }).raise
      { kind := .deadline, unit := noUnit, detail := now.1 + now.2 * 65536 }
    match s1.tb.missLast with
    | some m => if m.tick + 1 = s1.absTick ∧ m.stages = now.1 ∧ m.units = now.2 then s1.rewriteMiss { m with tick := s1.absTick, rep := incSat 16 m.rep } else fresh s1
    | none => fresh s1

end Sys2Proof.Machine
end

