-- ==== Sys2Proof/Machine/P256.lean ====
section
/-! DEFINITION. ECDSA over P-256 (FIPS 186, SP 800-186), which the spec names by its standard: keys, signing under a nonce, verification (16 R450, R471, 17 R476, R479).
PRESUMED (log 139): the functions are taken from those standards, which the spec cites and does not restate. -/

namespace Sys2Proof.Machine
open Sys2Proof

/-- The field's prime, the order of the base point, the curve's coefficient *b*, and the base point G. -/
def p256P : Nat := 0xffffffff00000001000000000000000000000000ffffffffffffffffffffffff
def p256N : Nat := 0xffffffff00000000ffffffffffffffffbce6faada7179e84f3b9cac2fc632551
def p256B : Nat := 0x5ac635d8aa3a93e7b3ebbd55769886bc651d06b0cc53b0f63bce3c3e27d2604b
def p256G : Nat × Nat := (0x6b17d1f2e12c4247f8bce6e563a440f277037d812deb33a0f4a13945d898c296, 0x4fe342e2fe1a7f9b8ee7eb4a7c0f9e162bce33576b315ececbb6406837bf51f5)

/-- The bits of a 256-bit number, the highest first. -/
def bits256 (n : Nat) : List Bool := (List.range 256).reverse.map n.testBit

/-- A power modulo `m`; the inverse modulo a prime is the power of its order less 2. -/
def powMod (m a e : Nat) : Nat := (bits256 e).foldl (fun acc b => if b then acc * acc % m * a % m else acc * acc % m) 1
def invMod (m a : Nat) : Nat := powMod m a (m - 2)

/-- A difference in the field. -/
def fieldSub (a b : Nat) : Nat := (a + p256P - b % p256P) % p256P

/-- A point (X/Z², Y/Z³); Z = 0 is the point at infinity. -/
structure P256Point where
  x : Nat
  y : Nat
  z : Nat
deriving DecidableEq, Repr

def P256Point.infinity : P256Point := { x := 1, y := 1, z := 0 }

/-- Twice a point; the curve's *a* is −3. -/
def P256Point.double (q : P256Point) : P256Point :=
  let d := q.z * q.z % p256P
  let g := q.y * q.y % p256P
  let b := q.x * g % p256P
  let a := 3 * fieldSub q.x d * (q.x + d) % p256P
  let x := fieldSub (a * a) (8 * b)
  { x := x, y := fieldSub (a * fieldSub (4 * b) x) (8 * g * g), z := fieldSub ((q.y + q.z) * (q.y + q.z)) (g + d) }

/-- The sum of two points. -/
def P256Point.add (p q : P256Point) : P256Point :=
  if p.z = 0 then q else if q.z = 0 then p else
  let zp := p.z * p.z % p256P
  let zq := q.z * q.z % p256P
  let u := p.x * zq % p256P
  let v := p.y * zq * q.z % p256P
  let h := fieldSub (q.x * zp) u
  let r := fieldSub (q.y * zp * p.z) v
  if h = 0 then (if r = 0 then p.double else P256Point.infinity) else
  let h2 := h * h % p256P
  let h3 := h2 * h % p256P
  let x := fieldSub (r * r) (h3 + 2 * u * h2)
  { x := x, y := fieldSub (r * fieldSub (u * h2) x) (v * h3), z := h * p.z % p256P * q.z % p256P }

/-- A multiple of an affine point. -/
def P256Point.times (k : Nat) (g : Nat × Nat) : P256Point :=
  (bits256 k).foldl (fun acc b => if b then acc.double.add { x := g.1, y := g.2, z := 1 } else acc.double) P256Point.infinity

/-- The affine coordinates, of a point that is not at infinity. -/
def P256Point.affine (q : P256Point) : Nat × Nat :=
  let i := invMod p256P q.z
  (q.x * i % p256P * i % p256P, q.y * i % p256P * i % p256P * i % p256P)

/-- 32 bytes as a number, and a number as 32 bytes, big-endian (R450, R476). -/
def be32 (bs : List Nat) : Nat := bs.foldl (fun a b => a * 256 + b % 256) 0
def toBe32 (n : Nat) : List Nat := (List.range 32).map (fun i => n / 256 ^ (31 - i) % 256)

/-- The public key of a private key, X then Y; a key outside 1 to n − 1 has none (R479). -/
def p256Public (d : Nat) : Option (List Nat) :=
  if d = 0 ∨ p256N ≤ d then none else let q := (P256Point.times d p256G).affine; some (toBe32 q.1 ++ toBe32 q.2)

/-- The signature *r*, *s* of a digest under a private key, with nonce `k` (R450). -/
def ecdsaSign (d k : Nat) (digest : List Nat) : List Nat :=
  let r := (P256Point.times k p256G).affine.1 % p256N
  toBe32 r ++ toBe32 (invMod p256N k * (be32 (digest.take 32) + r * d) % p256N)

/-- A signature verifies: the key is a point of the curve, *r* and *s* are in range, and the point they give has *r* as its first coordinate (R471). -/
def ecdsaVerify (key digest sig : List Nat) : Bool :=
  let x := be32 (key.take 32)
  let y := be32 ((key.drop 32).take 32)
  let r := be32 (sig.take 32)
  let s := be32 ((sig.drop 32).take 32)
  let w := invMod p256N s
  let q := (P256Point.times (be32 (digest.take 32) * w % p256N) p256G).add (P256Point.times (r * w % p256N) (x, y))
  key.length == 64 && sig.length == 64 && decide (x < p256P) && decide (y < p256P) && decide (y * y % p256P = (x * x * x + p256B + (p256P - 3) * x) % p256P) &&
  decide (0 < r) && decide (r < p256N) && decide (0 < s) && decide (s < p256N) && q.z != 0 && decide (q.affine.1 % p256N = r)

end Sys2Proof.Machine
end

