-- ==== Sys2Proof/Machine/Crc.lean ====
section
/-! DEFINITION. The CRC of records (R223) and of lane frames (R274). -/

namespace Sys2Proof.Machine
open Sys2Proof

/-- `n` steps of a CRC-16 shifted left. -/
def crc16Bits : Nat → Nat → Nat
  | 0, c => c
  | n + 1, c => crc16Bits n (if 32768 ≤ c then Nat.xor (c * 2 % 65536) 0x1021 else c * 2)

/-- CRC-16, polynomial 0x1021, initial value 0xFFFF (R223). -/
def crc16 (bs : List Nat) : Nat := bs.foldl (fun c b => crc16Bits 8 (Nat.xor c (b % 256 * 256))) 0xFFFF

/-- `n` steps of a CRC-32 shifted right. -/
def crc32Bits : Nat → Nat → Nat
  | 0, c => c
  | n + 1, c => crc32Bits n (if c % 2 = 1 then Nat.xor (c / 2) 0xEDB88320 else c / 2)

/-- CRC-32 of IEEE 802.3 (R274). -/
def crc32 (bs : List Nat) : Nat := Nat.xor (bs.foldl (fun c b => crc32Bits 8 (Nat.xor c (b % 256))) 0xFFFFFFFF) 0xFFFFFFFF

end Sys2Proof.Machine
end

