-- ==== Sys2Proof/Machine/Records.lean ====
section
/-! DEFINITION. Brick and group records: their bytes, the states of a brick, what stage 2 does to one record, the group functions (07, 01 R42 to R44, 06 R188). -/

namespace Sys2Proof.Machine
open Sys2Proof

/-! ### Bytes (R222, R238, R457) -/

/-- State codes (R223). -/
def RecState.code : RecState → Nat
  | .absent => 0
  | .joining => 1
  | .active => 2
  | .resting => 3
  | .bypassed => 4
  | .floated => 5
  | .quarantined => 6
  | .retired => 7

/-- The state a code names (R223). -/
def RecState.ofCode (c : Nat) : RecState :=
  match c % 8 with
  | 0 => .absent
  | 1 => .joining
  | 2 => .active
  | 3 => .resting
  | 4 => .bypassed
  | 5 => .floated
  | 6 => .quarantined
  | _ => .retired

def Rec.flags (r : Rec) : Nat :=
  b1 r.stale 0 + b1 r.conflict 1 + b1 r.recalDue 2 + b1 r.sat 3 + b1 r.inserted 4 + b1 r.trim 5 + b1 r.ocvRest 6 + b1 r.window 7

/-- Bytes with their CRC behind them (R223). -/
def withCrc16 (bs : List Nat) : List Nat := bs ++ le 2 (crc16 bs)

/-- A brick record's 64 bytes; an ABSENT position delivers 62 zeros and their CRC (R222, R241). -/
def Rec.bytes (r : Rec) : List Nat :=
  if r.state = .absent then withCrc16 (List.replicate 62 0) else
  withCrc16 ([r.state.code + b1 r.ocvDir 3, r.flags] ++ le 2 r.serialCheck ++ leS 4 r.counted ++ le 2 r.socCc ++ le 2 r.socOcv ++ le 2 r.socFused ++
    le 2 r.vCell ++ leS 2 r.vRc1 ++ leS 2 r.vRc2 ++ leS 2 r.tCore ++ leS 2 r.tSurf ++ (r.zBin.map (leS 2)).flatten ++ leS 1 r.zExp ++ le 1 r.zCount ++
    le 2 r.ohmic ++ le 4 r.ahThru ++ le 4 r.switchCount ++ le 2 r.rank ++ le 1 r.limChg ++ le 1 r.limDis ++ le 2 r.lastTick ++ le 2 r.conflictAge ++ [0, 0])

/-- A snapshot entry's 32 bytes; that of an ABSENT position is all zero (R457). -/
def Rec.entry (r : Rec) : List Nat :=
  if r.state = .absent then List.replicate 32 0 else
  [r.state.code + b1 r.ocvDir 3, r.flags] ++ le 2 r.serialCheck ++ leS 4 r.counted ++ le 2 r.socCc ++ le 2 r.socOcv ++ le 2 r.socFused ++ le 2 r.vCell ++
    leS 2 r.tCore ++ leS 2 r.tSurf ++ le 2 r.ohmic ++ le 2 r.conflictAge ++ le 4 r.ahThru ++ le 3 (Nat.min r.switchCount 0xFFFFFF) ++ le 1 r.zCount

/-- A signed field of `n` bytes at `off`. -/
def getLeS (bs : List Nat) (off n : Nat) : Int := signedOf (8 * n) (getLe bs off n)

/-- A record restored from an entry (R465): the flags that last beyond a tick stand, the others start clear; a saturated switch count restores saturated. -/
def Rec.ofEntry (bs : List Nat) : Rec :=
  let f := getLe bs 1 1
  let sw := getLe bs 28 3
  { state := RecState.ofCode (getLe bs 0 1), ocvDir := (getLe bs 0 1).testBit 3, conflict := f.testBit 1, recalDue := f.testBit 2,
    sat := f.testBit 3 || sw == 0xFFFFFF, ocvRest := f.testBit 6, serialCheck := getLe bs 2 2, counted := getLeS bs 4 4, socCc := getLe bs 8 2,
    socOcv := getLe bs 10 2, socFused := getLe bs 12 2, vCell := getLe bs 14 2, tCore := getLeS bs 16 2, tSurf := getLeS bs 18 2, ohmic := getLe bs 20 2,
    conflictAge := getLe bs 22 2, ahThru := getLe bs 24 4, switchCount := if sw = 0xFFFFFF then 0xFFFFFFFF else sw, zCount := getLe bs 31 1 }

/-- Serial check of a brick serial (R222). -/
def checkOf (serial : Nat) : Nat := crc16 (le 8 serial)

/-- A new record in JOINING (R33). -/
def Rec.new (serial : Nat) : Rec := { state := .joining, serialCheck := checkOf serial }

/-! ### Group records (R238) -/

/-- The state of charge each direction uses (R236). -/
def Rec.sDis (r : Rec) : Nat := if r.conflict then Nat.min r.socCc r.socOcv else r.socFused
def Rec.sChg (r : Rec) : Nat := if r.conflict then Nat.max r.socCc r.socOcv else r.socFused

/-- The identity of every function (R238). -/
def GroupRec.ident : GroupRec := { flags := 0 }

/-- What one brick gives its course (R238); `lit`: its course is not dark (R287). -/
def Rec.group (r : Rec) (lit : Bool) : GroupRec :=
  if r.state = .absent ∨ r.state = .retired then .ident else
  let g : GroupRec := { mask := 2 ^ r.state.code, flags := r.flags, conflicts := bit r.conflict, hiSurf := r.tSurf, loSurf := r.tSurf, present := 1,
                        hiAh := r.ahThru, hiSw := r.switchCount, conducting := bit r.inserted, age := r.conflictAge }
  if r.state.available && lit then
    { g with avail := 1, loSdis := r.sDis, hiSchg := r.sChg, hiV := r.vCell, loV := r.vCell, hiCore := r.tCore, loCore := r.tCore,
             loOhm := r.ohmic, hiOhm := r.ohmic, sumOhm := r.ohmic, loZ := r.zCount, limChg := r.limChg, limDis := r.limDis }
  else g

def maxI (a b : Int) : Int := if a < b then b else a
def minI (a b : Int) : Int := if b < a then b else a

/-- The functions of R238, field by field. -/
def GroupRec.join (a b : GroupRec) : GroupRec :=
  { mask := Nat.lor a.mask b.mask, flags := Nat.lor a.flags b.flags, conflicts := satU 16 (a.conflicts + b.conflicts), avail := satU 32 (a.avail + b.avail),
    loSdis := Nat.min a.loSdis b.loSdis, hiSchg := Nat.max a.hiSchg b.hiSchg, hiV := Nat.max a.hiV b.hiV, loV := Nat.min a.loV b.loV,
    hiCore := maxI a.hiCore b.hiCore, hiSurf := maxI a.hiSurf b.hiSurf, loOhm := Nat.min a.loOhm b.loOhm, hiOhm := Nat.max a.hiOhm b.hiOhm,
    loCore := minI a.loCore b.loCore, loSurf := minI a.loSurf b.loSurf, sumOhm := satU 32 (a.sumOhm + b.sumOhm), present := satU 32 (a.present + b.present),
    loZ := Nat.min a.loZ b.loZ, hiAh := Nat.max a.hiAh b.hiAh, hiSw := Nat.max a.hiSw b.hiSw, conducting := satU 16 (a.conducting + b.conducting),
    limChg := Nat.min a.limChg b.limChg, limDis := Nat.min a.limDis b.limDis, tick := a.tick, age := Nat.max a.age b.age }

/-- A group's record over its members' fields (R42). -/
def joinAll (l : List GroupRec) : GroupRec := l.foldl GroupRec.join .ident

/-- A group record's 64 bytes, its derived fields formed (R238). -/
def GroupRec.bytes (g : GroupRec) : List Nat :=
  let some' := g.avail != 0
  withCrc16 ([g.mask, g.flags] ++ le 2 g.conflicts ++ le 4 g.avail ++ le 2 g.loSdis ++ le 2 g.hiSchg ++ le 2 (if some' then g.hiSchg - g.loSdis else 0) ++
    le 2 g.hiV ++ le 2 g.loV ++ le 2 (if some' then g.hiV - g.loV else 0) ++ leS 2 g.hiCore ++ leS 2 g.hiSurf ++ le 2 g.loOhm ++ le 2 g.hiOhm ++
    leS 2 g.loCore ++ leS 2 g.loSurf ++ le 4 g.sumOhm ++ le 4 g.present ++ [0] ++ le 1 g.loZ ++
    le 2 (if some' then Nat.min (divRne g.sumOhm g.avail).toNat 0xFFFF else 0) ++ le 4 g.hiAh ++ le 4 g.hiSw ++ le 2 g.conducting ++ le 1 g.limChg ++
    le 1 g.limDis ++ le 2 g.tick ++ le 2 g.age ++ [0, 0])

/-- The record of a group that has no entry of its own: its bay's says whether it has been formed (R43, R241). -/
def GroupRec.orEmpty (own bay : GroupRec) : GroupRec := if own ≠ {} then own else if bay ≠ {} then { GroupRec.ident with tick := bay.tick } else {}

/-! ### Parameters (R242) -/

def State.unitPrm (s : State) (b row i : Nat) : Nat := s.prm 0x0801 b row i
def State.unitInt (s : State) (b row i : Nat) : Int := s.prmI 0x0801 b row i

/-- *C*_brick in mA·s. -/
def State.cBrick (s : State) (b : Nat) : Nat := s.unitPrm b 0 0 * 36000

/-- OCV_CHG or OCV_DIS, empty while it is absent (R233). -/
def State.ocvTable (s : State) (b : Nat) (chg : Bool) : List Nat :=
  let t := ((s.xp.act.row 0x0801 b 4).drop (if chg then 0 else 65)).take 65
  if t.any (fun w => w != 0) then t else []

/-- The segment that holds code `c`: its number and its two entries (R233). -/
def ocvSeg : Nat → List Nat → Nat → Nat × Nat × Nat
  | j, lo :: hi :: r, c => if c < hi ∨ r = [] then (j, lo, hi) else ocvSeg (j + 1) (hi :: r) c
  | j, _, _ => (j, 0, 1)

/-- State of charge and slope at a voltage code (R233). -/
def ocvSoc (t : List Nat) (c : Int) : Nat × Nat :=
  if c < (t.headD 0 : Nat) then (0, 0) else if (t.getD 64 0 : Nat) < c then (0xFFFF, 0) else
  let g := ocvSeg 0 t c.toNat
  (Nat.min 0xFFFF (1024 * g.1 + (divRne (1024 * (c - (g.2.1 : Nat))) ((g.2.2 - g.2.1 : Nat) : Int)).toNat), g.2.2 - g.2.1)

/-- (a + b √2) / q to nearest. -/
def surdRound (a b q : Int) : Int :=
  if b = 0 then divRne a q else
  let n := 8 * b.natAbs * b.natAbs
  let r := Nat.sqrt n
  ((if 0 < b then (2 * a + r) / q else (2 * a - r - (if r * r = n then 0 else 1)) / q) + 1) / 2

/-! ### Transitions (R224 to R226) -/

/-- A transition that R224 allows. -/
def RecState.canGo (f t : RecState) : Bool :=
  match t with
  | .quarantined => f == .joining || f == .active || f == .resting || f == .bypassed || f == .floated
  | .floated => f == .joining || f == .active || f == .resting || f == .bypassed
  | .bypassed => f == .joining
  | .active => f == .bypassed || f == .resting
  | .resting => f == .active
  | .retired => f == .active || f == .resting || f == .bypassed
  | .joining => f == .quarantined || f == .floated
  | .absent => true

/-- A transition that is due: its place in the order of R226, its target, the quarantine cause, and whether it is cycle work. -/
structure Due where
  order : Nat
  dst : RecState
  cause : Nat := 0
  atCycle : Bool := false
deriving DecidableEq, Repr

/-- What stage 2 works on: the record, its extension, the transitions due and the events. -/
structure BrickWork where
  r : Rec
  e : Ext
  due : List Due := []
  evs : List Evt := []
deriving DecidableEq, Repr

/-- Counted charge takes a value; past its range it saturates and sets `sat` (R239). -/
def Rec.setCharge (r : Rec) (v : Int) : Rec := { r with counted := satS 32 v, sat := r.sat || decide (satS 32 v ≠ v) }

/-- The recalibration of R236. -/
def Rec.recal (r : Rec) (c : Nat) : Rec :=
  { r.setCharge (divRne (r.socOcv * c : Nat) 65536) with socCc := r.socOcv, socFused := r.socOcv, conflict := false, conflictAge := 0, recalDue := false }

/-- The joining recalibration (R234). -/
def State.joinRecal (s : State) (b : Nat) (r : Rec) (fresh : Bool) : Rec :=
  let t := s.ocvTable b false
  let r1 := { r with ocvDir := false }
  if t = [] then { r1 with recalDue := true } else
  let q := ocvSoc t r.vCell
  let trusted := decide (s.unitPrm b 5 0 ≤ q.2)
  let r2 := { r1 with socOcv := q.1, ocvRest := true }
  if fresh then { r2.setCharge (divRne (q.1 * s.cBrick b : Nat) 65536) with socCc := q.1, socFused := q.1, recalDue := r2.recalDue || !trusted }
  else if trusted then r2.recal (s.cBrick b) else { r2 with recalDue := true }

/-- Enter a state (R224, R234, R237). -/
def State.enterRec (s : State) (x : Nat) (d : Due) (w : BrickWork) : BrickWork :=
  let r1 := if d.dst = .bypassed ∧ w.r.state = .joining then s.joinRecal (posBay x) w.r w.e.fresh else w.r
  let both := w.r.state.available && d.dst.available
  let r2 := { r1 with state := d.dst, limChg := if d.dst.available then r1.limChg else 0, limDis := if d.dst.available then r1.limDis else 0 }
  let e1 := { w.e with timer := if both then w.e.timer else 0, joinRun := 0, surfSeen := w.e.surfSeen && d.dst != .joining,
                       fresh := w.e.fresh && d.dst != .bypassed, cur := { w.e.cur with whole := w.e.cur.whole && d.atCycle } }
  let evs := if d.dst = .quarantined then [({ kind := .quarantined, unit := brickUid x, detail := d.cause } : Evt)]
             else if d.dst = .retired then [({ kind := .retired, unit := brickUid x } : Evt)] else []
  { w with r := r2, e := e1, evs := w.evs ++ evs, due := [] }

/-- Of the transitions due, the first the order of R226 allows. DESIGN CHOICE (log 131): of several quarantine causes due at once the event names the one found first. -/
def State.resolve (s : State) (x : Nat) (w : BrickWork) : BrickWork :=
  match [1, 2, 3, 4, 5, 6, 7].findSome? (fun k => w.due.find? (fun d => d.order == k && w.r.state.canGo d.dst)) with
  | none => { w with due := [] }
  | some d => s.enterRec x d w

/-! ### Cycle work (R229, R234 to R236) -/

/-- One RC term (R235), in 1/16 code. -/
def rcStep (v net : Int) (r tau len : Nat) : Int :=
  let target : Rat := if len = 0 then 0 else -((r : Rat) * net * 209715200) / len
  let fac : Int := if tau = 0 then gOne else gOne - gExp (-(gFrac len (tau * 1000000000)))
  satS 16 (v + ratRne ((target - v) * fac / gOne))

/-- The work of the boundary that ended the cycle `c` (R229). -/
def State.cycleWork (s : State) (x : Nat) (c : CycleAcc) (w : BrickWork) : BrickWork :=
  let b := posBay x
  let r := w.r
  let e := w.e
  -- RC terms
  let r1 := { r with vRc1 := rcStep r.vRc1 e.net (s.unitPrm b 15 0) (s.unitPrm b 16 0) c.len,
                     vRc2 := rcStep r.vRc2 e.net (s.unitPrm b 15 1) (s.unitPrm b 16 1) c.len }
  -- state timer
  let timer := if r.state = .bypassed then (if !c.clean then 0 else if c.whole then satU 16 (e.timer + 1) else e.timer)
               else if r.state.available then (if c.conducted then 0 else if c.whole then satU 16 (e.timer + 1) else e.timer) else e.timer
  let timers : List Due :=
    (if r.state = .bypassed ∧ s.unitPrm b 12 0 ≤ timer then [{ order := 4, dst := .active, atCycle := true }] else []) ++
    (if r.state = .active ∧ s.unitPrm b 11 0 ≤ timer then [{ order := 5, dst := .resting, atCycle := true }] else []) ++
    (if (s.unitPrm b 19 0 ≠ 0 ∧ s.unitPrm b 19 0 ≤ r.ahThru) ∨ (s.unitPrm b 19 1 ≠ 0 ∧ s.unitPrm b 19 1 ≤ r.switchCount)
     then [{ order := 7, dst := .retired, atCycle := true }] else [])
  -- fusion and conflict
  let trusted := decide (s.unitPrm b 7 0 ≤ c.trusted)
  let d := ((r1.socCc : Int) - (r1.socOcv : Int)).natAbs
  let wc := s.unitPrm b 9 0
  let fused := clampI 0 0xFFFF (r1.socFused + shrRne ((r1.socOcv : Int) - r1.socFused) (s.unitPrm b 8 1))
  let starts := trusted && !r1.conflict && decide (wc < d)
  let run := if r1.conflict then (if trusted && decide (2 * d ≤ wc) then e.cleanRun + 1 else 0) else 0
  let ends := r1.conflict && run == 16
  let age := if starts then 1 else if ends then 0 else if r1.conflict then incSat 16 r1.conflictAge else r1.conflictAge
  let aged := starts || (r1.conflict && !ends && decide (r1.conflictAge < 0xFFFF))
  let stepAge := if starts then 1 else incSat 16 r1.conflictAge
  let r2 : Rec := { r1 with conflict := (r1.conflict || starts) && !ends, recalDue := r1.recalDue || starts, conflictAge := age,
                            socFused := if trusted && !r1.conflict && !starts then fused.toNat else r1.socFused }
  let late : List Evt := if aged ∧ stepAge = s.unitPrm b 10 0 then [{ kind := .conflict, unit := brickUid x, detail := stepAge }] else []
  -- rest reading at the boundary
  let t := s.ocvTable b r2.ocvDir
  let q := ocvSoc t r2.vCell
  let rest := r2.state == .resting && decide (s.unitPrm b 11 1 ≤ timer) && t != [] && decide (s.unitPrm b 5 0 ≤ q.2)
  let r3 := if rest then { r2 with socOcv := q.1, ocvRest := true } else r2
  let did := r3.recalDue && (rest || (c.zpass && trusted))
  let r4 := if did then r3.recal (s.cBrick b) else r3
  -- causes 4 and 6
  let zm := tget 0 s.rc.zMed (x / 12288)
  let zRun := if zm = 0 then e.zRun else if 0 < r.zCount ∧ s.unitPrm b 17 0 * zm < r.ohmic * 4194304 then Nat.min (e.zRun + 1) 7 else 0
  let hot : List Due := if 8 ≤ e.core then [{ order := 1, dst := .quarantined, cause := 4, atCycle := true }] else []
  let ohm : List Due := if zm ≠ 0 ∧ 4 ≤ zRun then [{ order := 1, dst := .quarantined, cause := 6, atCycle := true }] else []
  { r := r4, e := { e with net := 0, timer := timer, cleanRun := if ends ∨ did ∨ starts then 0 else run, zRun := zRun },
    due := w.due ++ timers ++ hot ++ ohm, evs := w.evs ++ late }

/-- The account of the cycle goes on, or a new one opens and the ended one waits (R229). -/
def Ext.roll (e : Ext) (now len : Nat) : Ext :=
  if e.cur.cycle = now then e
  else if (e.cur.cycle + 1) % 2 ^ 48 = now ∧ e.cur ≠ {} then
    { e with closed := e.closed ++ [{ e.cur with len := len }], cur := { cycle := now, clean := true, whole := true } }
  else { e with cur := { cycle := now, clean := true } }

/-! ### One brick's stage 2 (R228 to R237) -/

/-- What stage 2 has of one brick (R228). `cell` is the mean cell current of the tick described, positive on discharge, in pu × 2²³. -/
structure BTick where
  due : Bool
  reached : Bool
  code : Option Nat
  held : Option Held
  fault : Bool
  surf : Option (Option Int)
  cmd : Held
  cell : Rat
  changes : Nat
  role : Bool
  pulse : Bool
  /-- polarity of a FULL trim in the tick: +1 POS, −1 NEG, 0 none -/
  full : Int
  others : Bool
  /-- some pier current flowed -/
  flows : Bool
  im : Int
  recal : Bool
  release : Bool
deriving DecidableEq, Repr

/-- The brick conducts in the tick described: inserted as a whole brick, with an executed trim pulse, or floated while its pier current is not zero (R223). A brick whose report is missing is taken in its commanded state (log 41). -/
def BTick.conducts (i : BTick) : Bool :=
  match i.held.getD i.cmd with
  | .insertPos => true
  | .insertNeg => true
  | .float => i.flows
  | .bypass => i.pulse

/-- What comes of one brick's stage 2. -/
structure BOut where
  r : Rec
  e : Ext
  evs : List Evt
  updated : Bool
deriving DecidableEq, Repr

/-- The charge step in Q20.12 mA·s (R232): `cell` pu × 2²³, rated mA, periods of 0.625 ns. -/
def chargeStep (cell : Rat) (ir periods : Nat) : Int :=
  surdRound 0 (-(cell.num * ir * periods * 5)) (16384000000000 * (cell.den : Int))

/-- The accumulator and the switch residue, every tick (R230, R232). -/
def addSteps (x : Nat) (q : Int) (changes : Nat) (w : BrickWork) : BrickWork :=
  let a := w.e.acc + q
  let sat := decide (satS 32 a ≠ a)
  let n := w.e.switchRes + changes
  let sw := w.r.switchCount + n / 256
  { w with r := { w.r with recalDue := w.r.recalDue || sat, switchCount := satU 32 sw, sat := w.r.sat || decide (satU 32 sw ≠ sw) },
           e := { w.e with acc := satS 32 a, switchRes := n % 256 },
           evs := w.evs ++ (if sat then [{ kind := .recordEvent, unit := brickUid x }] else []) }

/-- Linear interpolation of a derating curve in Q1.7, rounded down (R237). -/
def derate : List (Int × Nat) → Int → Nat
  | [], _ => 128
  | [p], _ => p.2
  | p :: q :: r, t => if t ≤ p.1 then p.2 else if t ≤ q.1 then ((p.2 : Int) + ((q.2 : Int) - p.2) * (t - p.1) / (q.1 - p.1)).toNat else derate (q :: r) t

/-- The eight points of a direction. -/
def State.derating (s : State) (b : Nat) (chg : Bool) : List (Int × Nat) :=
  let o := if chg then 0 else 16
  (List.range 8).map (fun (k : Nat) => (s.unitInt b 14 (o + 2 * k), s.unitPrm b 14 (o + 2 * k + 1)))

/-- The LIMIT bytes (R237). -/
def State.limits (s : State) (b : Nat) (r : Rec) : Rec :=
  if !r.state.available then { r with limChg := 0, limDis := 0 } else
  { r with limDis := Nat.min (Nat.min 128 (128 * r.sDis / s.unitPrm b 13 0)) (derate (s.derating b false) r.tCore)
           limChg := Nat.min (Nat.min 128 (128 * (65536 - r.sChg) / s.unitPrm b 13 1)) (derate (s.derating b true) r.tCore) }

/-- The open-circuit update (R233): the record, and whether the update is trusted. -/
def State.ocvUpdate (s : State) (b : Nat) (i : BTick) (timer : Nat) (r : Rec) : Rec × Bool :=
  let t := s.ocvTable b r.ocvDir
  if t = [] then (r, false)
  else if r.state = .resting ∧ s.unitPrm b 11 1 ≤ timer then
    let q := ocvSoc t r.vCell
    if s.unitPrm b 5 0 ≤ q.2 then ({ r with socOcv := q.1, ocvRest := true }, true) else (r, false)
  else if r.zCount = 0 then (r, false)
  else
    let ic : Int := match i.held.getD i.cmd with
      | .insertPos => i.im
      | .insertNeg => -i.im
      | .float => -(i.im.natAbs : Int)
      | .bypass => i.im * i.full
    let v := surdRound ((16 * (r.vCell : Int) + r.vRc1 + r.vRc2) * 320000000000) (16 * ic * s.irOf b * r.ohmic) 5120000000000
    let q := ocvSoc t v
    if s.unitPrm b 5 0 ≤ q.2 ∧ (ic.natAbs : Int) ≤ s.unitInt b 6 0 then
      ({ r with socOcv := (clampI 0 0xFFFF (r.socOcv + shrRne ((q.1 : Int) - r.socOcv) (s.unitPrm b 8 0))).toNat, ocvRest := false }, true)
    else (r, false)

/-- The bay's core-temperature table; none until one is staged (R253). -/
def State.tempTable (s : State) (b : Nat) : Option (List (Int × Int)) :=
  let ph := (List.range 17).map (fun i => s.prmI 0x0902 b 2 i)
  if ph.all (fun v => v == 0) then none else some (ph.zip ((List.range 17).map (fun i => s.prmI 0x0902 b 3 i)))

/-- A report of T_SURF (R226, R225 cause 5, R254): T_CORE_EST keeps its offset, which is 0 where the bay has no table or the brick no pass (R253). DESIGN CHOICE (log 130): an invalid report between two hot ones leaves the run of cause 5 as it stands. -/
def State.takeSurf (s : State) (b : Nat) (i : BTick) (w : BrickWork) : BrickWork :=
  match i.surf with
  | none => w
  | some none => { w with e := { w.e with surfSeen := false, cur := { w.e.cur with clean := false } } }
  | some (some t) =>
    let run := if s.unitInt b 3 1 < t then Nat.min (w.e.surf + 1) 3 else 0
    { w with r := { w.r with tCore := if w.r.zCount = 0 ∨ (s.tempTable b).isNone then t else satS 16 (w.r.tCore + t - w.r.tSurf), tSurf := t },
             e := { w.e with surf := run, surfSeen := true },
             due := w.due ++ (if 2 ≤ run then [{ order := 1, dst := .quarantined, cause := 5 }] else []) }

/-- The hard limits (R225 causes 2 and 3, R226). -/
def State.hardLimits (s : State) (b v : Nat) (w : BrickWork) : BrickWork :=
  let high := decide (s.unitPrm b 2 1 < v)
  if high ∨ v < s.unitPrm b 2 0 then
    let run := if w.e.hard ≠ 0 ∧ w.e.hardHigh = high then Nat.min (w.e.hard + 1) 3 else 1
    { w with e := { w.e with hard := run, hardHigh := high, cur := { w.e.cur with clean := false } },
             due := w.due ++ (if 3 ≤ run then [{ order := 1, dst := .quarantined, cause := if high then 2 else 3 }] else []) }
  else { w with e := { w.e with hard := 0, hardHigh := false } }

/-- The update proper of R230, from a valid sample `v`. -/
def State.updateBrick (s : State) (x : Nat) (i : BTick) (v : Nat) (w0 : BrickWork) : BrickWork :=
  let b := posBay x
  let w1 := w0.e.closed.foldl (fun w c => s.cycleWork x c w) w0
  let e1 := { w1.e with closed := [], staleRun := 0 }
  let q := divTrunc e1.acc 4096
  let thru := e1.thru + q.natAbs
  let ah := w1.r.ahThru + thru / 36000
  let r0 := w1.r.setCharge (w1.r.counted + q)
  let r1 := { r0 with ahThru := satU 32 ah, sat := r0.sat || decide (satU 32 ah ≠ ah),
                        ocvDir := if q = 0 then w1.r.ocvDir else decide (0 < q), vCell := v,
                        window := decide (v < s.unitPrm b 1 0) || decide (s.unitPrm b 1 1 < v),
                        inserted := i.held == some .insertPos || i.held == some .insertNeg, trim := i.role }
  let e2 := { e1 with acc := e1.acc - q * 4096, net := satS 16 (e1.net + q), thru := thru % 36000 }
  let w2 := s.takeSurf b i (s.hardLimits b v { w1 with r := r1, e := e2 })
  let core := if s.unitInt b 3 0 < w2.r.tCore then Nat.min (w2.e.core + 1) 15 else 0
  let joinRun := if w2.r.state = .joining ∧ w2.e.hard = 0 then Nat.min (w2.e.joinRun + 1) 16 else 0
  let w3 := { w2 with e := { w2.e with core := core, joinRun := joinRun },
                      due := w2.due ++ (if joinRun = 16 ∧ w2.e.surfSeen then [{ order := 4, dst := .bypassed }] else []) ++
                                       (if w2.r.state = .resting ∧ i.conducts then [{ order := 6, dst := .active }] else []) }
  let w4 := s.resolve x w3
  let cc := (clampI 0 0xFFFF (divRne (w4.r.counted * 65536) (s.cBrick b))).toNat
  let r4 := { w4.r with socFused := (clampI 0 0xFFFF ((w4.r.socFused : Int) + cc - w4.r.socCc)).toNat, socCc := cc }
  let o := s.ocvUpdate b i w4.e.timer r4
  let e5 := { w4.e with cur := { w4.e.cur with trusted := w4.e.cur.trusted + bit o.2 } }
  { w4 with r := { s.limits b o.1 with lastTick := (s.absTick + 65535) % 65536, stale := false }, e := e5 }

/-- Mismatches and faults (R46, R224, R225 cause 1). -/
def reports (i : BTick) (w : BrickWork) : BrickWork :=
  let wrong := w.r.state != .floated && (match i.held with | some h => h != i.cmd | none => false)
  let run := if wrong then Nat.min (w.e.mismatch + 1) 3 else 0
  { w with e := { w.e with mismatch := run, cur := { w.e.cur with clean := w.e.cur.clean && !wrong } },
           due := w.due ++ (if wrong ∧ 2 ≤ run then [{ order := 3, dst := .quarantined, cause := 1 }] else []) ++
                           (if i.fault then [{ order := 2, dst := .floated }] else []) }

/-- The dead-sample run (R225 cause 8). -/
def State.deadRun (s : State) (b : Nat) (i : BTick) (valid : Bool) (w : BrickWork) : BrickWork :=
  if i.code = none then w
  else if valid then { w with e := { w.e with dead := 0 } }
  else if !i.others then w
  else
    let n := satU 16 (w.e.dead + 1)
    { w with e := { w.e with dead := n }, due := w.due ++ (if s.unitPrm b 18 0 ≤ n then [{ order := 1, dst := .quarantined, cause := 8 }] else []) }

/-- Stage 2 of one brick (R230, R314). -/
def State.stage2Brick (s : State) (x : Nat) (i : BTick) (r0 : Rec) (e0 : Ext) : BOut :=
  let b := posBay x
  let e1 := e0.roll s.tb.cycleNow s.tb.cycleLen
  let w0 : BrickWork := { r := { r0 with recalDue := r0.recalDue || i.recal }, e := { e1 with cur := { e1.cur with conducted := e1.cur.conducted || i.conducts } } }
  let w1 := if i.release ∧ r0.state = .quarantined then s.enterRec x { order := 0, dst := .joining } w0 else w0
  let w2 := reports i (addSteps x (chargeStep i.cell (s.irOf b) s.tb.periods1) i.changes w1)
  if !i.due then let w := s.resolve x w2; { r := w.r, e := w.e, evs := w.evs, updated := false }
  else
    let valid := match i.code with | some c => c != 0 && c != 0xFFFF | none => false
    let w3 := if i.reached then s.deadRun b i valid w2 else w2
    let w4 := if valid then w3 else { w3 with e := { w3.e with joinRun := 0, cur := { w3.e.cur with clean := false } } }
    if i.reached ∧ valid then
      let w := s.updateBrick x i (i.code.getD 0) w4
      { r := w.r, e := w.e, evs := w.evs, updated := true }
    else
      let w := s.resolve x { w4 with r := { w4.r with stale := true }, e := { w4.e with staleRun := incSat 16 w4.e.staleRun } }
      { r := w.r, e := w.e, evs := w.evs, updated := false }

/-! ### Ranking keys (R188) -/

/-- clamp(x, 0, 1) of a quotient. -/
def unitClamp (n d : Int) : Rat := if d ≤ 0 then (if 0 < n then 1 else 0) else if n ≤ 0 then 0 else if d ≤ n then 1 else (n : Rat) / d

/-- A score as a key. -/
def keyOf (score : Rat) : Nat := (clampI 0 65535 (ratRne (score + 32768))).toNat

/-- The two keys of a brick, discharge and charge (R188). -/
def State.keysOf (s : State) (x : Nat) (r : Rec) : Nat × Nat :=
  let b := posBay x
  let m := fun (row i : Nat) => s.prm 0x0701 b row i
  let zm : Nat := tget 0 s.rc.zMed (x / 12288)
  let pt := unitClamp (r.tCore - s.prmI 0x0701 b 5 0) (s.prmI 0x0701 b 5 1)
  let pz : Rat := if r.zCount = 0 ∨ zm = 0 then 0 else unitClamp ((r.ohmic : Int) - zm) zm
  let left : Rat := ((m 1 0 - (tget {} s.md.bricks x).spent : Nat) : Rat) / (m 1 0 : Nat)
  let rest : Rat := (m 4 3 : Nat) * left - (m 4 1 : Nat) * pt - (m 4 2 : Nat) * pz
  (keyOf ((m 4 0 : Nat) * (r.sDis : Nat) / 65536 + rest), keyOf ((m 4 0 : Nat) * ((65536 - r.sChg : Nat) : Rat) / 65536 + rest))

/-- The keys and RANK of a brick whose record has advanced; none for a brick that is not available (R189, R287). -/
def State.rekey (s : State) (x : Nat) : State :=
  let r := tget {} s.rc.bricks x
  if !r.state.available || s.darkCourse (x / 96) then { s with rc := { s.rc with keys := tset none s.rc.keys x none } } else
  let k := s.keysOf x r
  let rank := if (tget {} s.md.piers (x / 12288)).charge then k.2 else k.1
  { s with rc := { s.rc with keys := tset none s.rc.keys x (some k), bricks := tset {} s.rc.bricks x { r with rank := rank } } }

/-! ### Record rate (R314, R316, R387) -/

/-- The bay's records update in the present tick. -/
def State.recordDue (s : State) (b : Nat) : Bool :=
  let t := s.tile (tileOf b)
  let u := neighbour (tileOf b)
  let n := s.absTick
  let back := match s.rd.xfer with | some y => y.back && y.receiver == tileOf b | none => false
  if t.transferHalf then n % 2 == bit back
  else if t.phase = .out then (if (s.die u).enforced then n % 4 == 1 + 2 * (b % 2) else n % 2 == 1)
  else if t.phase = .carrying then (if (s.die (tileOf b)).enforced then n % 4 == 2 * (b % 2) else n % 2 == 0)
  else if (s.die (tileOf b)).enforced then n % 2 == b % 2
  else true

/-! ### Repair (R231) -/

/-- A tile copies its records to its neighbour: both run, and neither carries the other's bays outside a transfer cycle (R310, R314, R316). -/
def State.sweeps (s : State) (t : Nat) : Bool :=
  let p := (s.tile t).phase
  let q := (s.tile (neighbour t)).phase
  (p == .normal || p == .transfer) && (q == .normal || q == .transfer) && !(s.tile t).failed && !(s.tile (neighbour t)).failed

/-- A record whose CRC fails: the mirror copy, or a rebuilt record in QUARANTINED (R231). DESIGN CHOICE, log 113: where the tick brought no sample or an invalid one, V_CELL of the rebuilt record is 0 or that sample's code. -/
def State.repair (s : State) (x : Nat) (code : Option Nat) : State :=
  let t := tileOf (posBay x)
  let m := tget {} s.rc.mirror x
  let mirrored := s.sweeps t && m.state != .absent && !m.badCrc && !s.rc.mirrorStale.contains x
  if mirrored then
    ({ s with rc := { s.rc with bricks := tset {} s.rc.bricks x { m with stale := true, recalDue := true }, repairs := tset 0 s.rc.repairs t (incSat 32 (tget 0 s.rc.repairs t)) } }).raise
      { kind := .recordEvent, unit := brickUid x }
  else
    let n := { Rec.new (tget 0 s.lk.bound x) with vCell := code.getD 0 }
    let r := { s.joinRecal (posBay x) n true with state := .quarantined }
    ({ s with rc := { s.rc with bricks := tset {} s.rc.bricks x r, ext := tset {} s.rc.ext x {}, keys := tset none s.rc.keys x none } }).raise { kind := .quarantined, unit := brickUid x, detail := 7 }

end Sys2Proof.Machine
end

