-- ==== Sys2Proof/Machine/Impedance.lean ====
section
/-! DEFINITION. Brick impedance passes and grid impedance (08 R244 to R256, R265, 15 R438). -/

namespace Sys2Proof.Machine
open Sys2Proof

/-- A parameter of Z_CONFIG (R265). -/
def State.zPrm (s : State) (row i : Nat) : Nat := s.prm 0x0901 0 row i

/-! ### Pairs (R244, R245, R247) -/

/-- Ticks per period of a bin (R245). -/
def binPeriod (b : Nat) : Nat := match b with | 0 => 4 | 1 => 16 | 2 => 256 | _ => 512

/-- The weight of bin `b` in tick `k`: cosine and minus sine in signed Q1.15 (R245). -/
def binWeight (b k : Nat) : Int × Int :=
  (satS 16 (gTo 15 (cosTurn (k % binPeriod b : Nat) (binPeriod b))), satS 16 (gTo 15 (-(sinTurn (k % binPeriod b : Nat) (binPeriod b)))))

/-- The four weights of a tick. -/
def binWeights (k : Nat) : List (Int × Int) := (List.range 4).map (fun b => binWeight b k)

/-- One pair goes into a brick's accumulators (R247). -/
def BrickPass.add (p : BrickPass) (w : List (Int × Int)) (v : Nat) (cell : Rat) : BrickPass :=
  let d : Int := (v : Int) - (p.vref.getD v)
  { p with vref := some (p.vref.getD v), pairs := p.pairs + 1
           vRe := List.zipWith (fun (a : Int) (c : Int × Int) => a + d * c.1) p.vRe w, vIm := List.zipWith (fun (a : Int) (c : Int × Int) => a + d * c.2) p.vIm w
           iRe := List.zipWith (fun (a : Rat) (c : Int × Int) => a + cell * c.1) p.iRe w, iIm := List.zipWith (fun (a : Rat) (c : Int × Int) => a + cell * c.2) p.iIm w }

/-- What stage 2 of the tick has made of a brick: its pair is complete, and its cell current. -/
structure PairFact where
  full : Bool := false
  cell : Rat := 0
deriving DecidableEq, Repr

/-- A pass takes the pairs of tick `k` (R247): bricks that are no longer available are dropped, and those available at the window's first pair take part. -/
def State.passPairs (s : State) (facts : Tab PairFact) (p : Pass) : Pass :=
  let k := s.absTick - 2
  if s.absTick < 2 ∨ k < p.cycle * 800 ∨ (p.cycle + p.len) * 800 ≤ k then p else
  let ok := fun (x : Nat) => (tget {} s.rc.bricks x).state.available && !s.darkCourse (x / 96)
  let parts := if k = p.cycle * 800 then ((trange s.rc.bricks (p.pier * 12288) 12288).filter (fun e => ok e.1)).map (fun e => (e.1, ({ part := true } : BrickPass)))
               else p.parts.filter (fun e => ok e.1)
  let w := binWeights k
  { p with periods := p.periods + s.tb.periods1
           parts := parts.map (fun e => let f := tget {} facts e.1
             (e.1, if f.full then e.2.add w (tget {} s.rc.bricks e.1).vCell f.cell else { e.2 with missed := e.2.missed + 1 })) }

/-- The passes of every tile in one stage 2; a tile at half rate discards its passes (R250). -/
def State.passTick (s : State) (facts : Tab PairFact) : State :=
  let slots := (s.z.slots.map (fun e =>
    if s.halfRate (e.1 / 2) ∨ (s.tile (e.1 / 2)).phase = .out ∨ s.saving then (e.1, ({} : PassSlot))
    else (e.1, { e.2 with run := e.2.run.map (s.passPairs facts), ending := e.2.ending.map (s.passPairs facts) }))).filter (fun e => e.2 != {})
  { s with z := { s.z with slots := slots } }

/-! ### Evaluation (R248 to R254) -/

/-- A bin's estimate of one pass: real and imaginary part in nΩ, 40 fractional bits, where it is accepted (R248). -/
def State.binEstimate (s : State) (b : Nat) (p : BrickPass) (k : Nat) : Option (Int × Int) :=
  let vr : Rat := p.vRe.getD k 0
  let vi : Rat := p.vIm.getD k 0
  let ir := p.iRe.getD k 0
  let ii := p.iIm.getD k 0
  let n2 := ir * ir + ii * ii
  let rated := s.irOf b
  let thr := s.zPrm (if k < 2 then 3 else 4) 0
  if n2 * (2 * rated * rated : Nat) < ((thr * thr * p.pairs * p.pairs * 2 ^ 76 : Nat) : Rat) ∨ n2 = 0 then none else
  let zr := -(vr * ir + vi * ii) / n2
  let zi := -(vi * ir - vr * ii) / n2
  let nano := fun (q : Rat) => surdRound 0 (q.num * 320000000000000 * 2 ^ 40) ((q.den : Int) * rated)
  let small := fun (q : Rat) => decide (2 * (q * 320000000000000) * (q * 320000000000000) < ((134000000 * rated) ^ 2 : Nat))
  if 0 < zr ∧ small zr ∧ small zi then some (nano zr, nano zi) else none

/-- A stored part in nΩ, 44 fractional bits. -/
def storedNano (part e : Int) : Int := part * 2 ^ (44 + e).toNat

/-- The filtered value of one part, nΩ with 44 fractional bits (R249 step 1). -/
def filtered (k : Nat) (fresh : Bool) (stored z : Int) : Int := if fresh then z * 16 else stored + (z * 16 - stored) / 2 ^ k

/-- Every part fits at exponent `e` (R249 step 2). -/
def fitsAt (parts : List Int) (e : Int) : Bool := parts.all (fun v => decide ((shrRne v (44 + e).toNat).natAbs ≤ 32767))

/-- The smallest exponent from −8 to +12 at which every part fits. -/
def zExponent (parts : List Int) : Int := (((List.range 21).map (fun (k : Nat) => (k : Int) - 8)).find? (fitsAt parts)).getD 12

/-- OHMIC_EST of stored bins (R252). -/
def ohmicOf (bins : List Int) (e : Int) : Nat := (clampI 0 65535 (divRne (bins.getD 0 0 * 2 ^ (8 + e).toNat) 256000)).toNat

/-- Linear interpolation between points, to nearest, ties to even. -/
def interp : List (Int × Int) → Int → Int
  | p :: q :: r, x => if x ≤ q.1 ∨ r = [] then p.2 + divRne ((q.2 - p.2) * (x - p.1)) (q.1 - p.1) else interp (q :: r) x
  | [p], _ => p.2
  | [], _ => 0

/-- The mean tick frequency over the window lies within the frequency window (R254, R265). -/
def State.freqInside (s : State) (len periods : Nat) : Bool :=
  let x : Int := len * 1600000000000
  let y : Int := periods * s.prm 0x0301 0 6 0
  decide ((x - y).natAbs * 4194304 ≤ s.zPrm 7 0 * y.natAbs)

/-- T_CORE_EST at a completed pass (R254). -/
def State.coreTemp (s : State) (x : Nat) (est : Nat → Option (Int × Int)) (len periods : Nat) (r : Rec) : State × Rec :=
  let b := posBay x
  match s.tempTable b, est (s.prm 0x0902 b 0 0) with
  | some t, some z =>
    if !s.freqInside len periods then ({ s with z := { s.z with freqSkip := true } }, r) else
    let phi := divRne (atan2Turn z.2 z.1 * 92160) gOne
    if phi < (t.headD (0, 0)).1 ∨ (t.getD 16 (0, 0)).1 < phi then
      ({ s with z := { s.z with tClip := true, tableClips := incSat 32 s.z.tableClips } }, r)
    else
      let tc := interp t phi + shrRne (s.prmI 0x0902 b 4 0 * ((r.socFused : Int) - 32768)) 16
      let o := clampI (s.prmI 0x0901 0 6 0) (s.prmI 0x0901 0 6 1) (tc - r.tSurf)
      let clip := decide (o ≠ tc - r.tSurf)
      ({ s with z := { s.z with offsetClip := s.z.offsetClip || clip, offsetClips := if clip then incSat 32 s.z.offsetClips else s.z.offsetClips } },
       { r with tCore := satS 16 (r.tSurf + o) })
  | _, _ => (s, r)

/-- Count a void pass (R249). -/
def State.voidPass (s : State) (x : Nat) : State :=
  { s with z := { s.z with voidPass := true, tiles := tmod {} s.z.tiles (tileOf (posBay x)) (fun t => { t with voids := incSat 32 t.voids }) } }

/-- Evaluate a brick's ended pass and write its record (R248, R249). -/
def State.evalPass (s : State) (x : Nat) (p : BrickPass) (len periods : Nat) : State :=
  let b := posBay x
  if len * 800 / 2 ^ s.zPrm 2 0 < p.missed then s.voidPass x else
  let est := fun (k : Nat) => s.binEstimate b p k
  if (List.range 4).all (fun k => (est k).isNone) then s.voidPass x else
  let r := tget {} s.rc.bricks x
  let kb := s.zPrm 5 0
  let parts := ((List.range 4).map (fun k =>
    let re := storedNano (r.zBin.getD (2 * k) 0) r.zExp
    let im := storedNano (r.zBin.getD (2 * k + 1) 0) r.zExp
    match est k with
    | none => [re, im]
    | some z => [filtered kb (re == 0 && im == 0) re z.1, filtered kb (re == 0 && im == 0) im z.2])).flatten
  let e := zExponent parts
  let bins := parts.map (fun v => shrRne v (44 + e).toNat)
  let r1 := { r with zBin := bins, zExp := e, zCount := if r.zCount = 255 then 128 else r.zCount + 1, ohmic := ohmicOf bins e }
  let o := s.coreTemp x est len periods r1
  let s1 := o.1
  let s2 := { s1 with rc := { s1.rc with bricks := tset {} s1.rc.bricks x o.2, ext := tmod {} s1.rc.ext x (fun q => { q with cur := { q.cur with zpass := true } }) } }
  s2.rekey x

/-- The brick's record was updated in the present stage 2. -/
def State.freshRec (s : State) (x : Nat) : Bool :=
  let r := tget {} s.rc.bricks x; !r.stale && r.lastTick == (s.absTick + 65535) % 65536

/-- Ended passes whose bricks have their next update are evaluated; those of bricks no longer available are dropped (R247, R249). -/
def State.latePasses (s : State) : State :=
  s.z.late.foldl (fun (t : State) e => match e.2 with
    | none => t
    | some l =>
      if !(tget {} t.rc.bricks e.1).state.available then { t with z := { t.z with late := tset none t.z.late e.1 none } }
      else if t.freshRec e.1 then ({ t with z := { t.z with late := tset none t.z.late e.1 none } }).evalPass e.1 l.part l.len l.periods
      else t) s

/-- Z_PASS_END (R246, R249): in tick 1 of cycle c + P, after stage 2; an event reports a pass that was asked for (R416, log 29). -/
def doZPassEnd (p : Nat) (s : State) : State :=
  let slot := if (tget {} s.z.slots (2 * tileOf (p / 3))).ending.any (fun q => q.pier == p) then 2 * tileOf (p / 3) else 2 * tileOf (p / 3) + 1
  match (tget {} s.z.slots slot).ending with
  | none => s
  | some q =>
    if q.pier ≠ p ∨ s.tb.idx ≠ 1 then s else
    let s1 := { s with z := { s.z with slots := tmod {} s.z.slots slot (fun k => { k with ending := none }), passes := incSat 32 s.z.passes } }
    let s2 := q.parts.foldl (fun (t : State) e =>
      if t.freshRec e.1 then t.evalPass e.1 e.2 q.len q.periods
      else { t with z := { t.z with late := tset none t.z.late e.1 (some { part := e.2, len := q.len, periods := q.periods }) } }) s1
    if q.requested then s2.raise { kind := .zPassDone, unit := pierUid p } else s2
def execZPassEnd (pier : Nat) (s : State) : Host.Outcome State Fault Refusal := if s.nBays * 3 ≤ pier then .fault .noSuchUnit else .next (doZPassEnd pier s)

/-! ### Slots (R246, R250) -/

/-- A slot skips the pier at this boundary (R246). -/
def State.passSkips (s : State) (p slot : Nat) : Bool :=
  let other := if slot % 2 = 0 then slot + 1 else slot - 1
  (tget {} s.z.slots other).run.any (fun q => q.pier == p) || s.bayMode (p / 3) == 0 || !s.md.pierOn p || (tget {} s.xp.idle (p / 3)).standby

/-- The next request that is not skipped; skipped ones are dropped (R246). -/
def State.takeRequest (s : State) (t slot : Nat) : List Nat → State × Option Nat
  | [] => ({ s with z := { s.z with tiles := tmod {} s.z.tiles t (fun q => { q with requests := [] }) } }, none)
  | p :: r =>
    if s.passSkips p slot then
      (({ s with z := { s.z with tiles := tmod {} s.z.tiles t (fun q => { q with requests := r, dropped := incSat 32 q.dropped }) } }).raise
        { kind := .zRequestDropped, unit := pierUid p }).takeRequest t slot r
    else ({ s with z := { s.z with tiles := tmod {} s.z.tiles t (fun q => { q with requests := r }) } }, some p)

/-- A free slot takes its next pier (R246). -/
def State.takeSlot (s : State) (t slot : Nat) : State :=
  let r := s.takeRequest t slot (tget {} s.z.tiles t).requests
  let s1 := r.1
  let start := fun (u : State) (p : Nat) (asked : Bool) =>
    { u with z := { u.z with slots := tmod {} u.z.slots slot (fun k => { k with run := some { pier := p, cycle := u.tb.cycleNow, len := u.zPrm 1 0, requested := asked, periods := 0, parts := [] } }) } }
  match r.2 with
  | some p => start s1 p true
  | none =>
    let nx := (tget {} s1.z.tiles t).next
    match ((List.range 36).map (fun i => (nx + i) % 36)).find? (fun i => !s1.passSkips (t * 36 + i) slot) with
    | none => s1
    | some i => start { s1 with z := { s1.z with tiles := tmod {} s1.z.tiles t (fun q => { q with next := (i + 1) % 36 }) } } (t * 36 + i) false

/-- The pass slots at a cycle boundary (R246, R250). -/
def State.passCycle (s : State) : State :=
  let c := s.tb.cycleNow
  let ended := (s.z.slots.map (fun e => (e.1, match e.2.run with
    | some q => if q.cycle + q.len ≤ c then ({ run := none, ending := some q } : PassSlot) else e.2
    | none => { e.2 with ending := none }))).filter (fun e => e.2 != {})
  let s1 := { s with z := { s.z with slots := ended } }
  if s.zPrm 0 0 = 0 then s1 else
  (List.range (2 * s.nTiles)).foldl (fun (t : State) k =>
    if (tget {} t.z.slots k).run.isSome || t.saving || t.halfRate (k / 2) || (t.tile (k / 2)).phase == .out then t else t.takeSlot (k / 2) k) s1

/-- A swap has changed *P* or switched passes: every running pass is discarded; one whose window has ended before cycle `c`, the first of the new set, waits for its evaluation as before (R249, R250). -/
def Impedance.discard (z : Impedance) (c : Nat) : Impedance :=
  { z with slots := (z.slots.map (fun e => (e.1, { e.2 with run := e.2.run.filter (fun q => decide (q.cycle + q.len ≤ c)) }))).filter (fun e => e.2 != {}) }

/-- *Z*_med of every pier, fixed at a cycle boundary (R188). -/
def State.medians (s : State) : State :=
  let med := fun (p : Nat) =>
    let l := (((trange s.rc.bricks (p * 12288) 12288).filter (fun e => e.2.state.available && decide (0 < e.2.zCount))).map (fun e => e.2.ohmic)).mergeSort (fun a b => decide (a ≤ b))
    l.getD ((l.length - 1) / 2) 0
  { s with rc := { s.rc with zMed := ((List.range (3 * s.nBays)).map (fun p => (p, med p))).filter (fun e => e.2 != 0) } }

/-! ### Commands -/

/-- `Z_PASS_REQUEST` (R246, R266). -/
def zPassRequest (unit : Nat) (s : State) : State × Ans :=
  let u := checkLevel s.nBays 2 unit
  let t := tileOf u.2.bay
  if u.1 ≠ 0 then (s, refuseAns u.1 0x0903 255 unit)
  else if s.zPrm 0 0 = 0 ∨ s.halfRate t ∨ (s.tile t).phase = .out then (s, refuseAns stState 0x0903 255 unit)
  else if 4 ≤ (tget {} s.z.tiles t).requests.length then (s, { status := 0x0101 })
  else ({ s with z := { s.z with tiles := tmod {} s.z.tiles t (fun q => { q with requests := q.requests ++ [pierIx u.2.bay u.2.pier] }) } }, acceptedAns)
def doZPassRequest (h : Hdr) (pier : Nat) (s : State) : State := s.hostJ (.zPassRequest h pier) h 0x0903 (zPassRequest pier)
def execZPassRequest (h : Hdr) (pier : Nat) (s : State) : Host.Outcome State Fault Refusal := .next (doZPassRequest h pier s)

/-- The four phases in 1/256 degree; the phase of a bin that has never been accepted is not stated (log 1). -/
def State.binPhases (s : State) (r : Rec) : State × List Int :=
  (List.range 4).foldl (fun (a : State × List Int) k =>
    let re := r.zBin.getD (2 * k) 0
    let im := r.zBin.getD (2 * k + 1) 0
    if re = 0 ∧ im = 0 then let d := a.1.free 16; (d.2, a.2 ++ [signedOf 16 d.1])
    else (a.1, a.2 ++ [divRne (atan2Turn im re * 92160) gOne])) (s, [])

/-- `Z_READ` (R252, R438). -/
def zRead (unit : Nat) (s : State) : State × Ans :=
  let u := checkLevel s.nBays 0 unit
  if u.1 ≠ 0 then (s, refuseAns u.1 0x0904 255 unit) else
  let r := tget {} s.rc.snapBricks (posIx u.2.bay u.2.pier u.2.course u.2.brick)
  let nano := r.zBin.map (fun v => shrRne (v * 2 ^ (8 + r.zExp).toNat) 8)
  let never := fun (k : Nat) => r.zBin.getD (2 * k) 0 == 0 && r.zBin.getD (2 * k + 1) 0 == 0
  let ct : Nat := if never 0 || never 3 then 0x7FFFFFFF else patternOf 32 (divRne ((r.zBin.getD 6 0 - r.zBin.getD 0 0) * 2 ^ (8 + r.zExp).toNat) 256000)
  let ph := s.binPhases r
  (ph.1, okAns (le 8 s.rc.snapTick ++ (nano.map (leS 4)).flatten ++ (ph.2.map (leS 2)).flatten ++ le 4 ct ++ le 1 r.zCount ++ leS 1 r.zExp ++ [0, 0]))
def doZRead (h : Hdr) (brick : Nat) (s : State) : State := s.host h 0x0904 (zRead brick)
def execZRead (h : Hdr) (brick : Nat) (s : State) : Host.Outcome State Fault Refusal := .next (doZRead h brick s)

/-- `GRID_Z_MEASURE` (R255). -/
def gridZMeasure (gen pair cycles : Nat) (s : State) : State × Ans :=
  let f := s.prm 0x0504 gen 2 0
  if (gen ≠ 6 ∧ gen ≠ 7) ∨ 2 < pair then (s, refuseAns stRange 0x0905 255 0)
  else if cycles < 8 ∨ 1024 < cycles then (s, refuseAns stRange 0x0905 255 0)
  else if s.prm 0x0504 gen 0 0 ≠ 1 ∨ s.prm 0x0504 gen 1 0 = 0 ∨ s.z.grid.isSome ∨ s.z.gridPend.isSome then (s, refuseAns stState 0x0905 255 0)
  else if f * 800 * cycles % 2 ^ 32 ≠ 0 then (s, refuseAns stBadParam 0x0905 255 0)
  else ({ s with z := { s.z with gridPend := some (gen - 6, pair, cycles) } }, acceptedAns)
def doGridZMeasure (h : Hdr) (gen pair cycles : Nat) (s : State) : State := s.hostJ (.gridZMeasure h gen pair cycles) h 0x0905 (gridZMeasure gen pair cycles)
def execGridZMeasure (h : Hdr) (gen pair cycles : Nat) (s : State) : Host.Outcome State Fault Refusal := .next (doGridZMeasure h gen pair cycles s)

/-- A result's 32 bytes (R256). -/
def GridZResult.bytes (g : GridZResult) : List Nat :=
  le 6 g.cycle ++ le 2 g.tags ++ le 4 g.freqWord ++ le 2 g.cycles ++ [0, 0] ++ leS 4 g.zRe ++ leS 4 g.zIm ++ le 4 g.excitation ++ le 4 g.generation

/-- `GRID_Z_READ` (R256, R438). -/
def doGridZRead (h : Hdr) (s : State) : State :=
  s.host h 0x0906 (fun t => (t, okAns ([t.z.gridResults.length, 0, 0, 0] ++ (t.z.gridResults.map (fun (g : GridZResult) => g.bytes)).flatten)))
def execGridZRead (h : Hdr) (s : State) : Host.Outcome State Fault Refusal := .next (doGridZRead h s)

/-! ### Grid impedance (R255, R256) -/

/-- GRID_Z_START: an accepted measurement starts at the cycle boundary. -/
def doGridZStart (s : State) : State :=
  match s.z.gridPend with
  | none => s
  | some q =>
    if s.tb.idx ≠ 0 then s else
    { s with z := { s.z with gridPend := none
                             grid := some { gen := q.1, pair := q.2.1, cycles := q.2.2, cycle := s.tb.cycleNow, freqWord := s.prm 0x0504 (6 + q.1) 2 0,
                                            generation := s.xp.generation, vRe := 0, vIm := 0, iRe := 0, iIm := 0, ticks := 0, invalid := false, frozen := false, slewing := false } } }
def execGridZStart (s : State) : Host.Outcome State Fault Refusal := .next (doGridZStart s)

/-- The tick that has just ended goes into the running measurement. -/
def State.gridZTick (s : State) : State :=
  match s.z.grid with
  | none => s
  | some g =>
    let k := s.absTick - 1
    if s.absTick = 0 ∨ k < g.cycle * 800 ∨ (g.cycle + g.cycles) * 800 ≤ k then s else
    let ch := fun (i : Nat) => (tget {} s.sp.gs i : GridSense)
    let j := (g.pair + 1) % 3
    let v : Int := if s.gsDelta then (ch g.pair).primary else (ch g.pair).primary - (ch j).primary
    let i := (ch (4 + g.pair)).primary
    let m : Nat := g.freqWord * k % 2 ^ 32
    let c := gTo 30 (cosTurn (m : Nat) (2 ^ 32))
    let n := gTo 30 (-(sinTurn (m : Nat) (2 ^ 32)))
    let bad := (ch g.pair).invalid || (ch (4 + g.pair)).invalid || (!s.gsDelta && (ch j).invalid)
    { s with z := { s.z with grid := some { g with vRe := g.vRe + v * c, vIm := g.vIm + v * n, iRe := g.iRe + i * c, iIm := g.iIm + i * n, ticks := g.ticks + 1,
                                                   invalid := g.invalid || bad, frozen := g.frozen || s.tb.pll.frozen, slewing := g.slewing || s.tb.slewing } } }

/-- GRID_Z_RESULT: the window has ended, and an event says whether the result is valid (R256, R416, log 29); with no current the quotient is not stated (log 1). -/
def doGridZResult (s : State) : State :=
  match s.z.grid with
  | none => s
  | some g =>
    if g.ticks < g.cycles * 800 then s else
    let n2 := g.iRe * g.iRe + g.iIm * g.iIm
    let z := fun (num : Int) => satS 32 (ratRne ((num * 1000000 : Int) / ((2 * n2 : Int) : Rat)))
    let valid := !g.invalid && !g.frozen && decide (((s.zPrm 8 0 * g.ticks * 2 ^ 30) ^ 2 : Nat) ≤ n2)
    let d1 := s.free 32
    let d2 := d1.2.free 32
    let s1 := if n2 = 0 then d2.2 else s
    let r : GridZResult :=
      { cycle := g.cycle, freqWord := g.freqWord, cycles := g.cycles, generation := g.generation
        tags := fld g.gen 0 1 + fld g.pair 1 2 + b1 valid 3 + b1 g.invalid 4 + b1 g.frozen 5 + b1 g.slewing 6
        zRe := if n2 = 0 then signedOf 32 d1.1 else z (g.vRe * g.iRe + g.vIm * g.iIm)
        zIm := if n2 = 0 then signedOf 32 d2.1 else z (g.vIm * g.iRe - g.vRe * g.iIm)
        excitation := satU 32 (sqrtNear n2.toNat ((g.ticks * 2 ^ 30) ^ 2)) }
    State.raise { s1 with z := { s1.z with grid := none, gridResults := (r :: s1.z.gridResults).take 8, gridDone := true } } { kind := .gridZDone, unit := noUnit, detail := bit valid }
def execGridZResult (s : State) : Host.Outcome State Fault Refusal := .next (doGridZResult s)

end Sys2Proof.Machine
end

