-- ==== Sys2Proof/Machine/Modulation.lean ====
section
/-! DEFINITION. Stage 6: from target to blocks, the trip path, disable and enable, lab freeze, and the modulation commands (06, 09 R287, 10 R306 to R309, 15 R436). -/

namespace Sys2Proof.Machine
open Sys2Proof

/-- A modulation parameter of a bay (R216). -/
def State.mdPrm (s : State) (b row i : Nat) : Nat := s.prm 0x0701 b row i

/-! ### One brick (R186, R190, R191) -/

/-- A commanded state with a polarity. -/
def Sw.held (w : Sw) (neg : Bool) : Held :=
  match w with
  | .insert => if neg then .insertNeg else .insertPos
  | .bypass => .bypass
  | .float => .float

/-- A commanded change at the start of tick `k`, of an insertion with polarity `neg`: dwell restarts, budget is spent down to 0 (R190, R191). -/
def BrickMod.change (m : BrickMod) (k budget : Nat) (neg : Bool) (sw : Sw) : BrickMod :=
  { m with sw := sw, neg := neg, since := 0, spent := if m.spent < budget then m.spent + 1 else m.spent, log := ((k, sw.held neg) :: m.log).take 5 }

/-- A change that the mode of the first tick after an enable makes: budget is spent, dwell goes on (R207). -/
def BrickMod.modeChange (m : BrickMod) (k budget : Nat) (sw : Sw) : BrickMod := { m.change k budget false sw with since := m.since }

/-- The state commanded for a brick outside the selected set (R186). -/
def RecState.outside (r : RecState) : Sw := if r = .floated then .float else .bypass

/-- The state commanded in tick `k`, as the kept changes give it (R228). -/
def BrickMod.commanded (m : BrickMod) (k : Nat) : Held :=
  match m.log.find? (fun e => decide (e.1 ≤ k)) with
  | some e => e.2
  | none => if m.log = [] then m.sw.held m.neg else .bypass

/-! ### Selection (R192 to R195) -/

/-- An available brick as selection sees it: its position, the key of the direction, its V_CELL code. -/
structure Cand where
  x : Nat
  key : Nat
  v : Nat
deriving DecidableEq, Repr

/-- What selection works under. -/
structure Sel where
  /-- available bricks, in the order of their unit IDs -/
  cands : List Cand
  /-- minimum dwell *D* -/
  dwell : Nat
  /-- switching budget *B* -/
  budget : Nat
  /-- the tick planned -/
  at' : Nat
  /-- *pol* is NEG -/
  neg : Bool
deriving DecidableEq, Repr

/-- What selection has planned so far. -/
structure Work where
  mods : Tab BrickMod
  base : List Nat
  held : Int
  entries : List (Nat × Sw) := []
  /-- bricks changed at the boundary, one entry a change -/
  changes : List Nat := []
  /-- bricks that overdrew their budget -/
  overs : List Nat := []
  capped : Bool := false
deriving DecidableEq, Repr

/-- Entries of a course's block. -/
def Work.courseEntries (w : Work) (c : Nat) : List (Nat × Sw) := w.entries.filter (fun e => e.1 / 96 == c)

/-- The brick's course has `n` entries free (R195). -/
def Work.room (w : Work) (x n : Nat) : Bool := decide ((w.courseEntries (x / 96)).length + n ≤ 8)

def Sel.vOf (c : Sel) (x : Nat) : Nat := match c.cands.find? (fun k => k.x == x) with | some k => k.v | none => 0
def Sel.dwellMet (c : Sel) (w : Work) (x : Nat) : Bool := decide (c.dwell ≤ (tget {} w.mods x).since)
def Sel.hasBudget (c : Sel) (w : Work) (x : Nat) : Bool := decide ((tget {} w.mods x).spent < c.budget)

/-- The preferred element of a list. -/
def pick {α : Type} (better : α → α → Bool) (l : List α) : Option α :=
  l.foldl (fun a c => match a with | none => some c | some d => if better c d then some c else some d) none

/-- A higher key is preferred for insertion, between equal keys the lower unit ID (R188). -/
def higher (a b : Cand) : Bool := decide (b.key < a.key) || (a.key == b.key && decide (a.x < b.x))

/-- A lower key is taken first for removal, between equal keys the higher unit ID (R188). -/
def lower (a b : Cand) : Bool := decide (a.key < b.key) || (a.key == b.key && decide (b.x < a.x))

/-- Candidates with budget remaining come first (R192). -/
def Sel.first (c : Sel) (w : Work) (pref : Cand → Cand → Bool) (a b : Cand) : Bool :=
  let p := c.hasBudget w a.x
  let q := c.hasBudget w b.x
  (p && !q) || (p == q && pref a b)

/-- Removal candidates (R192); `cap` asks for an entry free. -/
def Sel.removals (c : Sel) (w : Work) (cap : Bool) : List Cand :=
  c.cands.filter (fun k => w.base.contains k.x && c.dwellMet w k.x && (!cap || w.room k.x 1))

/-- Insertion candidates (R192); `keep` is a trim brick that stays one. -/
def Sel.insertions (c : Sel) (w : Work) (keep : Option Nat) (cap : Bool) : List Cand :=
  c.cands.filter (fun k => !w.base.contains k.x && c.dwellMet w k.x && keep != some k.x && (!cap || w.room k.x 1))

/-- Place an entry and make its change; a selection change without budget is an overdraw (R190). -/
def Sel.enter (c : Sel) (w : Work) (x : Nat) (sw : Sw) : Work :=
  { w with mods := tmod {} w.mods x (fun m => m.change c.at' c.budget c.neg sw), entries := w.entries ++ [(x, sw)], changes := x :: w.changes,
           overs := if c.hasBudget w x then w.overs else x :: w.overs }

/-- Removals (R193). -/
def Sel.removeLoop (c : Sel) (need : Int) : Nat → Work → Work
  | 0, w => w
  | n + 1, w =>
    if w.held ≤ need then w else
    let best := pick (c.first w lower) (c.removals w true)
    let w1 := { w with capped := w.capped || (pick (c.first w lower) (c.removals w false) != best) }
    match best with
    | none => w1
    | some k => c.removeLoop need n { c.enter w1 k.x .bypass with base := w1.base.filter (· != k.x), held := w1.held - k.v }

/-- Insertions (R193). -/
def Sel.insertLoop (c : Sel) (need : Int) (keep : Option Nat) : Nat → Work → Work
  | 0, w => w
  | n + 1, w =>
    let best := pick (c.first w higher) (c.insertions w keep true)
    let free := pick (c.first w higher) (c.insertions w keep false)
    let late := match free with
      | some k => decide (free ≠ best) && decide (w.held + k.v ≤ need)
      | none => false
    let w1 := { w with capped := w.capped || late }
    match best with
    | none => w1
    | some k => if need < w1.held + k.v then w1 else
      c.insertLoop need keep n { c.enter w1 k.x .insert with base := w1.base ++ [k.x], held := w1.held + k.v }

/-- Two bricks' courses hold between them an entry free for each (R192). -/
def Work.pairRoom (w : Work) (x y : Nat) : Bool := if x / 96 = y / 96 then w.room x 2 else w.room x 1 && w.room y 1

/-- The rotation that R193 makes next, where it makes one; `cap` asks for the entries free (R192). -/
def Sel.rotation (c : Sel) (need : Int) (h : Nat) (keep : Option Nat) (cap : Bool) (w : Work) : Option (Cand × Cand) :=
  let outs := (c.removals w cap).filter (fun k => c.hasBudget w k.x)
  let ins := (c.insertions w keep cap).filter (fun k => c.hasBudget w k.x)
  let room := fun (x y : Cand) => !cap || w.pairRoom x.x y.x
  match pick lower (outs.filter (fun x => ins.any (room x))) with
  | none => none
  | some x =>
    match pick higher (ins.filter (fun y => room x y && decide ((y.v : Int) ≤ need - w.held + x.v))) with
    | none => none
    | some y => if (y.key : Int) - x.key ≤ h then none else some (x, y)

/-- Rotations (R193); one that only the entry cap keeps back counts as capped (R195). -/
def Sel.rotate (c : Sel) (need : Int) (h : Nat) (keep : Option Nat) : Nat → Work → Work
  | 0, w => w
  | n + 1, w =>
    let best := c.rotation need h keep true w
    let free := c.rotation need h keep false w
    let w0 := { w with capped := w.capped || (free.isSome && free != best) }
    match best with
    | none => w0
    | some (x, y) =>
      let w1 := c.enter (c.enter w0 x.x .bypass) y.x .insert
      c.rotate need h keep n { w1 with base := w.base.filter (· != x.x) ++ [y.x], held := w.held - x.v + y.v }

/-! ### Trim (R196 to R200) -/

/-- The whole 5 ns steps of the tick being planned: of the periods of 0.625 ns after which the accumulator, at the increment in force, has overflowed (R49, R196; DEDUCED, log 110). -/
def State.trimSteps (s : State) : Nat := divCeil (2 ^ 48) s.tb.incr / 8

/-- Dead time and minimum pulse of a bay in steps (R197). -/
def State.deadSteps (s : State) (b : Nat) : Int := (s.mdPrm b 8 0 / 5 : Nat)
def State.minSteps (s : State) (b : Nat) : Int := (s.mdPrm b 9 0 / 5 : Nat)

/-- What the dead time adds to a pulse: −δ on discharge, +δ on charge, 0 where the previous tick's *i*\*_p lay within the deadband (R197, R198; DEDUCED, log 93). -/
def State.widthShift (s : State) (b : Nat) (charge inBand : Bool) : Int :=
  if inBand then 0 else if charge then s.deadSteps b else -s.deadSteps b

/-- The nearer of two levels, the lower on a tie. -/
def nearer (x a b : Int) : Int :=
  let da := (x - a).natAbs
  let db := (x - b).natAbs
  if da < db then a else if db < da then b else if a ≤ b then a else b

/-- The reachable level nearest to `x`, in sixteenths of a step (R198, R199). -/
def quantise (x n lo hi : Int) : Int :=
  let ends := nearer x 0 (16 * n)
  if hi < lo then ends else
  let k := clampI lo hi (x / 16)
  nearer x (nearer x (16 * k) (16 * clampI lo hi (k + 1))) ends

/-- The start edge of a pulse (R196). -/
def trimStart (n w : Nat) : Nat := (n - w) / 2

/-- What follows a trim of a brick at the next boundary: the brick conducts from it on, trims from `s` steps on, or does not conduct. -/
inductive After where
  | at' | later (s : Nat) | off
deriving DecidableEq, Repr

/-- The pulse makes no removal edge: on a charging brick, whose removal edge would take effect late, the dead time goes with it (R197). -/
def TrimItem.noStop (o : TrimItem) (tail : Nat) : TrimItem := { o with eff := o.eff + tail - (if o.mode = .pulse then o.shift.toNat else 0), joins := true }

/-- The pulse makes no insertion edge: on a discharging brick, whose insertion edge would take effect late, the dead time goes with it (R197). -/
def TrimItem.noStart (o : TrimItem) (head : Nat) : TrimItem := { o with eff := o.eff + head + (if o.mode = .pulse then (-o.shift).toNat else 0), joined := true }

/-- The old trim of a brick with the off interval that its node eats, and what that adds to the new one; an interval of no length has no edge either (R197, R198). -/
def eaten (m n : Nat) (o : TrimItem) (next : After) : TrimItem × Nat :=
  let tail := match o.mode with | .full => 0 | _ => n - (trimStart n o.width + o.width)
  match next with
  | .off => (o, 0)
  | .at' => if tail < m then (o.noStop tail, 0) else (o, 0)
  | .later s => if tail + s < m then (o.noStop tail, s) else (o, 0)

/-! ### A pier's plan -/

/-- The courses fitted in a pier, by course index (R28). -/
def State.fittedCourses (s : State) (p : Nat) : List Nat :=
  ((List.range 128).filter (fun c => (s.prm 0x0702 (p / 3) 0 (p % 3 * 4 + c / 32)).testBit (c % 32))).map (p * 128 + ·)

/-- The present bricks of a pier, in the order of their unit IDs. -/
def State.presentBricks (s : State) (p : Nat) : List (Nat × Rec) :=
  (trange s.rc.bricks (p * 12288) 12288).filter (fun e => e.2.state != .absent)

/-- The modulation state of a pier's present bricks as the tick finds it: one tick more since the latest change (R191). -/
def State.pierMods (s : State) (p : Nat) : Tab BrickMod :=
  (s.presentBricks p).map (fun e => let m := tget {} s.md.bricks e.1; (e.1, { m with since := incSat 8 m.since }))

/-- A plan for one pier. -/
structure Plan where
  mods : Tab BrickMod
  pier : PierMod
  mode : BlockMode
  /-- courses that take ALL_BYPASS in a polarity step -/
  stepped : List Nat := []
  entries : List (Nat × Sw) := []
  /-- trim that acts, with its steps -/
  item : Option TrimItem := none
  /-- bricks changed at the boundary, one entry a change -/
  changes : List Nat := []
  /-- bricks that overdrew their budget -/
  overs : List Nat := []
  capped : Bool := false
  noTrim : Bool := false
  polStep : Bool := false
  /-- target in codes, where one is planned -/
  target : Option Int := none
  /-- value drawn where the trim brick's code is 0 -/
  drawn : Nat := 0
deriving DecidableEq, Repr

/-- The courses that hold an inserted brick. -/
def insertedCourses (mods : Tab BrickMod) : List Nat := (mods.filter (fun e => e.2.sw == Sw.insert)).map (fun e => e.1 / 96)

/-- The trim role of a pier ends; its brick is barred for the rest of the cycle (R200). -/
def endRole (idx : Nat) (q : PierMod) (mods : Tab BrickMod) : Tab BrickMod :=
  match q.trim with
  | none => mods
  | some x => if idx = 799 ∨ (mods.any (fun e => e.1 == x)) = false then mods else tmod {} mods x (fun m => { m with barred := true })

/-- Every present brick goes to one state: forced changes (R190, R203). -/
def moveAll (mods : Tab BrickMod) (k budget : Nat) (sw : Sw) : Tab BrickMod × List Nat :=
  (mods.map (fun e => if e.2.sw = sw then e else (e.1, e.2.change k budget false sw)), (mods.filter (fun e => e.2.sw != sw)).map (fun e => e.1))

/-- The plan under rows 1 and 3 to 5 of R205. -/
def State.planWhole (s : State) (p : Nat) (mode : BlockMode) : Plan :=
  let q := s.pierMod p
  let mods := s.pierMods p
  let r := moveAll (endRole s.tb.idx q mods) (s.absTick + 1) (s.mdPrm (p / 3) 1 0) (if mode = .allFloat then .float else .bypass)
  { mods := r.1, mode := mode, changes := r.2
    pier := { q with trim := none, trimMode := .none, trimWidth := 0, tenure := 0, residue := 0, stepped := false } }

/-- The direction of R187 under a polarity: charge; within the deadband the direction of the previous tick is kept. -/
def State.pierDirection (s : State) (p : Nat) (neg was : Bool) : Bool :=
  let x := if neg then -(s.pierCtl p).istar else (s.pierCtl p).istar
  let d : Int := s.mdPrm (p / 3) 6 0
  if d < x then false else if x < -d then true else was

/-- *i*\*_p of this tick lies within the direction deadband, whatever *pol* (R187). -/
def State.pierInBand (s : State) (p : Nat) : Bool := decide ((s.pierCtl p).istar.natAbs ≤ s.mdPrm (p / 3) 6 0)

/-- A polarity step (R185). -/
def State.planStep (s : State) (p : Nat) (t : Int) : Plan :=
  let q := s.pierMod p
  let mods := endRole s.tb.idx q (s.pierMods p)
  let cs := (insertedCourses mods ++ (q.trim.map (· / 96)).toList).dedup
  let budget := s.mdPrm (p / 3) 1 0
  let hit := fun (e : Nat × BrickMod) => cs.contains (e.1 / 96) && e.2.sw != .bypass
  let neg := decide (t < 0)
  { mods := mods.map (fun e => if hit e then (e.1, e.2.change (s.absTick + 1) budget false .bypass) else e)
    mode := .normal, stepped := cs, changes := (mods.filter hit).map (fun e => e.1), polStep := true, target := some t
    pier := { q with neg := neg, charge := s.pierDirection p neg q.charge, stepped := true, trim := none, trimMode := .none, trimWidth := 0, tenure := 0, residue := 0 } }

/-- The forced entries of R194, in ascending order of unit ID, up to eight in a course. A brick that a missed block has left inserted with the polarity before a polarity step lies outside the base set, which starts empty after the step (R185). -/
def State.forced (s : State) (p : Nat) (c : Sel) (avail : List Nat) (prior : Tab BrickMod) (trim : Option Nat) (w : Work) : Work :=
  (s.presentBricks p).foldl (fun (w : Work) e =>
    let x := e.1
    let m := tget {} w.mods x
    let want := e.2.state.outside
    let ok := avail.contains x
    let due := if w.base.contains x then false else if m.sw = Sw.insert then true else (m.sw != want || (trim == some x && !ok))
    if ¬ due then w
    else if ¬ w.room x 1 then { w with capped := true }
    else
      let was := (tget {} prior x).sw
      let same : Bool := m.sw == want || was == want
      { w with entries := w.entries ++ [(x, want)], changes := if same then w.changes else x :: w.changes,
               mods := tset {} w.mods x (if same then { m with sw := want } else m.change c.at' c.budget false want) }) w

/-- The mode's own changes of the first tick after an enable, of the bricks no entry names (R207). -/
def modeMoves (c : Sel) (prior : Tab BrickMod) (w : Work) : Work :=
  prior.foldl (fun (w : Work) e =>
    if e.2.sw = .bypass ∨ w.entries.any (fun f => f.1 == e.1) then w
    else { w with mods := tmod {} w.mods e.1 (fun m => m.modeChange c.at' c.budget .bypass), changes := e.1 :: w.changes }) w

/-- Selection for a pier that modulates in tick n + 1 (R187, R192 to R200). `first`: the first tick after an enable; `level0`: R185 plans a level of 0. -/
def State.planSelect (s : State) (p : Nat) (t : Int) (first level0 : Bool) : Plan :=
  let b := p / 3
  let q0 := s.pierMod p
  let q : PierMod := if first then { q0 with neg := if t < 0 then true else if 0 < t then false else q0.neg, residue := 0 } else q0
  let d := s.pierDirection p q.neg q.charge
  let prior := s.pierMods p
  let snap := (trange s.rc.snapBricks (p * 12288) 12288).filter (fun e => s.selectable e.1 e.2)
  let cands := snap.map (fun e => let k := (tget none s.rc.snapKeys e.1).getD (0, 0); ({ x := e.1, key := if d then k.2 else k.1, v := e.2.vCell } : Cand))
  let avail := cands.map (fun k => k.x)
  let c : Sel := { cands := cands, dwell := s.mdPrm b 0 0, budget := s.mdPrm b 1 0, at' := s.absTick + 1, neg := q.neg }
  let mods0 := if first then prior.map (fun e => (e.1, { e.2 with sw := .bypass })) else prior
  let base := (mods0.filter (fun e => e.2.sw == Sw.insert && e.2.neg == q.neg && avail.contains e.1)).map (fun e => e.1)
  let w0 : Work := { mods := mods0, base := base, held := sumI (base.map (fun x => (c.vOf x : Int))) }
  let wf := s.forced p c avail prior q.trim w0
  let tenureMax := s.mdPrm b 10 0
  let trimOk := fun (w : Work) (x : Nat) => avail.contains x && !w.base.contains x && c.dwellMet w x &&
    (if q.trim = some x then decide (q.tenure + 1 ≤ tenureMax) else decide (s.tb.idx = 799) || !(tget {} w.mods x).barred)
  let keep := match q.trim with | some x => if trimOk wf x then some x else none | none => none
  let need : Int := if level0 then 0 else t.natAbs
  let w1 := c.removeLoop need wf.base.length wf
  let w2 := c.insertLoop need keep cands.length w1
  let w3 := c.rotate need (s.mdPrm b 3 0) keep (s.mdPrm b 2 0) w2
  let w4 := if first then modeMoves c prior w3 else w3
  let trim := if level0 then none else match keep with
    | some x => if trimOk w4 x then some x else (pick higher (cands.filter (fun k => trimOk w4 k.x))).map (fun k => k.x)
    | none => (pick higher (cands.filter (fun k => trimOk w4 k.x && q.trim != some k.x))).map (fun k => k.x)
  let n : Int := (s.trimSteps : Nat)
  let gap := need - w4.held
  let base' := { q with charge := d, stepped := false }
  let barredMods := if trim = q.trim then w4.mods else endRole s.tb.idx q w4.mods
  let plan : Plan := { mods := barredMods, pier := base', mode := if first then .allBypass else .normal, entries := w4.entries,
                       changes := w4.changes, overs := w4.overs, capped := w4.capped, target := some t }
  match trim with
  | none => { plan with pier := { base' with trim := none, trimMode := .none, trimWidth := 0, tenure := 0, residue := if first then 0 else q.residue },
                        noTrim := decide (0 < gap) && !level0 }
  | some x =>
    let v := c.vOf x
    let draw : Bool := v == 0
    let dd : Int := if draw then ((Config.freeValue s.freeCtr % (16 * s.trimSteps + 1) : Nat) : Int) else clampI 0 (16 * n) (divRne (gap * n * 16) v)
    let sh := s.widthShift b d q.inBand
    let m := s.minSteps b
    let r := (if first then 0 else q.residue) + dd
    let lev := quantise r n (m + sh) (n - m + sh)
    let mode : TrimMode := if lev = 0 then .none else if lev = 16 * n then .full else .pulse
    let width : Nat := match mode with | .pulse => (lev / 16 - sh).toNat | .full => n.toNat | .none => 0
    { plan with
      pier := { base' with trim := some x, trimMode := mode, trimWidth := width, tenure := if q.trim = some x then q.tenure + 1 else 1,
                           residue := if first then 0 else r - lev }
      item := if mode = .none then none else some { brick := x, mode := mode, width := width, eff := (lev / 16).toNat, shift := if mode = .pulse then sh else 0, neg := q.neg, joined := false, joins := false }
      noTrim := decide (0 < dd) && mode == .none
      drawn := bit draw }

/-- The target of a pier in codes (R160, R184, R308). -/
def State.targetCodes (s : State) (p : Nat) : Int := divRne (4 * (if s.rd.flywheel then s.flyTarget p else (s.pierCtl p).u)) 5

/-- The plan of a pier by the precedence of R205; none under HOLD. -/
def State.planPier (s : State) (p : Nat) : Option Plan :=
  let b := p / 3
  let q := s.pierMod p
  if s.md.latch then some (s.planWhole p .allFloat)
  else if (s.bayMod b).frozen then none
  else if q.mode = .floated ∨ (s.bayMod b).plumbFloat then some (s.planWhole p .allFloat)
  else if q.mode = .bypassed ∨ s.bayMode b = 0 then some (s.planWhole p .allBypass)
  else if (tget {} s.xp.idle b).standby then some (s.planWhole p .allBypass)
  else
    let t := s.targetCodes p
    if q.first then some (s.planSelect p t true false)
    else if t = 0 ∨ decide (t < 0) = q.neg then some (s.planSelect p t false false)
    else if 5 * t.natAbs ≤ 4 * s.mdPrm b 7 0 then some (s.planSelect p t false true)
    else some (s.planStep p t)

/-! ### The plan takes effect (R79, R199, R201, R202, R217) -/

/-- Replace the entries of `t` in `[lo, lo + n)`. -/
def tsplice {α : Type} (t : Tab α) (lo n : Nat) (new : Tab α) : Tab α :=
  t.filter (fun e => decide (e.1 < lo)) ++ new ++ t.filter (fun e => decide (lo + n ≤ e.1))

/-- A V_CELL code of the snapshot. -/
def State.snapV (s : State) (x : Nat) : Nat := (tget {} s.rc.snapBricks x).vCell

/-- A magnitude with a polarity. -/
def signed (neg : Bool) (v : Rat) : Rat := if neg then -v else v

/-- What a trim presents in a tick of `n` steps, by an effective width (R201). -/
def State.trimCodes (s : State) (n eff : Nat) (i : TrimItem) : Rat := signed i.neg ((eff * s.snapV i.brick : Nat) / ((if n = 0 then 1 else n : Nat) : Rat))

/-- The codes one course presents in a tick: its inserted bricks and its trims, each with the polarity it was inserted with (R201). -/
def State.courseCodes (s : State) (mods : Tab BrickMod) (r : TrimRec) (c : Nat) : Rat :=
  let whole := (mods.filter (fun e => e.1 / 96 == c && e.2.sw == Sw.insert)).foldl (fun (a : Rat) e => a + signed e.2.neg (s.snapV e.1 : Nat)) 0
  (r.items.filter (fun i => i.brick / 96 == c)).foldl (fun (a : Rat) i => a + s.trimCodes r.n i.eff i) whole

/-- Volts in Q18.14 of a sum of codes (R201): one code is 5/4 of a step. -/
def codesToVolts (c : Rat) : Int := satS 32 (ratRne (c * 5 / 4))

/-- The block of a course (R202). -/
def planBlock (pl : Plan) (n tag c : Nat) : Block :=
  let es := (pl.entries.filter (fun e => e.1 / 96 == c)).map (fun e => (e.1 % 96, e.2))
  if pl.mode = .allFloat then { mode := .allFloat, neg := pl.pier.neg, tag := tag }
  else if pl.stepped.contains c then { mode := .allBypass, neg := pl.pier.neg, tag := tag }
  else
    let k : Block := { mode := pl.mode, neg := pl.pier.neg, tag := tag, entries := es }
    match pl.item with
    | some i => if i.brick / 96 = c then
        (let st := if i.mode = .pulse then trimStart n i.width else 0
         { k with trimBrick := i.brick % 96, trimMode := i.mode, start := st, stop := if i.mode = .pulse then st + i.width else 0 })
      else k
    | none => k

/-- One tick of a pier's statistics (R217). -/
def ModStat.count (w : ModStat) (s : State) (p : Nat) (pl : Plan) (off missed : Bool) (level : Nat) : ModStat :=
  { w with
    ticks := incSat 16 w.ticks, slewing := w.slewing || s.tb.slewing, missed := w.missed || missed
    standby := w.standby || (tget {} s.xp.idle (p / 3)).standby
    disabled := w.disabled || !s.md.pierOn p || (s.bayMod (p / 3)).plumbFloat || (s.bayMod (p / 3)).frozen || s.md.latch
    changes := satU 16 (w.changes + pl.changes.length), overdrawn := satU 16 (w.overdrawn + pl.overs.length), capped := satU 16 (w.capped + bit pl.capped)
    offTarget := satU 16 (w.offTarget + bit off), noTrim := satU 16 (w.noTrim + bit pl.noTrim), polSteps := satU 16 (w.polSteps + bit pl.polStep)
    maxLevel := Nat.max w.maxLevel (satU 16 level) }

/-- A plan that changes nothing: HOLD, or a plan that missed its deadline; the trim brick keeps its role through it (R79, R199, R200, R214). -/
def State.planHold (s : State) (p : Nat) (mode : BlockMode) : Plan :=
  let q := s.pierMod p
  { mods := s.pierMods p, pier := { q with tenure := if q.trim.isSome then incSat 10 q.tenure else q.tenure }, mode := mode }

/-- The plan of a pier that a freeze holds: its direction follows *i*\* as in any tick, unless it is in OFF, disabled or floated (R187, R214). -/
def State.planFreeze (s : State) (p : Nat) : Plan :=
  let pl := s.planHold p .hold
  if s.md.pierOn p && s.bayMode (p / 3) != 0 && !(s.bayMod (p / 3)).plumbFloat then { pl with pier := { pl.pier with charge := s.pierDirection p pl.pier.neg pl.pier.charge } } else pl

/-- A trim as a block without one repeats it: its commanded timing, no interval eaten yet (R79, R203). -/
def TrimItem.again (i : TrimItem) : TrimItem :=
  { i with eff := if i.mode = .pulse then ((i.width : Int) + i.shift).toNat else i.eff, joined := false, joins := false }

/-- What follows a trim of brick `x` at the next boundary (R197). -/
def afterTrim (mods : Tab BrickMod) (items : List TrimItem) (n x : Nat) : After :=
  if (tget {} mods x).sw = .insert then .at' else
  match items.find? (fun i => i.brick == x) with
  | some i => if i.mode = .full then .at' else .later (trimStart n i.width)
  | none => .off

/-- A pier's plan goes into the state: the blocks sent, the realised voltage, the records of what was commanded, the statistics. -/
def State.commitPlan (s : State) (p : Nat) (pl0 : Plan) (hold missed : Bool) : State :=
  let b := p / 3
  let old := s.pierMods p
  let q0 := s.pierMod p
  let fit := s.fittedCourses p
  let gone := if missed then fit else fit.filter (fun c => s.md.missCourses.contains c)
  let n := s.trimSteps
  let last := q0.trims.headD {}
  -- courses without a block keep their bricks' states and repeat their trims
  let lost := fun (x : Nat) => gone.contains (x / 96)
  let mods := pl0.mods.map (fun e => if lost e.1 then (e.1, { tget {} old e.1 with barred := e.2.barred }) else e)
  let lostTrim := pl0.pier.trim.any lost
  let nNow := if hold then last.n else n
  let next := (last.items.filter (fun i => hold || lost i.brick)).map (fun i => i.again) ++ (pl0.item.filter (fun i => !lost i.brick)).toList
  -- intervals the node eats
  let m := (s.minSteps b).toNat
  let eats := last.items.map (fun o => eaten m last.n o (afterTrim mods next nNow o.brick))
  let items := next.map (fun i => eats.foldl (fun (a : TrimItem) e => if e.1.brick = i.brick ∧ e.1.joins then a.noStart e.2 else a) i)
  let last' := { last with items := eats.map (fun e => e.1) }
  let prev := (last.items.zip last'.items).foldl (fun (a : Rat) e => a + s.trimCodes last.n (e.2.eff - e.1.eff) e.1) q0.codes
  -- the realised voltage of the tick planned
  let rec' : TrimRec := { tick := s.absTick + 1, n := nNow, neg := if hold || missed then last.neg else pl0.pier.neg, items := items
                          role := if hold || missed then last.role else if lostTrim then last.role.filter lost else pl0.pier.trim }
  let lit := (insertedCourses mods ++ rec'.items.map (fun (i : TrimItem) => i.brick / 96)).dedup
  let known := lit.foldl (fun (t : Tab Rat) c => if s.darkCourse c then t else tset 0 t c (s.courseCodes mods rec' c))
    (tmapIf 0 (fun c => decide (c / 128 = p) && !s.darkCourse c && !lit.contains c) (fun _ _ => 0) s.md.known)
  let zero : Bool := !hold && (pl0.mode == .allFloat || (pl0.mode == .allBypass && !q0.first) || pl0.polStep)
  let light := (lit.filter (fun c => !s.darkCourse c)).foldl (fun (a : Rat) c => a + tget 0 known c) 0
  let dark := ((trange known (p * 128) 128).filter (fun e => s.darkCourse e.1 && decide (s.darkAge e.1 < 8))).foldl (fun (a : Rat) e => a + e.2) 0
  let codes := if zero then light else light + dark
  let vmin : Rat := (s.prm 0x0702 b 3 1 * 65536 : Nat) / 5000
  let off : Bool := !missed && (match pl0.target with
    | some t => let d := codes - t; decide (vmin < (if d < 0 then -d else d))
    | none => false)
  let q1 : PierMod := if missed then pl0.pier else { pl0.pier with first := false, residue := if lostTrim then q0.residue else pl0.pier.residue }
  let stats := { pl0 with changes := pl0.changes.filter (fun x => !lost x), overs := pl0.overs.filter (fun x => !lost x) }
  let q2 := { q1 with codes := codes, inBand := s.pierInBand p, trims := (rec' :: last' :: q0.trims.drop 1).take 4,
                      win := q0.win.count s p stats off (missed || !gone.isEmpty) (mods.filter (fun e => e.2.sw == Sw.insert)).length }
  let tag := (s.absTick + 1) % 256
  let blocks := (fit.filter (fun c => !gone.contains c)).map (fun c => (c, some (planBlock pl0 n tag c)))
  let v := fun (c : PierCtl) => ({ c with ur2 := c.ur1, ur1 := codesToVolts prev, ur := codesToVolts codes } : PierCtl)
  { s with
    md := { s.md with
      piers := tset {} s.md.piers p q2, bricks := tsplice s.md.bricks (p * 12288) 12288 mods, known := known
      blocks := tsplice s.md.blocks (p * 128) 128 blocks
      overdraw := s.md.overdraw || !stats.overs.isEmpty, offTarget := s.md.offTarget || off, entryCap := s.md.entryCap || stats.capped }
    ce := { s.ce with piers := tmod {} s.ce.piers p v }
    freeCtr := s.freeCtr + pl0.drawn }

/-- Stage 6 of one pier; a pier no tile serves gets no blocks and holds (R79, R312). -/
def State.modulatePier (s : State) (p : Nat) : State :=
  if ¬ s.served (p / 3) ∨ s.md.missPiers.contains p then s.commitPlan p (s.planHold p .hold) true true
  else match s.planPier p with
    | some pl => s.commitPlan p pl false false
    | none => s.commitPlan p (s.planFreeze p) true false

/-! ### Flywheel (10 R306 to R309) -/

/-- Float the bays that a flywheeling tile must float at once (R309). -/
def State.flyFloat (s : State) (bs : List Nat) : State :=
  if bs = [] then s else
  State.endSyncOf { s with md := bs.foldl (fun (m : Modulator) b => (m.floatBay b).tripBay b) s.md, rd := { s.rd with flyFloat := true } } bs

/-- A modulating pier has an entry that was never written (R308, R309). -/
def State.driveGap (s : State) (p : Nat) : Bool :=
  s.pierRuns p && !(decide ((trange s.rd.drive (p * 800) 800).length = 800))

/-- A keystone's targets have reached this tick's stage 6 (R306). -/
def State.targetsHere (s : State) : Bool := s.ksLive && s.ce.winTick == s.absTick

/-- The flywheel's part of stage 6 (R306, R308, R309). -/
def State.flyTick (s : State) : State :=
  if s.targetsHere ∧ ¬ s.rd.flywheel then s else
  let enter := ¬ s.rd.flywheel
  let stop := s.st.stopPhase = 1
  let rd := s.rd
  let rd1 := if enter then
      { rd with flywheel := true, flyTicks := 1, ramp := decide stop, stopRamp := decide stop, rampTicks := if stop then 8000 - s.st.rampLeft else 0,
                counts := rd.counts.set 1 (incSat 32 (rd.counts.getD 1 0)), ticks := rd.ticks.set 1 s.absTick }
    else { rd with flyTicks := incSat 16 rd.flyTicks, rampTicks := if rd.ramp then Nat.min 8000 (rd.rampTicks + 1) else rd.rampTicks }
  let s1 := { s with rd := rd1 }
  let gaps := s1.allBays.filter (fun b => (List.range 3).any (fun k => s1.driveGap (3 * b + k)))
  let bad := if s1.vInvalid then s1.allBays.filter s1.bayRuns else []
  s1.flyFloat (gaps ++ bad)

/-! ### Lab freeze (R213 to R215) -/

/-- Bays of which some pier is enabled. -/
def State.enabledBays (s : State) : List Nat := s.allBays.filter s.md.bayLive

/-- The freeze takes effect in stage 6 (R214), and its ticks count (R215). -/
def State.freezeTick (s : State) : State :=
  let m := s.md
  if m.freezeDue then
    { s with md := { m with freezeDue := false, frozen := true, freezeTicks := 1
                            bays := s.enabledBays.foldl (fun (t : Tab BayMod) b => tmod {} t b (fun x => { x with frozen := true })) m.bays } }
  else if m.frozen then { s with md := { m with freezeTicks := satU 26 (m.freezeTicks + 1) } } else s

/-! ### MODULATION_STAGE -/

/-- A keystone writes its heartbeat: the one whose stage 5 has run, and a standby that is up (R303). -/
def State.beatWritten (s : State) (k : Nat) : Bool :=
  if k = s.rd.active then s.ksRuns && s.ce.winTick == s.absTick else s.rd.haveActive && (s.rd.standby == .syncing || s.rd.standby == .ready)

/-- The heartbeats of a tick (R303, R312). -/
def State.heartbeat (s : State) : State :=
  let beats := iter 2 (fun k (t : Tab Nat) => if s.beatWritten k then tset 0 t k s.absTick else t) s.rd.beats
  let tiles := iter s.nTiles (fun t (x : Tab Tile) => tmod {} x t (fun y => if y.phase = .out then y else { y with beat := s.absTick })) s.rd.tiles
  { s with rd := { s.rd with beats := beats, tiles := tiles, sixTick := s.absTick } }

/-- MODULATION_STAGE (R76, R184 to R202). -/
def doModulationStage (s : State) : State :=
  if ¬ s.tb.running then s else
  let s1 := s.flyTick.freezeTick
  let s2 := (List.range (3 * s1.nBays)).foldl State.modulatePier s1
  ({ s2 with md := { s2.md with ran := true, missPiers := [], missCourses := [] } }).heartbeat

/-! ### Disable and enable (R206, R207, R343, R371) -/

/-- Disable one pier to a mode; a synchronising bay ends its synchronisation first (R336). -/
def State.disablePier (s : State) (p : Nat) (mode : PierMode) : State :=
  let s1 := if s.syncingBay (p / 3) then s.endSync 0 else s
  if (s1.pierMod p).mode = mode ∧ ¬ (s1.pierMod p).enabling then s1 else { s1 with md := s1.md.setPier p mode }

/-- Disable a whole bay to FLOAT. -/
def State.disableFloat (s : State) (b : Nat) : State :=
  let s1 := if s.syncingBay b then s.endSync 0 else s
  if (s1.pierMod (3 * b)).mode = .floated ∧ (s1.pierMod (3 * b + 1)).mode = .floated ∧ (s1.pierMod (3 * b + 2)).mode = .floated ∧
     (List.range 3).all (fun k => !(s1.pierMod (3 * b + k)).enabling) then s1
  else { s1 with md := s1.md.floatBay b }

/-- The disable mode asked for: FLOAT, with PROFILE taken from the bay (R206). -/
def State.asksFloat (s : State) (b mode : Nat) : Bool := mode == 1 || (mode == 2 && s.mdPrm b 11 0 == 1)

/-- Disable a bay; true where FLOAT was applied (R206). -/
def State.disableBay (s : State) (b mode : Nat) : State × Bool :=
  if s.asksFloat b mode ∨ (s.bayLink b).closed then (s.disableFloat b, true)
  else (((s.disablePier (3 * b) .bypassed).disablePier (3 * b + 1) .bypassed).disablePier (3 * b + 2) .bypassed, false)

/-- The reply of a disable: the mode and the scope applied. -/
def disableReply (float : Bool) (level : Nat) : Ans := okAns [bit float, level]

/-- The answer of PIER_DISABLE (R206, R436). -/
def pierDisable (unit mode : Nat) (s : State) : State × Ans :=
  let u := checkLevel s.nBays 2 unit
  let b := u.2.bay
  if u.1 ≠ 0 then (s, refuseAns u.1 0x0704 255 unit)
  else if 2 < mode then (s, refuseAns stRange 0x0704 255 unit)
  else if (s.bayLink b).closed then (s.disableFloat b, disableReply true 3)
  else
    let f := s.asksFloat b mode
    (s.disablePier (pierIx b u.2.pier) (if f then .floated else .bypassed), disableReply f 2)
def doPierDisable (h : Hdr) (unit mode : Nat) (s : State) : State := s.hostJ (.pierDisable h unit mode) h 0x0704 (pierDisable unit mode)
def execPierDisable (h : Hdr) (unit mode : Nat) (s : State) : Host.Outcome State Fault Refusal := .next (doPierDisable h unit mode s)

/-- The answer of BAY_DISABLE (R206, R436). -/
def bayDisable (unit mode : Nat) (s : State) : State × Ans :=
  let u := checkLevel s.nBays 3 unit
  if u.1 ≠ 0 then (s, refuseAns u.1 0x0705 255 unit)
  else if 2 < mode then (s, refuseAns stRange 0x0705 255 unit)
  else let r := s.disableBay u.2.bay mode; (r.1, disableReply r.2 3)
def doBayDisable (h : Hdr) (unit mode : Nat) (s : State) : State := s.hostJ (.bayDisable h unit mode) h 0x0705 (bayDisable unit mode)
def execBayDisable (h : Hdr) (unit mode : Nat) (s : State) : Host.Outcome State Fault Refusal := .next (doBayDisable h unit mode s)

/-- The answer of PLANT_DISABLE (R206, R436): FLOAT in the reply where any bay took it. -/
def plantDisable (unit mode : Nat) (s : State) : State × Ans :=
  let u := checkLevel s.nBays 4 unit
  if u.1 ≠ 0 then (s, refuseAns u.1 0x0706 255 unit)
  else if 2 < mode then (s, refuseAns stRange 0x0706 255 unit)
  else
    let r := s.allBays.foldl (fun (a : State × Bool) b => let q := a.1.disableBay b mode; (q.1, a.2 || q.2)) (s, false)
    (r.1, disableReply r.2 4)
def doPlantDisable (h : Hdr) (unit mode : Nat) (s : State) : State := s.hostJ (.plantDisable h unit mode) h 0x0706 (plantDisable unit mode)
def execPlantDisable (h : Hdr) (unit mode : Nat) (s : State) : Host.Outcome State Fault Refusal := .next (doPlantDisable h unit mode s)

/-- Both OCV tables are in the bay's profile (R207, R233). -/
def State.ocvPresent (s : State) (b : Nat) : Bool :=
  let ws := s.xp.act.row 0x0801 b 4
  (ws.take 65).any (fun w => w != 0) && (ws.drop 65).any (fun w => w != 0)

/-- An enable of the bay is allowed (R207, R343, R371, and not in the MAINTAIN state: R442). -/
def State.enableOk (s : State) (b : Nat) : Bool :=
  !s.md.latch && !(s.bayLink b).closed && s.bayMode b != 0 && !s.md.frozen && s.ocvPresent b && !s.stopping && !s.fu.maint && s.huReady &&
  (s.bayStart b).excl != .tile

/-- A pier's enable is accepted (R207); an enabled pier stays so. -/
def Modulator.askEnable (m : Modulator) (p : Nat) : Modulator :=
  { m with piers := tmod {} m.piers p (fun q => if q.mode = .enabled then q else { q with enabling := true }) }

/-- The whole bay's enable is accepted. -/
def Modulator.askBay (m : Modulator) (b : Nat) : Modulator := ((m.askEnable (3 * b)).askEnable (3 * b + 1)).askEnable (3 * b + 2)

/-- The answer of PIER_ENABLE (R207, R436). -/
def pierEnable (unit : Nat) (s : State) : State × Ans :=
  let u := checkLevel s.nBays 2 unit
  if u.1 ≠ 0 then (s, refuseAns u.1 0x0707 255 unit)
  else if ¬ s.enableOk u.2.bay ∨ (s.bayStart u.2.bay).excl ≠ .none then (s, refuseAns stState 0x0707 255 unit)
  else ({ s with md := s.md.askEnable (pierIx u.2.bay u.2.pier) }, acceptedAns)
def doPierEnable (h : Hdr) (unit : Nat) (s : State) : State := s.hostJ (.pierEnable h unit) h 0x0707 (pierEnable unit)
def execPierEnable (h : Hdr) (unit : Nat) (s : State) : Host.Outcome State Fault Refusal := .next (doPierEnable h unit s)

/-- An exclusion by command ends: the bay resumes the step it had reached (R337), step 8 where its lane has trained and its hub is admitted meanwhile (R323). -/
def State.clearExclusion (s : State) (b : Nat) : State :=
  if (s.bayStart b).excl = .command then
    { s with st := { s.st with bays := tmod {} s.st.bays b (fun x =>
      let waits := x.back = .lane ∨ (x.back = .waitDevice ∧ s.st.devStep = 7)
      { x with excl := .none, phase := if waits then (if s.hubIn b then .admitting else .lane) else x.back, reason := if waits ∧ s.hubIn b then 0 else x.backReason, age := 0, exclDue := false }) } }
  else s

/-- The answer of BAY_ENABLE (R207, R337, R371, R436). -/
def bayEnable (unit : Nat) (s : State) : State × Ans :=
  let u := checkLevel s.nBays 3 unit
  let b := u.2.bay
  if u.1 ≠ 0 then (s, refuseAns u.1 0x0708 255 unit)
  else if s.stopping || s.fu.maint || !s.huReady then (s, refuseAns stState 0x0708 255 unit)
  else
    let was := (s.bayStart b).excl = .command
    let s1 := s.clearExclusion b
    if s1.enableOk b then ({ s1 with md := s1.md.askBay b }, acceptedAns)
    else if was then (s1, acceptedAns) else (s, refuseAns stState 0x0708 255 unit)
def doBayEnable (h : Hdr) (unit : Nat) (s : State) : State := s.hostJ (.bayEnable h unit) h 0x0708 (bayEnable unit)
def execBayEnable (h : Hdr) (unit : Nat) (s : State) : Host.Outcome State Fault Refusal := .next (doBayEnable h unit s)

/-- The answer of PLANT_ENABLE (R207, R371, R436): the bays enabled and the bays left. -/
def plantEnable (unit : Nat) (s : State) : State × Ans :=
  let u := checkLevel s.nBays 4 unit
  if u.1 ≠ 0 then (s, refuseAns u.1 0x0709 255 unit)
  else if s.stopping || s.fu.maint || !s.huReady then (s, refuseAns stState 0x0709 255 unit)
  else
    let ok := s.allBays.filter (fun b => s.enableOk b && (s.bayStart b).excl == .none)
    ({ s with md := ok.foldl Modulator.askBay s.md }, acceptedAns (le 2 ok.length ++ le 2 (s.nBays - ok.length)))
def doPlantEnable (h : Hdr) (unit : Nat) (s : State) : State := s.hostJ (.plantEnable h unit) h 0x0709 (plantEnable unit)
def execPlantEnable (h : Hdr) (unit : Nat) (s : State) : Host.Outcome State Fault Refusal := .next (doPlantEnable h unit s)

/-- A pier is enabled: the bay's causes of floating end, its brick nodes take the times of R216, its drive table starts anew (R207, R211, R308). -/
def State.landEnable (s : State) (p : Nat) : State :=
  let b := p / 3
  { s with
    md := { s.md with
      piers := tmod {} s.md.piers p (fun q => { q with mode := .enabled, enabling := false, first := true, stepped := false, residue := 0 })
      bays := tmod {} s.md.bays b (fun x => { x with plumbFloat := false, marginTrip := false, loadedTimes := s.mdPrm b 8 0 * 65536 + s.mdPrm b 9 0 }) }
    lk := { s.lk with bays := tmod {} s.lk.bays b (fun l => { l with release := l.release || l.lost, lost := false }) }
    rd := { s.rd with drive := tdrop (fun k => decide (k / 800 = p)) s.rd.drive } }

/-- ENABLE_LANDING (R207): an accepted enable lands at the cycle boundary; it drops where its conditions have gone; an event reports which (R416, log 29). In flywheel a disabled bay stays as it is, and the enable waits (R307, log 98). -/
def doEnableLanding (bay pier : Nat) (s : State) : State :=
  let p := pierIx bay pier
  if (s.pierMod p).enabling ∧ s.tb.idx = 0 ∧ ¬ s.rd.flywheel then
    (if s.enableOk bay then s.landEnable p else { s with md := { s.md with piers := tmod {} s.md.piers p (fun q => { q with enabling := false }) } }).raise
      { kind := .enableLanded, unit := pierUid p, detail := bit (s.enableOk bay) }
  else s
def execEnableLanding (bay pier : Nat) (s : State) : Host.Outcome State Fault Refusal :=
  if s.nBays ≤ bay ∨ 3 ≤ pier then .fault .noSuchUnit else .next (doEnableLanding bay pier s)

/-! ### The trip path (R208 to R212) -/

/-- A trip input is enabled (R208). -/
def State.tripEnabled (s : State) (i : Nat) : Bool := s.prm 0x0703 i 0 0 == 1

/-- Some GS_TRIP input is enabled (R210). -/
def State.anyGsTrip (s : State) : Bool := (List.range 8).any s.tripEnabled

/-- A filtered input's level (R219). -/
def Modulator.setInput (m : Modulator) (i : Nat) (v : Bool) : Modulator :=
  if i < 8 then { m with gsIn := setBit m.gsIn i v } else { m with gpioIn := setBit m.gpioIn (i - 8) v }

/-- An input's cause (R209). -/
def Modulator.setCause (m : Modulator) (i : Nat) : Modulator :=
  if i < 8 then { m with gsCause := setBit m.gsCause i true } else { m with gpioCause := setBit m.gpioCause (i - 8) true }

/-- The ball of GPIO12 to GPIO15 as a trip input: its level is what the input's state says (R208, R524). -/
def State.trackBall (s : State) (i : Nat) (v : Bool) : State :=
  if i < 8 then s else { s with sys := { s.sys with gpioPins := setBit s.sys.gpioPins (i + 4) (v == (s.prm 0x0703 i 1 0 == 1)) } }

/-- TRIP_INPUT_ASSERT (R208, R209): `input` 0 to 7 GS_TRIP, 8 to 11 GPIO12 to GPIO15. DESIGN CHOICE (log 137): it withdraws a TRIP_RESET of the same tick. -/
def doTripInputAssert (i : Nat) (s : State) : State :=
  if 8 ≤ i ∧ ¬ s.tripEnabled i then s else
  let s1 := State.trackBall { s with md := s.md.setInput i true } i true
  if s.tripEnabled i then s1.setLatch (fun m => { m.setCause i with resetDue := false }) else s1
def execTripInputAssert (i : Nat) (s : State) : Host.Outcome State Fault Refusal := if 12 ≤ i then .fault .noSuchUnit else .next (doTripInputAssert i s)

/-- TRIP_INPUT_RELEASE (R219): the filtered input leaves its asserted level. -/
def doTripInputRelease (i : Nat) (s : State) : State := State.trackBall { s with md := s.md.setInput i false } i false
def execTripInputRelease (i : Nat) (s : State) : Host.Outcome State Fault Refusal := if 12 ≤ i then .fault .noSuchUnit else .next (doTripInputRelease i s)

/-- ISO_SUPPLY_LOSS (R210, R110): every grid-sense channel is invalid and presented as 0, and every enabled GS_TRIP input counts as asserted, which withdraws a TRIP_RESET of the same tick (DESIGN CHOICE, log 137). -/
def doIsoSupplyLoss (s : State) : State :=
  let s1 := { s with sp := { s.sp with isoFault := true, gs := iter 8 (fun k (t : Tab GridSense) => tset {} t k { invalid := true }) s.sp.gs } }
  if s.anyGsTrip then s1.setLatch (fun m => { m with isoCause := true, resetDue := false }) else s1
def execIsoSupplyLoss (s : State) : Host.Outcome State Fault Refusal := .next (doIsoSupplyLoss s)

/-- ISO_SUPPLY_RETURN (R212). -/
def doIsoSupplyReturn (s : State) : State := { s with sp := { s.sp with isoFault := false } }
def execIsoSupplyReturn (s : State) : Host.Outcome State Fault Refusal := .next (doIsoSupplyReturn s)

/-- TRIP_ASSERT (R212). DESIGN CHOICE (log 137): it withdraws a TRIP_RESET of the same tick that has not yet cleared the latch. -/
def tripAssert (s : State) : State × Ans := (s.setLatch (fun m => { m with cmdCause := true, resetDue := false }), okAns)
def doTripAssert (h : Hdr) (s : State) : State := s.hostJ (.tripAssert h) h 0x070A tripAssert
def execTripAssert (h : Hdr) (s : State) : Host.Outcome State Fault Refusal := .next (doTripAssert h s)

/-- The answer of TRIP_RESET (R212): the latch clears at the end of the tick. -/
def tripReset (s : State) : State × Ans :=
  let held := (List.range 12).any (fun i => s.tripEnabled i && (if i < 8 then s.md.gsIn.testBit i else s.md.gpioIn.testBit (i - 8)))
  if held ∨ s.sp.isoFault then (s, refuseAns stState 0x070B 255 0) else ({ s with md := { s.md with resetDue := true } }, okAns)
def doTripReset (h : Hdr) (s : State) : State := s.hostJ (.tripReset h) h 0x070B tripReset
def execTripReset (h : Hdr) (s : State) : Host.Outcome State Fault Refusal := .next (doTripReset h s)

/-- The end of the tick of a TRIP_RESET (R212, R219). -/
def Modulator.endReset (m : Modulator) : Modulator :=
  if m.resetDue then { m with latch := false, resetDue := false, gsCause := 0, gpioCause := 0, isoCause := false, cmdCause := false, freezeCause := false } else m

/-! ### Freeze rows (R213 to R215, R221) -/

/-- A freeze is asked for, by `freeze_req` or by a debug halt of the active keystone (R213, R214). -/
def doFreezeReq (halt : Bool) (s : State) : State :=
  if s.production then { s with md := { s.md with freezeDenied := true } }
  else
    let m := if halt then { s.md with halted := true } else { s.md with freezeReq := true }
    { s with md := { m with freezeDue := m.freezeDue || !m.frozen } }
def execFreezeReq (halt : Bool) (s : State) : Host.Outcome State Fault Refusal := .next (doFreezeReq halt s)

/-- The freeze ends: every frozen bay is floated, the residues are 0 (R215). -/
def State.endFreeze (s : State) : State :=
  let bs := s.allBays.filter (fun b => (s.bayMod b).frozen)
  let m := s.md.floatBays bs
  State.endSyncOf { s with md := { m with frozen := false, freezeDue := false, freezeTicks := 0
                                          bays := bs.foldl (fun (t : Tab BayMod) b => tmod {} t b (fun x => { x with frozen := false })) m.bays, piers := tmapAll {} (fun q => { q with residue := 0 }) m.piers } } bs

/-- FREEZE_END (R215): the request is cleared or the debug halt released. DESIGN CHOICE (log 111): where both hold the freeze, it ends when both have gone; R215 speaks of one. -/
def doFreezeEnd (halt : Bool) (s : State) : State :=
  let m := if halt then { s.md with halted := false } else { s.md with freezeReq := false }
  let s1 := { s with md := m }
  if m.freezeReq ∨ m.halted then s1 else if m.frozen then s1.endFreeze else { s with md := { m with freezeDue := false } }
def execFreezeEnd (halt : Bool) (s : State) : Host.Outcome State Fault Refusal := .next (doFreezeEnd halt s)

/-- FREEZE_LIMIT (R215): the trip latch sets, and ALL_FLOAT stands above HOLD. -/
def doFreezeLimit (s : State) : State :=
  if s.md.frozen ∧ s.md.freezeLimit * 800 ≤ s.md.freezeTicks then s.setLatch (fun m => { m with freezeCause := true, resetDue := false }) else s
def execFreezeLimit (s : State) : Host.Outcome State Fault Refusal := .next (doFreezeLimit s)

/-! ### Statistics (R217) -/

/-- A statistics record's 32 bytes (R217). -/
def ModStat.bytes (w : ModStat) (p : Nat) : List Nat :=
  le 6 w.cycle ++ le 2 (fld p 0 9 + fld w.window 9 2 + b1 w.split 11 + b1 w.slewing 12 + b1 w.missed 13 + b1 w.standby 14 + b1 w.disabled 15) ++
  le 4 w.generation ++ le 2 w.firstTick ++ le 2 w.ticks ++ le 2 w.changes ++ le 2 w.overdrawn ++ le 2 w.capped ++ le 2 w.offTarget ++
  le 2 w.noTrim ++ le 2 w.polSteps ++ le 2 w.maxLevel ++ le 2 w.courseFaults

/-- MD_STATS_READ (R217, R436). -/
def mdStatsRead (h : Hdr) (pier start max : Nat) (s : State) : State × Ans :=
  let u := checkLevel s.nBays 2 pier
  if u.1 ≠ 0 then (s, refuseAns u.1 0x070C 255 pier)
  else let p := pierIx u.2.bay u.2.pier; (s, okAns (cursor h.udp 32 start max ((s.pierMod p).recs.map (fun r => r.bytes p))))
def doMdStatsRead (h : Hdr) (pier start max : Nat) (s : State) : State := s.host h 0x070C (mdStatsRead h pier start max)
def execMdStatsRead (h : Hdr) (pier start max : Nat) (s : State) : Host.Outcome State Fault Refusal := .next (doMdStatsRead h pier start max s)

/-- Close a pier's statistics window and open another; records of the latest 16 cycles stay (R134, R217). -/
def PierMod.turn (q : PierMod) (cycle window generation first : Nat) (split : Bool) : PierMod :=
  { q with win := { cycle := cycle, window := window, split := split, generation := generation, firstTick := first },
           recs := ({ q.win with split := q.win.split || split } :: q.recs).filter (fun r => decide (cycle < r.cycle + 17)) }

/-- Budgets and trim bars are restored at a cycle boundary (R190, R200). DESIGN CHOICE (log 112): a change planned in tick 799, which acts at the boundary, spends the ending cycle's budget; R190 does not say whose. -/
def Modulator.newCycle (m : Modulator) : Modulator := { m with bricks := tmapAll {} (fun x => { x with spent := 0, barred := false }) m.bricks }

end Sys2Proof.Machine
end

