-- ==== Sys2Proof/Machine/RecordPass.lean ====
section
/-! DEFINITION. Stage 2 as a whole: RECORD_PASS, RANK_SNAPSHOT and the record commands (07, 02 R77, 15 R437). -/

namespace Sys2Proof.Machine
open Sys2Proof

/-! ### What stage 1 has left (R79, R279, R284) -/

/-- A frame of the bay has been accepted in this tick (R279). -/
def State.frameHere (s : State) (b : Nat) : Bool := (s.bayLink b).accepted && (s.bayLink b).upTick + 1 == s.absTick

/-- Bays of which no frame was accepted in this tick: the frame is missing, and the run of missing sections of their courses ends, since only accepted frames count (R284, R287). -/
def State.missedFrames (s : State) : State :=
  let bs := s.allBays.filter (fun b => !s.frameHere b)
  { s with lk := { s.lk with
      bays := bs.foldl (fun (t : Tab BayLink) b => tmod {} t b (fun l =>
        { l with accepted := false, own := false, missed := satU 4 (l.missed + 1), nMissed := incSat 32 l.nMissed })) s.lk.bays
      courses := (s.lk.courses.map (fun e => if bs.contains (e.1 / 384) then (e.1, { e.2 with missing := 0 }) else e)).filter (fun e => e.2 != {}) } }

/-! ### One brick's inputs (R228) -/

/-- A sample is valid (R46, R228). -/
def Sample.valid (q : Sample) : Bool := match q.code with | some c => c != 0 && c != 0xFFFF | none => false

/-- What stage 2 has of the brick at position `x` (R228, R232, R233). DESIGN CHOICE, log 115: R223 does not say which pier current decides that a floated brick conducts; it is the sum of the tick's two samples, the mean that R232 counts its charge from. -/
def State.bTick (s : State) (x : Nat) (reached : Bool) : BTick :=
  let b := posBay x
  let p := x / 12288
  let k := s.absTick - 2
  let c := s.pierCtl p
  let q := s.pierMod p
  let tr := (q.trims.find? (fun t => t.tick == k)).getD {}
  let pr := (q.trims.find? (fun t => t.tick + 1 == k)).getD {}
  let m := tget {} s.md.bricks x
  let cmd := m.commanded k
  let live := s.rc.delivered.contains (x / 96)
  let sm := tget {} s.rc.samples x
  let held := if live then some (sm.held.getD cmd) else none
  let was := held.getD cmd
  let item := tr.items.find? (fun i => i.brick == x)
  let full := item.any (fun i => i.mode == .full)
  let pulse := item.any (fun i => i.mode == .pulse)
  let sum := c.im + c.imPrev
  let sign : Int := if item.any (fun i => i.neg) then -1 else 1
  let eff : Rat := match item with | some i => (i.eff : Rat) / ((if tr.n = 0 then 1 else tr.n : Nat) : Rat) | none => 0
  let cell : Rat := match was with
    | .insertPos => sum
    | .insertNeg => -sum
    | .float => -((sum.natAbs : Int) : Rat)
    | .bypass => sum * sign * eff
  let trimActs := was == .bypass
  -- the states on the two sides of the boundary, and the edges within the tick: a node makes none where it eats the interval (R197, R198)
  let ends := pr.items.find? (fun i => i.brick == x && (i.mode == .full || i.joins))
  let begins := item.filter (fun i => i.mode == .full || i.joined)
  let before : Held := match ends with | some i => if m.seen == .bypass then Sw.insert.held i.neg else m.seen | none => m.seen
  let after : Held := match begins with | some i => if trimActs then Sw.insert.held i.neg else was | none => was
  let inner := match item with | some i => if trimActs && pulse then bit (!i.joined) + bit (!i.joins) else 0 | none => 0
  { due := s.recordDue b, reached := reached, code := if live then sm.code else none, held := held, fault := live && sm.fault, surf := sm.surf, cmd := cmd, cell := cell
    changes := bit (after != before) + inner
    role := q.trims.any (fun t => t.tick == k && t.role == some x), pulse := trimActs && (pulse || full)
    full := if trimActs && full then sign else 0
    others := (trange s.rc.samples (x / 96 * 96) 96).any (fun e => e.1 != x && e.2.valid)
    flows := sum != 0, im := c.im
    recal := s.rc.recalReq.any (fun e => e.1 == x && decide (e.2 < s.absTick)), release := s.rc.releaseReq.any (fun e => e.1 == x && decide (e.2 < s.absTick)) }

/-! ### Group records (R42 to R44, R238) -/

/-- The course, pier and bay records of one bay, formed from its bricks (R43). -/
def State.formBay (s : State) (b : Nat) : State :=
  let own := trange s.rc.bricks (b * 36864) 36864
  let tick := (s.absTick + 65535) % 65536
  let cs := (own.map (fun e => e.1 / 96)).dedup
  let course := fun (c : Nat) => joinAll ((own.filter (fun e => e.1 / 96 == c)).map (fun e => e.2.group (!s.darkCourse c)))
  let crecs := (cs.map (fun c => (c, { course c with tick := tick }))).filter (fun e => e.2.present != 0)
  let pier := fun (k : Nat) => joinAll ((crecs.filter (fun e => e.1 / 128 == 3 * b + k)).map (fun e => e.2))
  let precs := ((List.range 3).map (fun k => (3 * b + k, { pier k with tick := tick }))).filter (fun e => e.2.present != 0)
  let bay := { joinAll (precs.map (fun e => e.2)) with tick := tick }
  let put := fun (t : Tab GroupRec) (lo n : Nat) (new : List (Nat × GroupRec)) =>
    new.foldl (fun (t : Tab GroupRec) e => tset {} t e.1 e.2) (tdrop (fun k => decide (lo ≤ k) && decide (k < lo + n)) t)
  { s with rc := { s.rc with courses := put s.rc.courses (b * 384) 384 crecs, piers := put s.rc.piers (3 * b) 3 precs, bays := tset {} s.rc.bays b bay } }

/-- What a bay gives the plant record formed for tick `t`: its record, and where that describes another tick, because the bay updates at half rate or no tile serves it, its last content with `stale` set (R44; DEDUCED, log 94). -/
def GroupRec.member (g : GroupRec) (t : Nat) : GroupRec := if g.tick = t then g else { g with flags := Nat.lor g.flags 1 }

/-- The plant record, one tick later than the bays' (R43). -/
def State.formPlant (s : State) : State :=
  let t := (s.absTick + 65534) % 65536
  if s.rc.bays = [] ∨ ¬ s.rd.haveActive then s
  else { s with rc := { s.rc with plant := { joinAll (s.allBays.map (fun b => (tget {} s.rc.bays b).member t)) with tick := t } } }

/-! ### RECORD_PASS -/

/-- One brick's place in stage 2. -/
structure PassItem where
  x : Nat
  i : BTick
  old : Rec
  o : BOut
deriving DecidableEq, Repr

/-- Put what stage 2 has made of the bricks into the records (R230). -/
def State.putItems (s : State) (its : List PassItem) : State :=
  let rc := its.foldl (fun (rc : Records) (t : PassItem) =>
    { rc with bricks := tset {} rc.bricks t.x t.o.r, ext := tset {} rc.ext t.x t.o.e
              leaving := if t.old.state.available && !t.o.r.state.available then t.x :: rc.leaving else rc.leaving
              samples := if t.o.updated then tset {} rc.samples t.x {} else tmod {} rc.samples t.x (fun q => { surf := q.surf }) }) { s.rc with leaving := [] }
  let md := { s.md with bricks := its.foldl (fun (m : Tab BrickMod) (t : PassItem) => tmod {} m t.x (fun q => { q with seen := t.i.held.getD t.i.cmd })) s.md.bricks }
  ({ s with rc := rc, md := md }).raiseAll (its.map (fun (t : PassItem) => t.o.evs)).flatten

/-- The keys of the bricks that were updated, left the available set or went dark (R189, R287). -/
def State.rekeyAll (s : State) (its : List PassItem) : State :=
  its.foldl (fun (u : State) t => if t.o.updated || s.rc.leaving.contains t.x || s.darkCourse (t.x / 96) then u.rekey t.x else u) s

/-- Ticks estimated, per pier (R232). -/
def State.countEstimated (s : State) (its : List PassItem) : State :=
  let ps := ((its.map (fun t => t.x / 12288)).dedup).filter (fun p => (s.pierCtl p).imStale || (s.pierCtl p).imStalePrev)
  { s with rc := { s.rc with estimated := ps.foldl (fun (t : Tab Nat) p => tmod 0 t p (incSat 32)) s.rc.estimated } }

/-- One tick of a tile's sweep: 553 records in the order of R32 (R310). -/
def State.sweepTile (s : State) (t : Nat) : State :=
  if !s.sweeps t then { s with rd := { s.rd with tiles := tmod {} s.rd.tiles t (fun y => { y with sweepWhole := false }) } } else
  let lo := t * 442368 + 553 * s.tb.idx
  let n := Nat.min 553 ((t + 1) * 442368 - lo)
  let bad := fun (x : Nat) => s.rd.badCopies.contains x || (tget {} s.rc.bricks x).badCrc
  let fails := (((trange s.rc.bricks lo n).map (fun e => e.1)).filter bad).length
  let kept := tdrop (fun x => decide (lo ≤ x) && decide (x < lo + n) && !bad x) s.rc.mirror
  let mirror := ((trange s.rc.bricks lo n).filter (fun e => !bad e.1)).foldl (fun (m : Tab Rec) e => tset {} m e.1 e.2) kept
  { s with
    rc := { s.rc with mirror := mirror, mirrorStale := s.rc.mirrorStale.filter (fun x => !(decide (lo ≤ x) && decide (x < lo + n) && !bad x)) }
    rd := { s.rd with
      tiles := tmod {} s.rd.tiles t (fun y => { y with sweepWhole := y.sweepWhole || s.tb.idx == 0 })
      copyFail := s.rd.copyFail || decide (0 < fails)
      counts := if fails = 0 then s.rd.counts else s.rd.counts.set 4 (satU 32 (s.rd.counts.getD 4 0 + fails))
      ticks := if fails = 0 then s.rd.ticks else s.rd.ticks.set 4 s.absTick } }

/-- Every tile's sweep in a tick (R310). -/
def State.sweepTick (s : State) : State :=
  let s1 := (List.range s.nTiles).foldl State.sweepTile s
  { s1 with rd := { s1.rd with badCopies := [] } }

/-- RECORD_PASS (R228 to R237): stage 2. -/
def doRecordPass (s : State) : State :=
  let s1 := s.missedFrames.formPlant
  let bad := (s1.rc.bricks.filter (fun e => e.2.badCrc && s1.served (posBay e.1))).map (fun e => e.1)
  let s2 := bad.foldl (fun (t : State) x => t.repair x (tget {} t.rc.samples x).code) s1
  let its := (s2.rc.bricks.filter (fun e => s2.served (posBay e.1) && e.2.state != .absent)).map (fun e =>
    let i := s2.bTick e.1 (!s2.rc.missNext.contains e.1 && !(bad.contains e.1 && e.2.stale))
    ({ x := e.1, i := i, old := e.2, o := s2.stage2Brick e.1 i e.2 (tget {} s2.rc.ext e.1) } : PassItem))
  let s3 := (s2.countEstimated its).putItems its
  let s4 := s3.rekeyAll its
  let facts : Tab PairFact := (its.map (fun t => (t.x, ({ full := t.o.updated && !(s4.pierCtl (t.x / 12288)).imStale && !(s4.pierCtl (t.x / 12288)).imStalePrev,
                                                          cell := t.i.cell } : PairFact)))).filter (fun e => e.2 != {})
  let s5 := (s4.passTick facts).latePasses
  let s6 := (s5.allBays.filter (fun b => s5.served b && s5.recordDue b)).foldl State.formBay s5
  let n := s6.absTick
  ({ s6 with lk := { s6.lk with missNext := [] }
             rc := { s6.rc with delivered := [], missNext := [], recalReq := s6.rc.recalReq.filter (fun e => decide (n ≤ e.2)),
                                releaseReq := s6.rc.releaseReq.filter (fun e => decide (n ≤ e.2)) } }).sweepTick

/-! ### Reading records (R241, R437, R531) -/

/-- A unit's record of the snapshot, as 64 bytes. -/
def Records.snapBytes (rc : Records) (u : Unit4) : List Nat :=
  let bay := tget {} rc.snapBays u.bay
  match u.level with
  | 0 => (tget {} rc.snapBricks (posIx u.bay u.pier u.course u.brick)).bytes
  | 1 => ((tget {} rc.snapCourses (courseIx u.bay u.pier u.course)).orEmpty bay).bytes
  | 2 => ((tget {} rc.snapPiers (pierIx u.bay u.pier)).orEmpty bay).bytes
  | 3 => bay.bytes
  | _ => rc.snapPlant.bytes

/-- Positions one level below a unit (R531). -/
def memberCount (nb : Nat) (u : Unit4) : Nat := match u.level with | 1 => 96 | 2 => 128 | 3 => 3 | 4 => nb | _ => 0

/-- Member `m` of a unit. -/
def Unit4.member (u : Unit4) (m : Nat) : Unit4 :=
  match u.level with
  | 1 => { u with level := 0, brick := m }
  | 2 => { u with level := 1, course := m }
  | 3 => { u with level := 2, pier := m }
  | _ => { u with level := 3, bay := m }

/-- The records with RANK of every ranked brick: the key of its pier's direction as the snapshot finds it (R189). -/
def State.rankedBricks (s : State) : Tab Rec :=
  s.rc.keys.foldl (fun (t : Tab Rec) e =>
    match e.2 with
    | some k => tmod {} t e.1 (fun r => { r with rank := if (tget {} s.md.piers (e.1 / 12288)).charge then k.2 else k.1 })
    | none => t) s.rc.bricks

/-- The snapshot is frozen at the stage-2 deadline (R77). -/
def State.freezeRank (s : State) : State :=
  { s with rc := { s.rc with bricks := s.rankedBricks, snapBricks := s.rankedBricks, snapKeys := s.rc.keys, snapCourses := s.rc.courses, snapPiers := s.rc.piers, snapBays := s.rc.bays,
                             snapPlant := s.rc.plant, snapTick := s.absTick,
                             snapDark := (s.lk.courses.map (fun e => e.1)).filter s.darkCourse } }

/-- The unit and the words that a window fill copies: what it wants, and where it starts (R531, R532). -/
def SysPage.fillSize (p : SysPage) (nb : Nat) (u : Unit4) : Nat := if p.urScope.testBit 0 then Nat.min (bits p.urScope 8 8) (memberCount nb u - bits p.urScope 16 16) else 1

/-- A fill that waits for this snapshot copies its records from it (R532, R533). -/
def State.copyFill (s : State) : State :=
  match s.sys.urFill with
  | none => s
  | some t =>
    if t = s.rc.snapTick ∧ s.sys.urCopy = none then
      let u := (checkUid s.nBays s.sys.urUnit).2
      let bytes := if s.sys.urScope.testBit 0 then
          ((List.range (s.sys.fillSize s.nBays u)).map (fun i => s.rc.snapBytes (u.member (bits s.sys.urScope 16 16 + i)))).flatten
        else s.rc.snapBytes u
      { s with sys := { s.sys with urCopy := some bytes } }
    else s

/-- RANK_SNAPSHOT (R77, R532). -/
def doRankSnapshot (s : State) : State := s.freezeRank.copyFill
def execRankSnapshot (s : State) : Host.Outcome State Fault Refusal := .next (doRankSnapshot s)

/-! ### Reading and releasing records (R236, R241, R437) -/

/-- `UNIT_READ` (R241, R421, R437): a larger `max` is reduced to what one reply holds. -/
def unitRead (udp : Bool) (unit scope start max : Nat) (s : State) : State × Ans :=
  let u := checkUid s.nBays unit
  let cap := if udp then 22 else 63
  if u.1 ≠ 0 then (s, refuseAns u.1 0x0802 255 unit)
  else if scope = 1 ∧ u.2.level = 0 then (s, refuseAns stBadParam 0x0802 255 unit)
  else if 1 < scope ∨ max = 0 ∨ (scope = 1 ∧ memberCount s.nBays u.2 ≤ start) then (s, refuseAns stRange 0x0802 255 unit)
  else if scope = 0 then (s, okAns (le 8 s.rc.snapTick ++ le 2 0xFFFF ++ le 2 1 ++ s.rc.snapBytes u.2))
  else
    let n := Nat.min (Nat.min max cap) (memberCount s.nBays u.2 - start)
    let next := if start + n < memberCount s.nBays u.2 then start + n else 0xFFFF
    (s, okAns (le 8 s.rc.snapTick ++ le 2 next ++ le 2 n ++ ((List.range n).map (fun i => s.rc.snapBytes (u.2.member (start + i)))).flatten))
def doUnitRead (h : Hdr) (unit scope start max : Nat) (s : State) : State := s.host h 0x0802 (unitRead h.udp unit scope start max)
def execUnitRead (h : Hdr) (unit scope start max : Nat) (s : State) : Host.Outcome State Fault Refusal := .next (doUnitRead h unit scope start max s)

/-- The present bricks below a unit, or the brick itself. -/
def State.bricksOf (s : State) (u : Unit4) : List (Nat × Rec) :=
  let sp := unitSpan s.nBays u
  (trange s.rc.bricks sp.1 sp.2).filter (fun e => e.2.state != .absent)

/-- `UNIT_RECAL` (R236, R242, R437). -/
def unitRecal (unit : Nat) (s : State) : State × Ans :=
  let u := checkUid s.nBays unit
  if u.1 ≠ 0 then (s, refuseAns u.1 0x0803 255 unit) else
  let xs := ((s.bricksOf u.2).filter (fun e => u.2.level == 0 || e.2.state.available)).map (fun e => (e.1, s.absTick))
  ({ s with rc := { s.rc with recalReq := s.rc.recalReq ++ xs } }, okAns (le 4 xs.length))
def doUnitRecal (h : Hdr) (unit : Nat) (s : State) : State := s.hostJ (.unitRecal h unit) h 0x0803 (unitRecal unit)
def execUnitRecal (h : Hdr) (unit : Nat) (s : State) : Host.Outcome State Fault Refusal := .next (doUnitRecal h unit s)

/-- `UNIT_RELEASE` (R243, R437). -/
def unitRelease (unit : Nat) (s : State) : State × Ans :=
  let u := checkUid s.nBays unit
  if u.1 ≠ 0 then (s, refuseAns u.1 0x0804 255 unit) else
  let xs := ((s.bricksOf u.2).filter (fun e => e.2.state == .quarantined)).map (fun e => (e.1, s.absTick))
  if u.2.level = 0 ∧ xs = [] then (s, refuseAns stState 0x0804 255 unit)
  else ({ s with rc := { s.rc with releaseReq := s.rc.releaseReq ++ xs } }, okAns (le 4 xs.length))
def doUnitRelease (h : Hdr) (unit : Nat) (s : State) : State := s.hostJ (.unitRelease h unit) h 0x0804 (unitRelease unit)
def execUnitRelease (h : Hdr) (unit : Nat) (s : State) : Host.Outcome State Fault Refusal := .next (doUnitRelease h unit s)

end Sys2Proof.Machine
end

