-- ==== Sys2Proof/Machine/Links.lean ====
section
/-! DEFINITION. Bay links and partners: lanes, upstream frames, decoding, darkness, admission windows, handshakes, withdrawal (09, 01 R28 to R33, 15 R439). -/

namespace Sys2Proof.Machine
open Sys2Proof

/-- Change the link state of a bay. -/
def State.modLink (s : State) (b : Nat) (f : BayLink → BayLink) : State := { s with lk := { s.lk with bays := tmod {} s.lk.bays b f } }
/-- Change the state of a course. -/
def State.modCourse (s : State) (c : Nat) (f : Course → Course) : State := { s with lk := { s.lk with courses := tmod {} s.lk.courses c f } }
def State.course (s : State) (c : Nat) : Course := tget {} s.lk.courses c

/-- A course is in service, withdrawn or not. -/
def Course.serves (c : Course) : Bool := c.phase != .out

/-- Put a message in line for the bay's downstream frames (R291). -/
def State.sendMsg (s : State) (b kind pos : Nat) (payload : List Nat) : State :=
  s.modLink b (fun l => { l with outQ := l.outQ ++ [{ kind := kind, pos := pos, payload := payload }] })

/-- Items are counted as misrouted (R48, R279). -/
def State.misroute (s : State) (b n : Nat) : State :=
  if n = 0 then s else
  let s1 := s.modLink b (fun l => { l with nMisrouted := satU 32 (l.nMisrouted + n) })
  { s1 with lk := { s1.lk with misrouted := true } }

/-- A position is fitted (R28). -/
def State.isFitted (s : State) (c : Nat) : Bool := (s.prm 0x0702 (c / 384) 0 (c / 128 % 3 * 4 + c % 128 / 32)).testBit (c % 32)

/-! ### Lanes and markers (R271, R272) -/

/-- One-way lane delay in 0.625 ns units: the mean round trip less the turnaround, halved, to nearest. -/
def BayLink.delay (l : BayLink) (turnaround : Nat) : Nat :=
  if l.trips = [] then 0 else (divRne ((sumN l.trips : Int) - (l.trips.length * turnaround : Nat)) ((2 * l.trips.length : Nat) : Int)).toNat

/-- LANE_TRAINED (R271). -/
def doLaneTrained (b : Nat) (s : State) : State :=
  if (s.tile (tileOf b)).failed then s else
  { s.modLink b (fun l => { l with trained := true, trips := [] }) with st := { s.st with laneSeen := true, jtag := if jtagDrives s.st.jtag then .bypass else s.st.jtag } }
def execLaneTrained (lane : Nat) (s : State) : Host.Outcome State Fault Refusal := if s.nBays ≤ lane then .fault .noSuchUnit else .next (doLaneTrained lane s)

/-- LANE_DOWN (R271): the lane retrains. -/
def doLaneDown (b : Nat) (s : State) : State := s.modLink b (fun l => { l with trained := false, trips := [] })
def execLaneDown (lane : Nat) (s : State) : Host.Outcome State Fault Refusal := if s.nBays ≤ lane then .fault .noSuchUnit else .next (doLaneDown lane s)

/-- TICK_MARKER (R272). -/
def doTickMarker (s : State) : State :=
  { s with lk := { s.lk with bays := s.lk.bays.map (fun e => if e.2.trained then (e.1, { e.2 with marker := (s.absTick + 1) % 65536 }) else e) } }
def execTickMarker (s : State) : Host.Outcome State Fault Refusal := .next (doTickMarker s)

/-- TICK_MARKER_ECHO (R272): the round trip measured on the 1.6 GHz clock. -/
def doTickMarkerEcho (b delay : Nat) (s : State) : State := if (s.bayLink b).trained then s.modLink b (fun l => { l with trips := (delay :: l.trips).take 800 }) else s
def execTickMarkerEcho (lane delay : Nat) (s : State) : Host.Outcome State Fault Refusal :=
  if s.nBays ≤ lane then .fault .noSuchUnit else .next (doTickMarkerEcho lane delay s)

/-- A hub is refused with a reason (R271, R46). -/
def State.refuseHub (s : State) (b reason : Nat) : State :=
  ((s.modLink b (fun l => { l with hubReason := reason, nRefused := incSat 32 l.nRefused })).sendMsg b 0x22 0 [reason]).raise
    { kind := .hubRefused, unit := bayUid b, detail := reason }

/-- A bay goes to a start state (R324). -/
def State.startBay (s : State) (b : Nat) (p : StartPhase) (reason : Nat) : State :=
  { s with st := { s.st with bays := tmod {} s.st.bays b (fun x => { x with phase := p, reason := reason, age := 0 }) } }

/-- The binding event of an admission: the brick, course and hub serials (R487). -/
def State.bindEvent (s : State) (unit kind brick course hub : Nat) : State :=
  s.raiseX { kind := .binding, unit := unit, detail := kind } [le 8 brick ++ le 8 course ++ le 8 hub ++ le 8 0]

/-- HELLO (R271): the hub is admitted or refused. -/
def doHello (b : Nat) (m : HelloMsg) (s : State) : State :=
  let l := s.bayLink b
  if !l.trained || (s.tile (tileOf b)).failed then s
  else if m.serial = 0 then s.refuseHub b 7
  else if m.bay ≠ b then s.refuseHub b 6
  else if l.trips = [] ∨ 1600 < l.delay m.turnaround then s.refuseHub b 9
  else
    let s1 := s.modLink b (fun l => { l with hub := some { serial := m.serial, fw := m.fw, twin := m.twin, turnaround := m.turnaround }, hubReason := 0 })
    let s1 := s1.bindEvent (bayUid b) 1 0 0 m.serial
    if (s.bayStart b).phase = .lane then s1.startBay b .admitting 0 else s1
def execHello (lane : Nat) (msg : HelloMsg) (s : State) : Host.Outcome State Fault Refusal :=
  if s.nBays ≤ lane then .fault .noSuchUnit else .next (doHello lane msg s)

/-- RING (R286): a break, or its repair. -/
def doRing (b : Nat) (m : RingMsg) (s : State) : State :=
  let p := m.pos / 128
  if 2 < p then s.modLink b (fun l => { l with nMgmt := incSat 32 l.nMgmt }) else
  let whole := m.fromA == 255 && m.fromB == 255
  (s.modLink b (fun l => { l with breaks := l.breaks.set p (m.fromA, m.fromB), nBreaks := if whole then l.nBreaks else incSat 32 l.nBreaks })).raise
    { kind := if whole then .ringRepaired else .ringBreak, unit := pierUid (pierIx b p), detail := m.fromA + m.fromB * 256 }
def execRing (bay : Nat) (msg : RingMsg) (s : State) : Host.Outcome State Fault Refusal := if s.nBays ≤ bay then .fault .noSuchUnit else .next (doRing bay msg s)

/-! ### Windows (R290) -/

/-- A window in which a button press acts covers the course's position: start-up, test or recovery (R46). -/
def State.buttonActs (s : State) (c : Nat) : Bool :=
  let l := s.bayLink (c / 384)
  l.startup || l.test.isSome || (s.course c).recovery.isSome

/-- A window covers the course's position. -/
def State.windowCovers (s : State) (c : Nat) : Bool :=
  let l := s.bayLink (c / 384)
  l.startup || l.test.isSome || l.maint.isSome || (s.course c).recovery.isSome

/-- WINDOW_OPEN: kind 0 start-up, 1 test, 2 recovery, 3 maintenance. -/
def doWindowOpen (b kind : Nat) (s : State) : State :=
  let l := s.bayLink b
  if s.tb.idx ≠ 0 then s else
  match kind with
  | 0 => if (s.bayStart b).phase = .admitting then s.modLink b (fun l => { l with startup := true }) else s
  | 1 => match l.openTest with
    | some n => s.modLink b (fun l => { l with test := some (n * 1000000000000), openTest := none })
    | none => s
  | 2 => { s with lk := { s.lk with courses := s.lk.courses.map (fun e =>
      if e.1 / 384 = b ∧ e.2.recoveryDue then (e.1, { e.2 with recoveryDue := false, recovery := some (s.prm 0x0A01 0 2 0 * 1000000000) }) else e) } }
  | 3 => match l.openMaint with
    | some n => s.modLink b (fun l => { l with maint := some (n * 1000000000000), openMaint := none })
    | none => s
  | _ => s
def execWindowOpen (bay kind : Nat) (s : State) : Host.Outcome State Fault Refusal := if s.nBays ≤ bay then .fault .noSuchUnit else .next (doWindowOpen bay kind s)

/-- WINDOW_CLOSE: the same kinds. -/
def doWindowClose (b kind : Nat) (s : State) : State :=
  let l := s.bayLink b
  if s.tb.idx ≠ 0 then s else
  match kind with
  | 0 => if (s.bayStart b).phase = .energised then s.modLink b (fun l => { l with startup := false }) else s
  | 1 => if l.closeDue ∨ l.test = some 0 ∨ l.closed then s.modLink b (fun l => { l with test := none, closeDue := l.closeDue && l.maint.isSome }) else s
  | 2 => { s with lk := { s.lk with courses := (s.lk.courses.map (fun e =>
      if e.1 / 384 = b ∧ e.2.recovery = some 0 then (e.1, { e.2 with recovery := none }) else e)).filter (fun e => e.2 != {}) } }
  | 3 => if l.closeDue ∨ l.maint = some 0 then s.modLink b (fun l => { l with maint := none, closeDue := l.closeDue && l.test.isSome }) else s
  | _ => s
def execWindowClose (bay kind : Nat) (s : State) : Host.Outcome State Fault Refusal := if s.nBays ≤ bay then .fault .noSuchUnit else .next (doWindowClose bay kind s)

/-- Window and darkness timers, one tick on (R287, R290). -/
def Links.tick (l : Links) (ps : Nat) : Links :=
  let down := fun (o : Option Nat) => o.map (· - ps)
  { l with held := []
           bays := l.bays.map (fun e => (e.1, { e.2 with test := down e.2.test, maint := down e.2.maint }))
           courses := l.courses.map (fun e => (e.1, { e.2 with recovery := down e.2.recovery, darkTicks := if e.2.dark then e.2.darkTicks + 1 else e.2.darkTicks })) }

/-- The links at a cycle boundary (R293, R296). -/
def Links.newCycle (l : Links) : Links :=
  { l with bays := (l.bays.map (fun e => (e.1, { e.2 with accepts := 0 }))).filter (fun e => e.2 != {})
           courses := l.courses.map (fun e => (e.1, if e.2.phase = .withdrawn then { e.2 with withdrawCycles := satU 8 (e.2.withdrawCycles + 1) } else e.2)) }

/-! ### Records at admission (R33, R224, R333, R465) -/

/-- The newest image of a position that carries the serial (R465). -/
def State.imageOf (s : State) (x serial : Nat) : Option (List Nat) :=
  ((tget [] s.lg.images x).find? (fun i => getLe i.2 2 2 == checkOf serial)).map (fun i => i.2)

/-- An image goes to the ledger as the position's newest (R33, R224, R465). -/
def State.keepImage (s : State) (x : Nat) (image : List Nat) : State :=
  { s with lg := { s.lg with images := tmod [] s.lg.images x (fun l => (((s.lg.epoch * 2 ^ 48 + s.lg.seq + 1) * 256, image) :: l).take 10) } }

/-- A record closes as RETIRED under its former serial: the record-image event of R33 and R461. -/
def State.closeRecord (s : State) (x : Nat) (image : List Nat) : State :=
  (s.raiseX { kind := .retired, unit := brickUid x, detail := 1 } [image]).keepImage x image

/-- The record bound to the position before closes as RETIRED, from its newest image (R33). -/
def State.closeBound (s : State) (x : Nat) : State :=
  match s.imageOf x (tget 0 s.lk.bound x) with
  | some i => s.closeRecord x { Rec.ofEntry i with state := .retired }.entry
  | none => s

/-- Put a record and its extension in place; the mirror does not have it yet, its decode reference is unknown, its dwell counts from now; a new serial has no keys (R33, R189). -/
def State.putRecord (s : State) (x serial : Nat) (r : Rec) (e : Ext) : State :=
  { s with
    rc := { s.rc with keys := if tget 0 s.lk.bound x = serial then s.rc.keys else tset none s.rc.keys x none, bricks := tset {} s.rc.bricks x r, ext := tset {} s.rc.ext x e, mirrorStale := if s.rc.mirrorStale.contains x then s.rc.mirrorStale else x :: s.rc.mirrorStale }
    lk := { s.lk with refs := tset {} s.lk.refs x {}, bound := tset 0 s.lk.bound x serial }
    md := { s.md with bricks := tmod {} s.md.bricks x (fun m => { m with since := 0 }) } }

/-- Restore or open the record of an admitted brick (R33, R333). `marked`: it gets `recal_due` (R294, R333). -/
def State.openRecord (s : State) (x serial : Nat) (marked : Bool) : State :=
  let r := tget {} s.rc.bricks x
  let was := tget 0 s.lk.bound x
  let fresh := { Rec.new serial with recalDue := marked }
  if r.state ≠ .absent ∧ was = serial then
    let r1 := { r with recalDue := r.recalDue || marked, state := if r.state = .floated then .joining else r.state }
    let e := tget {} s.rc.ext x
    s.putRecord x serial r1 (if r.state = .floated then { e with joinRun := 0, timer := 0, surfSeen := false, cur := { e.cur with whole := false } } else e)
  else if r.state ≠ .absent then (s.closeRecord x { r with state := .retired }.entry).putRecord x serial fresh { fresh := true }
  else if was ≠ 0 ∧ was ≠ serial then (s.closeBound x).putRecord x serial fresh { fresh := true }
  else match s.imageOf x serial with
    | some i =>
      let q := Rec.ofEntry i
      let st := if q.state = .quarantined ∨ q.state = .retired then q.state else .joining
      s.putRecord x serial { q with state := st, recalDue := q.recalDue || marked } {}
    | none =>
      match tget [] s.lg.images x with
      | i :: _ => (s.closeRecord x ({ Rec.ofEntry i.2 with state := .retired }.entry)).putRecord x serial fresh { fresh := true }
      | [] => (s.putRecord x serial fresh { fresh := true }).raise { kind := .restoreNew, unit := brickUid x }

/-- An empty place: the position is ABSENT (R33). -/
def State.clearRecord (s : State) (x : Nat) : State :=
  { s with rc := { s.rc with bricks := tset {} s.rc.bricks x {}, ext := tset {} s.rc.ext x {}, keys := tset none s.rc.keys x none, samples := tset {} s.rc.samples x {} }
           lk := { s.lk with refs := tset {} s.lk.refs x {} }
           md := { s.md with bricks := tset {} s.md.bricks x {} }
           z := { s.z with late := tset none s.z.late x none } }

/-! ### Leaving service (R289, R296) -/

/-- One brick goes to ABSENT and its image to the ledger (R224, R289). -/
def State.departBrick (s : State) (x : Nat) (r : Rec) : State :=
  ((s.clearRecord x).raiseX { kind := .departed, unit := brickUid x } [r.entry]).keepImage x r.entry

/-- The course leaves service; a recovery window for its position follows (R289, R290). -/
def State.leaveService (s : State) (c : Nat) : State :=
  let s1 := ((trange s.rc.bricks (c * 96) 96).filter (fun e => e.2.state != .absent)).foldl (fun (t : State) e => t.departBrick e.1 e.2) s
  let s2 := s1.modCourse c (fun k => { k with phase := .out, hand := false, parts := [], codes := [], missing := 0, dark := false, darkTicks := 0, withdrawTick := 0,
                                              withdrawCycles := 0, typeRaised := false, fallback := false, recoveryDue := true })
  { s2 with md := { s2.md with known := tset 0 s2.md.known c 0, blocks := tset none s2.md.blocks c none } }

/-- COURSE_DARK (R287): sections missing in two consecutive sample ticks, both in accepted frames. -/
def doCourseDark (c : Nat) (s : State) : State :=
  let k := s.course c
  if !k.serves || k.dark || k.missing < 2 || !s.frameHere (c / 384) then s
  else (s.modCourse c (fun k => { k with dark := true, darkTicks := 0 })).modLink (c / 384) (fun l => { l with nDark := incSat 32 l.nDark })
def execCourseDark (course : Nat) (s : State) : Host.Outcome State Fault Refusal := if s.nBays * 384 ≤ course then .fault .noSuchUnit else .next (doCourseDark course s)

/-- COURSE_LEAVE_SERVICE (R289): it has been dark for the dark limit. -/
def doCourseLeaveService (c : Nat) (s : State) : State :=
  let k := s.course c
  if !k.serves || !k.dark || k.darkTicks < s.prm 0x0A01 0 1 0 * 800 then s else s.leaveService c
def execCourseLeaveService (course : Nat) (s : State) : Host.Outcome State Fault Refusal :=
  if s.nBays * 384 ≤ course then .fault .noSuchUnit else .next (doCourseLeaveService course s)

/-- WITHDRAW (R296): after one whole cycle the message goes out and the course leaves service. -/
def doWithdraw (c : Nat) (s : State) : State :=
  let k := s.course c
  if k.phase ≠ .withdrawn ∨ k.withdrawCycles < 2 then s else (s.sendMsg (c / 384) 0x24 (c % 384) []).leaveService c
def execWithdraw (course : Nat) (s : State) : Host.Outcome State Fault Refusal := if s.nBays * 384 ≤ course then .fault .noSuchUnit else .next (doWithdraw course s)

/-- BAY_LINK_LOST (R284): no frame accepted for 10 ticks, or an accepted frame carries `floated`. PLANT_TRIP rises for a bay that no tile serves (R314, R362). -/
def doBayLinkLost (b : Nat) (s : State) : State :=
  let l := s.bayLink b
  if l.lost ∨ ¬ (10 ≤ l.missed ∨ (l.accepted ∧ l.hubFloated ∧ ¬ l.release)) then s else
  let s1 := s.endSyncOf [b]
  let m := s1.md.floatBay b
  let s2 := { s1 with md := if s.served b then m else m.tripBay b }
  ({ (s2.modLink b (fun l => { l with lost := true, release := false })) with lk := { (s2.modLink b (fun l => { l with lost := true, release := false })).lk with linkFloat := true } }).raise
    { kind := .bayLost, unit := bayUid b }
def execBayLinkLost (bay : Nat) (s : State) : Host.Outcome State Fault Refusal := if s.nBays ≤ bay then .fault .noSuchUnit else .next (doBayLinkLost bay s)

/-! ### Handshakes (R291 to R295) -/

/-- The pacing slot of a course (R293). -/
def waitSlot (serial : Nat) : Nat := crc16 (le 8 serial) % 64

/-- A course is refused (R291, R294). -/
def State.refuseCourse (s : State) (c reason : Nat) : State :=
  ((s.modCourse c (fun k => { k with hand := false, parts := [], codes := [], reason := reason, pending := false })).sendMsg (c / 384) 0x22 (c % 384) [reason]).modLink (c / 384)
    (fun l => { l with nRefused := incSat 32 l.nRefused })

/-- The course serial is in service at another position. -/
def State.serialElsewhere (s : State) (c serial : Nat) : Bool := s.lk.courses.any (fun e => e.1 != c && e.2.serves && e.2.serial == serial)

/-- The declared type code of the pier (R47). -/
def State.pierType (s : State) (c : Nat) : Nat := s.prm 0x0702 (c / 384) 1 (c / 128 % 3)

/-- The recorded calibration forbids the course (R294). -/
def State.badCal (s : State) (c serial cal : Nat) : Bool :=
  (s.course c).known.any (fun k => k.1 == serial && k.2 != cal)

/-- A course at an unfitted position is refused, with a position event (R28). -/
def State.refuseUnfitted (s : State) (c serial : Nat) : State := (s.refuseCourse c 1).raise { kind := .positionRefused, unit := courseUid c, detail := serial }

/-- A course whose type code differs is refused, with a type event, and stays pending (R47). -/
def State.refuseType (s : State) (c ctype : Nat) : State :=
  ((s.refuseCourse c 2).modCourse c (fun k => { k with pending := true })).raise { kind := .typeDiffers, unit := courseUid c, detail := ctype }

/-- JOIN (R28, R48, R292, R293, R295): ACCEPT, WAIT or REFUSE; a course refused for its type code stays pending until a maintenance window (R47). The 32-bit detail of the position and presence events is the low 32 bits of the serial (DESIGN CHOICE, log 95: R28 and R295 have the event name the serial, and the detail holds half of it). -/
def doJoin (b : Nat) (m : JoinMsg) (s : State) : State :=
  let c := b * 384 + m.pos
  if 384 ≤ m.pos then s.misroute b 1 else
  let k := s.course c
  let typed := k.reason == 2 && k.offer == m.serial
  let foreign : Bool := k.serves && k.serial != m.serial
  let s0 := s.modCourse c (fun k => { k with offer := m.serial })
  let s1 := if foreign then s0 else s0.modCourse c (fun k => { k with serial := m.serial, ctype := if k.phase = .out then m.ctype else k.ctype, fw := m.fw, cal := m.cal, reason := if typed then 2 else 0 })
  if !s.isFitted c then s0.refuseUnfitted c m.serial
  else if !(if typed then (s.bayLink b).maint.isSome else s.windowCovers c) then
    let s2 := (s1.modCourse c (fun k => { k with pending := true, slot := some (waitSlot m.serial) })).sendMsg b 0x21 m.pos [waitSlot m.serial, 1]
    if k.pending ∧ k.offer = m.serial then s2 else s2.raise { kind := .coursePresent, unit := courseUid c, detail := m.serial }
  else if m.serial = 0 then s1.refuseCourse c 7
  else if foreign then s1.refuseCourse c 3
  else if m.ctype ≠ s.pierType c then s1.refuseType c m.ctype
  else if s.serialElsewhere c m.serial then s1.refuseCourse c 3
  else if !m.ordered then s1.refuseCourse c 8
  else if s.badCal c m.serial m.cal ∧ (s.bayLink b).maint = none then s1.refuseCourse c 4
  else if (s.bayLink b).accepts < s.prm 0x0A01 0 0 0 then
    ((s1.modCourse c (fun k => { k with hand := true, parts := [], codes := [], partTick := s.absTick, slot := none })).modLink b (fun l => { l with accepts := l.accepts + 1 })).sendMsg b 0x20 m.pos []
  else (s1.modCourse c (fun k => { k with slot := some (waitSlot m.serial) })).sendMsg b 0x21 m.pos [waitSlot m.serial, 0]
def execJoin (bay : Nat) (msg : JoinMsg) (s : State) : Host.Outcome State Fault Refusal := if s.nBays ≤ bay then .fault .noSuchUnit else .next (doJoin bay msg s)

/-- An empty place in SERIALS (R291). -/
def emptySerial : Nat := 2 ^ 64 - 1

/-- The median V_CELL of a pier's available bricks, from the latest snapshot; the lower of two middle values (log 17). -/
def State.medianV (s : State) (p : Nat) : Option Nat :=
  let l := (((trange s.rc.snapBricks (p * 12288) 12288).filter (fun e => e.2.state.available)).map (fun e => e.2.vCell)).mergeSort (fun a b => decide (a ≤ b))
  l[(l.length - 1) / 2]?

/-- Too many of the course's bricks lie away from the median (R294). -/
def State.voltageFails (s : State) (c : Nat) (serials : List Nat) (codes : List (Option Nat)) : Bool :=
  match s.medianV (c / 128) with
  | none => false
  | some v =>
    let far := (List.range 96).filter (fun j => serials.getD j emptySerial != emptySerial &&
      (match codes.getD j none with
       | some q => decide (s.prm 0x0A01 0 3 0 * 65536 < ((q : Int) - v).natAbs * 5000)
       | none => false))
    decide (s.prm 0x0A01 0 4 0 < far.length)

/-- A brick serial is bound to another position of the plant, or stands twice in the course (R294). -/
def State.serialClash (s : State) (c : Nat) (serials : List Nat) : Bool :=
  let own := serials.filter (fun v => v != emptySerial)
  decide (own.dedup.length ≠ own.length) || s.lk.bound.any (fun e => decide (e.1 / 96 ≠ c) && own.contains e.2)

/-- The bay's records are built in step 9, not at admission (R333). -/
def State.restoresLater (s : State) (b : Nat) : Bool :=
  let p := (s.bayStart b).phase
  p == .waitDevice || p == .lane || p == .admitting || p == .held || (p == .restoring && !(s.bayStart b).restored)

/-- ADMIT: the course is in service, its serials are bound, its records restored or opened (R292, R294, R216). -/
def State.admitHub (s : State) (c : Nat) (serials : List Nat) : State :=
  let b := c / 384
  let k := s.course c
  let marked := s.badCal c k.serial k.cal
  let s1 := (s.modCourse c (fun k => { k with phase := .service, hand := false, parts := [], codes := [], pending := false, reason := 0, slot := none, missing := 0, dark := false,
                                              darkTicks := 0, withdrawTick := 0, withdrawCycles := 0, typeRaised := false, known := (k.serial, k.cal) :: k.known.filter (fun e => e.1 != k.serial), marked := marked, slowKey := 0,
                                              recovery := k.recovery.map (fun _ => 0), recoveryDue := false })).sendMsg b 0x23 (c % 384)
    (le 2 (s.prm 0x0701 b 8 0 / 5) ++ le 2 (s.prm 0x0701 b 9 0 / 5))
  let s2 := { s1 with md := { s1.md with bays := tmod {} s1.md.bays b (fun x => { x with loadedTimes := s.mdPrm b 8 0 * 65536 + s.mdPrm b 9 0 }) } }
  let hub := match (s.bayLink b).hub with | some y => y.serial | none => 0
  (List.range 96).foldl (fun (u : State) j =>
    let x := c * 96 + j
    let v := serials.getD j emptySerial
    let t := if v = emptySerial then u else u.bindEvent (brickUid x) 0 v k.serial hub
    if v = emptySerial then { t.clearRecord x with lk := { (t.clearRecord x).lk with bound := tset 0 t.lk.bound x 0 } }
    else if t.restoresLater b ∧ (tget {} t.rc.bricks x).state = .absent ∧ (tget 0 t.lk.bound x = 0 ∨ tget 0 t.lk.bound x = v) then { t with lk := { t.lk with bound := tset 0 t.lk.bound x v } }
    else t.openRecord x v marked) s2

/-- SERIALS (R292, R294): after part 3 the course is checked against the banks then in force, and admitted or refused; a part out of its sequence ends the handshake. -/
def doSerials (b : Nat) (m : SerialsMsg) (s : State) : State :=
  let c := b * 384 + m.pos
  if 384 ≤ m.pos then s.misroute b 1
  else if 3 < m.part ∨ m.serials.length ≠ 24 then s.modLink b (fun l => { l with nMgmt := incSat 32 l.nMgmt }) else
  let k := s.course c
  if !k.hand then s
  else if m.part ≠ k.parts.length ∨ (m.part ≠ 0 ∧ s.absTick ≠ k.partTick + 1) then s.modCourse c (fun k => { k with hand := false, parts := [], codes := [] })
  else
    let parts := k.parts ++ [m.serials]
    let codes := k.codes ++ (List.range 24).map (fun i => m.codes.getD i none)
    if m.part < 3 then s.modCourse c (fun k => { k with parts := parts, codes := codes, partTick := s.absTick })
    else
      let all := parts.flatten
      if !s.isFitted c then s.refuseUnfitted c k.serial
      else if k.ctype ≠ s.pierType c then s.refuseType c k.ctype
      else if all.any (fun v => v == 0) then s.refuseCourse c 7
      else if s.badCal c k.serial k.cal ∧ (s.bayLink b).maint = none then s.refuseCourse c 4
      else if s.serialClash c all then s.refuseCourse c 3
      else if s.voltageFails c all codes then s.refuseCourse c 5
      else s.admitHub c all
def execSerials (bay : Nat) (msg : SerialsMsg) (s : State) : Host.Outcome State Fault Refusal := if s.nBays ≤ bay then .fault .noSuchUnit else .next (doSerials bay msg s)

/-! ### Upstream frames (R274 to R279) -/

/-- A pool entry (R276). -/
structure PoolEntry where
  /-- course section 0 to 511: pier × 128 + course -/
  sec : Nat
  brick : Nat
  kind : Nat
  aux : Nat
  value : Nat
deriving DecidableEq, Repr

/-- The pool entries of a frame. -/
def poolOf (n : Nat) (bs : List Nat) : List PoolEntry :=
  (List.range n).map (fun i => let e := bs.drop (6 * i); let p := getLe e 0 2
    { sec := p / 128, brick := p % 128, kind := getLe e 2 1, aux := getLe e 3 1, value := getLe e 4 2 })

/-- The switch state a STATE entry reports (R276). -/
def heldOfCode (c : Nat) : Held := match c % 4 with | 0 => .insertPos | 1 => .insertNeg | 2 => .bypass | _ => .float

/-- Decode one brick of a live section of sample tick `t` (R278): its code, and its reference afterwards. -/
def decodeBrick (t j tag delta keyA keyB : Nat) (esc : Option Nat) (d : DecRef) : Option Nat × DecRef :=
  let code : Option Nat :=
    if j = 2 * (t % 48) then some keyA
    else if j = 2 * (t % 48) + 1 then some keyB
    else if delta = 0x80 then esc
    else if d.known ∧ d.tick % 256 = tag ∧ t ≤ d.tick + 128 then
      let v := (d.code : Int) + signedOf 8 delta
      if v < 0 ∨ 65535 < v then none else some v.toNat
    else none
  match code with
  | some v => (some v, { code := v, tick := t, known := true })
  | none => (none, d)

/-- The slow item of a section (R276), taken at its first live delivery in its eight ticks. -/
def State.takeSlow (s : State) (c t v : Nat) : State :=
  let item := t % 800 / 8
  let key := t / 800 * 100 + item + 1
  if (s.course c).slowKey = key then s else
  let s1 := s.modCourse c (fun k => { k with slowKey := key, nodeTemp := if item = 96 then signedOf 16 v else k.nodeTemp,
                                             nodeSupply := if item = 97 then v else k.nodeSupply, nodeFw := if item = 98 then v else k.nodeFw })
  if item < 96 then { s1 with rc := { s1.rc with samples := tmod {} s1.rc.samples (c * 96 + item) (fun q => { q with surf := some (if v = 0x8000 then none else some (signedOf 16 v)) }) } }
  else s1

/-- What a course reports about the block it applied (R203, R275). -/
def State.blockReports (s : State) (c st : Nat) : State :=
  let n := bits st 2 1 + bits st 3 1 + bits st 4 1
  if n = 0 then s else
  ({ s with md := { s.md with courseFault := true, piers := tmod {} s.md.piers (c / 128) (fun q => { q with win := { q.win with courseFaults := satU 16 (q.win.courseFaults + n) } }) } }).raise
    { kind := .courseFault, unit := courseUid c, detail := bits st 2 3 }

/-- A withdrawal that acts from the coming stage 2 (R295, R296). -/
def State.withdrawNow (s : State) (c : Nat) : State := s.modCourse c (fun k => { k with phase := .withdrawn, withdrawTick := s.absTick - 1, withdrawCycles := 0 })

/-- Type code and button of a course in service (R295); a press in a maintenance window alone does not act (R46). -/
def State.courseSignals (s : State) (c st ctype : Nat) : State :=
  let k := s.course c
  let inside := s.windowCovers c
  let acts := s.buttonActs c
  let s1 := if ctype = k.ctype then s
    else if inside then (if k.phase = .service then s.withdrawNow c else s)
    else if k.typeRaised then s
    else (s.modCourse c (fun k => { k with typeRaised := true })).raise { kind := .typeDiffers, unit := courseUid c, detail := ctype }
  if !st.testBit 5 then s1
  else if acts then (if (s1.course c).phase = .service then s1.withdrawNow c else s1)
  else s1.raise { kind := .button, unit := courseUid c }

/-- A live section of sample tick `t`: its samples, reports and slow item (R275 to R278). The bricks of a course that discarded its block are stale in the tick, as for missing samples (R46; DEDUCED, log 96). -/
def State.liveSection (s : State) (c t : Nat) (sec : List Nat) (pool : List PoolEntry) : State :=
  let st := getLe sec 0 1
  let tag := getLe sec 2 1
  let mine := pool.filter (fun e => e.sec == c % 384)
  let xs := ((trange s.rc.bricks (c * 96) 96).filter (fun e => e.2.state != .absent)).map (fun e => e.1)
  let s1 := s.modCourse c (fun k => { k with missing := 0, dark := false, darkTicks := 0, fallback := st.testBit 6 })
  let s2 := { s1 with rc := { s1.rc with delivered := c :: s1.rc.delivered } }
  let s3 := xs.foldl (fun (u : State) x =>
    let j := x % 96
    let own := mine.filter (fun e => e.brick == j)
    let esc := (own.find? (fun e => e.kind == 1)).map (fun e => e.value)
    let d := decodeBrick t j tag (getLe sec (6 + j) 1) (getLe sec 102 2) (getLe sec 104 2) esc (tget {} u.lk.refs x)
    { u with
      lk := { u.lk with refs := tset {} u.lk.refs x d.2 }
      rc := { u.rc with samples := tmod {} u.rc.samples x (fun q =>
        { q with code := if st.testBit 2 then none else d.1, held := (own.find? (fun e => e.kind == 2)).map (fun e => heldOfCode e.aux), fault := own.any (fun e => e.kind == 3) }) } }) s2
  ((s3.blockReports c st).courseSignals c st (getLe sec 1 1)).takeSlow c t (getLe sec 4 2)

/-- The sections of an accepted frame (R275, R279, R287); a course whose samples miss their deadline is left out (R79). -/
def State.takeSections (s : State) (b t : Nat) (bs : List Nat) (pool : List PoolEntry) : State :=
  let cs := (s.lk.courses.filter (fun e => e.1 / 384 == b && e.2.serves && !s.lk.missNext.contains (144 + e.1))).map (fun e => e.1)
  cs.foldl (fun (u : State) c =>
    let sec := (bs.drop (48 + 106 * (c % 384))).take 106
    if (getLe sec 0 1).testBit 0 then u.liveSection c t sec pool
    else u.modCourse c (fun k => { k with missing := Nat.min (k.missing + 1) 2 })) s

/-- The pier currents of a frame as Q2.22 of the CURRENT base (R274, R114), unless they miss their deadline (R79). -/
def State.takeCurrents (s : State) (b : Nat) (bs : List Nat) : State :=
  if s.lk.missNext.contains b then s else
  let ok := getLe bs 44 4
  (List.range 3).foldl (fun (u : State) k =>
    if ok.testBit k then
      let i := satQ22 (surdRound 0 (getLeS bs (32 + 4 * k) 4 * 2097152) (s.irOf b))
      { u with ce := { u.ce with piers := tmod {} u.ce.piers (3 * b + k) (fun c => { c with im := i, imStale := false }) } }
    else u) s

/-- A management message as it stands in a frame. -/
structure Mgmt where
  kind : Nat
  pos : Nat
  payload : List Nat
deriving DecidableEq, Repr

/-- The payload length of an upward message type; none for an unknown type (R291). -/
def mgmtLen (kind : Nat) : Option Nat := match kind with | 0x10 => some 12 | 0x11 => some 193 | 0x12 => some 2 | 0x13 => some 20 | _ => none

/-- The messages of a frame and how many were discarded (R291). -/
def parseMgmt : Nat → List Nat → List Mgmt × Nat
  | 0, _ => ([], 0)
  | n + 1, bs =>
    if bs = [] then ([], 0)
    else if bs.length < 4 ∨ bs.length < 4 + getLe bs 1 1 then ([], 1)
    else
      let len := getLe bs 1 1
      let r := parseMgmt n (bs.drop (4 + len))
      if mgmtLen (getLe bs 0 1) = some len then ({ kind := getLe bs 0 1, pos := getLe bs 2 2 % 512, payload := (bs.drop 4).take len } :: r.1, r.2) else (r.1, r.2 + 1)

/-- The codes a live section's course reports beside its SERIALS, as far as they decode: keys and escapes. -/
def joinCodes (t part : Nat) (sec : List Nat) (pool : List PoolEntry) : List (Option Nat) :=
  (List.range 24).map (fun i => let j := 24 * part + i
    if !(getLe sec 0 1).testBit 0 then none
    else if j = 2 * (t % 48) then some (getLe sec 102 2)
    else if j = 2 * (t % 48) + 1 then some (getLe sec 104 2)
    else ((pool.filter (fun e => e.brick == j && e.kind == 1)).head?).map (fun e => e.value))

/-- The messages of a frame act as the rows of the same names do; JOINs in ascending position (R293). -/
def State.takeMgmt (s : State) (b lane t : Nat) (bs : List Nat) (pool : List PoolEntry) (ms : List Mgmt) : State :=
  let joins := (ms.filter (fun m => m.kind == 0x10)).mergeSort (fun x y => decide (x.pos ≤ y.pos))
  let s1 := (ms.filter (fun m => m.kind != 0x10)).foldl (fun (u : State) m =>
    match m.kind with
    | 0x13 => if lane = b then doHello b { serial := getLe m.payload 0 8, bay := getLe m.payload 8 1, fw := getLe m.payload 9 1, twin := getLe m.payload 10 8, turnaround := getLe m.payload 18 2 } u else u
    | 0x12 => doRing b { pos := m.pos, fromA := getLe m.payload 0 1, fromB := getLe m.payload 1 1 } u
    | _ => doSerials b { pos := m.pos, part := getLe m.payload 0 1, serials := (List.range 24).map (fun i => getLe m.payload (1 + 8 * i) 8)
                         codes := joinCodes t (getLe m.payload 0 1) ((bs.drop (48 + 106 * m.pos)).take 106) (pool.filter (fun e => e.sec == m.pos)) } u) s
  joins.foldl (fun (u : State) m =>
    doJoin b { pos := m.pos, serial := getLe m.payload 0 8, ctype := getLe m.payload 8 1, fw := getLe m.payload 9 1, cal := getLe m.payload 10 2, ordered := true } u) s1

/-! ### The breaker's reports (R335, R337, R344) -/

/-- The close is reported under the permit or within the close time after it ceased (R337); where GPIO11 does not carry SYNC_PERMIT there is none (R525). -/
def State.closeInTime (s : State) (y : Sync) : Bool := s.sys.permitEn && (s.st.syncPermit || (y.permitted && decide (y.permitAge ≤ s.prm 0x0103 0 6 0 * 1000000)))

/-- An ENERGISED bay's breaker is reported open (R335); after a safe stop the bay is READY (R344). -/
def State.openReport (s : State) (b : Nat) : State :=
  if (s.bayStart b).phase = .energised ∧ (s.bayLink b).opened then
    { s with st := { s.st with bays := tmod {} s.st.bays b (fun x =>
        if x.stopFloat then { x with phase := .ready, reason := 0, age := 0, opened := false, stopFloat := false } else { x with opened := true }) } }
  else s

/-- An open breaker releases the bay's hold on PLANT_TRIP (R211). -/
def State.releaseTrip (s : State) (b : Nat) : State :=
  if (s.bayLink b).opened then { s with md := { s.md with bays := tmod {} s.md.bays b (fun x => { x with marginTrip := false }) } } else s

/-- What the bay's breaker report brings about: the close of the bay that synchronises (R337), the opening of one in service (R335, R344). -/
def State.breakerReport (s : State) (b : Nat) : State :=
  let l := s.bayLink b
  let close := l.accepted && l.brkValid && l.brkClosed
  match s.st.sync with
  | some y =>
    if y.bay = b ∧ close ∧ ¬ y.closed then
      (if s.closeInTime y then
        { s with st := { s.st with sync := some { y with closed := true }, syncPermit := false, onceEnergised := true,
                                   bays := tmod {} s.st.bays b (fun x => { x with phase := .energised, reason := 0, age := 0, opened := false }) } }
      else (s.endSync 5).raise { kind := .closeWithoutPermit, unit := bayUid b })
    else s.openReport b
  | none => s.openReport b

/-- The latest downstream frame carried `release` (R284). -/
def BayLink.released (l : BayLink) : Bool := match l.down with | some d => d.flags.testBit 5 | none => false

/-- An accepted frame of bay `b` (R274 to R282). `release` stays until a frame that follows one of the device's with `release` no longer carries `floated`. DESIGN CHOICE (log 136): a pool entry for brick 96 to 127 names no record; it is discarded and counted as misrouted, as R279 has it for the other entries without one. -/
def State.acceptFrame (s : State) (b lane t e m : Nat) (bs : List Nat) : State :=
  let fl := getLe bs 2 2
  let all := poolOf e (bs.drop 40752)
  let live := fun (sec : Nat) => (getLe bs (48 + 106 * sec) 1).testBit 0
  let pool := all.filter (fun q => decide (q.sec < 384) && decide (q.brick < 96) && s.isFitted (b * 384 + q.sec) && live q.sec)
  let old := s.bayLink b
  let det := fl.testBit 0
  let msgs := parseMgmt 65 ((bs.drop (40752 + 6 * e)).take m)
  let s1 := s.modLink b (fun l =>
    { l with accepted := true, own := lane == b, upTick := t, missed := 0, detour := det, nDetours := if det && !l.detour then incSat 32 l.nDetours else l.nDetours,
             brkClosed := fl.testBit 1, brkValid := fl.testBit 2, energizeIn := fl.testBit 3, energizeOut := fl.testBit 4, xlinkUp := fl.testBit 5, xlinkDown := !fl.testBit 5,
             hubHold := fl.testBit 6, hubFloated := fl.testBit 7, release := l.release && (fl.testBit 7 || !l.released), ringSplit := bits fl 8 3, ringFail := bits fl 11 3,
             hubTemp := getLeS bs 18 2, dnAck := getLe bs 16 2, nEscapes := if fl.testBit 14 then incSat 32 l.nEscapes else l.nEscapes, nMgmt := satU 32 (l.nMgmt + msgs.2) })
  let s2 := { s1 with lk := { s1.lk with escOverflow := s1.lk.escOverflow || fl.testBit 14 } }
  let s3 := if det = old.detour then s2 else s2.raise { kind := if det then .detourStart else .detourEnd, unit := bayUid b }
  let s4 := (s3.misroute b (all.length - pool.length)).takeCurrents b bs
  (((s4.takeSections b t bs pool).takeMgmt b lane t bs pool msgs.1).breakerReport b).releaseTrip b

/-- A sound frame of bay `b` that came by lane `lane` is taken. -/
def State.takeFrame (s : State) (b lane : Nat) (bs : List Nat) : State := s.acceptFrame b lane (getLe bs 4 8 % 2 ^ 58) (getLe bs 12 2) (getLe bs 14 2) bs

/-- The stage-1 deadline: a detoured frame is taken where its bay's own lane has brought none (R282). -/
def State.closeStage1 (s : State) : State :=
  let s1 := s.lk.held.foldl (fun (t : State) e => if t.frameHere e.1 then t else t.takeFrame e.1 (twin e.1) e.2) s
  { s1 with lk := { s1.lk with held := [] } }

/-- UPSTREAM_FRAME (R279): accepted, or discarded whole; a detoured one waits for the stage-1 deadline (R282). DESIGN CHOICE (log 135): the bounds 384 and 256 of R274 on `esc_count` and `mgmt_len` are the sender's; a frame beyond them with the length it states and a good CRC is accepted. -/
def doUpstreamFrame (f : UpFrame) (s : State) : State :=
  let bs := f.bytes
  let lane := f.lane
  let e := getLe bs 12 2
  let m := getLe bs 14 2
  let len := 40756 + 6 * e + m
  let sound := f.inTime && bs.length == len && decide (40756 ≤ bs.length) && getLe bs (len - 4) 4 == crc32 (bs.take (len - 4)) && getLe bs 0 1 == 1
  let drop := fun (u : State) => u.modLink lane (fun l => { l with nDiscarded := incSat 32 l.nDiscarded })
  if !(s.bayLink lane).trained || (s.tile (tileOf lane)).phase == .out then s
  else if !sound then drop s
  else
    let b := getLe bs 1 1
    let t := getLe bs 4 8 % 2 ^ 58
    let det := (getLe bs 2 2).testBit 0
    if b ≠ lane ∧ b ≠ twin lane then drop (s.misroute lane 1)
    else if b ≠ lane ∧ !det then drop s
    else if t + 1 ≠ s.absTick then drop s
    else if s.frameHere b then s
    else if b = lane then s.takeFrame b lane bs
    else { s with lk := { s.lk with held := tset [] s.lk.held b bs } }
def execUpstreamFrame (frame : UpFrame) (s : State) : Host.Outcome State Fault Refusal :=
  if s.nBays ≤ frame.lane then .fault .noSuchUnit else .next (doUpstreamFrame frame s)

/-- CROSSPOINT_STAGE as a whole: stage 1 has ended. -/
def execCrosspointStage (s : State) : Host.Outcome State Fault Refusal := .next (doCrosspointStage s.closeStage1)

/-- CONTROL_STAGE as a whole: stage 1 has ended. -/
def execControlStage (s : State) : Host.Outcome State Fault Refusal := .next (doControlStage s.closeStage1)

/-! ### Downstream frames (R280, R281, R284, R338) -/

/-- Codes of a block's fields (R202). -/
def BlockMode.code : BlockMode → Nat | .normal => 0 | .allBypass => 1 | .allFloat => 2 | .hold => 3
def Sw.code : Sw → Nat | .bypass => 0 | .insert => 1 | .float => 2
def TrimMode.code : TrimMode → Nat | .none => 0 | .pulse => 1 | .full => 2

/-- A course command block's 16 bytes (R202). -/
def Block.bytes (k : Block) : List Nat :=
  let entries := (k.entries.zipIdx).foldl (fun (a : Nat) e => a + (e.1.1 + 128 * e.1.2.code) * 2 ^ (9 * e.2)) 0
  [fld k.entries.length 0 4 + fld k.mode.code 4 2 + b1 k.neg 6, k.tag % 256] ++ le 9 entries ++
    le 5 (fld k.trimBrick 0 7 + fld k.trimMode.code 7 2 + fld k.start 9 13 + fld k.stop 22 13)

/-- The block of a section position; zeros where no block is sent: an unfitted position, or a course whose block missed its deadline (R79, R280; the latter DEDUCED, log 97). -/
def blockBytes (o : Option Block) : List Nat := match o with | some k => k.bytes | none => List.replicate 16 0

/-- A message with its head (R291). -/
def MgmtOut.bytes (m : MgmtOut) : List Nat := [m.kind, m.payload.length] ++ le 2 m.pos ++ m.payload

/-- A bay's downstream frame (R280); `copy`: as its twin's lane carries it (R281). -/
def State.frameBytes (s : State) (b : Nat) (d : DownFrame) (copy : Bool) : List Nat :=
  let mg := (d.mgmt.map MgmtOut.bytes).flatten
  let head := [2, b] ++ le 2 (d.flags + b1 copy 0) ++ le 8 d.applyTick ++ le 2 d.upAck ++ le 2 mg.length ++ le 2 d.laneDelay ++ List.replicate 14 0
  let body := head ++ ((List.range 384).map (fun k => blockBytes (tget none s.md.blocks (b * 384 + k)))).flatten ++ mg
  body ++ le 4 (crc32 body)

/-- The messages that fit a frame's 256 bytes, in order, and the rest. -/
def packMgmt : Nat → List MgmtOut → List MgmtOut × List MgmtOut
  | _, [] => ([], [])
  | room, m :: r => if 4 + m.payload.length ≤ room then let q := packMgmt (room - 4 - m.payload.length) r; (m :: q.1, q.2) else ([], m :: r)

/-- The device sets `energize_ok` in the bay's frames (R337, R338). -/
def State.energizeOk (s : State) (b : Nat) : Bool :=
  (s.bayStart b).phase == .energised || ((s.bayStart b).phase == .excluded && (s.bayLink b).opened)

/-- The frame of one bay for the coming tick; its blocks are the modulator's (R202). -/
def State.composeDown (s : State) (b : Nat) : State :=
  let l := s.bayLink b
  if !(s.served b && (l.trained || (s.bayLink (twin b)).trained)) then (if l.down.isNone then s else s.modLink b (fun l => { l with down := none })) else
  let q := packMgmt 256 l.outQ
  let recovery := (trange s.lk.courses (b * 384) 384).any (fun e => e.2.recovery.isSome)
  let flags := b1 l.startup 1 + b1 l.test.isSome 2 + b1 recovery 3 + b1 l.maint.isSome 4 + b1 (l.release && !l.lost) 5 + b1 (s.energizeOk b) 6
  s.modLink b (fun l => { l with
    outQ := q.2
    down := some { flags := flags, applyTick := (s.absTick + 1) % 2 ^ 58, upAck := l.upTick % 65536
                   laneDelay := match l.hub with | some h => l.delay h.turnaround % 65536 | none => 0
                   mgmt := q.1 } })

/-- What a lane carries downstream in the tick: its own bay's frame, then the copy of its twin's (R281). -/
def State.sendLane (s : State) (b : Nat) : State :=
  let one := fun (k : Nat) => match (s.bayLink k).down with | some d => [s.frameBytes k d (k != b)] | none => []
  let works := (s.bayLink b).trained && (s.tile (tileOf b)).phase != .out
  s.modLink b (fun l => { l with sent := if works then one b ++ one (twin b) else [] })

/-- MODULATION_STAGE as a whole: the blocks, and the downstream frames that carry them (R193, R280, R281). -/
def doModulationFrames (s : State) : State :=
  if ¬ s.tb.running then s else
  let s1 := doModulationStage s
  s1.allBays.foldl State.sendLane (s1.allBays.foldl State.composeDown s1)
def execModulationStage (s : State) : Host.Outcome State Fault Refusal := .next (doModulationFrames s)

/-- LANE_RETRY (R323): a bay that waits at step 7 trains its lane again after 1 s. -/
def doLaneRetry (b : Nat) (s : State) : State :=
  if (s.bayStart b).phase = .lane ∧ 1000000000000 ≤ (s.bayStart b).age then
    if s.hubIn b then s.startBay b .admitting 0
    else (s.startBay b .lane 1).modLink b (fun l => if l.hub.isSome then l else { l with trained := false, trips := [] })
  else s
def execLaneRetry (lane : Nat) (s : State) : Host.Outcome State Fault Refusal := if s.nBays ≤ lane then .fault .noSuchUnit else .next (doLaneRetry lane s)

/-! ### Commands (R298, R439) -/

/-- `LINK_WINDOW_OPEN`. -/
def linkWindowOpen (unit kind seconds : Nat) (s : State) : State × Ans :=
  let u := checkLevel s.nBays 3 unit
  if u.1 ≠ 0 then (s, refuseAns u.1 0x0A02 255 unit)
  else if 1 < kind then (s, refuseAns stRange 0x0A02 255 unit)
  else if seconds = 0 then (s, refuseAns stRange 0x0A02 255 unit)
  else if kind = 0 ∧ (s.bayLink u.2.bay).closed then (s, refuseAns stState 0x0A02 255 unit)
  else (s.modLink u.2.bay (fun l => if kind = 0 then { l with openTest := some seconds } else { l with openMaint := some seconds }), okAns)
def doLinkWindowOpen (h : Hdr) (bay kind seconds : Nat) (s : State) : State := s.hostJ (.linkWindowOpen h bay kind seconds) h 0x0A02 (linkWindowOpen bay kind seconds)
def execLinkWindowOpen (h : Hdr) (bay kind seconds : Nat) (s : State) : Host.Outcome State Fault Refusal := .next (doLinkWindowOpen h bay kind seconds s)

/-- `LINK_WINDOW_CLOSE`: a window that still waits to open is withdrawn with it. -/
def linkWindowClose (unit : Nat) (s : State) : State × Ans :=
  let u := checkLevel s.nBays 3 unit
  if u.1 ≠ 0 then (s, refuseAns u.1 0x0A03 255 unit)
  else (s.modLink u.2.bay (fun l => { l with openTest := none, openMaint := none, closeDue := l.test.isSome || l.maint.isSome }), okAns)
def doLinkWindowClose (h : Hdr) (bay : Nat) (s : State) : State := s.hostJ (.linkWindowClose h bay) h 0x0A03 (linkWindowClose bay)
def execLinkWindowClose (h : Hdr) (bay : Nat) (s : State) : Host.Outcome State Fault Refusal := .next (doLinkWindowClose h bay s)

/-- `COURSE_WITHDRAW` (R296); a course that is being withdrawn is in service until it leaves, and the command changes nothing. -/
def courseWithdraw (unit : Nat) (s : State) : State × Ans :=
  let u := checkLevel s.nBays 1 unit
  let c := courseIx u.2.bay u.2.pier u.2.course
  if u.1 ≠ 0 then (s, refuseAns u.1 0x0A04 255 unit)
  else if (s.course c).phase = .out then (s, refuseAns stState 0x0A04 255 unit)
  else if (s.course c).phase = .withdrawn then (s, okAns)
  else (s.modCourse c (fun k => { k with phase := .withdrawn, withdrawTick := s.absTick, withdrawCycles := 0 }), okAns)
def doCourseWithdraw (h : Hdr) (course : Nat) (s : State) : State := s.hostJ (.courseWithdraw h course) h 0x0A04 (courseWithdraw course)
def execCourseWithdraw (h : Hdr) (course : Nat) (s : State) : Host.Outcome State Fault Refusal := .next (doCourseWithdraw h course s)

/-- `LINK_STATUS_READ`. -/
def linkStatusRead (unit : Nat) (s : State) : State × Ans :=
  let u := checkLevel s.nBays 3 unit
  if u.1 ≠ 0 then (s, refuseAns u.1 0x0A05 255 unit) else
  let l := s.bayLink u.2.bay
  let word := b1 l.trained 0 + b1 l.detour 1 + b1 l.xlinkUp 2 + fld l.ringSplit 3 3 + fld l.ringFail 6 3 + b1 l.lost 9
  (s, okAns (le 4 word ++ (l.breaks.map (fun (p : Nat × Nat) => [p.1 % 256, p.2 % 256])).flatten ++ [0, 0] ++
    ([l.nMissed, l.nDiscarded, l.nDetours, l.nEscapes, l.nMisrouted, l.nBreaks, l.nDark, l.nRefused].map (le 4)).flatten))
def doLinkStatusRead (h : Hdr) (bay : Nat) (s : State) : State := s.host h 0x0A05 (linkStatusRead bay)
def execLinkStatusRead (h : Hdr) (bay : Nat) (s : State) : Host.Outcome State Fault Refusal := .next (doLinkStatusRead h bay s)

/-- `LINK_PENDING_READ`: pending and refused courses. -/
def doLinkPendingRead (h : Hdr) (start max : Nat) (s : State) : State :=
  s.host h 0x0A06 (fun t =>
    let es := (t.lk.courses.filter (fun e => e.2.pending || e.2.reason != 0)).map (fun e => le 4 (courseUid e.1) ++ le 8 e.2.offer ++ [e.2.reason, 0, 0, 0])
    (t, okAns (cursor h.udp 16 start max es)))
def execLinkPendingRead (h : Hdr) (start max : Nat) (s : State) : Host.Outcome State Fault Refusal := .next (doLinkPendingRead h start max s)

end Sys2Proof.Machine
end

