-- ==== Sys2Proof/Machine/Redundancy.lean ====
section
/-! DEFINITION. Redundancy: flywheel rows, tile takeover, planned transfers, firmware images and updates (10, 15 R440). -/

namespace Sys2Proof.Machine
open Sys2Proof

/-- Change a tile's standing. -/
def State.modTile (s : State) (t : Nat) (f : Tile → Tile) : State := { s with rd := { s.rd with tiles := tmod {} s.rd.tiles t f } }

/-- Count an event of RD_STATUS_READ and note its tick (R440). -/
def Redundancy.count (r : Redundancy) (i tick : Nat) : Redundancy :=
  { r with counts := r.counts.set i (incSat 32 (r.counts.getD i 0)), ticks := r.ticks.set i tick }

/-! ### Flywheel (R308, R309) -/

/-- FLYWHEEL_RAMP_START (R308): after 3,200 ticks the scale falls. -/
def doFlywheelRampStart (s : State) : State :=
  if s.rd.flywheel ∧ ¬ s.rd.ramp ∧ 3200 ≤ s.rd.flyTicks ∧ s.rd.rampTicks < 8000 then { s with rd := { s.rd with ramp := true, rampTicks := 0 } } else s
def execFlywheelRampStart (s : State) : Host.Outcome State Fault Refusal := .next (doFlywheelRampStart s)

/-- The tiles leave flywheel to a keystone that started without a copy: the banks it runs on are the defaults, generation 0 (R127, R339, log 98). -/
def State.dropBanks (s : State) : State :=
  if s.rd.freshDue ∧ ¬ s.rd.flywheel then { s with xp := {}, rd := { s.rd with freshDue := false } } else s

/-- FLYWHEEL_FLOAT (R309): the scale has reached 0. A keystone that went live during the ramp takes the tiles over now. -/
def doFlywheelFloat (s : State) : State :=
  if s.rd.flywheel ∧ s.rd.ramp ∧ 8000 ≤ s.rd.rampTicks then
    let s1 := s.flyFloat s.enabledBays
    { s1 with rd := { s1.rd with flyFloat := true, ramp := false, stopRamp := false, flywheel := !s1.ksLive } }.dropBanks
  else s
def execFlywheelFloat (s : State) : Host.Outcome State Fault Refusal := .next (doFlywheelFloat s)

/-! ### Transfers (R316) -/

/-- A transfer is abandoned: the sending tile keeps the bays, and an event names it (R316, R416, log 29). -/
def State.abandonTransfer (s : State) : State :=
  match s.rd.xfer with
  | none => s
  | some x =>
    let s1 := if x.running then
        (s.modTile x.sender (fun t => { t with phase := if x.back then .carrying else .normal, transferHalf := false })).modTile x.receiver
          (fun t => { t with phase := if x.back then .out else .normal, transferHalf := false })
      else s
    State.raise { s1 with rd := { s1.rd with xfer := none } } { kind := .transferEnded, unit := noUnit, detail := x.sender + 256 }

/-- A tile has recovered, and its lanes have retrained where a hub is admitted (R316). -/
def State.tileRecovered (s : State) (t : Nat) : Bool :=
  (s.tile t).recovered && (tileBays t).all (fun b => (s.bayLink b).hub.isNone || (s.bayLink b).trained)

/-- `TILE_HANDOVER` (R316, R440). -/
def tileHandover (t : Nat) (s : State) : State × Ans :=
  let u := neighbour t
  if s.nTiles ≤ t then (s, refuseAns stRange 0x0B02 255 t)
  else if !s.ksLive || s.rd.xfer.isSome || (s.tile u).phase != .normal || (s.tile u).carryDue || (s.tile t).phase != .normal then (s, refuseAns stState 0x0B02 255 t)
  else ({ s with rd := { s.rd with xfer := some { sender := t, receiver := u, back := false, running := false, cycle := 0 } } }, acceptedAns)
def doTileHandover (h : Hdr) (tile : Nat) (s : State) : State := s.hostJ (.tileHandover h tile) h 0x0B02 (tileHandover tile)
def execTileHandover (h : Hdr) (tile : Nat) (s : State) : Host.Outcome State Fault Refusal := .next (doTileHandover h tile s)

/-- `TILE_HANDBACK` (R316, R440): the neighbour, which carries the tile's bays, sends them back. -/
def tileHandback (t : Nat) (s : State) : State × Ans :=
  let u := neighbour t
  if s.nTiles ≤ t then (s, refuseAns stRange 0x0B03 255 t)
  else if !s.ksLive || s.rd.xfer.isSome || (s.tile u).phase != .carrying || (s.tile t).phase != .out || !s.tileRecovered t then
    (s, refuseAns stState 0x0B03 255 t)
  else ({ s with rd := { s.rd with xfer := some { sender := u, receiver := t, back := true, running := false, cycle := 0 } } }, acceptedAns)
def doTileHandback (h : Hdr) (tile : Nat) (s : State) : State := s.hostJ (.tileHandback h tile) h 0x0B03 (tileHandback tile)
def execTileHandback (h : Hdr) (tile : Nat) (s : State) : Host.Outcome State Fault Refusal := .next (doTileHandback h tile s)

/-- TRANSFER_CYCLE_START (R316): at the boundary after the command both tiles go to half rate. -/
def doTransferCycleStart (s : State) : State :=
  match s.rd.xfer with
  | none => s
  | some x =>
    if x.running ∨ s.tb.idx ≠ 0 then s else
    let half := fun (t : Tile) => { t with phase := .transfer, transferHalf := true }
    let s1 := (s.modTile x.sender half).modTile x.receiver half
    { s1 with rd := { s1.rd with xfer := some { x with running := true, cycle := s.tb.cycleNow } } }
def execTransferCycleStart (s : State) : Host.Outcome State Fault Refusal := .next (doTransferCycleStart s)

/-- The first position of a tile; a tile has 442,368 of them (R32). -/
def tileBase (t : Nat) : Nat := t * 442368

/-- Drop a tile's entries of a table over positions. -/
def dropTile {α : Type} (t : Nat) (x : Tab α) : Tab α := tdrop (fun k => k / 442368 == t) x

/-- A brick's slot in another tile's working store: its switch state comes from the switch-state shadow, its dwell and its remaining budget from zero (R31, R311, R313). -/
def BrickMod.restart (m : BrickMod) (budget : Nat) : BrickMod := { m with since := 0, spent := budget, barred := false }

/-- The bays of tile `t` move to another working store: extensions, decode references and modulation state start from zero, and the tile that takes them over has no drive table for them yet (R31, R229, R278, R308). DESIGN CHOICE, log 114: that a record is new is held in the extension, so a brick still in JOINING goes on as a restored one (R234). -/
def State.moveSlots (s : State) (t : Nat) : State :=
  { s with
    rc := { s.rc with ext := dropTile t s.rc.ext }
    lk := { s.lk with refs := dropTile t s.lk.refs }
    md := { s.md with bricks := tsplice s.md.bricks (tileBase t) 442368 ((List.range 12).map (fun k =>
      (trange s.md.bricks (tileBase t + k * 36864) 36864).map (fun e => (e.1, e.2.restart (s.mdPrm (12 * t + k) 1 0))))).flatten }
    rd := { s.rd with drive := tdrop (fun k => decide (k / 800 / 36 = t)) s.rd.drive } }

/-- A domain's gate opens and its channel is masked, without a trip (R364). -/
def State.gateOff (s : State) (c : Nat) : State := s.modChan c (fun x => { x with gate := false, good := false, rail := .inBand })

/-- TRANSFER_COMPLETE (R316, R364): at the boundary that ends the transfer cycle; an event names the sending tile (R416, log 29). -/
def doTransferComplete (s : State) : State :=
  match s.rd.xfer with
  | none => s
  | some x =>
    if !x.running || s.tb.idx != 0 || s.tb.cycleNow == x.cycle then s else
    let moved := if x.back then x.receiver else x.sender
    let carrier := if x.back then x.sender else x.receiver
    let s0 := s.moveSlots moved
    let s1 := if x.back then s0 else s0.gateOff moved
    let s2 := (s1.modTile moved (fun t => { t with phase := if x.back then .normal else .out, transferHalf := false, handedOver := !x.back, recovered := false, sweepWhole := false,
                                                   mirrorValid := x.back })).modTile carrier
      (fun t => { t with phase := if x.back then .normal else .carrying, transferHalf := false, sweepWhole := false, mirrorValid := false })
    let live := trange s2.rc.bricks (tileBase moved) 442368
    let mirror := dropTile carrier (dropTile moved s2.rc.mirror)
    State.raise { s2 with
      rc := { s2.rc with mirror := if x.back then tsplice mirror (tileBase moved) 442368 live else mirror }
      rd := { s2.rd.count 3 s2.absTick with xfer := none } } { kind := .transferEnded, unit := noUnit, detail := x.sender }
def execTransferComplete (s : State) : Host.Outcome State Fault Refusal := .next (doTransferComplete s)

/-! ### Tile takeover (R312 to R315) -/

/-- The tile's part of a transfer ends with it. -/
def State.endTransferOf (s : State) (t : Nat) : State :=
  match s.rd.xfer with
  | some x => if x.sender = t ∨ x.receiver = t then s.abandonTransfer else s
  | none => s

/-- A tile is out: its lanes are dark, its SRAM is lost (R312, R339). -/
def State.tileOut (s : State) (t : Nat) : State :=
  let s1 := s.modTile t (fun y => { y with phase := .out, recovered := false, handedOver := false, carryDue := false, sweepWhole := false, mirrorValid := false })
  let s2 := (tileBays t).foldl (fun (u : State) b => u.modLink b (fun l => { l with trained := false, trips := [] })) s1
  { s2 with z := { s2.z with slots := tset {} (tset {} s2.z.slots (2 * t) {}) (2 * t + 1) {}, tiles := tmod {} s2.z.tiles t (fun q => { q with requests := [], next := 0 }) } }

/-- The bays of a tile are EXCLUDED, and a synchronisation of one of them ends: it failed its self-test, or it is out and its neighbour does not carry them (R329, R337, log 99). -/
def State.excludeTile (s0 : State) (t : Nat) : State :=
  let s := s0.endSyncOf (tileBays t)
  { s with st := { s.st with bays := (tileBays t).foldl (fun (m : Tab BayStart) b => tmod {} m b (fun x => { x with phase := .excluded, reason := 6, excl := .tile })) s.st.bays } }

/-- The rank key of a record whose structure is rebuilt (R313). -/
def State.rebuiltKey (s : State) (x : Nat) (r : Rec) : Option (Nat × Nat) := if r.state.available && !s.darkCourse (x / 96) then some (r.rank, r.rank) else none

/-- The neighbour `u` carries the bays of tile `t` from this tick; its first blocks apply in the next (R313, R314). -/
def State.carry (s : State) (t u : Nat) : State :=
  let live := trange s.rc.mirror (tileBase t) 442368
  let keys := (live.map (fun e => (e.1, s.rebuiltKey e.1 e.2))).filter (fun e => e.2.isSome)
  let s1 := (s.modTile u (fun y => { y with phase := .carrying, carryDue := false, sweepWhole := false, mirrorValid := false })).moveSlots t
  { s1 with
    rc := { s1.rc with bricks := tsplice s1.rc.bricks (tileBase t) 442368 live, keys := tsplice s1.rc.keys (tileBase t) 442368 keys
                       mirror := dropTile t (dropTile u s1.rc.mirror), samples := dropTile t s1.rc.samples }
    z := { s1.z with slots := tset {} (tset {} s1.z.slots (2 * u) {}) (2 * u + 1) {}, late := dropTile t s1.z.late }
    ce := { s1.ce with piers := (List.range 36).foldl (fun (p : Tab PierCtl) k => tmod {} p (36 * t + k) (fun c => { c with suspendFrom := some (s.absTick + 1) })) s1.ce.piers } }

/-- The takeovers declared in the tick before begin (R313). -/
def State.takeCarries (s : State) : State :=
  (List.range s.nTiles).foldl (fun (v : State) u => if (v.tile u).carryDue then v.carry (neighbour u) u else v) s

/-- A takeover is declared: counted now, and carried out from the next tick on (R313, R319, R440). -/
def State.declareTakeover (s : State) (u : Nat) : State :=
  let s1 := s.modTile u (fun y => { y with carryDue := true })
  { s1 with rd := { (s1.rd.count 2 s.absTick) with tileTakeover := true } }

/-- A tile fails or is shut down (R312 to R314, R389). -/
def State.loseTile (s : State) (t : Nat) : State :=
  let u := neighbour t
  if (s.tile t).phase = .out then s else
  let s1 := s.endTransferOf t
  let was := s1.tile t
  let s2 := s1.tileOut t
  if was.phase = .carrying ∨ was.carryDue then (s2.excludeTile t).excludeTile u
  else if (s2.tile u).phase ≠ .normal then s2.excludeTile t
  else
    let s3 := s2.declareTakeover u
    if s3.ksLive then s3 else State.endSyncOf { s3 with md := (tileBays t).foldl (fun (m : Modulator) b => (m.floatBay b).tripBay b) s3.md } (tileBays t)

/-- TILE_TAKEOVER (R312, R313): the tile's heartbeat is missing twice, or it is shut down. -/
def execTileTakeover (tile : Nat) (s : State) : Host.Outcome State Fault Refusal := if s.nTiles ≤ tile then .fault .noSuchUnit else .next (s.loseTile tile)

/-! ### Status and firmware (R317, R440) -/

/-- `RD_STATUS_READ`. -/
def doRdStatusRead (h : Hdr) (s : State) : State :=
  s.host h 0x0B01 (fun t => (t, okAns (([t.rdStatus, t.tileState, t.mirror, t.fwStatus].map (le 4)).flatten ++ (t.rd.counts.map (le 4)).flatten ++ (t.rd.ticks.map (le 8)).flatten)))
def execRdStatusRead (h : Hdr) (s : State) : Host.Outcome State Fault Refusal := .next (doRdStatusRead h s)

/-- What the other keystone is to be: the standby, which boots, where it is a candidate (R327, R389). -/
def Redundancy.otherStands (r : Redundancy) : StandbyState :=
  if r.candidates.testBit (1 - r.active) && !r.ksFailed.testBit (1 - r.active) then .booting else .absent

/-- The standby's shadow is valid (R302). -/
def Redundancy.shadowValid (r : Redundancy) : Bool := r.standby == .ready && r.shadow.isSome

/-- `KEYSTONE_SWITCH` (R305, R317): at the next cycle boundary. -/
def keystoneSwitch (s : State) : State × Ans :=
  if !s.rd.shadowValid then (s, refuseAns stState 0x0B04 255 0) else ({ s with rd := { s.rd with switchDue := true } }, acceptedAns)
def doKeystoneSwitch (h : Hdr) (s : State) : State := s.hostJ (.keystoneSwitch h) h 0x0B04 keystoneSwitch
def execKeystoneSwitch (h : Hdr) (s : State) : Host.Outcome State Fault Refusal := .next (doKeystoneSwitch h s)

/-- The slot a keystone booted from. -/
def Redundancy.slotOf (r : Redundancy) (k : Nat) : Nat := if k = 0 then r.slotA else r.slotB

/-- A keystone boots from the image in a slot, which gives its revisions (R317, R322, R430). -/
def Redundancy.bootFrom (r : Redundancy) (k slot : Nat) (bytes : List Nat) : Redundancy :=
  let i := Config.imageInfo bytes
  { r with slotA := if k = 0 then slot else r.slotA, slotB := if k = 0 then r.slotB else slot
           fwRevs := tset 0 r.fwRevs k (i.1 % pow32), shadowRevs := tset 0 r.shadowRevs k (i.2.1 % 65536) }

/-- Some keystone runs the image in the slot (R317): the active one once it has booted, the standby once it is up. -/
def State.runsSlot (s : State) (slot : Nat) : Bool :=
  (s.st.step4 && s.rd.slotOf s.rd.active == slot) ||
  ((s.rd.standby == .syncing || s.rd.standby == .ready) && s.rd.slotOf (1 - s.rd.active) == slot)

/-- Bytes of an image slot (R504). -/
def slotSize : Nat := 16777216

def State.image (s : State) (slot : Nat) : Image := tget {} s.rd.images slot

/-- The slot holds an image whose signature matches the firmware root (R317, R328). -/
def State.imageGood (s : State) (slot : Nat) : Bool := (s.image slot).bytes != [] && Config.imageSigned (s.image slot).bytes (wordBytes (s.fu.read 2 8 8))

/-- A chunk goes into an image slot: a chunk at offset 0 erases it (R440). -/
def State.writeChunk (s : State) (slot offset : Nat) (data : List Nat) : State :=
  let data := data.map (· % 256)
  { s with rd := { s.rd with images := tmod {} s.rd.images slot (fun i => { bytes := if offset = 0 then data else i.bytes ++ data, verified := false }) } }

/-- `FW_IMAGE_WRITE` (R440). -/
def fwImageWrite (udp : Bool) (slot offset : Nat) (data : List Nat) (s : State) : State × Ans :=
  if 1 < slot then (s, refuseAns stRange 0x0B05 255 slot)
  else if data.length < 4 ∨ (if udp then 1408 else 4032) < data.length ∨ data.length % 4 ≠ 0 then (s, refuseAns stBadLength 0x0B05 255 slot)
  else if s.runsSlot slot then (s, refuseAns stState 0x0B05 255 slot)
  else if offset ≠ 0 ∧ offset ≠ (s.image slot).bytes.length then (s, refuseAns stBadParam 0x0B05 255 slot)
  else if slotSize < offset + data.length then (s, refuseAns stRange 0x0B05 255 slot)
  else (s.writeChunk slot offset data, okAns (le 4 (offset + data.length)))
def doFwImageWrite (h : Hdr) (slot offset : Nat) (data : List Nat) (s : State) : State := s.hostJ (.fwImageWrite h slot offset data) h 0x0B05 (fwImageWrite h.udp slot offset data)
def execFwImageWrite (h : Hdr) (slot offset : Nat) (data : List Nat) (s : State) : Host.Outcome State Fault Refusal := .next (doFwImageWrite h slot offset data s)

/-- `FW_IMAGE_VERIFY` (R317, R440). -/
def fwImageVerify (slot : Nat) (s : State) : State × Ans :=
  if 1 < slot then (s, refuseAns stRange 0x0B06 255 slot)
  else if s.runsSlot slot then (s, refuseAns stState 0x0B06 255 slot)
  else if !s.imageGood slot then ({ s with rd := { s.rd with images := tmod {} s.rd.images slot (fun i => { i with verified := false }) } }, refuseAns stVerify 0x0B06 255 slot)
  else
    let i := Config.imageInfo (s.image slot).bytes
    ({ s with rd := { s.rd with images := tmod {} s.rd.images slot (fun i => { i with verified := true }) } },
     okAns (le 4 i.1 ++ le 2 i.2.1 ++ le 2 i.2.2.1 ++ le 2 i.2.2.2 ++ le 2 0))
def doFwImageVerify (h : Hdr) (slot : Nat) (s : State) : State := s.hostJ (.fwImageVerify h slot) h 0x0B06 (fwImageVerify slot)
def execFwImageVerify (h : Hdr) (slot : Nat) (s : State) : Host.Outcome State Fault Refusal := .next (doFwImageVerify h slot s)

/-- The slot an update boots the standby from: the one the active keystone does not run. -/
def Redundancy.newSlot (r : Redundancy) : Nat := 1 - r.slotOf r.active

/-- The verified image accepts the running image's shadow format (R317). -/
def State.acceptsShadow (s : State) : Bool :=
  let i := Config.imageInfo (s.image s.rd.newSlot).bytes
  let r := tget 0 s.rd.shadowRevs s.rd.active
  decide (i.2.2.1 ≤ r) && decide (r ≤ i.2.2.2)

/-- `FW_UPDATE` (R317): the standby reboots at once from the verified slot. -/
def fwUpdate (s : State) : State × Ans :=
  if !s.rd.shadowValid || !(s.image s.rd.newSlot).verified || !s.acceptsShadow || s.rd.xfer.isSome || s.rd.flywheel then (s, refuseAns stState 0x0B07 255 0)
  else ({ s with rd := { s.rd with standby := .booting, shadow := none, journal := [], updatePhase := 1, updateAge := 0, prevSlot := s.rd.slotOf (1 - s.rd.active), backDue := false } }, acceptedAns)
def doFwUpdate (h : Hdr) (s : State) : State := s.hostJ (.fwUpdate h) h 0x0B07 fwUpdate
def execFwUpdate (h : Hdr) (s : State) : Host.Outcome State Fault Refusal := .next (doFwUpdate h s)

/-- FW_UPDATE_ABORT (R317): the rebooted keystone fails its boot, or its shadow is not valid within 60 s; it boots from its old slot, unless it has lost its power (R389). -/
def doFwUpdateAbort (s : State) : State :=
  let p := s.rd.updatePhase
  if (p = 1 ∨ p = 2 ∨ p = 4) ∧ (s.rd.standby = .absent ∨ (60000000000000 ≤ s.rd.updateAge ∧ !s.rd.shadowValid)) then
    State.raise { s with rd := { s.rd with updatePhase := 6, updateAborted := true, standby := s.rd.otherStands, shadow := none, journal := [], backDue := true } }
      { kind := .updateEnded, unit := noUnit }
  else s
def execFwUpdateAbort (s : State) : Host.Outcome State Fault Refusal := .next (doFwUpdateAbort s)

end Sys2Proof.Machine
end

