-- ==== Sys2Proof/Machine/Startup.lean ====
section
/-! DEFINITION. Start-up: election, boot, self-tests, the timebase's start, admission, restore, synchronisation; the safe stop's command and float (11, 15 R430). -/

namespace Sys2Proof.Machine
open Sys2Proof

/-! ### Device steps (R323 to R331) -/

/-- A fault code shows in SYS_BOOT_STATE and in the footing's always-on status (R345). -/
def State.setFault (s : State) (code : Nat) : State := { s with st := { s.st with faultCode := code }, ftg := { s.ftg with aonFault := code } }

/-- The device stops on a fault (R326 to R330, R345). -/
def State.stopFault (s : State) (code : Nat) : State := State.assertFault { s.setFault code with st := { (s.setFault code).st with devStep := 15 } }

/-- The keystone that POLICY prefers (R327, R476). -/
def State.preferred (s : State) : Nat := bits s.fu.policy 1 1

/-- A keystone becomes active: step 4 and step 5 begin (R323, R327). -/
def State.elect (s : State) (k : Nat) : State :=
  { s with rd := { s.rd with active := k, haveActive := true, standby := .absent }, st := { s.st with devStep := 4 } }

/-- KEYSTONE_SELF_TEST (R327): a keystone that passes is a candidate, and the standby where one is active. -/
def doKeystoneSelfTest (k : Nat) (pass : Bool) (s : State) : State :=
  if s.st.devStep < 3 ∨ s.st.devStep = 15 ∨ s.rd.ksFailed.testBit k ∨ s.rd.candidates.testBit k then s
  else if !pass then { s with rd := { s.rd with ksFailed := setBit s.rd.ksFailed k true } }
  else if (s.chan (12 + k)).latched then s
  else
    let s1 := { s with rd := { s.rd with candidates := setBit s.rd.candidates k true } }
    if s.st.devStep = 3 then (if k = s.preferred ∨ s.st.prefWaited then s1.elect k else s1)
    else if s.rd.haveActive ∧ s.rd.active ≠ k ∧ s.st.step4 then { s1 with rd := { s1.rd with standby := .booting } } else s1
def execKeystoneSelfTest (keystone : Nat) (pass : Bool) (s : State) : Host.Outcome State Fault Refusal :=
  if 2 ≤ keystone then .fault .noSuchUnit else .next (doKeystoneSelfTest keystone pass s)

/-- ELECTION_TIMEOUT (R327): the 100 ms preference wait, or (`limit`) the 1 s limit. -/
def doElectionTimeout (limit : Bool) (s : State) : State :=
  if s.st.devStep ≠ 3 then s
  else if limit ∧ s.rd.candidates = 0 then (if s.tb.running then s else s.stopFault 0x40)
  else
    let s1 := { s with st := { s.st with prefWaited := true } }
    let other := 1 - s.preferred
    if s.rd.candidates.testBit s.preferred then s1.elect s.preferred else if s.rd.candidates.testBit other then s1.elect other else s1
def execElectionTimeout (limit : Bool) (s : State) : Host.Outcome State Fault Refusal := .next (doElectionTimeout limit s)

/-- Step 6 starts when steps 4 and 5 are complete (R323). -/
def State.stepSix (s : State) : State := { s with st := { s.st with outputs := s.st.outputs || (s.st.step4 && s.st.step5), devStep := if s.st.step4 then (if s.st.step5 then 6 else 5) else 4 } }

/-- The active keystone boots from a slot (R328). -/
def State.bootActive (s : State) (slot : Nat) (second : Bool) : State :=
  let s1 := { s with
    rd := { s.rd.bootFrom s.rd.active slot (s.image slot).bytes with lastGood := slot, standby := s.rd.otherStands }
    st := { s.st with step4 := true, bootSlot := slot, otherSlotBad := s.st.otherSlotBad || second } }
  let s2 := if second then s1.raise { kind := .bootSlotBad, unit := noUnit, detail := 1 - slot } else s1
  s2.stepSix

/-- The slot the standby boots from: its own old one after an abandoned update, the update's new one, otherwise the active keystone's (R317, R328). -/
def Redundancy.standbySlot (r : Redundancy) : Nat :=
  if r.backDue then r.prevSlot else if r.updatePhase = 1 then r.newSlot else r.slotOf r.active

/-- The standby boots, or fails to (R317, R328). -/
def State.bootStandby (s : State) : State :=
  let r := s.rd
  let slot := r.standbySlot
  if s.imageGood slot then
    { s with rd := { r.bootFrom (1 - r.active) slot (s.image slot).bytes with standby := .syncing, backDue := false, updatePhase := if r.updatePhase = 1 then 2 else if r.updatePhase = 4 then 5 else r.updatePhase } }
  else { s with rd := { r with standby := .absent } }

/-- SIGNED_BOOT (R317, R328): an event reports an update that ends with it (R416, log 29). -/
def doSignedBoot (k : Nat) (s : State) : State :=
  if k = s.rd.active then
    (if (s.st.devStep = 4 ∨ s.st.devStep = 5) ∧ s.rd.haveActive ∧ ¬ s.st.step4 then
      (if s.imageGood s.rd.lastGood then s.bootActive s.rd.lastGood false
       else if s.imageGood (1 - s.rd.lastGood) then s.bootActive (1 - s.rd.lastGood) true
       else let s1 := s.stopFault 0x50; { s1 with st := { s1.st with uartOpen := true } })
    else s)
  else if s.rd.standby = .booting ∧ s.st.step4 then
    let t := s.bootStandby
    if s.rd.updatePhase = 4 ∧ t.rd.updatePhase = 5 then t.raise { kind := .updateEnded, unit := noUnit, detail := 1 } else t
  else s
def execSignedBoot (keystone : Nat) (s : State) : Host.Outcome State Fault Refusal := if 2 ≤ keystone then .fault .noSuchUnit else .next (doSignedBoot keystone s)

/-- SERVICE_UART_WRITE (R328): an image write after both slots have failed, in the order of R440. -/
def doServiceUartWrite (slot offset : Nat) (data : List Nat) (s : State) : State :=
  if s.st.uartOpen ∧ slot ≤ 1 ∧ (offset = 0 ∨ offset = (s.image slot).bytes.length) ∧ offset + data.length ≤ slotSize then s.writeChunk slot offset data else s
def execServiceUartWrite (slot offset : Nat) (data : List Nat) (s : State) : Host.Outcome State Fault Refusal := .next (doServiceUartWrite slot offset data s)

/-- Step 5 ends when every populated tile has reported (R329). -/
def State.endStepFive (s : State) : State :=
  let ts := (List.range s.nTiles).map s.tile
  if ts.all (fun t => t.tested) then
    (if ts.all (fun t => t.failed) then s.stopFault 0x60 else ({ s with st := { s.st with step5 := true } }).stepSix)
  else s

/-- TILE_SELF_TEST (R329); a tile that is out during operation recovers by it (R316). DESIGN CHOICE, log 117: a tile that a planned handover has powered down (R364) has power again when it reports. -/
def doTileSelfTest (t : Nat) (pass : Bool) (s : State) : State :=
  let ok := pass && !(s.chan t).latched
  let y := s.tile t
  if (s.st.devStep = 4 ∨ s.st.devStep = 5) ∧ !y.tested then
    let s1 := s.modTile t (fun y => { y with tested := true, failed := !ok, phase := if ok then y.phase else .out })
    (if ok then s1 else ({ s1 with st := { s1.st with tileFailed := setBit s1.st.tileFailed t true } }).excludeTile t).endStepFive
  else if s.st.devStep = 7 ∧ y.phase = .out ∧ !y.failed then
    (let s1 := s.modTile t (fun y => { y with recovered := ok })
     if ok ∧ y.handedOver then s1.modChan t (fun x => { x with gate := true, good := true }) else s1)
  else s
def execTileSelfTest (tile : Nat) (pass : Bool) (s : State) : Host.Outcome State Fault Refusal := if s.nTiles ≤ tile then .fault .noSuchUnit else .next (doTileSelfTest tile pass s)

/-- A bay that waits for the device goes to step 7, past it where its hub is admitted already (R323, R331). -/
def State.startLane (s : State) (b : Nat) : State :=
  if (s.bayStart b).phase = .waitDevice then s.startBay b (if s.hubIn b then .admitting else .lane) 0 else s

/-- TIMEBASE_START (R330): tick 0 of cycle 0 under FREE; a tick that runs already goes on (R53, R331). -/
def doTimebaseStart (locked : Bool) (s : State) : State :=
  if s.st.devStep ≠ 6 then s
  else if !locked then s.stopFault 0x70
  else
    let s1 := { s with st := { s.st with devStep := 7 } }
    let s2 := if s1.tb.running then s1 else
      let t := { s1.tb with running := true, idx := 0, cycle := 0, bnd := false, acc := 0, target := .free, snapTarget := .free, hold := false, corr := 0, slewing := false, slewLeft := 0
                            stamp := s1.tb.pt.ns, tickReg := 0 }
      ({ s1 with tb := t }).setFreq.recordCycle
    let s3 := { s2 with rd := { s2.rd with beats := tset 0 s2.rd.beats s2.rd.active s2.absTick, flywheel := s2.rd.flywheel && s2.rd.ramp } }.dropBanks
    s3.allBays.foldl State.startLane s3
def execTimebaseStart (locked : Bool) (s : State) : Host.Outcome State Fault Refusal := .next (doTimebaseStart locked s)

/-! ### Admission and restore (R332, R333) -/

/-- Every fitted position of the bay holds an admitted course (R332). -/
def State.allAdmitted (s : State) (b : Nat) : Bool := (List.range 384).all (fun k => !s.isFitted (b * 384 + k) || (s.course (b * 384 + k)).serves)

/-- ADMISSION_END (R332). -/
def doAdmissionEnd (b : Nat) (s : State) : State :=
  let x := s.bayStart b
  if x.phase ≠ .admitting then s
  else if s.allAdmitted b then s.startBay b .restoring 0
  else if s.prm 0x0103 0 7 0 * 1000000000 ≤ x.age then s.startBay b .restoring 2
  else s
def execAdmissionEnd (bay : Nat) (s : State) : Host.Outcome State Fault Refusal := if s.nBays ≤ bay then .fault .noSuchUnit else .next (doAdmissionEnd bay s)

/-- The bay's admitted positions that have no record yet. -/
def State.toOpen (s : State) (b : Nat) : List (Nat × Nat) :=
  (trange s.lk.bound (b * 36864) 36864).filter (fun e => (s.course (e.1 / 96)).serves && (tget {} s.rc.bricks e.1).state == .absent)

/-- The bay's records are restored or opened. -/
def State.markRestored (s : State) (b : Nat) : State := { s with st := { s.st with bays := tmod {} s.st.bays b (fun x => { x with restored := true, skipDue := false }) } }

/-- The ledger serves a restore: it has been mounted on drives of this plant (R333). -/
def State.ledgerServes (s : State) : Bool := s.lg.mounted && (s.lg.phase == 2 || s.lg.phase == 3)

/-- RESTORE (R333). -/
def doRestore (b : Nat) (s : State) : State :=
  let x := s.bayStart b
  if x.phase ≠ .restoring ∨ x.restored then s
  else if s.ledgerServes then ((s.toOpen b).foldl (fun (t : State) e => t.openRecord e.1 e.2 (s.course (e.1 / 96)).marked) s).markRestored b
  else if s.prm 0x0103 0 8 0 * 1000000000 ≤ x.age then s.startBay b .held 3
  else s
def execRestore (bay : Nat) (s : State) : Host.Outcome State Fault Refusal := if s.nBays ≤ bay then .fault .noSuchUnit else .next (doRestore bay s)

/-- A brick's record is opened as new with `recal_due` set and a restore event (R333). -/
def State.openNew (s : State) (x serial : Nat) : State :=
  (s.putRecord x serial { Rec.new serial with recalDue := true } { fresh := true }).raise { kind := .restoreSkipped, unit := brickUid x }

/-- START_RESTORE_SKIP acts in stage 2 (R333). -/
def State.skipBay (s : State) (b : Nat) : State :=
  let x := s.bayStart b
  if !x.skipDue then s else
  let s1 := ((s.toOpen b).foldl (fun (t : State) e => t.openNew e.1 e.2) s).markRestored b
  if x.phase = .held then { s1 with st := { s1.st with bays := tmod {} s1.st.bays b (fun y => { y with phase := .restoring, reason := 0, age := 0 }) } } else s1

/-- No brick of the bay is in JOINING (R333). -/
def State.joined (s : State) (b : Nat) : Bool := (trange s.rc.bricks (b * 36864) 36864).all (fun e => e.2.state != .joining)

/-- The start states' part of a tick: ages, READY where every present brick has left JOINING (R333), and the reason of a lane that has not trained when its first retry is due (R323, R430, log 99). -/
def State.startTick (s : State) (ps : Nat) : State :=
  let age := fun (b : Nat) (x : BayStart) =>
    if x.phase = .restoring ∧ x.restored ∧ s.joined b then { x with phase := .ready, age := 0 }
    else if x.phase = .lane then { x with age := x.age + ps, reason := if 1000000000000 ≤ x.age + ps then 1 else x.reason }
    else if x.phase = .admitting ∨ x.phase = .restoring then { x with age := x.age + ps } else x
  { s with st := { s.st with bays := (s.st.bays.map (fun e => (e.1, age e.1 e.2))).filter (fun e => e.2 != {}) } }

/-! ### Synchronisation (R334 to R337) -/

/-- The grid's line-to-line pair and GS_V4, at primary (R334). -/
def State.syncPair (s : State) : Int × Int :=
  let v := fun (k : Nat) => (tget {} s.sp.gs k).primary
  let p := s.prm 0x0103 0 0 0
  (if s.gsDelta then v p else v p - v ((p + 1) % 3), v 3)

/-- The synchronisation test over 800 tick means: magnitudes within ΔV, angles within Δθ (R336, log 18). -/
def syncTest (idx : Nat) (h : List (Int × Int)) (dv dth : Int) : Bool :=
  let f := h.zipIdx.foldl (fun (a : (Int × Int) × (Int × Int)) e =>
    let n : Int := (idx : Int) - (e.2 : Int)
    let c := gTo 40 (cosTurn n 800)
    let w := gTo 40 (sinTurn n 800)
    ((a.1.1 + e.1.1 * c, a.1.2 - e.1.1 * w), (a.2.1 + e.1.2 * c, a.2.2 - e.1.2 * w))) ((0, 0), (0, 0))
  let g := f.1
  let b := f.2
  let mg : Int := ((isqrtNear (g.1 * g.1 + g.2 * g.2).toNat : Nat) : Int)
  let mb : Int := ((isqrtNear (b.1 * b.1 + b.2 * b.2).toNat : Nat) : Int)
  let ang := atan2Turn (b.2 * g.1 - b.1 * g.2) (b.1 * g.1 + b.2 * g.2)
  decide (h.length = 800) && decide (mg ≠ 0) && decide (((mb - mg).natAbs : Int) * 4194304 ≤ dv * mg) && decide ((ang.natAbs : Int) * 92160 ≤ dth * gOne)

/-- The hub reports `energize_in` (R336). -/
def State.energizeIn (s : State) (b : Nat) : Bool := (s.bayLink b).accepted && (s.bayLink b).energizeIn

/-- A synchronisation's part of a tick, after the stage-3 latch (R336). -/
def State.syncTick (s : State) (ps : Nat) : State :=
  match s.st.sync with
  | none => s
  | some y =>
    if y.closed then { s with st := { s.st with sync := none } } else
    let hist := (s.syncPair :: y.hist).take 800
    let full := decide (s.prm 0x0103 0 1 0 * 800 ≤ y.ticks + 1)
    let valid := (List.range 4).all (fun k => !(tget {} s.sp.gs k).invalid)
    let pass := full && valid && syncTest s.tb.idx hist (s.prmI 0x0103 0 2 0) (s.prmI 0x0103 0 3 0)
    let permit := s.st.syncPermit && pass && s.energizeIn y.bay
    { s with st := { s.st with
      syncPermit := permit
      sync := some { y with ticks := y.ticks + 1, hist := hist, passing := pass, dwell := if pass then Nat.min 8000 (y.dwell + 1) else 0
                            waited := if full then y.waited + 1 else 0, permitAge := if s.st.syncPermit then 0 else y.permitAge + ps } } }

/-- Where no keystone runs nothing tests: SYNC_PERMIT falls, and the dwell starts again with a keystone (R336, log 138). -/
def State.syncRest (s : State) (ps : Nat) : State :=
  match s.st.sync with
  | none => s
  | some y => if y.closed then { s with st := { s.st with sync := none } } else { s with st := { s.st with syncPermit := false, sync := some { y with hist := [], passing := false, dwell := 0, permitAge := if s.st.syncPermit then 0 else y.permitAge + ps } } }

/-- `BAY_SYNC` (R335, R343, R371). -/
def baySync (unit : Nat) (s : State) : State × Ans :=
  let u := checkLevel s.nBays 3 unit
  let b := u.2.bay
  let x := s.bayStart b
  if u.1 ≠ 0 then (s, refuseAns u.1 0x0106 255 unit)
  else if !(x.phase == .ready || (x.phase == .energised && x.opened)) || s.st.sync.isSome || s.allBays.any (fun k => (s.bayStart k).syncDue) || !s.enableOk b ||
      s.tb.target != .grid || s.tb.slewing || decide (s.vBar b < one22 / 2) then (s, refuseAns stState 0x0106 255 unit)
  else ({ s with st := { s.st with bays := tmod {} s.st.bays b (fun x => { x with syncDue := true }) } }, acceptedAns)
def doBaySync (h : Hdr) (bay : Nat) (s : State) : State := s.hostJ (.baySync h bay) h 0x0106 (baySync bay)
def execBaySync (h : Hdr) (bay : Nat) (s : State) : Host.Outcome State Fault Refusal := .next (doBaySync h bay s)

/-- The accepted bay is enabled and enters SYNCING, which ends the STOPPED state of the device and of the ledger (R344, log 54); where its conditions have gone, the command drops as an enable does (R207, R335). -/
def State.beginSync (s : State) (b : Nat) : State :=
  let s0 := { s with st := { s.st with bays := tmod {} s.st.bays b (fun x => { x with syncDue := false }) } }
  if !s0.enableOk b || s0.st.sync.isSome then s0 else
  let s1 := (List.range 3).foldl (fun (t : State) k => if t.md.pierOn (3 * b + k) then t else t.landEnable (3 * b + k)) s0
  { s1 with
    rd := { s1.rd with drive := tdrop (fun k => decide (k / 2400 = b)) s1.rd.drive }
    lg := if s1.lg.phase = 4 then { s1.lg with phase := if (List.range 8).any s1.pairOk then 2 else 3 } else s1.lg
    st := { s1.st with stopped := false, sync := some { bay := b }, syncPermit := false, bays := tmod {} s1.st.bays b (fun x => { x with phase := .syncing, reason := 0, age := 0, opened := false }) } }

/-- SYNC_START (R335, R336): an event reports whether the bay has entered SYNCING (R416, log 29); in flywheel a disabled bay stays as it is (R307). -/
def doSyncStart (s : State) : State :=
  if s.tb.idx ≠ 0 ∨ s.rd.flywheel then s else
  match s.allBays.find? (fun b => (s.bayStart b).syncDue) with
  | none => s
  | some b => let t := s.beginSync b; t.raise { kind := .syncBegun, unit := bayUid b, detail := bit (t.syncingBay b) }
def execSyncStart (s : State) : Host.Outcome State Fault Refusal := .next (doSyncStart s)

/-- SYNC_PERMIT_ASSERT (R336). -/
def doSyncPermitAssert (s : State) : State :=
  match s.st.sync with
  | none => s
  | some y =>
    if ¬ y.closed ∧ y.passing ∧ s.prm 0x0103 0 4 0 ≤ y.dwell ∧ s.energizeIn y.bay ∧ ¬ s.st.syncPermit then
      { s with st := { s.st with syncPermit := true, sync := some { y with permitted := true, permitAge := 0 } } }
    else s
def execSyncPermitAssert (s : State) : Host.Outcome State Fault Refusal := .next (doSyncPermitAssert s)

/-- SYNC_TIMEOUT (R336): no permit since the ramp ended. -/
def doSyncTimeout (s : State) : State :=
  match s.st.sync with
  | none => s
  | some y => if !y.closed && !y.permitted && decide (s.prm 0x0103 0 5 0 * 800 ≤ y.waited) then (s.endSync 4).raise { kind := .syncTimeout, unit := bayUid y.bay } else s
def execSyncTimeout (s : State) : Host.Outcome State Fault Refusal := .next (doSyncTimeout s)

/-- `BAY_EXCLUDE` (R337). -/
def bayExclude (unit : Nat) (s : State) : State × Ans :=
  let u := checkLevel s.nBays 3 unit
  if u.1 ≠ 0 then (s, refuseAns u.1 0x0107 255 unit)
  else if (s.bayStart u.2.bay).phase = .energised then (s, refuseAns stState 0x0107 255 unit)
  else ({ s with st := { s.st with bays := tmod {} s.st.bays u.2.bay (fun x => { x with exclDue := true }) } }, okAns)
def doBayExclude (h : Hdr) (bay : Nat) (s : State) : State := s.hostJ (.bayExclude h bay) h 0x0107 (bayExclude bay)
def execBayExclude (h : Hdr) (bay : Nat) (s : State) : Host.Outcome State Fault Refusal := .next (doBayExclude h bay s)

/-- An accepted exclusion lands at the cycle boundary (R337). -/
def State.excludeCycle (s : State) : State :=
  (s.allBays.filter (fun b => (s.bayStart b).exclDue)).foldl (fun (t : State) b =>
    let t1 := if t.syncingBay b then t.endSync 0 else t
    { t1 with st := { t1.st with bays := tmod {} t1.st.bays b (fun x =>
        if x.phase = .energised ∨ x.phase = .excluded then { x with exclDue := false }
        else { x with phase := .excluded, reason := 7, excl := .command, back := x.phase, backReason := x.reason, exclDue := false, syncDue := false }) } }) s

/-! ### Commands of the start (R324, R333, R430) -/

/-- A start state's code (R324). -/
def StartPhase.code : StartPhase → Nat
  | .waitDevice => 0 | .lane => 1 | .admitting => 2 | .restoring => 3 | .ready => 4 | .syncing => 5 | .energised => 6 | .excluded => 7 | .held => 8

/-- `SYS_INFO_READ`. -/
def doSysInfoRead (h : Hdr) (s : State) : State :=
  s.host h 0x0101 (fun t => (t, okAns ([t.variant, t.rd.active, t.st.bootSlot, 0] ++ wordBytes (t.fu.read 1 0 3) ++ le 4 (tget 0 t.rd.fwRevs t.rd.active) ++ le 2 (tget 0 t.rd.shadowRevs t.rd.active) ++ [0, 0] ++
    le 4 slotSize ++ le 8 t.absTick ++ le 4 t.xp.generation)))
def execSysInfoRead (h : Hdr) (s : State) : Host.Outcome State Fault Refusal := .next (doSysInfoRead h s)

/-- `START_STATUS_READ`. -/
def startStatusRead (first count : Nat) (s : State) : State × Ans :=
  if count = 0 ∨ 144 < count ∨ s.nBays < first + count then (s, refuseAns stRange 0x0104 255 first)
  else (s, okAns ((List.range count).map (fun k => let x := s.bayStart (first + k); [x.phase.code, x.reason])).flatten)
def doStartStatusRead (h : Hdr) (first count : Nat) (s : State) : State := s.host h 0x0104 (startStatusRead first count)
def execStartStatusRead (h : Hdr) (first count : Nat) (s : State) : Host.Outcome State Fault Refusal := .next (doStartStatusRead h first count s)

/-- `START_RESTORE_SKIP` (R333). -/
def startRestoreSkip (unit : Nat) (s : State) : State × Ans :=
  let u := checkLevel s.nBays 3 unit
  let x := s.bayStart u.2.bay
  if u.1 ≠ 0 then (s, refuseAns u.1 0x0105 255 unit)
  else if !(x.phase == .restoring || (x.phase == .held && x.reason == 3)) then (s, refuseAns stState 0x0105 255 unit)
  else ({ s with st := { s.st with bays := tmod {} s.st.bays u.2.bay (fun x => { x with skipDue := true }) } }, okAns)
def doStartRestoreSkip (h : Hdr) (bay : Nat) (s : State) : State := s.hostJ (.startRestoreSkip h bay) h 0x0105 (startRestoreSkip bay)
def execStartRestoreSkip (h : Hdr) (bay : Nat) (s : State) : Host.Outcome State Fault Refusal := .next (doStartRestoreSkip h bay s)

/-! ### Safe stop (R340, R341) -/

/-- `SAFE_STOP` (R340, R430). -/
def safeStop (s : State) : State × Ans := (s.startStop 1 false false false, if s.stopping then okAns else acceptedAns)
def doSafeStop (h : Hdr) (s : State) : State := s.hostJ (.safeStop h) h 0x0108 safeStop
def execSafeStop (h : Hdr) (s : State) : Host.Outcome State Fault Refusal := .next (doSafeStop h s)

/-- SAFE_STOP_FLOAT (R341): the scale has reached 0, or the stop is immediate. -/
def doSafeStopFloat (s : State) : State :=
  if s.st.stopPhase = 1 ∧ s.st.rampLeft = 0 then
    let s1 := s.allBays.foldl State.disableFloat s
    { s1 with st := { s1.st with stopPhase := 2, flushDue := true } }
  else s
def execSafeStopFloat (s : State) : Host.Outcome State Fault Refusal := .next (doSafeStopFloat s)

end Sys2Proof.Machine
end

