-- ==== Sys2Proof/Machine/Ledger.lean ====
section
/-! DEFINITION. The ledger: pages and their chain, snapshots, drives, exports, the search of the drives, the stop snapshot (16, 15 R441, 11 R341). -/

namespace Sys2Proof.Machine
open Sys2Proof

/-! ### Pages (R449 to R452) -/

/-- `n` bytes: `bs` and zeros after them. -/
def padTo (n : Nat) (bs : List Nat) : List Nat := (bs ++ List.replicate n 0).take n

/-- The key of a page: its epoch and its sequence. -/
def pageKey (epoch seq : Nat) : Nat := epoch * 2 ^ 48 + seq

def Page.key (p : Page) : Nat := pageKey p.epoch p.seq

/-- The 64 bytes of a page header. -/
def Page.header (p : Page) : List Nat :=
  le 4 0x50474C48 ++ [p.kind % 256, 1] ++ le 2 p.count ++ le 8 p.seq ++ le 4 p.epoch ++ le 4 p.snapshot ++ le 4 p.firstUnit ++ le 2 p.flags ++ le 2 p.quality ++
    le 8 p.stamp ++ le 4 p.generation ++ le 4 p.est ++ padTo 16 p.prev

/-- The 4,032 bytes that the signature covers. -/
def Page.signed (p : Page) : List Nat := p.header ++ padTo 3968 p.body

/-- The 4,096 bytes of a page. -/
def Page.bytes (p : Page) : List Nat := p.signed ++ padTo 64 p.sig

/-- The digest prefix that the next page carries. -/
def Page.digest (p : Page) : List Nat := (sha256 p.bytes).take 16

/-- The ledger signing key, a number of 8 words (R10, log 9), and the public key (R450, R476). -/
def State.signingKey (s : State) : Nat := s.fu.signingKey
def State.publicKey (s : State) : List Nat := wordBytes (s.fu.read 1 32 16)

/-- A page read from a drive, where it verifies under the device's own key (R471). -/
def State.parsePage (s : State) (bs : List Nat) : Option Page :=
  let kind := getLe bs 4 1
  let p : Page := { kind := kind, count := getLe bs 6 2, seq := getLe bs 8 6, epoch := getLe bs 16 4, snapshot := getLe bs 20 4, firstUnit := getLe bs 24 4,
                    flags := getLe bs 28 2, quality := getLe bs 30 2, stamp := getLe bs 32 8, generation := getLe bs 40 4, est := getLe bs 44 4,
                    prev := (bs.drop 48).take 16, body := (bs.drop 64).take 3968, sig := (bs.drop 4032).take 64 }
  if bs.length = 4096 ∧ getLe bs 0 4 = 0x50474C48 ∧ getLe bs 5 1 = 1 ∧ (kind = 1 ∨ kind = 2 ∨ kind = 3 ∨ kind = 0x10) ∧ p.count ≤ 124 ∧
     ecdsaVerify s.publicKey (sha256 (bs.take 4032)) p.sig then some p else none

/-- A page body to be sealed, with the stamp, quality, generation and error of the present tick. -/
def State.stampPage (s : State) (kind : Nat) : Page :=
  { kind := kind, count := 0, seq := 0, epoch := 0, snapshot := s.lg.snapshot, firstUnit := plantUid, flags := 0
    quality := fld s.tb.pt.phase.code 0 2 + b1 s.degraded 2 + b1 s.tb.slewing 3, stamp := s.tb.stamp, generation := s.xp.generation, est := s.tb.pt.estRead
    prev := [], body := [], sig := [] }

/-- Put an event number into an event's first slot. -/
def renumber (n : Nat) : List (List Nat) → List (List Nat)
  | [] => []
  | a :: r => (le 4 n ++ a.drop 4) :: r

/-- Number the events that wait for a page, after event `n` of the epoch (R461). -/
def Ledger.number (l : Ledger) (n : Nat) : Ledger :=
  { l with evNum := n + l.slots.length, slots := l.slots.zipIdx.map (fun (e : Held32 × Nat) => { e.1 with slots := renumber (n + e.2 + 1) e.1.slots }) }

/-- A new epoch begins: sequence, snapshot and event numbers count from 1 again (R449, R452, R461). -/
def State.newEpoch (s : State) (detail : Nat) : State :=
  ({ s with lg := { s.lg with
      epoch := (s.lg.epoch + 1) % pow32, seq := 0, durable := 0, snapshot := 0, gapSeen := true }.number 0 }).raise { kind := .ledgerRestart, unit := noUnit, detail := detail }

/-- Seal a page: its sequence, its chain, its signature (R449 to R452). The key is returned with the state. -/
def State.sealPage (s : State) (p : Page) : State × Nat :=
  let s0 := if s.lg.seq + 1 < 2 ^ 48 then s else s.newEpoch 1
  let l := s0.lg
  let p1 := { p with seq := l.seq + 1, epoch := l.epoch, flags := p.flags + b1 l.restart 3, prev := padTo 16 l.prev }
  let p2 := { p1 with sig := ecdsaSign s.signingKey (1 + Config.ecdsaNonce s.signingKey (sha256 p1.signed) % (p256N - 1)) (sha256 p1.signed) }
  ({ s0 with lg := { l with seq := l.seq + 1, prev := p2.digest, restart := false
                            pages := tset none l.pages p2.key (some { page := p2, pair := 8, durable := false, lost := false }) } }, p2.key)

/-- The page stands in the event region. -/
def Ledger.isEvent (l : Ledger) (k : Nat) : Bool := match tget none l.pages k with | some q => q.page.kind == 0x10 | none => false

/-! ### Capacity (R447, R460) -/

/-- What the pairs hold: pages of the snapshot log, pages of the event region. -/
def State.logSize (s : State) (ps : List Nat) : Nat × Nat :=
  let cap := fun (p : Nat) => minN (2 ^ 45) (2 ^ 45 :: (([2 * p, 2 * p + 1].filter (fun d => s.ownDrive (s.drive d))).map (fun d => (s.drive d).capacity)))
  let least := minN 0 (ps.map cap)
  (ps.length * (least * 1023 / 1024 / 4096), ps.length * (least / 1024 / 4096))

/-- Positions of the variant, and entry pages of a frame (R456). -/
def State.nPos (s : State) : Nat := s.nBays * 36864
def State.entryPages (s : State) : Nat := divCeil s.nPos 124

/-- The cadence in force, in ms: four times the configured one under enforcement, from the first snapshot that falls due in it (R388, R427, R453). -/
def State.cadence (s : State) : Nat := let c := s.prm 0x0C01 0 0 0; if s.shedding && s.lg.slowed then Nat.min 600000 (4 * c) else c

/-- Seconds that the pairs now writable hold (R460, R475). -/
def State.retention (s : State) : Nat := ((s.logSize ((List.range 8).filter s.pairOk)).1 / (s.entryPages + 2)) * s.cadence / 1000

/-! ### Exports (R466 to R470) -/

/-- No page is delivered: the keystone sheds, or saves energy (R343, R469). -/
def State.exportPaused (s : State) : Bool := s.shedding || s.saving

/-- No copy of the page can be read (R448, R468). -/
def State.unreadable (s : State) (q : Stored) : Bool := q.lost || (decide (q.pair < 8) && !s.driveWhole (2 * q.pair) && !s.driveWhole (2 * q.pair + 1))

def State.modExport (s : State) (i : Nat) (f : Export → Export) : State := { s with lg := { s.lg with exports := tmod none s.lg.exports i (fun e => e.map f) } }

/-- The ring has a free entry. -/
def State.exportFree (s : State) (i : Nat) (e : Export) : Bool := decide ((tget 0 s.lg.prod i + pow32 - e.cons) % pow32 < 2 ^ e.order)

/-- Put a page (its key), or a gap marker, into the next entry of the ring; vector 2s + 1 signals it (R466). -/
def State.putRing (s : State) (i : Nat) (key : Option Nat) (marker : List Nat) : State :=
  let n := tget 0 s.lg.prod i
  let s1 := s.modExport i (fun e => { e with ring := tset none e.ring n (some (match key with | some k => k + 1 | none => 0)), markers := tset [] e.markers n marker })
  { s1 with lg := { s1.lg with prod := tset 0 s1.lg.prod i (incWrap 32 n) }, hs := s1.hs.signal (2 * i + 1) }

/-- A gap marker: first and last missing page, how many, and why (R470). -/
def gapMarker (g : Nat × Nat × Nat × Nat) : List Nat :=
  le 4 0x50474C48 ++ [0x20, 1, 0, 0] ++ le 8 (g.1 % 2 ^ 48) ++ le 4 (g.1 / 2 ^ 48) ++ List.replicate 44 0 ++ le 8 (g.2.1 % 2 ^ 48) ++ le 4 (satU 32 g.2.2.1) ++ [g.2.2.2]

/-- The held page with the least key from `k` on. -/
def Ledger.pageFrom (l : Ledger) (k : Nat) : Option (Nat × Stored) :=
  (l.pages.find? (fun e => decide (k ≤ e.1) && e.2.isSome)).bind (fun e => e.2.map (fun q => (e.1, q)))

/-- A durable page is held above `k`. -/
def Ledger.durableAbove (l : Ledger) (k : Nat) : Bool := l.pages.any (fun e => decide (k < e.1) && (match e.2 with | some q => q.durable | none => false))

/-- Why the pages from `a` up to a held page are missing (R470): lost while the device ran, or overwritten, they are no longer held; the regions overwrite their oldest pages first, so where both hold an older page the others were lost at a device stop (log 122). -/
def Ledger.gapReason (l : Ledger) (a : Nat) : Nat :=
  let below := (l.pages.filter (fun e => decide (e.1 < a))).map (fun e => l.isEvent e.1)
  if below.contains true && below.contains false && !l.lostRun.any (fun r => decide (r.1 ≤ a) && decide (a ≤ r.2)) then 2 else 1

/-- A page that no copy gives any more is counted once (R448, R474). -/
def State.countUnreadable (s : State) (k : Nat) (q : Stored) : State :=
  if q.lost then s else { s with lg := { s.lg with lost := satU 32 (s.lg.lost + 1), gapSeen := true, pages := tset none s.lg.pages k (some { q with lost := true }) } }

/-- One step of a delivery in sequence order: a gap marker, a page, or the change to new pages (R467, R468). -/
def State.pumpStep (i : Nat) (s : State) : State :=
  match tget none s.lg.exports i with
  | none => s
  | some e =>
    if s.exportPaused || !s.exportFree i e then s else
    match e.gap with
    | some g => (s.modExport i (fun e => { e with gap := none })).putRing i none (gapMarker g)
    | none =>
      if e.live then s else
      match s.lg.pageFrom e.next with
      | none => s.modExport i (fun e => { e with live := true })
      | some (k, q) =>
        if !q.durable then (if s.lg.durableAbove k then s else s.modExport i (fun e => { e with live := true }))
        else if e.next < k ∧ e.next / 2 ^ 48 = k / 2 ^ 48 then s.modExport i (fun e => { e with gap := some (e.next, k - 1, k - e.next, s.lg.gapReason e.next), next := k })
        else if s.unreadable q then
          (s.modExport i (fun e => { e with gap := some (k, k, 1, 3), next := k + 1 })).countUnreadable k q
        else (s.modExport i (fun e => { e with next := k + 1 })).putRing i (some k) []

/-- Deliver what the ring of slot `i` takes; a ring has at most 4,096 entries. -/
def State.pump (s : State) (i : Nat) : State := iter 8200 (fun _ t => t.pumpStep i) s

/-- The least page from `k` down that is held and not yet durable, else `k`. -/
def Ledger.pendingFrom (l : Ledger) (k : Nat) : Nat :=
  minN k (k :: (l.pages.filter (fun e => decide (e.1 < k) && (match e.2 with | some q => !q.durable | none => false))).map (fun e => e.1))

/-- Offer a page that has become durable to the export of slot `i` (R467, R469). In a pause the export falls back to sequence order, from the first page not delivered. -/
def State.offerTo (s : State) (k i : Nat) : State :=
  match tget none s.lg.exports i with
  | none => s
  | some e =>
    if !e.live then s.pump i
    else if s.exportPaused then s.modExport i (fun e => { e with live := false, next := s.lg.pendingFrom k })
    else if e.gap.isNone ∧ s.exportFree i e then (s.modExport i (fun e => { e with next := Nat.max e.next (k + 1) })).putRing i (some k) []
    else
      let s1 := s.modExport i (fun e => { e with next := Nat.max e.next (k + 1), gap := some (match e.gap with | some g => (Nat.min g.1 k, Nat.max g.2.1 k, g.2.2.1 + 1, 0) | none => (k, k, 1, 0)) })
      { s1 with lg := { s1.lg with drop := tmod 0 s1.lg.drop i (incSat 32) } }

/-- Offer a durable page to every export. -/
def State.offer (s : State) (k : Nat) : State := (s.lg.exports.map (fun e => e.1)).foldl (fun t i => t.offerTo k i) s

/-- The pages that a ring entry not yet acknowledged stands for, its first: a page, or those a gap marker covers (R466, R470). -/
def Export.entryFirst (e : Export) (n : Nat) (c : Option Nat) : List Nat :=
  match c with
  | none => []
  | some 0 => let m := tget [] e.markers n; [getLe m 8 8 + getLe m 16 4 * 2 ^ 48]
  | some (k + 1) => [k]

/-- The first page of the export that is not delivered (R469): of those in the ring, of a gap not yet marked, of those passed over since they are not yet durable, and of what comes next. -/
def Ledger.firstLeft (l : Ledger) (e : Export) : Nat :=
  minN 0 (l.pendingFrom e.next :: (e.ring.map (fun x => e.entryFirst x.1 x.2)).flatten ++ (match e.gap with | some g => [g.1] | none => []))

/-- An export ends (R469). -/
def State.endExport (s : State) (i : Nat) : State :=
  match tget none s.lg.exports i with
  | none => s
  | some e => ({ s with lg := { s.lg with exports := tset none s.lg.exports i none } }).raise { kind := .exportEnded, unit := noUnit, detail := s.lg.firstLeft e % 65536 }

/-- Every export ends. -/
def State.endExports (s : State) : State := (List.range 8).foldl State.endExport s

/-- The page that `seq` of `LEDGER_EXPORT` names: the newest epoch with those low 16 bits, none where no epoch begun has them (R468). -/
def Ledger.named (l : Ledger) (seq : Nat) : Option Nat :=
  let back := (l.epoch + 65536 - seq / 2 ^ 48 % 65536) % 65536
  if l.epoch < back then none else some (pageKey (l.epoch - back) (seq % 2 ^ 48))

/-- `LEDGER_EXPORT` (R466 to R468, R441). -/
def ledgerExport (udp : Bool) (i base order start seq : Nat) (s : State) : State × Ans :=
  let newest := pageKey s.lg.epoch s.lg.durable
  let at' := (s.lg.named seq).getD (newest + 1)
  if udp || (tget none s.lg.exports i).isSome || s.saving then (s, refuseAns stState 0x0C03 255 0)
  else if base % 4096 ≠ 0 then (s, refuseAns stBadParam 0x0C03 255 0)
  else if 1 < start ∨ order < 2 ∨ 12 < order ∨ (start = 1 ∧ newest < at') then (s, refuseAns stRange 0x0C03 255 0)
  else
    let oldest := match s.lg.pageFrom 0 with | some q => q.1 | none => newest + 1
    let gone := decide (start = 1) && (tget none s.lg.pages at').isNone
    let upTo := match s.lg.pageFrom at' with | some q => q.1 | none => newest + 1
    let missing := if at' / 2 ^ 48 = upTo / 2 ^ 48 then upTo - at' else 0xFFFFFFFF
    let e : Export := { base := base, order := order, live := start == 0, next := if start = 0 then newest + 1 else if gone then oldest else at', cons := 0
                        gap := if gone then some (at', upTo - 1, missing, 1) else none, ring := [], markers := [], delivered := 0 }
    (({ s with lg := { s.lg with exports := tset none s.lg.exports i (some e), prod := tset 0 s.lg.prod i 0 } }).pump i, acceptedAns)
def doLedgerExport (h : Hdr) (base order start seq : Nat) (s : State) : State := s.hostJ (.ledgerExport h base order start seq) h 0x0C03 (ledgerExport h.udp h.slot base order start seq)
def execLedgerExport (h : Hdr) (base order start seq : Nat) (s : State) : Host.Outcome State Fault Refusal := .next (doLedgerExport h base order start seq s)

/-- `LEDGER_EXPORT_ACK` (R466): an index that moves backwards is ignored. -/
def ledgerExportAck (i cons : Nat) (s : State) : State × Ans :=
  match tget none s.lg.exports i with
  | none => (s, refuseAns stState 0x0C04 255 0)
  | some e =>
    let n := (cons + pow32 - e.cons) % pow32
    if (tget 0 s.lg.prod i + pow32 - e.cons) % pow32 < n then (s, okAns)
    else
      let done := (List.range n).map (fun j => (e.cons + j) % pow32)
      let pages := (done.filter (fun j => match tget none e.ring j with | some c => c != 0 | none => false)).length
      ((s.modExport i (fun e => { e with cons := cons % pow32, delivered := satU 32 (e.delivered + pages)
                                         ring := tdrop (fun j => done.contains j) e.ring, markers := tdrop (fun j => done.contains j) e.markers })).pump i, okAns)
def doLedgerExportAck (h : Hdr) (cons : Nat) (s : State) : State := s.hostJ (.ledgerExportAck h cons) h 0x0C04 (ledgerExportAck h.slot cons)
def execLedgerExportAck (h : Hdr) (cons : Nat) (s : State) : Host.Outcome State Fault Refusal := .next (doLedgerExportAck h cons s)

/-- `LEDGER_EXPORT_STOP` (R441, R469): the pages delivered, then the first page not delivered in the form of `seq` (DEDUCED, log 123). -/
def ledgerExportStop (i : Nat) (s : State) : State × Ans :=
  match tget none s.lg.exports i with
  | none => (s, refuseAns stState 0x0C05 255 0)
  | some e => (s.endExport i, okAns (le 4 e.delivered ++ le 8 (s.lg.firstLeft e % 2 ^ 64)))
def doLedgerExportStop (h : Hdr) (s : State) : State := s.hostJ (.ledgerExportStop h) h 0x0C05 (ledgerExportStop h.slot)
def execLedgerExportStop (h : Hdr) (s : State) : Host.Outcome State Fault Refusal := .next (doLedgerExportStop h s)

/-- `LEDGER_STATUS_READ` (R441, R473 to R475). -/
def doLedgerStatusRead (h : Hdr) (s : State) : State :=
  s.host h 0x0C02 (fun t => (t, okAns (le 4 t.lgStatus ++ le 8 t.lg.seq ++ le 4 t.lg.epoch ++ le 4 t.lg.lost ++ le 4 t.lgDrives ++ le 4 (satU 32 t.retention))))
def execLedgerStatusRead (h : Hdr) (s : State) : Host.Outcome State Fault Refusal := .next (doLedgerStatusRead h s)

/-! ### Writing (R446, R459, R463) -/

/-- The phase of a ledger that begins to serve: RUNNING, or STOPPED on a STOPPED device (R344, R473, log 54). -/
def State.servesPhase (s : State) : Nat := if s.st.stopped then 4 else 2

/-- RUNNING while some pair is writable, else STALLED (R448). -/
def State.ledgerPhase (s : State) : State :=
  if s.lg.phase = 2 ∨ s.lg.phase = 3 then { s with lg := { s.lg with phase := if (List.range 8).any s.pairOk then 2 else 3 } } else s

/-- The first extent of the queue: one event page, or up to 256 snapshot pages of consecutive sequences (R463). -/
def extent (isEvent : Nat → Bool) : Nat → List Nat → List Nat
  | 0, _ => []
  | _, [] => []
  | n + 1, k :: r => k :: (if isEvent k || r.head? != some (k + 1) || isEvent (k + 1) then [] else extent isEvent n r)

/-- The circular regions of the pairs in use overwrite their oldest: an extent of the snapshot log, a page of the event region; a pair outside the mask keeps its pages (R447). -/
def State.trimLog (s : State) : State :=
  let used := (List.range 8).filter (fun p => (s.prm 0x0C01 0 1 0).testBit p && s.pairBound p)
  let size := s.logSize used
  let out := s.lg.pages.filter (fun e => !s.lg.queue.contains e.1 && (match e.2 with | some q => used.contains q.pair | none => false))
  let snaps := (out.filter (fun e => !s.lg.isEvent e.1)).map (fun e => e.1)
  let evs := (out.filter (fun e => s.lg.isEvent e.1)).map (fun e => e.1)
  let gone := (if size.1 < snaps.length then snaps.take 256 else []) ++ (if size.2 < evs.length then evs.take 1 else [])
  { s with lg := { s.lg with pages := tdrop (fun k => gone.contains k) s.lg.pages } }

/-- The drives of a pair that take part in a command: those that hold the whole of its pages (R463). -/
def State.takers (s : State) (p : Nat) : Nat := bit (s.driveWhole (2 * p)) + 2 * bit (s.driveWhole (2 * p + 1))

/-- Issue the write of the queue's first extent to the next writable pair, once that pair's write is complete; only an extent of the snapshot log moves on to the pair after it (R463). -/
def State.issueOne (s : State) : State :=
  let l := s.lg
  match ((List.range 8).map (fun k => (l.nextPair + k) % 8)).find? s.pairOk with
  | none => s
  | some p =>
    if (l.phase ≠ 2 ∧ l.phase ≠ 4) ∨ l.queue = [] ∨ l.ops.any (fun o => o.pair == p && !o.flush) then s else
    let ks := extent l.isEvent 256 l.queue
    let op : NvmeOp := { ident := l.nextOp, pair := p, pages := ks, flush := false, index := !ks.any l.isEvent, waiting := s.takers p }
    ({ s with lg := { l with queue := l.queue.drop ks.length, ops := l.ops ++ [op], nextOp := incWrap 32 l.nextOp, nextPair := if ks.any l.isEvent then l.nextPair else (p + 1) % 8
                             pages := ks.foldl (fun (t : Tab (Option Stored)) k => tmod none t k (fun q => q.map (fun (y : Stored) => { y with pair := p }))) l.pages } }).trimLog

/-- Keep every writable pair busy. -/
def State.issue (s : State) : State := iter 8 (fun _ t => t.issueOne) s

/-- Event pages go before the snapshot pages that wait (R459). -/
def Ledger.enqueueEvent (l : Ledger) (k : Nat) : Ledger :=
  { l with queue := l.queue.takeWhile l.isEvent ++ [k] ++ l.queue.dropWhile l.isEvent }

/-- Issue a Flush to a pair (R446, R462). -/
def State.issueFlush (s : State) (p : Nat) : State :=
  { s with lg := { s.lg with nextOp := incWrap 32 s.lg.nextOp
                             ops := s.lg.ops ++ [{ ident := s.lg.nextOp, pair := p, pages := [], flush := true, index := false, waiting := s.takers p }] } }

/-- The frame being written, until its last page is durable or lost (R453, R473). -/
def Ledger.frameLeft (l : Ledger) : Option (Nat × Nat) :=
  l.frame.filter (fun f =>
    let within := fun (k : Nat) => decide (f.1 ≤ k) && decide (k ≤ f.2) && !l.isEvent k
    l.ops.any (fun o => o.pages.any within) || l.queue.any within)

/-- A write is complete on every copy: its pages are durable and are offered to the exports; a close page or an event page is followed by a Flush (R446, R463). -/
def State.finishOp (s : State) (o : NvmeOp) : State :=
  let l := s.lg
  let l1 := { l with ops := l.ops.filter (fun x => x.ident != o.ident)
                     pages := o.pages.foldl (fun (t : Tab (Option Stored)) k => tmod none t k (fun q => q.map (fun (y : Stored) => { y with durable := true }))) l.pages
                     durable := (o.pages.filter (fun k => k / 2 ^ 48 == l.epoch)).foldl (fun m k => Nat.max m (k % 2 ^ 48)) l.durable }
  let kinds := o.pages.filterMap (fun k => (tget none l.pages k).map (fun q => (q.page.kind, q.page.flags.testBit 0)))
  let s1 := { s with lg := { l1 with frame := l1.frameLeft } }
  let s2 := if kinds.any (fun k => k.1 == 3 && k.2) then ((List.range 8).filter s1.pairOk).foldl State.issueFlush s1
            else if kinds.any (fun k => k.1 == 3 || k.1 == 0x10) then s1.issueFlush o.pair else s1
  (o.pages.foldl State.offer s2).issue

/-- Pages that no drive took are lost to the ledger (R448, R474). -/
def State.loseOp (s : State) (o : NvmeOp) : State :=
  let l := { s.lg with
    ops := s.lg.ops.filter (fun x => x.ident != o.ident), lost := satU 32 (s.lg.lost + o.pages.length), gapSeen := s.lg.gapSeen || o.pages != []
    pages := tdrop (fun k => o.pages.contains k) s.lg.pages
    lostRun := match o.pages with | [] => s.lg.lostRun | k :: _ => (k, o.pages.getLastD k) :: s.lg.lostRun }
  { s with lg := { l with frame := l.frameLeft } }

/-- A drive has completed its part of a command, or has dropped out of it. -/
def State.clearOp (d : Nat) (s : State) (o : NvmeOp) : State :=
  let w := setBit o.waiting (d % 2) false
  if w = 0 then (if s.driveWhole d || s.driveWhole (2 * o.pair + 1 - d % 2) then s.finishOp o else s.loseOp o)
  else { s with lg := { s.lg with ops := s.lg.ops.map (fun x => if x.ident = o.ident then { x with waiting := w } else x) } }

/-- A drive is declared failed (R448). -/
def State.failDrive (s : State) (d extra : Nat) : State :=
  if (s.drive d).failed then s else
  let p := d / 2
  let s1 := ({ s with lg := { s.lg with driveFail := true, drives := tmod {} s.lg.drives d (fun x => { x with failed := true, retrying := false, copying := false }) } }).raise
    { kind := .driveFailed, unit := noUnit, detail := d + 256 + extra }
  let s2 := if s.ownDrive (s.drive d) then
      s1.raise { kind := .pairDegraded, unit := noUnit, detail := p + (if s1.driveWhole (2 * p) ∨ s1.driveWhole (2 * p + 1) then 0 else 256) } else s1
  (((s2.lg.ops.filter (fun o => o.pair == p && o.waiting.testBit (d % 2))).foldl (State.clearOp d) s2).ledgerPhase).issue

/-- NVME_COMPLETION (R446, R448, R463): a drive completes a command; a media or data-integrity status declares it failed, once the error log has been read. -/
def doNvmeCompletion (ident d : Nat) (ok : Bool) (s : State) : State :=
  match s.lg.ops.find? (fun o => o.ident == ident && o.pair == d / 2 && o.waiting.testBit (d % 2)) with
  | none => s
  | some o =>
    if ok then State.clearOp d { s with lg := { s.lg with drives := tmod {} s.lg.drives d (fun x => { x with retrying := false }) } } o
    else State.failDrive { s with lg := { s.lg with drives := tmod {} s.lg.drives d (fun x => { x with errorReads := incSat 32 x.errorReads }) } } d 0
def execNvmeCompletion (ident drive : Nat) (ok : Bool) (s : State) : Host.Outcome State Fault Refusal :=
  if 16 ≤ drive then .fault .noSuchUnit else .next (doNvmeCompletion ident drive ok s)

/-- DRIVE_TIMEOUT (R448): a controller reset and one retry, then the drive is failed. -/
def doDriveTimeout (d : Nat) (s : State) : State :=
  if !s.lg.ops.any (fun o => o.pair == d / 2 && o.waiting.testBit (d % 2)) then s
  else if (s.drive d).retrying then s.failDrive d 0
  else { s with lg := { s.lg with drives := tmod {} s.lg.drives d (fun x => { x with retrying := true }) } }
def execDriveTimeout (drive : Nat) (s : State) : Host.Outcome State Fault Refusal := if 16 ≤ drive then .fault .noSuchUnit else .next (doDriveTimeout drive s)

/-- SMART_POLL (R448): bits 2 and 3 of the critical warning fail the drive; bit 0 raises the event only. -/
def doSmartPoll (d warning : Nat) (s : State) : State :=
  let spare := if warning.testBit 0 then 512 else 0
  if !s.driveOk d then s
  else if warning.testBit 2 ∨ warning.testBit 3 then s.failDrive d spare
  else if spare = 0 then s else s.raise { kind := .driveFailed, unit := noUnit, detail := d + spare }
def execSmartPoll (drive warning : Nat) (s : State) : Host.Outcome State Fault Refusal := if 16 ≤ drive then .fault .noSuchUnit else .next (doSmartPoll drive warning s)

/-- RESILVER_COMPLETE (R447): the pair is whole. -/
def doResilverComplete (p : Nat) (s : State) : State :=
  if !((s.drive (2 * p)).copying || (s.drive (2 * p + 1)).copying) then s else
  let stop := fun (t : Tab Drive) (d : Nat) => tmod {} t d (fun x => { x with copying := false })
  (({ s with lg := { s.lg with drives := stop (stop s.lg.drives (2 * p)) (2 * p + 1) } }).ledgerPhase).raise { kind := .resilvered, unit := noUnit, detail := p }
def execResilverComplete (pair : Nat) (s : State) : Host.Outcome State Fault Refusal := if 8 ≤ pair then .fault .noSuchUnit else .next (doResilverComplete pair s)

/-- `LEDGER_DRIVE_BIND` (R447, R441). -/
def ledgerDriveBind (p : Nat) (s : State) : State × Ans :=
  let a := s.drive (2 * p)
  let b := s.drive (2 * p + 1)
  let fit := fun (x : Drive) => x.present && x.supported && !x.failed
  let block : BindBlock := { plant := s.fu.plantId.getD [], serial := wordBytes (s.fu.read 1 0 3), pair := p }
  if 8 ≤ p then (s, refuseAns stRange 0x0C06 255 p)
  else if s.fu.plantId.isNone || s.foreignDrive a || s.foreignDrive b then (s, refuseAns stState 0x0C06 255 p)
  else if s.ownDrive a && s.ownDrive b then (s, okAns)
  else if !fit a || !fit b then (s, refuseAns stState 0x0C06 255 p)
  else
    let first := !s.ownDrive a && !s.ownDrive b
    let bind := fun (t : Tab Drive) (d : Nat) (x : Drive) => tset {} t d (if s.ownDrive x then x else { x with block := some block, copying := !first })
    let s1 : State := { s with lg := { s.lg with drives := bind (bind s.lg.drives (2 * p) a) (2 * p + 1) b } }
    if s1.lg.phase = 0 then ((({ s1 with lg := { s1.lg with phase := s1.servesPhase, mounted := true } }).newEpoch 1).ledgerPhase, okAns)
    else (s1.ledgerPhase.issue, okAns)
def doLedgerDriveBind (h : Hdr) (pair : Nat) (s : State) : State := s.hostJ (.ledgerDriveBind h pair) h 0x0C06 (ledgerDriveBind pair)
def execLedgerDriveBind (h : Hdr) (pair : Nat) (s : State) : Host.Outcome State Fault Refusal := .next (doLedgerDriveBind h pair s)

/-! ### Event pages (R461, R462) -/

/-- The events that go onto one page of 124 slots. -/
def fitEvents : Nat → List Held32 → List Held32
  | _, [] => []
  | n, h :: r => if n < h.slots.length then [] else h :: fitEvents (n - h.slots.length) r

/-- Held slots. -/
def Ledger.heldSlots (l : Ledger) : Nat := sumN (l.slots.map (fun h => h.slots.length))

/-- EVENT_PAGE_SEAL (R461): the page is full, 1 s old, or a safe stop runs. A STOPPED ledger takes no snapshots and writes its events as before (log 54). -/
def doEventPageSeal (s : State) : State :=
  let l := s.lg
  let old := match l.slots with | h :: _ => decide (1000000000000 ≤ h.age) | [] => false
  if !(l.phase == 2 || (l.phase == 4 && (List.range 8).any s.pairOk)) || l.slots.isEmpty || !(decide (124 ≤ l.heldSlots) || old || s.stopping) then s else
  let evs := fitEvents 124 l.slots
  let body := (evs.map (fun h => h.slots.flatten)).flatten
  let r := State.sealPage { s with lg := { l with slots := l.slots.drop evs.length } } { s.stampPage 0x10 with count := sumN (evs.map (fun h => h.slots.length)), body := body }
  ({ r.1 with lg := r.1.lg.enqueueEvent r.2 }).issue
def execEventPageSeal (s : State) : Host.Outcome State Fault Refusal := .next (doEventPageSeal s)

/-! ### Snapshots (R453 to R459) -/

/-- A snapshot is being captured or written. -/
def Ledger.busy (l : Ledger) : Bool := l.cap.isSome || l.frame.isSome || l.due

/-- A snapshot is skipped (R448, R453). -/
def State.skipSnapshot (s : State) : State :=
  ({ s with lg := { s.lg with skips := satU 16 (s.lg.skips + 1), skipped := true } }).raise { kind := .snapshotSkipped, unit := noUnit, detail := satU 16 (s.lg.skips + 1) }

/-- SNAPSHOT_DUE (R388, R453, R454): plant time has passed a multiple of the cadence above the last one that fell due. -/
def doSnapshotDue (s : State) : State :=
  let c := s.cadence
  let m := if c = 0 then 0 else s.tb.pt.ns / 1000000 / c * c
  if m ≤ s.lg.lastDue then s else
  let s1 := { s with lg := { s.lg with lastDue := m, slowed := s.shedding } }
  if s.lg.phase = 3 ∨ (s.lg.phase = 2 ∧ s.lg.busy) then s1.skipSnapshot
  else if s.lg.phase = 2 then { s1 with lg := { s1.lg with due := true } } else s1
def execSnapshotDue (s : State) : Host.Outcome State Fault Refusal := .next (doSnapshotDue s)

/-- A capture begins in tick 0 of its cycle. -/
def State.beginCapture (s : State) (flags : Nat) : State :=
  let p := s.stampPage 1
  { s with lg := { s.lg with
    due := false, skips := 0, snapshot := (s.lg.snapshot + 1) % pow32
    cap := some { cycle := s.tb.cycleNow, flags := flags + b1 s.shedding 1 + b1 (s.lg.skips != 0) 2, stamp := p.stamp, quality := p.quality, generation := p.generation, est := p.est, entries := [] } } }

/-- SNAPSHOT_CAPTURE (R453, R455): at the cycle boundary. -/
def doSnapshotCapture (s : State) : State :=
  if !s.lg.due || s.tb.idx != 0 then s
  else if s.lg.phase ≠ 2 then ({ s with lg := { s.lg with due := false } }).skipSnapshot
  else s.beginCapture 0
def execSnapshotCapture (s : State) : Host.Outcome State Fault Refusal := .next (doSnapshotCapture s)

/-- A page of a frame. -/
def Capture.page (c : Capture) (snapshot kind : Nat) : Page :=
  { kind := kind, count := 0, seq := 0, epoch := 0, snapshot := snapshot, firstUnit := plantUid, flags := c.flags, quality := c.quality, stamp := c.stamp
    generation := c.generation, est := c.est, prev := [], body := [], sig := [] }

/-- Entry page `m` of a frame, from 0 (R456). -/
def Capture.entryPage (c : Capture) (snapshot total m : Nat) : Page :=
  let n := Nat.min 124 (total - 124 * m)
  { c.page snapshot 2 with count := n, firstUnit := brickUid (124 * m), body := ((List.range n).map (fun j => tget (List.replicate 32 0) c.entries (124 * m + j))).flatten }

/-- The body of a head page (R458). -/
def State.headBody (s : State) (cycle : Nat) : List Nat :=
  le 8 cycle ++ le 4 (s.cadence / 1000) ++ [s.variant, 0, 0, 0] ++ wordBytes (s.fu.read 1 0 3) ++ le 4 0 ++ (s.fu.plantId.getD (List.replicate 16 0)) ++ s.publicKey ++
    le 4 s.entryPages ++ le 4 (tget 0 s.rd.fwRevs s.rd.active)

/-- The body of a close page (R458). -/
def closeBody (head written status stale present : Nat) : List Nat := le 8 head ++ le 4 written ++ [status, 0, 0, 0] ++ le 4 stale ++ le 4 present

/-- Seal a page of a frame and put it at the end of the queue. -/
def State.sealSnap (s : State) (p : Page) : State :=
  let r := s.sealPage p
  { r.1 with lg := { r.1.lg with queue := r.1.lg.queue ++ [r.2], frame := some ((match r.1.lg.frame with | some f => f.1 | none => r.2), r.2) } }

/-- The sweep has ended: the frame is sealed, at consecutive sequences (R456, R458). -/
def State.sealFrame (s : State) (c : Capture) : State :=
  let n := s.lg.snapshot
  let s1 := ({ s with lg := { s.lg with cap := none, frame := none } }).sealSnap { c.page n 1 with body := s.headBody c.cycle }
  let s2 := (List.range s.entryPages).foldl (fun (t : State) m => t.sealSnap (c.entryPage n s.nPos m)) s1
  let stale := (c.entries.filter (fun e => (e.2.getD 1 0).testBit 0)).length
  (s2.sealSnap { c.page n 3 with body := closeBody s1.lg.seq s.entryPages 0 stale c.entries.length }).issue

/-- A tick of the capture, after stage 2 (R455). -/
def State.captureTick (s : State) : State :=
  match s.lg.cap with
  | none => s
  | some c =>
    let i := s.tb.idx
    let es := (s.rc.bricks.filter (fun e => decide (e.1 % 442368 / 553 = i) && s.served (posBay e.1) && e.2.state != .absent)).map (fun e => (e.1, e.2.entry))
    let c1 := { c with entries := es.foldl (fun (t : Tab (List Nat)) e => tset (List.replicate 32 0) t e.1 e.2) c.entries }
    if i = 799 then s.sealFrame c1 else { s with lg := { s.lg with cap := some c1 } }

/-- RECORD_PASS as a whole (R228, R333, R455). -/
def doStageTwo (s : State) : State := let s1 := s.closeStage1; (doRecordPass (s1.allBays.foldl State.skipBay s1)).captureTick
def execRecordPass (s : State) : Host.Outcome State Fault Refusal := .next (doStageTwo s)

/-! ### Frames that end early (R458, R459, R464) -/

/-- Entry pages written, entries with `stale` set, and entries of present bricks, among pages of a frame. -/
def frameCounts (ps : List Page) : Nat × Nat × Nat :=
  ps.foldl (fun a p => if p.kind ≠ 2 then a else
    let es := (List.range p.count).map (fun j => (p.body.drop (32 * j)).take 32)
    (a.1 + 1, a.2.1 + (es.filter (fun e => (e.getD 1 0).testBit 0)).length, a.2.2 + (es.filter (fun e => e.any (fun b => b != 0))).length)) (0, 0, 0)

/-- Close the frame that begins at key `h`: what is written of it, and the status. -/
def State.closeFrame (s : State) (h status : Nat) : State :=
  match tget none s.lg.pages h with
  | none => s
  | some q =>
    let n := frameCounts ((trange s.lg.pages h (s.entryPages + 1)).filterMap (fun e => e.2.bind (fun x => if x.page.snapshot = q.page.snapshot then some x.page else none)))
    let r := s.sealPage { q.page with kind := 3, flags := q.page.flags % 8, firstUnit := plantUid, count := 0, body := closeBody q.page.seq n.1 status n.2.1 n.2.2 }
    { r.1 with lg := { r.1.lg with queue := r.1.lg.queue ++ [r.2], frame := some (h, r.2) } }

/-- The pages of a frame that have not been issued are withdrawn: their sequences are used again where no later page has been sealed, else they are lost. -/
def State.withdrawPages (s : State) (ks : List Nat) : State :=
  let l := s.lg
  let l1 := { l with queue := l.queue.filter (fun k => !ks.contains k), pages := tdrop (fun k => ks.contains k) l.pages }
  let first := minN 0 ks
  if ks.contains (pageKey l.epoch l.seq) ∧ ks.length = l.seq + 1 - first % 2 ^ 48 then
    { s with lg := { l1 with seq := first % 2 ^ 48 - 1, prev := match tget none l.pages (first - 1) with | some q => q.page.digest | none => l.prev } }
  else { s with lg := { l1 with lost := satU 32 (l1.lost + ks.length), gapSeen := true } }

/-- A snapshot whose writing is in progress is sealed at once with status 2 (R459). -/
def State.abandonFrame (s : State) : State :=
  let s0 := { s with lg := { s.lg with cap := none, due := false } }
  match s.lg.frame with
  | none => s0
  | some f =>
    let ks := s.lg.queue.filter (fun k => decide (f.1 < k) && decide (k ≤ f.2))
    if ks.contains f.2 then (s0.withdrawPages ks).closeFrame f.1 2 else s0

/-- SAFE_STOP_FLUSH (R341, R340, R448, R459): the safe-stop event, the stop snapshot and Flush; a STALLED ledger skips and counts the snapshot. -/
def doSafeStopFlush (s : State) : State :=
  if s.st.stopPhase ≠ 2 ∨ !s.st.flushDue ∨ s.tb.idx ≠ 0 then s else
  let s1 := ({ s with st := { s.st with flushDue := false } }).raise { kind := .safeStop, unit := noUnit, detail := s.st.stopCauses }
  if s1.st.noFlush then s1
  else if s1.lg.phase = 3 then s1.skipSnapshot
  else if s1.lg.phase ≠ 2 then s1 else ((s1.abandonFrame).beginCapture 1).issue
def execSafeStopFlush (s : State) : Host.Outcome State Fault Refusal := .next (doSafeStopFlush s)

/-! ### The search of the drives (R452, R464, R465) -/

/-- The events of an event page: their slot numbers and their slots. A record-image or binding event has two (R461, R487). -/
def parseEvents : Nat → Nat → Nat → List Nat → List (Nat × List (List Nat))
  | 0, _, _, _ => []
  | f + 1, n, i, bs =>
    if n ≤ i then [] else
    let a := bs.take 32
    let code := getLe a 4 2
    let two := code == EvKind.departed.code || code == EvKind.binding.code || (code == EvKind.retired.code && getLe a 28 4 == 1)
    if two then (i, [a, (bs.drop 32).take 32]) :: parseEvents f n (i + 2) (bs.drop 64)
    else (i, [a]) :: parseEvents f n (i + 1) (bs.drop 32)

def Page.events (p : Page) : List (Nat × List (List Nat)) := if p.kind = 0x10 then parseEvents p.count p.count 0 p.body else []

/-- Position index of a brick's unit ID. -/
def posOfUid (w : Nat) : Nat := let u := unitFields w; posIx u.bay u.pier u.course u.brick

/-- The frames that closed with status 0 and whose head is held, newest first: key of the head, entry pages (R458). -/
def framesOf (ps : List Page) : List (Nat × Nat) :=
  (ps.reverse.filterMap (fun p => if p.kind = 3 ∧ getLe p.body 12 1 = 0 then
    (ps.find? (fun q => q.kind == 1 && q.key == pageKey p.epoch (getLe p.body 0 8 % 2 ^ 48) && getLe q.body 112 4 == getLe p.body 8 4)).map (fun q => (q.key, getLe p.body 8 4))
    else none)).take 9

/-- The entries of entry page `m` in the newest frame that still has it, with `recal_due` set where that is not the newest (R465). -/
def entriesOf (t : Tab (Option Stored)) (frames : List (Nat × Nat)) (m : Nat) : List (Nat × Nat × List Nat) :=
  match frames.zipIdx.findSome? (fun f => (tget none t (f.1.1 + 1 + m)).bind (fun q => if q.page.kind = 2 then some (q.page, f.2) else none)) with
  | none => []
  | some (p, age) => (List.range p.count).filterMap (fun j =>
      let e := (p.body.drop (32 * j)).take 32
      if e.all (fun b => b == 0) then none
      else some (124 * m + j, p.key * 256 + j, if age = 0 then e else e.set 1 (Nat.lor (e.getD 1 0) 4)))

/-- Put an image into a position's list, newest first. -/
def addImage (t : Tab (List (Nat × List Nat))) (x k : Nat) (e : List Nat) : Tab (List (Nat × List Nat)) :=
  tmod [] t x (fun l => l.takeWhile (fun i => decide (k < i.1)) ++ [(k, e)] ++ l.dropWhile (fun i => decide (k < i.1)))

/-- A later quarantine or retirement event of the position sets the state of the images before it (R465). -/
def markImages (t : Tab (List (Nat × List Nat))) (x k state : Nat) : Tab (List (Nat × List Nat)) :=
  tmod [] t x (fun l => l.map (fun i => if i.1 < k then (i.1, i.2.set 0 (i.2.getD 0 0 / 8 * 8 + state)) else i))

/-- The images of every position (R465). -/
def imagesOf (t : Tab (Option Stored)) : Tab (List (Nat × List Nat)) :=
  let ps := t.filterMap (fun e => e.2.map (fun q => q.page))
  let frames := framesOf ps
  let n := match frames with | f :: _ => f.2 | [] => 0
  let t0 := ((List.range n).map (entriesOf t frames)).flatten.foldl (fun (a : Tab (List (Nat × List Nat))) e => addImage a e.1 e.2.1 e.2.2) []
  (ps.map (fun p => p.events.map (fun e => (p.key * 256 + e.1, e.2)))).flatten.foldl (fun (a : Tab (List (Nat × List Nat))) e =>
    let x := posOfUid (getLe (e.2.headD []) 24 4)
    let code := getLe (e.2.headD []) 4 2
    if code = EvKind.quarantined.code then markImages a x e.1 6
    else match e.2 with
      | [_, image] => if code = EvKind.departed.code ∨ code = EvKind.retired.code then addImage a x e.1 image else a
      | _ => if code = EvKind.retired.code then markImages a x e.1 7 else a) t0

/-- The number of the latest event of the epoch. -/
def lastEvent (ps : List Page) (epoch : Nat) : Nat :=
  match ps.reverse.find? (fun p => p.kind == 0x10 && p.epoch == epoch) with
  | none => 0
  | some p => match p.events.reverse with | e :: _ => getLe (e.2.headD []) 0 4 | [] => 0

/-- The latest run ended with a complete flush: its last snapshot page closes a stop snapshot, no run has begun since, and no synchronisation has ended its STOPPED state (R464, log 54). -/
def flushedBefore (ps : List Page) : Bool :=
  let tail := ps.reverse.takeWhile (fun p => p.kind == 0x10)
  tail.all (fun p => !p.flags.testBit 3 && p.events.all (fun e => getLe (e.2.headD []) 4 2 != EvKind.syncBegun.code || getLe (e.2.headD []) 28 4 == 0)) && (match (ps.reverse.dropWhile (fun p => p.kind == 0x10)).head? with
    | some p => p.kind == 3 && getLe p.body 12 1 == 0 && p.flags.testBit 0
    | none => false)

/-- The drives as they are found, identified and set up (R445 to R447). -/
def State.findDrives (s : State) (ds : List DriveIn) : Tab Drive :=
  (ds.filter (fun d => decide (d.drive < 16))).foldl (fun (t : Tab Drive) (d : DriveIn) =>
    let was : Drive := s.drive d.drive
    let now : Drive := { present := true, block := d.block, failed := was.failed, copying := was.copying && d.block.isSome, retrying := false
                         capacity := d.capacity, supported := d.supported, errorReads := was.errorReads, identified := [0, 1]
                         features := if d.supported then [6, 7, 8] else [], queues := if d.supported then 8 else 0 }
    tset {} t d.drive now) []

/-- The chain goes on after its tail, and the events that wait for a page follow the last one written (R461, R464). -/
def State.resumeChain (s : State) (p : Page) (ps : List Page) : State :=
  { s with lg := { s.lg with epoch := p.epoch, seq := p.seq, durable := p.seq, prev := p.digest, snapshot := p.snapshot }.number (lastEvent ps p.epoch) }

/-- LEDGER_MOUNT at a device start (R452, R464). DESIGN CHOICE, log 121: the last intact sequence stands above the two bits of `detail` that R472 names, its low 30 bits. -/
def State.mountStart (s : State) (ps : List Page) : State :=
  match ps.reverse with
  | [] => State.newEpoch { s with lg := { s.lg with prev := [], lastIntact := 0 } } 3
  | p :: _ => let s1 := s.resumeChain p ps
    ({ s1 with lg := { s1.lg with lastIntact := p.seq } }).raise { kind := .ledgerRestart, unit := noUnit, detail := (if flushedBefore ps then 0 else 2) + 4 * (p.seq % 2 ^ 30) }

/-- LEDGER_MOUNT at a keystone takeover (R452, R464): the sequence goes on, from the newest durable one where no page is found; the open frame is closed where its head is found. -/
def State.mountTakeover (s : State) (ps : List Page) : State :=
  match ps.reverse with
  | [] => ({ s with lg := { s.lg with seq := s.lg.durable, prev := [] } }).raise { kind := .takeoverSeal, unit := noUnit }
  | p :: _ =>
    let s1 := s.resumeChain p ps
    match (ps.reverse.filter (fun q => q.kind != 0x10)).head? with
    | some q =>
      if q.kind = 3 then s1.raise { kind := .takeoverSeal, unit := noUnit }
      else
        match ps.reverse.find? (fun h => h.kind == 1 && h.epoch == q.epoch && h.snapshot == q.snapshot) with
        | some head => (s1.closeFrame head.key 1).raise { kind := .takeoverSeal, unit := noUnit, detail := head.seq }
        | none => s1.raise { kind := .takeoverSeal, unit := noUnit }
    | none => s1.raise { kind := .takeoverSeal, unit := noUnit }

/-- What a page owes to the pages held beside it (R471): the digest of the one before it, and on an entry page the first unit that its place after the head gives. -/
def chained (ps : List Page) (p : Page) : Bool :=
  let before := if p.seq = 1 then (ps.filter (fun q => q.epoch + 1 == p.epoch)).getLast? else ps.find? (fun q => q.epoch == p.epoch && q.seq + 1 == p.seq)
  (match before with | some q => q.digest == p.prev | none => true) &&
  (p.kind != 2 || ps.all (fun h => !(h.kind == 1 && h.epoch == p.epoch && h.snapshot == p.snapshot && decide (h.seq < p.seq)) || p.firstUnit == brickUid ((p.seq - h.seq - 1) * 124)))

/-- LEDGER_MOUNT (R464, R465, R471). -/
def doLedgerMount (m : MountIn) (s : State) : State :=
  if !s.rd.haveActive || !s.st.step4 || (s.lg.mounted && !s.lg.takeover) then s else
  let s1 := { s with lg := { s.lg with drives := s.findDrives m.drives, direct := m.direct, mounted := true, takeover := false, ops := [], queue := [], frame := none, cap := none } }
  if s1.fu.plantId.isNone || !(List.range 8).any s1.pairBound then { s1 with lg := { s1.lg with phase := 0 } } else
  let parsed := m.pages.filterMap (fun (e : Nat × List Nat) => (s.parsePage e.2).map (fun p => (e.1, p)))
  let sorted := (parsed.map (fun e => e.2)).mergeSort (fun a b => decide (a.key ≤ b.key))
  let read := parsed.filter (fun e => chained sorted e.2)
  let kept : Tab (Option Stored) := if s.lg.takeover then s.lg.pages.filter (fun e => match e.2 with | some q => q.durable | none => false) else []
  let pages := read.foldl (fun (t : Tab (Option Stored)) e => if (tget none t e.2.key).isSome then t else tset none t e.2.key (some { page := e.2, pair := e.1 % 8, durable := true, lost := false })) kept
  let ps := pages.filterMap (fun e => e.2.map (fun q => q.page))
  let gone := if s.lg.takeover then (s.lg.pages.filter (fun e => (tget none pages e.1).isNone)).map (fun e => e.1) else []
  let s2 := { s1 with lg := { s1.lg with pages := pages, phase := s1.servesPhase, lost := satU 32 (s1.lg.lost + gone.length), gapSeen := s1.lg.gapSeen || gone != [], lostRun := gone.map (fun k => (k, k)) ++ s1.lg.lostRun, images := if s.lg.takeover then s1.lg.images else imagesOf pages } }
  ((if s.lg.takeover then s2.mountTakeover ps else s2.mountStart ps).ledgerPhase).issue
def execLedgerMount (mount : MountIn) (s : State) : Host.Outcome State Fault Refusal := .next (doLedgerMount mount s)

/-! ### A tick of the ledger -/

/-- Held events age; the phase follows the pairs; writes and deliveries go on; the slower cadence ends with the enforcement (R388, R448, R461, R469). -/
def State.ledgerTick (s : State) (ps : Nat) : State :=
  let aged := s.lg.slots.map (fun (h : Held32) => { h with age := h.age + ps })
  let s1 := State.issue (State.ledgerPhase { s with lg := { s.lg with slots := aged, slowed := s.lg.slowed && s.shedding } })
  (s1.lg.exports.map (fun e => e.1)).foldl State.pump s1

end Sys2Proof.Machine
end

