-- ==== Sys2Proof/Machine/Takeover.lean ====
section
/-! DEFINITION. Losing a keystone, tracking, going live, the planned switch (10 R302 to R305, R317, 11 R331, 14 R413). -/

namespace Sys2Proof.Machine
open Sys2Proof

/-! ### What a lost keystone takes with it (R305, R413, R464, R469, R481) -/

/-- The slot's commands that were accepted and not replied to, those whose reply is held among them: their number, and the first tag. -/
def State.unanswered (s : State) (i : Nat) : Nat × Nat :=
  let own := match s.fu.prog with | some p => if p.slot = i then [p.hdr.tag] else [] | none => []
  let tags := own ++ (s.slot i).queue.map (fun q => q.tag) ++ ((s.slot i).held.filter (fun c => c.use == .answer)).map (fun c => c.reply.tag)
  (tags.length, tags.headD 0)

/-- They are dropped, those of a slot that is not open too, and with them every reply that is held; the keepalive restarts; a live slot is told (R413, log 75). -/
def State.dropQueue (s : State) (i : Nat) : State :=
  let n := s.unanswered i
  let t := { s with hs := { s.hs with slots := tmod {} s.hs.slots i (fun x => { x with queue := [], held := [], deficit := 0, idle := 0 }), takeoverDrops := tset 0 s.hs.takeoverDrops i n.1 } }
  if (s.slot i).live then t.raiseTo i { kind := .hsTakeover, unit := noUnit, detail := n.1 % 65536 + n.2 % 65536 * 65536 } else t

/-- A transfer cycle that runs is abandoned; one accepted and not yet begun stands, a command in the journal (R305, R316). -/
def State.endRunningTransfer (s : State) : State :=
  match s.rd.xfer with
  | some x => if x.running then s.abandonTransfer else s
  | none => s

/-- What ends with the active keystone, whoever follows it. -/
def State.leaveActive (s : State) : State :=
  let s1 := ((List.range 8).foldl State.dropQueue s.endExports.endRunningTransfer)
  { s1 with
    rd := { s1.rd with haveActive := false, switchDue := false, standby := .absent, shadow := none, journal := [], candidates := setBit s1.rd.candidates s1.rd.active false
                       updateAborted := s1.rd.updateAborted || (s1.rd.updatePhase == 1 || s1.rd.updatePhase == 2 || s1.rd.updatePhase == 3 || s1.rd.updatePhase == 4)
                       updatePhase := if s1.rd.updatePhase = 1 ∨ s1.rd.updatePhase = 2 ∨ s1.rd.updatePhase = 3 ∨ s1.rd.updatePhase = 4 then 6 else s1.rd.updatePhase }
    fu := { s1.fu with prog := s1.fu.prog.map (fun p => { p with slot := 8 }) }
    lg := { s1.lg with takeover := true, phase := if s1.lg.phase = 0 then 0 else 1, cap := none, frame := none, queue := [], ops := [], slots := [], due := false } }

/-! ### The copy (R302, R304) -/

/-- Copied sections with the sticky flags they show now (R517). -/
def flaggedAs (now c : List BiState) : List BiState := (c.zip now).map (fun e => { e.1 with sat := e.2.sat })

/-- A copied law with the flags it shows now (R181, R517). -/
def LawState.flaggedAs (now c : LawState) : LawState := { secs := Machine.flaggedAs now.secs c.secs, outSat := now.outSat }

/-- What the tiles deliver stays with the pier, its current and its realised voltage, and so does what registers show of it: its flags and its plumb check (R304, R517). -/
def PierCtl.onto (now c : PierCtl) : PierCtl :=
  { c with im := now.im, imPrev := now.imPrev, imStale := now.imStale, imStalePrev := now.imStalePrev, ur := now.ur, ur1 := now.ur1, ur2 := now.ur2, live := now.live, istar := now.im
           rho := now.rho, rhoMax := now.rhoMax, model := now.model, modelTicks := now.modelTicks, goodTicks := now.goodTicks, resumed := 0, suspendFrom := now.suspendFrom
           inner := now.inner.flaggedAs c.inner, dc := now.dc.flaggedAs c.dc, limits := (c.limits.zip now.limits).map (fun e => e.2.flaggedAs e.1) }

/-- The grid-sense domain's values and what registers and statistics show of a bay stay with it (R517). -/
def BayCtl.onto (now c : BayCtl) : BayCtl :=
  { c with vg := now.vg, vg1 := now.vg1, pLaw := now.pLaw.flaggedAs c.pLaw, qLaw := now.qLaw.flaggedAs c.qLaw, code := now.code, pier := now.pier, changed := now.changed
           modelShown := now.modelShown, declared := now.declared, recovered := now.recovered, floated := now.floated, limited := now.limited, wasLimited := now.wasLimited
           win := now.win, recs := now.recs }

/-- The copied engine, on the tiles' and the grid-sense domain's present values; no register field changes (R302, R517). -/
def State.engineOf (s : State) (c : Control) : Control :=
  { s.ce with
    p := c.p, q := c.q, sets := c.sets, vm := c.vm, out := c.out, pHist := c.pHist, qHist := c.qHist, missNext := []
    piers := iter (3 * s.nBays) (fun p (t : Tab PierCtl) => tmod {} t p (fun x => (s.pierCtl p).onto x)) c.piers
    bays := iter s.nBays (fun b (t : Tab BayCtl) => tmod {} t b (fun x => (s.bayCtl b).onto x)) c.bays }

/-- The copied load models; what LOAD_STATUS shows stays (R262, R302, R517). -/
def State.loadsOf (s : State) (l : Loads) : Loads :=
  { l with
    fallbackSeen := s.ld.fallbackSeen, diagDrift := s.ld.diagDrift
    piers := iter (3 * s.nBays) (fun p (t : Tab PierLoad) => tmod {} t p (fun x => { x with hold := (tget {} s.ld.piers p).hold })) l.piers
    bays := iter s.nBays (fun b (t : Tab BayLoad) => tmod {} t b (fun x =>
      let y := tget {} s.ld.bays b
      { x with hsWarn := y.hsWarn, oilWarn := y.oilWarn, fallback := y.fallback })) l.bays }

/-- The copied banks; a pending tick-mode swap that was copied lands at the next cycle boundary, and one accepted since is lost (R132). Sticky flags stay, a glide goes on where it is, and so do the bays in standby, which the tiles hold (R307, R517). -/
def State.banksOf (s : State) (x : Crosspoint) : Crosspoint :=
  { x with
    pend := x.pend.map (fun p => { p with mode := if p.mode = 1 then 2 else p.mode })
    swapLost := s.xp.swapLost || decide (s.xp.generation ≠ x.generation) || (s.xp.pend.isSome && decide (s.xp.pend ≠ x.pend))
    split := s.xp.split, shapeSat := s.xp.shapeSat, outSat := s.xp.outSat, hardClamp := s.xp.hardClamp, windows := s.xp.windows, tickSwaps := s.xp.tickSwaps
    clearDue := s.xp.clearDue, idle := s.xp.idle, missNext := []
    glideLeft := if s.xp.generation = x.generation then s.xp.glideLeft else x.glideLeft, glideFrom := if s.xp.generation = x.generation then s.xp.glideFrom else x.glideFrom
    dests := s.destList.foldl (fun (t : Tab Dest) d => tmod {} t d (fun q => let y := tget {} s.xp.dests d; { q with secs := flaggedAs y.secs q.secs, win := y.win, recs := y.recs })) x.dests
    damps := iter 4 (fun k (t : Tab Damp) => tmod {} t k (fun q => { q with secs := flaggedAs (tget {} s.xp.damps k).secs q.secs })) x.damps }

/-- A copied qualification; `eligible` is a register field (R62, R517). -/
def SrcQual.onto (now c : SrcQual) : SrcQual := { c with eligible := now.eligible }

/-- Load the shadow (R302, R304). The tick sequence with its target and slew, plant time, the sessions, the admission windows and the pending courses go on as they stand: copy and journal make them what they are now (R53, R305, R413, R517); the write position is the one from which the ledger reads its drives forward (R464). -/
def State.loadCopy (s : State) (h : Shadow) : State :=
  { s with
    ce := s.engineOf h.ce
    ld := s.loadsOf h.ld
    xp := s.banksOf h.xp
    tb := { s.tb with qGrid := s.tb.qGrid.onto h.tb.qGrid, qFormed := s.tb.qFormed.onto h.tb.qFormed, qSv := s.tb.qSv.onto h.tb.qSv } }

/-- Replay one journalled command on the copy, of XP_SWAP its CANCEL: those that act on what was copied; the others' effects stand where they were made. -/
def State.replay (s : State) (i : Instr) : State :=
  match i with
  | .ceSetpointSet _ q v r => (ceSetpointSet q v r s).1
  | .loadAmbientSet _ u t => (ambientSet u t s).1
  | .loadBaselineSet _ p k l r => (baselineSet p k l r s).1
  | .xpShadowDiscard _ => { s with xp := { s.xp with shadow := s.xp.act, staged := [], dmaStager := none } }
  | .xpSwap _ _ _ _ => { s with xp := { s.xp with pend := none } }
  | _ => s

/-- The copy with the journal replayed onto it, in order. -/
def State.loadShadow (s : State) (h : Shadow) (j : List Instr) : State := j.reverse.foldl State.replay (s.loadCopy h)

/-! ### KEYSTONE_LOST (R303, R331) -/

/-- Some bay is ENERGISED. -/
def State.anyEnergised (s : State) : Bool := s.allBays.any (fun b => (s.bayStart b).phase == .energised)

/-- The standby takes over: it tracks from the next tick (R303, R304). -/
def State.takeOver (s : State) (h : Shadow) (j : List Instr) : State :=
  let r := s.rd.count 0 s.absTick
  let s1 := { s with rd := { r with active := 1 - s.rd.active, trackDue := true, shadow := some h, journal := j, ksTakeover := true }, ev := { s.ev with takeover := true } }
  s1.vector16 2 s.ev.takeover

/-- Tracking begins with the tick: the shadow is loaded and the journal replayed (R304). -/
def State.beginTracking (s : State) : State :=
  if !s.rd.trackDue then s else
  let s1 := { s with rd := { s.rd with trackDue := false, tracking := true, trackTicks := 0, shadow := none, journal := [] } }
  match s.rd.shadow with
  | some h => s1.loadShadow h s.rd.journal
  | none => s1

/-- Tracking's part of a boundary: it begins, or another tick has passed (R304). -/
def State.trackCount (s : State) : State :=
  if s.rd.tracking then { s with rd := { s.rd with trackTicks := s.rd.trackTicks + 1 } } else s.beginTracking

/-- What a keystone holds when it starts without a copy: engine, streams, slots and ledger as after a reset; grant serials stay in the boot flash, and the MAINTAIN state ends with the slot that holds it (R481). The tiles go on with the parameters they have until it takes them over (R307, R339, log 98). -/
def State.freshKeystone (s : State) : State :=
  { s with
    rd := { s.rd with freshDue := true, xfer := none }
    ce := s.engineOf {}, ld := s.loadsOf {}, xp := { s.xp with pend := none, swapEvt := none, missNext := [] }, sp := { ({} : Ports) with isoFault := s.sp.isoFault, gs := s.sp.gs }, lg := {}, z := { s.z with grid := none }
    hs := { ({} : HostIf) with mem := s.hs.mem, slots := (s.hs.slots.map (fun e => (e.1, { ({} : Slot) with topSerial := e.2.topSerial }))).filter (fun e => e.2 != {}) }
    fu := { s.fu.leaveMaint with underRoot0 := 0 }
    tb := { s.tb with target := .free, slewing := false, slewLeft := 0, corr := 0, snapTarget := .free, hold := false, qGrid := {}, qFormed := {}, qSv := {} } }

/-- The other keystone starts at step 4 where it is a candidate; else the device waits for one in step 3 (R303, R331). -/
def State.restartOther (s : State) : State :=
  let k := 1 - s.rd.active
  let s1 := { s with st := { s.st with step4 := false, prefWaited := true } }
  if s1.rd.candidates.testBit k && !s1.rd.ksFailed.testBit k then s1.elect k
  else { s1 with st := { s1.st with devStep := 3 } }

/-- The active keystone is lost: before the first bay was ENERGISED the start goes back to step 4, from then on the standby takes over (R303, R331). -/
def State.loseActive (s : State) : State :=
  let s1 := s.leaveActive
  match (if s.rd.shadowValid then s.rd.shadow else none) with
  | some h => if s.st.onceEnergised then s1.takeOver h s.rd.journal else (s1.loadShadow h s.rd.journal).restartOther
  | none => s1.freshKeystone.restartOther

/-- The standby is lost: no copy is held. -/
def State.loseStandby (s : State) : State :=
  { s with rd := { s.rd with standby := .absent, shadow := none, journal := [], candidates := setBit s.rd.candidates (1 - s.rd.active) false } }

/-- Keystone `k` stops (R303, R361, R389): the active one, one that tracks, or the standby. -/
def State.loseKeystone (s : State) (k : Nat) : State :=
  if s.rd.active = k ∧ s.rd.haveActive then s.loseActive
  else if s.rd.active = k ∧ (s.rd.tracking ∨ s.rd.trackDue) then
    State.freshKeystone { s with rd := { s.rd with tracking := false, trackDue := false, shadow := none, journal := [], candidates := setBit s.rd.candidates k false }, st := { s.st with step4 := false, prefWaited := true, devStep := 3 } }
  else if s.rd.active ≠ k ∧ s.rd.haveActive then s.loseStandby
  else { s with rd := { s.rd with candidates := setBit s.rd.candidates k false } }

/-- The latest tick whose heartbeats are due: this one once its stage 6 has run (R303). -/
def State.beatsDue (s : State) : Nat := if s.rd.sixTick = s.absTick then s.absTick else s.absTick - 1

/-- The cause holds (R303): the heartbeats of two consecutive ticks are missing, or a signal; a debug halt counts on a production part only (R213). -/
def State.lossHolds (s : State) (c : LossCause) : Bool :=
  match c with
  | .heartbeat => s.tb.running && s.st.devStep == 7 && decide (tget 0 s.rd.beats s.rd.active + 2 ≤ s.beatsDue)
  | .debugHalt => s.production
  | .fatal => true
  | .reset => true

/-- KEYSTONE_LOST (R303, R331). A keystone that tracks and fails leaves the tiles in flywheel. -/
def doKeystoneLost (c : LossCause) (s : State) : State :=
  if s.rd.haveActive then (if s.lossHolds c then s.loseActive else s)
  else if (s.rd.tracking || s.rd.trackDue) && c != .heartbeat && s.lossHolds c then s.loseKeystone s.rd.active else s
def execKeystoneLost (cause : LossCause) (s : State) : Host.Outcome State Fault Refusal := .next (doKeystoneLost cause s)

/-! ### KEYSTONE_LIVE, PLANNED_SWITCH -/

/-- KEYSTONE_LIVE (R304, R309): a ramp that has started runs on. -/
def doKeystoneLive (s : State) : State :=
  if s.rd.tracking ∧ 400 ≤ s.rd.trackTicks ∧ s.tb.idx = 0 then
    { s with
      rd := { s.rd with haveActive := true, tracking := false, flywheel := s.rd.flywheel && s.rd.ramp, beats := tset 0 s.rd.beats s.rd.active s.absTick,
                         standby := s.rd.otherStands }
      ce := { s.ce with piers := (s.ce.piers.map (fun e => (e.1, { e.2 with resumed := 0 }))).filter (fun e => e.2 != {}) } }
  else s
def execKeystoneLive (s : State) : Host.Outcome State Fault Refusal := .next (doKeystoneLive s)

/-- PLANNED_SWITCH (R317): at the boundary, with that boundary's copy and an empty journal; the old active keystone reboots; an event names the new one (R416, log 29). -/
def doPlannedSwitch (s : State) : State :=
  if s.rd.switchDue && decide (s.tb.idx = 0) && s.rd.shadowValid && s.rd.haveActive && !s.rd.flywheel then
    State.raise { s with rd := { s.rd with active := 1 - s.rd.active, standby := .booting, shadow := none, journal := [], switchDue := false,
                                           updatePhase := if s.rd.updatePhase = 3 then 4 else s.rd.updatePhase, updateAge := 0, prevSlot := s.rd.slotOf s.rd.active,
                                           beats := tset 0 s.rd.beats (1 - s.rd.active) s.absTick } } { kind := .keystoneSwitched, unit := noUnit, detail := 1 - s.rd.active }
  else s
def execPlannedSwitch (s : State) : Host.Outcome State Fault Refusal := .next (doPlannedSwitch s)

end Sys2Proof.Machine
end

