-- ==== Sys2Proof/Machine/Reset.lean ====
section
/-! DEFINITION. Resets, power-down, the end of a safe stop, boundary scan (11 R339, R344, R347, 18 R505). -/

namespace Sys2Proof.Machine
open Sys2Proof

/-! ### What a reset keeps (R339) -/

/-- A channel through a device reset: its counters and its latches (R361, R373, R389). -/
def Chan.kept (c : Chan) : Chan :=
  { uv := c.uv, ov := c.ov, retry := c.retry, trip := c.trip, retries := c.retries, latched := c.latched, thermal := c.thermal, tick := c.tick, clearDue := c.clearDue }

/-- The footing through a device reset: the always-on status, the counters, and the supplies as they stand (R339, R373, R379). -/
def Footing.kept (f : Footing) : Footing :=
  { vinOk := f.vinOk, vinPresent := f.vinPresent, onBank := f.onBank, inPath := f.inPath, aonFault := f.aonFault, lastTrip := f.lastTrip, lastReaction := f.lastReaction,
    aonRetries := f.aonRetries, chans := (f.chans.map (fun e => (e.1, e.2.kept))).filter (fun e => e.2 != {}), bankMv := f.bankMv,
    charger := if f.charger = .fault then .fault else .off, switchovers := f.switchovers, enabled := 1 }

/-- A die latched off by its temperature stays at SHUTDOWN until a power-on reset (R384, R389). -/
def Thermal.kept (t : Thermal) : Thermal :=
  { dies := (t.dies.map (fun e => (e.1, if e.2.level = .shutdown then ({ level := .shutdown } : Die) else {}))).filter (fun e => e.2 != {}) }

/-- Everything but fuses, flash, the pins' levels, the host's memory and what the reset's kind keeps starts as after a reset (R339). -/
def State.wipe (s : State) (ftg : Footing) (st : Startup) (thm : Thermal) : State :=
  { pending := s.pending, freeCtr := s.freeCtr
    rd := { images := s.rd.images, lastGood := s.rd.lastGood, active := s.preferred }
    hs := { mem := s.hs.mem, slots := (s.hs.slots.map (fun e => (e.1, ({ topSerial := e.2.topSerial } : Slot)))).filter (fun e => e.2 != {}) }
    fu := { words := s.fu.words, locks := s.fu.locks, journal := s.fu.journal, root := s.fu.rootInUse }
    sys := { gpioPins := s.sys.gpioPins }
    ftg := ftg, st := st, thm := thm }

/-- A device reset with its cause bits: step 1 begins (R323, R339, R347). -/
def State.deviceReset (s : State) (causes : Nat) : State :=
  s.wipe s.ftg.kept { cause := s.st.cause ||| causes, resets := incSat 16 s.st.resets, laneSeen := s.st.laneSeen, jtag := s.st.jtag, scan := s.st.scan, devStep := 1 } s.thm.kept

/-- The channels of a position. -/
def positionChans (p : Nat) : List Nat := (List.range 22).filter (fun c => chanPosition c == p)

/-- A position's enable is deasserted: its gates open, its channels are masked (R355, R358). -/
def State.disablePosition (s : State) (p : Nat) : State :=
  let s1 := { s with ftg := { s.ftg with enabled := setBit s.ftg.enabled p false, ready := setBit s.ftg.ready p false } }
  (positionChans p).foldl (fun t c => t.modChan c (fun x => { x with gate := false, good := false, rail := .inBand })) s1

/-- The positions are deasserted in reverse order; the power gates are closed last (R356). -/
def State.releaseRails (s : State) : State :=
  let s1 := ((List.range 10).reverse).foldl State.disablePosition s
  { s1 with ftg := { s1.ftg with chans := iter 14 (fun c (t : Tab Chan) => tmod {} t c (fun x => { x with gate := true })) s1.ftg.chans } }

/-- A power-down (R356): the always-on domain may live on, everything else is off. -/
def State.powerDown (s0 : State) : State :=
  let s := s0.releaseRails
  s.wipe { s.ftg.kept with chans := (s.ftg.chans.map (fun e => (e.1, { e.2.kept with gate := e.2.gate }))).filter (fun e => e.2 != {}), phase := .powerdown, enabled := 0, vinOk := false, onBank := false, inPath := false, charger := .off }
    { cause := s.st.cause, resets := s.st.resets, laneSeen := s.st.laneSeen, jtag := s.st.jtag, scan := s.st.scan } s.thm.kept

/-- A power-on reset: step 1 begins (R323, R339, R351). -/
def State.powerOn (s : State) : State :=
  s.wipe { vinOk := true, vinPresent := true, inPath := true, enabled := 1, bankMv := s.ftg.bankMv } { devStep := 1 } {}

/-- The device has no power yet: before its first power-on, or powered down. -/
def State.unpowered (s : State) : Bool := s.ftg.phase == .powerdown || (s.ftg.phase == .sequencing && s.st.devStep == 0)

/-- POWER_ON (R351): VIN_HOLD has stayed above the start threshold for 10 ms. -/
def doPowerOn (s : State) : State := if s.unpowered then s.powerOn else s
def execPowerOn (s : State) : Host.Outcome State Fault Refusal := .next (doPowerOn s)

/-- SYS_RESET_N (R339): at once, whatever runs. -/
def doSysResetN (s : State) : State := if s.unpowered then s else s.deviceReset 2
def execSysResetN (s : State) : Host.Outcome State Fault Refusal := .next (doSysResetN s)

/-- `DEVICE_RESET` (R339, R430): its reply is written before the reset; forced with a bay ENERGISED, a safe stop runs first, and one that runs already ends in the reset (R340). -/
def doDeviceReset (h : Hdr) (force : Nat) (s : State) : State :=
  if !s.opAllowed 0x0109 then s.host h 0x0109 (fun t => (t, okAns))
  else if s.anyEnergised ∧ force = 0 then s.host h 0x0109 (fun t => (t, refuseAns stState 0x0109 255 0))
  else if s.anyEnergised || s.stopping then s.hostJ (.deviceReset h force) h 0x0109 (fun t => (t.startStop 1 false true false, acceptedAns))
  else (s.host h 0x0109 (fun t => (t, acceptedAns))).deviceReset 4
def execDeviceReset (h : Hdr) (force : Nat) (s : State) : Host.Outcome State Fault Refusal := .next (doDeviceReset h force s)

/-! ### The end of a safe stop (R344, R348) -/

/-- The device is STOPPED: a bay is READY once its hub reports the breaker open. -/
def State.stopDone (s : State) (flushed : Bool) : State :=
  { s with
    st := { s.st with stopPhase := 3, stopped := true, flushSkipped := s.st.flushSkipped || !flushed || s.st.noFlush
                      bays := (s.st.bays.map (fun e => if e.2.phase = .energised then (e.1, if e.2.opened then { e.2 with phase := .ready, reason := 0, age := 0, opened := false } else { e.2 with stopFloat := true }) else e)).filter (fun e => e.2 != {}) }
    lg := { s.lg with phase := if s.lg.phase = 2 ∨ s.lg.phase = 3 then 4 else s.lg.phase, flushed := flushed && !s.st.noFlush } }

/-- SAFE_STOP_COMPLETE (R340, R344): STOPPED, on the hold-up bank until its cut-off; or a device reset, in whose place the footing powers down where VIN_HOLD is absent (R360). -/
def doSafeStopComplete (flushed : Bool) (s : State) : State :=
  if s.st.stopPhase ≠ 2 ∨ s.st.flushDue then s
  else
    let s1 := s.stopDone flushed
    if s.st.resetAfter then (if s.ftg.vinPresent then s1.deviceReset (s.st.resetBits ||| 32) else s1.powerDown) else s1
def execSafeStopComplete (flushed : Bool) (s : State) : Host.Outcome State Fault Refusal := .next (doSafeStopComplete flushed s)

/-! ### Boundary scan (R505) -/

/-- The balls that the chain covers: those on VDD_IO and VDD_AUX but for the test port's own (R500, R505, log 119). -/
def jtagCells : Nat := 30

/-- JTAG_INSTRUCTION (R505): EXTEST, CLAMP and HIGHZ act as BYPASS once a lane has trained; its cells are what the chain then holds (log 119). -/
def doJtagInstruction (l : JtagLoad) (s : State) : State :=
  { s with st := { s.st with jtag := if jtagDrives l.ins && s.st.laneSeen then .bypass else l.ins, scan := l.cells % 2 ^ jtagCells } }
def execJtagInstruction (load : JtagLoad) (s : State) : Host.Outcome State Fault Refusal := .next (doJtagInstruction load s)

end Sys2Proof.Machine
end

