-- ==== Sys2Proof/Machine/Footing.lean ====
section
/-! DEFINITION. Footing power: the cascade, supervision and its reactions, the hold-up bank and its charger, the I²C target, the footing commands (12, 15 R431). -/

namespace Sys2Proof.Machine
open Sys2Proof

/-- Counters of a channel: 0 undervoltage, 1 overvoltage, 2 retry, 3 trip (R380). -/
def Chan.counter (c : Chan) (k : Nat) : Nat := match k with | 0 => c.uv | 1 => c.ov | 2 => c.retry | _ => c.trip

def Chan.setCounter (c : Chan) (k v : Nat) : Chan :=
  match k with | 0 => { c with uv := v } | 1 => { c with ov := v } | 2 => { c with retry := v } | _ => { c with trip := v }

/-- Count one (R373). -/
def State.countChan (s : State) (c k : Nat) : State :=
  let full := (s.chan c).counter k = 0xFFFF
  let s1 := s.modChan c (fun x => { (x.setCounter k (incSat 16 (x.counter k))) with tick := x.tick.set k (incSat 16 (x.tick.getD k 0)) })
  if full then { s1 with ftg := { s1.ftg with sat := true } } else s1

/-- The end of a tick: cleared counters keep the tick's own counts; trips' retries age (R361, R373). -/
def Chan.endTick (ps : Nat) (c : Chan) : Chan :=
  let c1 := if c.clearDue then { c with uv := c.tick.getD 0 0, ov := c.tick.getD 1 0, retry := c.tick.getD 2 0, trip := c.tick.getD 3 0, clearDue := false } else c
  { c1 with tick := [0, 0, 0, 0], retries := (c1.retries.map (· + ps)).filter (fun a => decide (a < 600000000000000)) }

/-- The footing's part of the end of a tick. -/
def State.footingTick (s : State) (ps : Nat) : State :=
  { s with ftg := { s.ftg with chans := (s.ftg.chans.map (fun e => (e.1, e.2.endTick ps))).filter (fun e => e.2 != {})
                               resetAge := if s.ftg.resetDue then Nat.min 16 (s.ftg.resetAge + 1) else 0 } }

/-! ### The cascade (R353 to R356, R325) -/

/-- A position's enable is asserted; the gates of its domains close unless they are latched off (R355). -/
def State.enablePosition (s : State) (p : Nat) : State :=
  let s1 := { s with ftg := { s.ftg with enabled := setBit s.ftg.enabled p true, position := p, waiting := false } }
  (positionChans p).foldl (fun t c => t.modChan c (fun x => { x with gate := decide (c < 14) && !x.latched, good := false, rail := .inBand })) s1

/-- The position after `p`; position 8 is reserved and passed at once (R353). -/
def nextPosition (p : Nat) : Nat := if p = 7 then 9 else p + 1

/-- FOOTING_HOLD with a fault code (R325, R345). -/
def State.footingHold (s : State) (code : Nat) : State :=
  let s1 := ((List.range 10).reverse).foldl State.disablePosition s
  ({ s1 with ftg := { s1.ftg with phase := .hold, aonFault := code, aonRetries := 3, waiting := false }, st := { s1.st with devStep := 15, faultCode := code } }).assertFault

/-- The sequencer works on step 1, from the input or, after a loss of VIN_HOLD, from the bank (log 63). -/
def State.sequencing (s : State) : Bool := (s.ftg.phase == .sequencing || s.ftg.phase == .holdup) && s.st.devStep == 1

/-- POSITION_READY (R354): the position is ready and the next starts; the last ends step 1. -/
def doPositionReady (s : State) : State :=
  let p := s.ftg.position
  if !s.sequencing || s.ftg.waiting || !s.ftg.enabled.testBit p then s else
  let s1 := { s with ftg := { s.ftg with ready := setBit s.ftg.ready p true } }
  let s2 := (positionChans p).foldl (fun t c => t.modChan c (fun x => { x with good := true })) s1
  if p = 9 then { s2 with ftg := { s2.ftg with phase := if s2.ftg.onBank then .holdup else .running }, st := { s2.st with devStep := 2 } }
  else s2.enablePosition (nextPosition p)
def execPositionReady (s : State) : Host.Outcome State Fault Refusal := .next (doPositionReady s)

/-- POSITION_TIMEOUT (R325, R354): a retry, or FOOTING_HOLD after the third; at the last position `off` says that REFCLK is off frequency. -/
def doPositionTimeout (off : Bool) (s : State) : State :=
  let p := s.ftg.position
  if !s.sequencing || s.ftg.waiting then s
  else if 3 ≤ tget 0 s.ftg.posRetries p then s.footingHold (if p = 9 then (if off then 0x21 else 0x20) else 0x10 + p)
  else
    let s1 := s.disablePosition p
    { s1 with ftg := { s1.ftg with waiting := true, posRetries := tmod 0 s1.ftg.posRetries p (· + 1) } }
def execPositionTimeout (off : Bool) (s : State) : Host.Outcome State Fault Refusal := .next (doPositionTimeout off s)

/-- POSITION_RETRY (R354): after 10 ms off. -/
def doPositionRetry (s : State) : State := if s.sequencing && s.ftg.waiting then s.enablePosition s.ftg.position else s
def execPositionRetry (s : State) : Host.Outcome State Fault Refusal := .next (doPositionRetry s)

/-- A rail of an earlier position falls through reset-low while step 1 runs (R354). -/
def State.sequenceBack (s : State) (cs : List Nat) : State :=
  let q := minN 9 (cs.map chanPosition)
  if 3 ≤ tget 0 s.ftg.posRetries q then s.footingHold (0x10 + q)
  else
    let s1 := cs.foldl (fun t c => t.countChan c 2) s
    let s2 := (((List.range 10).filter (fun p => decide (q ≤ p))).reverse).foldl State.disablePosition s1
    { s2 with ftg := { s2.ftg with position := q, waiting := true, posRetries := tmod 0 s2.ftg.posRetries q (· + 1) } }

/-! ### Supervision (R357 to R364) -/

/-- A channel that counts and reacts: unmasked, and its rail has risen. -/
def State.watched (s : State) (c : Nat) : Bool := !s.masked c && (s.chan c).good

/-- The input is watched: a supervisor channel as `watched` says, VIN_HOLD, numbered 22 here, while it is present (R351, R357). -/
def State.senses (s : State) (c : Nat) : Bool := if c = 22 then s.ftg.vinPresent else s.watched c

/-- WARNING_EXCURSION (R359): the filtered crossing is counted once, of VIN_HOLD too, whose counters no register shows (R351, log 63). -/
def doWarningExcursion (c : Nat) (high : Bool) (s : State) : State :=
  if !s.senses c || (s.chan c).rail != .inBand then s
  else (State.modChan { s with ftg := { s.ftg with vinOk := s.ftg.vinOk && c != 22 } } c (fun x => { x with rail := if high then .high else .low })).countChan c (if high then 1 else 0)
def execWarningExcursion (channel : Nat) (high : Bool) (s : State) : Host.Outcome State Fault Refusal :=
  if 22 < channel then .fault .noSuchUnit else .next (doWarningExcursion channel high s)

/-- RAIL_RETURN (R359): the one event of an excursion that recovered; a rail that had tripped raises none and marks no cover. VIN_HOLD has no cover bit (R377). -/
def doRailReturn (c : Nat) (s : State) : State :=
  let r := (s.chan c).rail
  let s0 := { s with ftg := { s.ftg with vinOk := s.ftg.vinOk || (c == 22 && s.ftg.vinPresent) } }
  let s1 := s0.modChan c (fun x => { x with rail := .inBand, brownout := x.brownout || (r == .low && c != 22) })
  match r with
  | .low => ({ s1 with ftg := { s1.ftg with brownoutAny := s1.ftg.brownoutAny || c != 22 } }).raise { kind := .excursion, unit := noUnit, detail := c }
  | .high => ({ s1 with ftg := { s1.ftg with ovWarn := true } }).raise { kind := .excursion, unit := noUnit, detail := c + 256 }
  | .inBand => s
  | .tripLow => s1
  | .tripHigh => s1
def execRailReturn (channel : Nat) (s : State) : Host.Outcome State Fault Refusal := if 22 < channel then .fault .noSuchUnit else .next (doRailReturn channel s)

/-- A trip's reaction as FTG_AON_STATUS codes it: 1 IGNORE, 2 RETRY, 3 GROUP_SHUTDOWN, 4 SYSTEM_RESET, 5 safe stop and reset (R360, R361, R376). -/
def State.reactionCode (s : State) (c : Nat) : Nat :=
  if 14 ≤ c then 5
  else match s.reaction c with
    | 0 => 1
    | 1 => if 3 ≤ (s.chan c).retries.length then 3 else 2
    | 2 => 3
    | _ => 4

/-- A trip is counted, and once as an excursion where it was not yet (R359, R360). -/
def State.countTrip (s : State) (c : Nat) (high : Bool) : State :=
  let s1 := if (s.chan c).rail = .inBand then s.countChan c (if high then 1 else 0) else s
  ((s1.countChan c 3).modChan c (fun x => { x with rail := if high then .tripHigh else .tripLow })).raise
    { kind := .railTrip, unit := noUnit, detail := c + 256 * s.reactionCode c }

/-- A privileged domain stops: its tile's neighbour or the other keystone takes over (R361, R362). -/
def State.stopDie (s : State) (c : Nat) : State := if c < 12 then s.loseTile c else s.loseKeystone (c - 12)

/-- Open a domain's gate: for a retry, or latched off (R361). -/
def State.openGate (s : State) (latch : Bool) (c : Nat) : State :=
  (s.modChan c (fun x => { x with gate := false, good := false, rail := .inBand, checking := false, offTime := !latch, latched := x.latched || latch })).stopDie c

/-- The immediate safe stop of a footing fault (R360): the ledger is flushed where the active keystone's rail is in band (R341). -/
def State.footingStop (s : State) : State :=
  let healthy := s.rd.haveActive && s.watched (12 + s.rd.active) && (s.chan (12 + s.rd.active)).rail == .inBand
  let s1 := s.startStop 4 true true (!healthy)
  { s1 with ftg := { s1.ftg with resetDue := true, resetAge := if s.ftg.resetDue then s.ftg.resetAge else 0 } }

/-- SUPERVISOR_TRIP (R360 to R362): channels that trip within one filter interval, each a filtered crossing of its own; the severest reaction acts for all. While step 1 runs, R354 has the crossing instead (log 63). -/
def doSupervisorTrip (channels : List Nat) (high : Bool) (s : State) : State :=
  let cs := (channels.dedup).filter (fun c => decide (c < 22) && s.watched c)
  if cs = [] then s
  else if s.ftg.phase = .sequencing ∨ s.st.devStep = 1 then
    (let back := cs.filter (fun c => decide (chanPosition c < s.ftg.position))
     if high ∨ back = [] ∨ s.st.devStep ≠ 1 then s else s.sequenceBack back)
  else if s.ftg.phase ≠ .running ∧ s.ftg.phase ≠ .holdup then s
  else
    let act := maxN (cs.map s.reactionCode)
    let worst := (cs.find? (fun c => s.reactionCode c == act)).getD 0
    let s1 := cs.foldl (fun t c => t.countTrip c high) s
    let s2 := { s1 with ftg := { s1.ftg with lastTrip := worst, lastReaction := act, tripSeen := s1.ftg.tripSeen || cs.any (fun c => decide (c < 14)) } }
    if act = 1 then s2
    else if act = 2 ∨ act = 3 then cs.foldl (State.openGate · (act == 3)) s2
    else s2.footingStop
def execSupervisorTrip (channels : List Nat) (high : Bool) (s : State) : Host.Outcome State Fault Refusal := .next (doSupervisorTrip channels high s)

/-- RETRY_OFF_END (R361): the gate closes and the retry is counted. -/
def doRetryOffEnd (c : Nat) (s : State) : State :=
  if !(s.chan c).offTime then s
  else (s.modChan c (fun x => { x with offTime := false, gate := true, checking := true, retries := 0 :: x.retries })).countChan c 2
def execRetryOffEnd (channel : Nat) (s : State) : Host.Outcome State Fault Refusal := if 14 ≤ channel then .fault .noSuchUnit else .next (doRetryOffEnd channel s)

/-- A keystone powered again starts at its step 4: as the standby, or as the active keystone where none is (R303, R305, R361). One that failed its self-test takes no part until the next device reset (R327). -/
def State.keystoneBack (s : State) (k : Nat) : State :=
  if s.rd.ksFailed.testBit k then s else
  let s1 := { s with rd := { s.rd with candidates := setBit s.rd.candidates k true } }
  if s.rd.haveActive ∧ s.rd.active ≠ k ∧ s.st.step4 then { s1 with rd := { s1.rd with standby := .booting } }
  else if s.st.devStep = 3 ∧ s.st.prefWaited then s1.elect k else s1

/-- RETRY_RAIL_CHECK (R361): the rail has held its band for 1 ms and the die restarts, or it has not within 5 ms and the domain is latched off. -/
def doRetryRailCheck (c : Nat) (held : Bool) (s : State) : State :=
  if !(s.chan c).checking then s
  else if held then
    let s1 := s.modChan c (fun x => { x with checking := false, good := true, rail := .inBand })
    if c < 12 then s1 else s1.keystoneBack (c - 12)
  else s.modChan c (fun x => { x with checking := false, gate := false, latched := true })
def execRetryRailCheck (channel : Nat) (held : Bool) (s : State) : Host.Outcome State Fault Refusal := if 14 ≤ channel then .fault .noSuchUnit else .next (doRetryRailCheck channel held s)

/-- FOOTING_RESET (R360): in the tick after the float blocks, or 16 ticks after the trip: the device reset, or the power-down where VIN_HOLD is absent. -/
def doFootingReset (s : State) : State :=
  if s.ftg.resetDue ∧ (2 ≤ s.st.stopPhase ∨ 16 ≤ s.ftg.resetAge) then (if s.ftg.vinPresent then s.deviceReset 8 else s.powerDown) else s
def execFootingReset (s : State) : Host.Outcome State Fault Refusal := .next (doFootingReset s)

/-! ### Input and hold-up bank (R351, R352, R367 to R372) -/

/-- VIN_LOSS (R372): switchover, HOLDUP and a safe stop; a bank below its pre-charge level powers down. A cascade that is still starting goes on, from the bank (log 63). -/
def doVinLoss (s : State) : State :=
  if !s.ftg.vinPresent then s else
  let s0 := State.modChan { s with ftg := { s.ftg with vinPresent := false, vinOk := false } } 22 (fun x => { x with rail := .inBand })
  if s.ftg.phase = .powerdown then s0
  else if s.ftg.bankMv < 2000 then s0.powerDown
  else
    let f := s0.ftg
    let s1 := { s0 with ftg := { f with inPath := false, onBank := true, phase := FtgPhase.holdup, switchovers := incSat 16 f.switchovers, sat := f.sat || decide (f.switchovers = 0xFFFF)
                                        charger := if f.charger = ChargerPhase.fault then ChargerPhase.fault else ChargerPhase.off } }
    (s1.startStop 0 false false false).endExports
def execVinLoss (s : State) : Host.Outcome State Fault Refusal := .next (doVinLoss s)

/-- VIN_RETURN (R372): the footing switches back; a safe stop that runs goes on. To a device in FOOTING_HOLD it is the power cycle that restarts it at step 1 (R325). -/
def doVinReturn (s : State) : State :=
  if s.ftg.vinPresent ∨ s.ftg.phase = .powerdown then s
  else if s.st.devStep = 15 ∧ s.ftg.phase = .holdup ∧ s.ftg.enabled = 0 then s.powerOn
  else { s with ftg := { s.ftg with vinPresent := true, vinOk := true, onBank := false, inPath := true, phase := if s.ftg.phase = .holdup then (if s.st.devStep = 1 then .sequencing else .running) else s.ftg.phase } }
def execVinReturn (s : State) : Host.Outcome State Fault Refusal := .next (doVinReturn s)

/-- BANK_CUTOFF (R372): below the cut-off with VIN_HOLD absent. -/
def doBankCutoff (s : State) : State := if s.ftg.onBank ∧ ¬ s.ftg.vinPresent then ({ s with ftg := { s.ftg with bankMv := 5999 } }).powerDown else s
def execBankCutoff (s : State) : Host.Outcome State Fault Refusal := .next (doBankCutoff s)

/-- VAON_LOSS (R352): every enable and gate is released; the always-on domain has lost its state. -/
def doVaonLoss (s : State) : State := s.wipe { phase := .powerdown } { laneSeen := s.st.laneSeen, jtag := s.st.jtag } {}
def execVaonLoss (s : State) : Host.Outcome State Fault Refusal := .next (doVaonLoss s)

/-- The bank falls below the ready level: with a bay ENERGISED and VIN_HOLD present, `hu_low` and a hold-up event (R371). -/
def State.bankLow (s : State) : State :=
  if !s.huReady then s else
  let s1 := { s with ftg := { s.ftg with bankMv := s.ftgWord 5 1 - 1 } }
  if s.anyEnergised ∧ s.ftg.vinPresent then ({ s1 with ftg := { s1.ftg with huLow := true } }).raise { kind := .holdupLow, unit := noUnit } else s1

/-- The footing's measurement of the bank, where one falls into the tick (R379, log 118). -/
def State.measureBank (s : State) (mv : Option Nat) : State :=
  match mv with
  | none => s
  | some v =>
    let s1 := if v < s.ftgWord 5 1 then s.bankLow else s
    { s1 with ftg := { s1.ftg with bankMv := Nat.min v 0xFFFF } }

/-- BANK_BELOW_READY (R371). -/
def doBankBelowReady (s : State) : State := s.bankLow
def execBankBelowReady (s : State) : Host.Outcome State Fault Refusal := .next (doBankBelowReady s)

/-- A charger state, and a level the bank is known to have crossed. -/
def State.setCharger (s : State) (c : ChargerPhase) (mv : Nat) : State := { s with ftg := { s.ftg with charger := c, bankMv := mv } }

/-- CHARGER_PRECHARGE (R368). -/
def doChargerPrecharge (s : State) : State := if s.ftg.charger = .off ∧ s.chargerMay then s.setCharger .precharge s.ftg.bankMv else s
def execChargerPrecharge (s : State) : Host.Outcome State Fault Refusal := .next (doChargerPrecharge s)

/-- CHARGER_CC (R368): at 2.0 V, or at once after a switch back above it. -/
def doChargerCc (s : State) : State :=
  if s.chargerMay && (s.ftg.charger == .precharge || (s.ftg.charger == .off && decide (2000 ≤ s.ftg.bankMv))) then s.setCharger .cc (Nat.max 2000 s.ftg.bankMv) else s
def execChargerCc (s : State) : Host.Outcome State Fault Refusal := .next (doChargerCc s)

/-- CHARGER_CV (R368): at the float level, or from DONE 0.3 V below it. -/
def doChargerCv (s : State) : State :=
  if s.ftg.charger = .cc then s.setCharger .cv (s.ftgWord 5 0)
  else if s.ftg.charger = .done then s.setCharger .cv (s.ftgWord 5 0 - 300) else s
def execChargerCv (s : State) : Host.Outcome State Fault Refusal := .next (doChargerCv s)

/-- CHARGER_DONE (R368). -/
def doChargerDone (s : State) : State := if s.ftg.charger = .cv then s.setCharger .done (s.ftgWord 5 0) else s
def execChargerDone (s : State) : Host.Outcome State Fault Refusal := .next (doChargerDone s)

/-- CHARGER_FAULT (R367, R368). -/
def doChargerFault (s : State) : State :=
  if s.ftg.charger = .off ∨ s.ftg.charger = .fault then s
  else ({ s with ftg := { s.ftg with charger := .fault, chgFault := true } }).raise { kind := .chargerFault, unit := noUnit }
def execChargerFault (s : State) : Host.Outcome State Fault Refusal := .next (doChargerFault s)

/-- CAP_ESTIMATE (R369): I_cc × Δt / 3.0 V in 0.01 F, from the time between 10.0 V and 13.0 V. -/
def doCapEstimate (ms : Nat) (s : State) : State :=
  if s.ftg.charger ≠ .cc then s else
  let est := Nat.min 0xFFFE (divRne (s.ftgWord 4 0 * ms : Nat) 30000).toNat
  let low := decide (est * 5 < s.ftgWord 6 0 * 4)
  let s1 := { s with ftg := { s.ftg with capEst := est, bankMv := 13000, capLow := s.ftg.capLow || low } }
  if low then s1.raise { kind := .capacityLow, unit := noUnit, detail := est } else s1
def execCapEstimate (ms : Nat) (s : State) : Host.Outcome State Fault Refusal := .next (doCapEstimate ms s)

/-! ### I²C target and commands (R374, R431) -/

/-- FOOTING_I2C_READ (R374): the page-1 register at the word index, in every footing state with VAON. -/
def doFootingI2cRead (index : Nat) (s : State) : State := { s with ftg := { s.ftg with i2cIndex := index % 65536, i2cRead := s.footingReg (4 * (index % 65536)) % pow32 } }
def execFootingI2cRead (index : Nat) (s : State) : Host.Outcome State Fault Refusal := .next (doFootingI2cRead index s)

/-- The FOOTING_CONFIG words in force, in the order of its rows. -/
def State.ftgConfig (s : State) : List Nat := ([(0, 22), (1, 22), (2, 14), (3, 1), (4, 1), (5, 2), (6, 1)].map (fun r => (List.range r.2).map (s.ftgWord r.1))).flatten

/-- `FOOTING_STATUS_READ`. -/
def doFootingStatusRead (h : Hdr) (s : State) : State :=
  s.host h 0x0202 (fun t => (t, okAns (((List.range 8).map (fun k => le 4 (t.footingReg (4 * k)))).flatten ++ ((List.range 44).map (fun k => le 4 (t.footingReg (0x100 + 4 * k)))).flatten ++
    (t.ftgConfig.map (le 4)).flatten)))
def execFootingStatusRead (h : Hdr) (s : State) : Host.Outcome State Fault Refusal := .next (doFootingStatusRead h s)

/-- `FOOTING_COUNTERS_CLEAR` (R373): at the end of the tick. -/
def footingCountersClear (channels : Nat) (s : State) : State × Ans :=
  ((List.range 22).foldl (fun t c => if channels.testBit c then t.modChan c (fun x => { x with clearDue := true }) else t) s, okAns)
def doFootingCountersClear (h : Hdr) (channels : Nat) (s : State) : State := s.hostJ (.footingCountersClear h channels) h 0x0203 (footingCountersClear channels)
def execFootingCountersClear (h : Hdr) (channels : Nat) (s : State) : Host.Outcome State Fault Refusal := .next (doFootingCountersClear h channels s)

/-- `FOOTING_RAIL_RESTORE` (R363): the gate closes, and the die starts as after a retry. A tile the variant does not have is out of range (R5). -/
def footingRailRestore (c : Nat) (s : State) : State × Ans :=
  let x := s.chan c
  if 14 ≤ c ∨ (c < 12 ∧ s.nTiles ≤ c) then (s, refuseAns stRange 0x0204 255 c)
  else if !x.latched || x.thermal || (decide (c < 12) && (s.tile (neighbour c)).phase != .carrying) then (s, refuseAns stState 0x0204 255 c)
  else (s.modChan c (fun x => { x with latched := false, gate := true, checking := true }), okAns)
def doFootingRailRestore (h : Hdr) (channel : Nat) (s : State) : State := s.hostJ (.footingRailRestore h channel) h 0x0204 (footingRailRestore channel)
def execFootingRailRestore (h : Hdr) (channel : Nat) (s : State) : Host.Outcome State Fault Refusal := .next (doFootingRailRestore h channel s)

end Sys2Proof.Machine
end

