-- ==== Sys2Proof/Machine/Fuses.lean ====
section
/-! DEFINITION. Fuses and identity: loading, the MAINTAIN state, programming, locks, the journal, identity (17, 15 R442). -/

namespace Sys2Proof.Machine
open Sys2Proof

/-! ### The regions (R476) -/

/-- Words of a region, the last its seal (R476). -/
def fuseSize (r : Nat) : Nat := ([64, 128, 64, 8, 16, 32] : List Nat).getD r 0

/-- The word has content or is the seal (R476). -/
def fuseNamed (r w : Nat) : Bool :=
  decide (w + 1 = fuseSize r) ||
  (match r with
   | 0 => decide (w < 63)
   | 1 => decide (w < 3) || (decide (4 ≤ w) && decide (w < 64))
   | 2 => decide (w < 32)
   | 3 => decide (w < 1)
   | 4 => decide (w < 8)
   | 5 => decide (w < 31)
   | _ => false)

/-- Bits of `d` that are 0 in `w`: those that need a pulse. -/
def toBlow (w d : Nat) : Nat := countB 32 (fun k => d.testBit k && !w.testBit k)

/-- `w` holds a 1 where `d` holds a 0. -/
def clashes (w d : Nat) : Bool := (List.range 32).any (fun k => w.testBit k && !d.testBit k)

/-- Blow the bits of the data, word by word. -/
def Fuses.blow (f : Fuses) (r off : Nat) (data : List Nat) : Fuses :=
  { f with words := iter data.length (fun i (t : Tab Nat) => tmod 0 t (r * 128 + off + i) (fun w => w ||| data.getD i 0 % pow32)) f.words }

def Fuses.entry (f : Fuses) (r e : Nat) : JEntry := tget {} f.journal (r * 16 + e)

def Fuses.setEntry (f : Fuses) (r e : Nat) (j : JEntry) : Fuses := { f with journal := tset {} f.journal (r * 16 + e) j }

/-- The entry the next command of the region takes, 16 when the journal is full (R482). -/
def Fuses.nextEntry (f : Fuses) (r : Nat) : Nat := countB 16 (fun e => (f.entry r e).start)

/-- The seal: the CRC-32 dropped every other word (R479). -/
def Fuses.sealWord (f : Fuses) (r : Nat) : Nat := crc32 (wordBytes (f.read r 0 (fuseSize r - 1)))

/-! ### FUSE_LOAD (R326, R478, R479, R482) -/

/-- The journal event (R488). -/
def journalEvt (r e : Nat) (marked : Bool) : Evt := { kind := .fuseJournal, unit := noUnit, detail := r + 16 * e + 256 * bit marked }

/-- An entry is marked: its words are spoiled (R482). -/
def State.markEntry (s : State) (r e : Nat) : State :=
  ({ s with fu := { s.fu.setEntry r e { s.fu.entry r e with fin := true, marked := true } with marked := true } }).raise (journalEvt r e true)

/-- An entry that has a start bit and no end bit is resumed from the flash copy or marked (R482). Those of `jt.weak` fail the verify of their resumption; those of `jt.stuck`, whose end bit does not hold, stay open (R479). -/
def State.settleEntry (s : State) (jt : JournalTest) (r e : Nat) : State :=
  let j := s.fu.entry r e
  if !j.start || j.fin || jt.stuck.contains (r * 16 + e) then s
  else
    let now := s.fu.read r j.off j.words
    match j.copy with
    | some (data, crc) =>
      if crc = j.crc ∧ crc16 (wordBytes data) = j.crc ∧ (List.range j.words).all (fun i => !clashes (now.getD i 0) (data.getD i 0)) then
        if jt.weak.contains (r * 16 + e) then State.markEntry { s with fu := s.fu.blow r j.off data } r e
        else ({ s with fu := (s.fu.blow r j.off data).setEntry r e { j with fin := true, resumed := true } }).raise (journalEvt r e false)
      else s.markEntry r e
    | none => s.markEntry r e

/-- Every open entry of the journal. -/
def State.settleJournal (s : State) (jt : JournalTest) : State := (List.range 96).foldl (fun (t : State) k => t.settleEntry jt (k / 16) (k % 16)) s

/-- The die reports an ID other than the one recorded (R476, R479). -/
def Fuses.dieDiffers (f : Fuses) (q : Nat × Nat) : Bool := decide (q.1 < 14) && q.2 != getLe (wordBytes (f.read 1 (4 + 2 * q.1) 2)) 0 8

/-- The public key derived from KEYS differs from the one recorded (R479, R485). -/
def Fuses.keyDiffers (f : Fuses) : Bool := p256Public f.signingKey != some (wordBytes (f.read 1 32 16))

/-- A region fails its verification (R479). `ids` are the IDs that dies report, with the die. -/
def Fuses.fails (f : Fuses) (ids : List (Nat × Nat)) (r : Nat) : Bool :=
  (f.lock r 0 && decide ((f.read r (fuseSize r - 1) 1).headD 0 ≠ f.sealWord r)) ||
  (List.range 16).any (fun e => (f.entry r e).start && !(f.entry r e).fin) ||
  (decide (r = 1) && ids.any f.dieDiffers) ||
  (decide (r = 2) && (f.keyDiffers || (f.read 2 8 8).all (fun w => w == 0))) ||
  (decide (r = 3) && decide (2 ≤ bits (tget 0 f.words 384) 2 2))

/-- The marginal bits of a region are counted and reported (R478). -/
def State.countMarginal (s : State) (r n : Nat) : State :=
  let s1 := { s with fu := { s.fu with marginal := tset 0 s.fu.marginal r (satU 16 n), marginalSeen := s.fu.marginalSeen || decide (0 < n) } }
  if n = 0 then s1 else s1.raise { kind := .fuseMarginal, unit := noUnit, detail := r + 65536 * satU 16 n }

/-- FUSE_LOAD (R326, R479, R482): step 2. `marginal` counts the bits that read 1 at the normal threshold only, per region. -/
def doFuseLoad (marginal : List Nat) (ids : List (Nat × Nat)) (jt : JournalTest) (s : State) : State :=
  if s.st.devStep ≠ 2 then s
  else
    let s1 := ((List.range 6).foldl (fun (t : State) r => t.countMarginal r (marginal.getD r 0)) s).settleJournal jt
    let bad := (List.range 6).filter (s1.fu.fails ids)
    let s2 := { s1 with fu := { s1.fu with fail := sumN (bad.map (fun r => 2 ^ r)) } }
    let s3 := { s2 with fu := { s2.fu with root := s2.fu.rootInUse } }
    match bad with
    | [] => { s3 with st := { s3.st with devStep := 3 } }
    | r :: _ => if r < 4 then s3.stopFault (0x30 + r) else { s3.setFault (0x30 + r) with st := { (s3.setFault (0x30 + r)).st with devStep := 3 } }
def execFuseLoad (marginal : List Nat) (ids : List (Nat × Nat)) (journal : JournalTest) (s : State) : Host.Outcome State Fault Refusal := .next (doFuseLoad marginal ids journal s)

/-! ### Identity and status (R442, R487) -/

/-- `IDENTITY_READ` (R487). -/
def doIdentityRead (h : Hdr) (s : State) : State :=
  s.host h 0x0D01 (fun t => (t, okAns (wordBytes (t.fu.read 1 0 3) ++ [t.variant, 0, 0, 0] ++ (match t.fu.plantId with | some p => p | none => List.replicate 16 0) ++
    wordBytes (t.fu.read 1 4 28))))
def execIdentityRead (h : Hdr) (s : State) : Host.Outcome State Fault Refusal := .next (doIdentityRead h s)

/-- The journal's state of a region: 0 clean, 1 resumed, 2 marked (R442, R482). -/
def Fuses.journalState (f : Fuses) (r : Nat) : Nat :=
  let es := (List.range 16).map (f.entry r)
  if es.any (fun e => e.marked) then 2 else if es.any (fun e => e.resumed) then 1 else 0

/-- `FUSE_STATUS_READ` (R442). -/
def doFuseStatusRead (h : Hdr) (s : State) : State :=
  s.host h 0x0D02 (fun t => (t, okAns (((List.range 6).map (fun r =>
    [b1 (t.fu.lock r 0) 0 + b1 (t.fu.lock r 1) 1, t.fu.journalState r] ++ le 2 (tget 0 t.fu.marginal r))).flatten)))
def execFuseStatusRead (h : Hdr) (s : State) : Host.Outcome State Fault Refusal := .next (doFuseStatusRead h s)

/-! ### The MAINTAIN state (R442) -/

/-- Entering is refused while a bay is SYNCING or ENERGISED, or a safe stop or transfer runs (R442). -/
def maintEnter (slot : Nat) (s : State) : State × Ans :=
  if s.allBays.any (fun b => (s.bayStart b).phase == .syncing || (s.bayStart b).phase == .energised) || s.stopping || s.rd.xfer.isSome ||
      (s.fu.maint && decide (s.fu.owner ≠ slot)) then (s, refuseAns stState 0x0D03 255 0)
  else ({ s with fu := { s.fu with maint := true, owner := slot, leaveDue := false } }, okAns)
def doFuseMaintEnter (h : Hdr) (s : State) : State := s.hostJ (.fuseMaintEnter h) h 0x0D03 (maintEnter h.slot)
def execFuseMaintEnter (h : Hdr) (s : State) : Host.Outcome State Fault Refusal := .next (doFuseMaintEnter h s)

def doFuseMaintExit (h : Hdr) (s : State) : State := s.hostJ (.fuseMaintExit h) h 0x0D04 (fun t => ({ t with fu := t.fu.leaveMaint }, okAns))
def execFuseMaintExit (h : Hdr) (s : State) : Host.Outcome State Fault Refusal := .next (doFuseMaintExit h s)

/-! ### FUSE_READ (R477) -/

/-- The region and the words lie in the array: a status and the first word. -/
def fuseSpan (region offset words max : Nat) : Nat × Nat :=
  if 6 ≤ region then (stRange, 0)
  else if words = 0 ∨ max < words ∨ offset % 32 ≠ 0 ∨ fuseSize region < offset / 32 + words then (stRange, 0)
  else (0, offset / 32)

def fuseRead (region offset words : Nat) (s : State) : State × Ans :=
  let p := fuseSpan region offset words 64
  if p.1 ≠ 0 then (s, refuseAns p.1 0x0D05 255 region)
  else if s.fu.lock region 1 then (s, refuseAns stState 0x0D05 255 region)
  else (s, okAns (wordBytes (s.fu.read region p.2 words)))
def doFuseRead (h : Hdr) (region offset words : Nat) (s : State) : State := s.host h 0x0D05 (fuseRead region offset words)
def execFuseRead (h : Hdr) (region offset words : Nat) (s : State) : Host.Outcome State Fault Refusal := .next (doFuseRead h region offset words s)

/-! ### FUSE_PROGRAM (R480, R482, R484) -/

/-- A pulse in word `w` of region `r` from `now` to `d` is closed to hosts: a seal, KEYS 0 to 15, a POLICY bit but the preference (R480), or a spoiled word (R482). -/
def Fuses.closedPulse (f : Fuses) (r w now d : Nat) : Bool :=
  decide (0 < toBlow now d) &&
  (decide (w + 1 = fuseSize r) || (decide (r = 2) && decide (w < 16)) || (decide (r = 3) && decide (0 < toBlow (now ||| 2) d)) || f.spoiled r w)

/-- A command that touches a place writes it whole (R480). -/
def partPlace (off n lo len : Nat) : Bool := decide (off < lo + len) && decide (lo < off + n) && !(decide (off ≤ lo) && decide (lo + len ≤ off + n))

/-- The refusals before any pulse: a status and the word named (R476, R480, R482, R484). -/
def Fuses.refuses (f : Fuses) (r off : Nat) (data : List Nat) : Nat × Nat :=
  let n := data.length
  let ws := List.range n
  if ws.any (fun i => !fuseNamed r (off + i)) then (stRange, off + ((ws.filter (fun i => !fuseNamed r (off + i))).headD 0))
  else if f.lock r 0 then (stState, off)
  else
    let now := f.read r off n
    match ws.filter (fun i => f.closedPulse r (off + i) (now.getD i 0) (data.getD i 0)) with
    | i :: _ => (stState, off + i)
    | [] =>
      match ws.filter (fun i => clashes (now.getD i 0) (data.getD i 0)) with
      | i :: _ => (stState, off + i)
      | [] =>
        if (decide (r = 2) && (partPlace off n 16 8 || partPlace off n 24 8)) || (decide (r = 4) && (partPlace off n 0 4 || partPlace off n 4 4)) then (stBadParam, off)
        else if r = 4 ∧ off < 8 ∧ 4 < off + n ∧ f.usable 4 0 4 then (stState, 4)
        else if 16 ≤ f.nextEntry r then (stState, off)
        else (0, 0)

/-- The check of a command in the MAINTAIN state: a status, the word named, and the first word. -/
def State.fuseCheck (s : State) (slot region offset words : Nat) (data : List Nat) : Nat × Nat × Nat :=
  let p := fuseSpan region offset words 16
  if p.1 ≠ 0 then (p.1, region, 0)
  else if !s.fu.maint || decide (s.fu.owner ≠ slot) || s.fu.prog.isSome then (stState, region, 0)
  else let q := s.fu.refuses region p.2 data; (q.1, q.2, p.2)

/-- The journal's start fields and the flash copy are written; the pulses begin, and LDO_FUSE rises to 2.5 V for them (R365, R480, R482). -/
def State.openEntry (s : State) (h : Hdr) (region off : Nat) (data : List Nat) : State :=
  let e := s.fu.nextEntry region
  let c := crc16 (wordBytes data)
  { s with fu := { s.fu.setEntry region e { start := true, off := off, words := data.length, crc := c, copy := some (data, c) } with
    prog := some { region := region, entry := e, off := off, data := data, slot := h.slot, hdr := h } }
           ftg := { s.ftg with ldoFuse := 2500 } }

/-- `FUSE_PROGRAM`: refused at once, or its reply is written when the sequencer has finished. -/
def doFuseProgram (h : Hdr) (region offset words : Nat) (data : List Nat) (s : State) : State :=
  let d := data.take words
  let c := s.fuseCheck h.slot region offset words d
  if c.1 ≠ 0 then s.host h 0x0D06 (fun t => (t, refuseAns c.1 0x0D06 255 c.2.1)) else (s.openEntry h region c.2.2 d).journal (.fuseProgram h region offset words data)
def execFuseProgram (h : Hdr) (region offset words : Nat) (data : List Nat) (s : State) : Host.Outcome State Fault Refusal := .next (doFuseProgram h region offset words data s)

/-! ### FUSE_PROGRAM_COMPLETE (R480 to R483) -/

/-- Bits named by `word × 32 + bit` that the command blew. -/
def Prog.blown (p : Prog) (now : List Nat) (k : Nat) : Bool := (p.data.getD (k / 32) 0).testBit (k % 32) && !(now.getD (k / 32) 0).testBit (k % 32)

/-- FUSE_PROGRAM_COMPLETE: `bad` lists bits the command blew that fail the margin read after the second pulse, `weak` bits that were 1 before and fail it. -/
def doFuseProgramComplete (bad weak : List Nat) (s : State) : State :=
  match s.fu.prog with
  | none => s
  | some p =>
    let now := s.fu.read p.region p.off p.data.length
    let n := sumN ((List.range p.data.length).map (fun i => toBlow (now.getD i 0) (p.data.getD i 0)))
    let nBad := countB (32 * p.data.length) (fun k => bad.contains k && p.blown now k)
    let nWeak := countB (32 * p.data.length) (fun k => weak.contains k && (now.getD (k / 32) 0).testBit (k % 32))
    let ok := nBad == 0
    let dropped := decide (p.slot = 8)
    let j := s.fu.entry p.region p.entry
    let f1 := (s.fu.blow p.region p.off p.data).setEntry p.region p.entry { j with fin := true, marked := !ok, resumed := ok && dropped }
    let f2 := { f1 with prog := none, marked := f1.marked || !ok, marginalSeen := f1.marginalSeen || decide (0 < nBad + nWeak) }
    let f3 := if f2.leaveDue then { f2 with maint := false, leaveDue := false } else f2
    let s1 := { s with fu := f3, ftg := { s.ftg with ldoFuse := 1800 } }
    let s2 := if 0 < nBad + nWeak then s1.raise { kind := .fuseMarginal, unit := noUnit, detail := p.region + 65536 * (nBad + nWeak) } else s1
    let s3 := if !ok || dropped then s2.raise (journalEvt p.region p.entry (!ok)) else s2.raise { kind := .fuseProgrammed, unit := noUnit, detail := p.region + 256 * p.off + 65536 * n }
    if dropped then s3
    else s3.host p.hdr 0x0D06 (fun t => (t, if ok then okAns (le 2 n ++ le 2 nWeak) else { status := stVerify }))
def execFuseProgramComplete (bad weak : List Nat) (s : State) : Host.Outcome State Fault Refusal := .next (doFuseProgramComplete bad weak s)

/-- At a tick's start: a root that has become usable takes effect, and one that is no longer usable ends; root 1 closes root 0's slots at the end of this tick (R483). -/
def State.takeRoot (s : State) : State :=
  if s.fu.root = s.fu.rootInUse then s
  else
    let s1 := { s with fu := { s.fu with root := s.fu.rootInUse, rotateDue := s.fu.rotateDue || decide (s.fu.rootInUse = 2) } }
    if s.fu.rootInUse = 0 then s1 else s1.raise { kind := .rootTaken, unit := noUnit, detail := s.fu.rootInUse - 1 }

/-! ### FUSE_LOCK (R477, R479) -/

/-- The region's seal is programmed (R479). -/
def Fuses.blowSeal (f : Fuses) (r : Nat) : Fuses := f.blow r (fuseSize r - 1) [f.sealWord r]

/-- A lock's three fuses are blown (R476). -/
def Fuses.blowLock (f : Fuses) (r kind : Nat) : Fuses := { f with locks := tset 0 f.locks (r * 2 + kind) 7 }

/-- `FUSE_LOCK` (R477, R479): a write lock follows the seal and its margin verify, whose result is free (DEDUCED, log 67): where the seal fails it, no lock is blown and the answer is ST_VERIFY. -/
def fuseLock (slot r kind : Nat) (s : State) : State × Ans :=
  if 6 ≤ r ∨ 2 ≤ kind then (s, refuseAns stRange 0x0D07 255 r)
  else if !s.fu.maint || decide (s.fu.owner ≠ slot) || s.fu.prog.isSome then (s, refuseAns stState 0x0D07 255 r)
  else if kind = 1 ∧ (r = 0 ∨ r = 1 ∨ r = 3) then (s, refuseAns stState 0x0D07 255 r)
  else if s.fu.lock r kind then (if kind = 0 then (s, refuseAns stState 0x0D07 255 r) else (s, okAns))
  else if kind = 1 then (({ s with fu := s.fu.blowLock r 1 }).raise { kind := .fuseLock, unit := noUnit, detail := r + 256 }, okAns)
  else
    let d := s.free 1
    let s1 := { d.2 with fu := s.fu.blowSeal r }
    if d.1 = 0 then (({ s1 with fu := s1.fu.blowLock r 0 }).raise { kind := .fuseLock, unit := noUnit, detail := r }, okAns) else (s1, { status := stVerify })
def doFuseLock (h : Hdr) (region kind : Nat) (s : State) : State := s.hostJ (.fuseLock h region kind) h 0x0D07 (fuseLock h.slot region kind)
def execFuseLock (h : Hdr) (region kind : Nat) (s : State) : Host.Outcome State Fault Refusal := .next (doFuseLock h region kind s)

end Sys2Proof.Machine
end

