-- ==== Sys2Proof/Machine/Registers.lean ====
section
/-! DEFINITION. BAR0 accesses: access codes, staged fields and commits, the unit-record window (00 R18 to R23, 19). -/

namespace Sys2Proof.Machine
open Sys2Proof

/-! ### Access codes (R20) -/

/-- A W1C bit: cleared where the word written holds a 1. -/
def keep (v k : Nat) (x : Bool) : Bool := x && !v.testBit k

/-- BAD_ACCESS (R18, R523). -/
def doBadAccess (write : Bool) (s : State) : State :=
  { s with sys := { s.sys with badAccess := true, badCount := incSat 16 s.sys.badCount, busRead := if write then s.sys.busRead else 0 } }
def execBadAccess (write : Bool) (s : State) : Host.Outcome State Fault Refusal := .next (doBadAccess write s)

/-- A word of BAR0 (R18). -/
def wordAligned (offset : Nat) : Bool := offset % 4 == 0 && decide (offset < 0x10000)

/-- Clear the RC field of a register that has one. -/
def State.clearRc (s : State) (o : Nat) : State :=
  if o = 0x0008 then { s with sys := { s.sys with badCount := 0 } }
  else if 0x2010 ≤ o ∧ o ≤ 0x2044 then { s with thm := { s.thm with dies := tmod {} s.thm.dies ((o - 0x2010) / 4) (fun x => { x with peak := none }) } }
  else if 0xB100 ≤ o ∧ o ≤ 0xB13C ∧ o % 8 = 4 then { s with lg := { s.lg with drop := tset 0 s.lg.drop ((o - 0xB100) / 8) 0 } }
  else if 0xC100 ≤ o ∧ o ≤ 0xC2FC ∧ o % 64 = 0x34 then { s with hs := { s.hs with slots := tmod {} s.hs.slots ((o - 0xC100) / 64) (fun x => { x with refused := 0 }) } }
  else if 0xC100 ≤ o ∧ o ≤ 0xC2FC ∧ o % 64 = 0x38 then { s with hs := { s.hs with slots := tmod {} s.hs.slots ((o - 0xC100) / 64) (fun x => { x with authFail := 0 }) } }
  else s

/-- RC_READ (R20, R21): the read returns the value in force and clears the RC field. -/
def doRcRead (offset : Nat) (s : State) : State :=
  if wordAligned offset then let v := s.reg offset; let t := s.clearRc offset; { t with sys := { t.sys with busRead := v } } else doBadAccess false s
def execRcRead (offset : Nat) (s : State) : Host.Outcome State Fault Refusal := .next (doRcRead offset s)

/-! ### STG fields (R22, R518) -/

/-- The staged ring field at an offset of a slot's block (R418). -/
def Rings.write (r : Rings) (o v : Nat) : Rings :=
  let lo := fun (x : Nat) => x / pow32 * pow32 + v / 64 % 2 ^ 26 * 64
  let hi := fun (x : Nat) => x % pow32 + v * pow32
  match o with
  | 0x00 => { r with cmdBase := lo r.cmdBase }
  | 0x04 => { r with cmdBase := hi r.cmdBase }
  | 0x08 => { r with rplBase := lo r.rplBase }
  | 0x0C => { r with rplBase := hi r.rplBase }
  | 0x10 => { r with evqBase := lo r.evqBase }
  | 0x14 => { r with evqBase := hi r.evqBase }
  | 0x18 => { r with wb := lo r.wb }
  | 0x1C => { r with wb := hi r.wb }
  | 0x20 => { r with cmdOrder := bits v 0 4, rplOrder := bits v 4 4, evqOrder := bits v 8 4, valid := v.testBit 12 }
  | _ => r

/-- A write to an STG field sets its staged copy; any other offset has no staged field. -/
def doStagedRegisterWrite (offset value : Nat) (s : State) : State :=
  let v := value % pow32
  if !wordAligned offset then doBadAccess true s
  else if offset = 0x0030 then { s with sys := { s.sys with gpioDirStg := v % 65536, pend0 := true, late0 := s.sys.gpioCommit.isSome } }
  else if offset = 0x003C then { s with sys := { s.sys with permitEnStg := v.testBit 0, pend0 := true, late0 := s.sys.gpioCommit.isSome } }
  else if offset = 0x8000 then { s with sys := { s.sys with urUnitStg := v, pend8 := true, late8 := s.sys.urCommit.isSome } }
  else if offset = 0x8004 then { s with sys := { s.sys with urScopeStg := v % 2 + v / 256 * 256, pend8 := true, late8 := s.sys.urCommit.isSome } }
  else if 0xC100 ≤ offset ∧ offset ≤ 0xC2FC ∧ offset % 64 ≤ 0x20 then
    let i := (offset - 0xC100) / 64
    { s with hs := { s.hs with slots := tmod {} s.hs.slots i (fun x => { x with staged := x.staged.write (offset % 64) v })
                               stagedSlots := setBit s.hs.stagedSlots i true
                               lateSlots := if s.hs.commitSet.isSome then setBit s.hs.lateSlots i true else s.hs.lateSlots } }
  else s
def execStagedRegisterWrite (offset value : Nat) (s : State) : Host.Outcome State Fault Refusal := .next (doStagedRegisterWrite offset value s)

/-! ### Page 0 (R518 to R525) -/

/-- The page-0 commit lands; a change of `sync_permit_en` drives GPIO11 low for one tick (R525). -/
def State.landPage0 (s : State) : State :=
  match s.sys.gpioCommit with
  | none => s
  | some (_, dir, permit) =>
    { s with sys := { s.sys with gpioDir := dir, permitEn := permit, permitLow := if permit = s.sys.permitEn then s.sys.permitLow else 1, gpioFresh := false
                                 pend0 := s.sys.late0, late0 := false, gpioCommit := none } }

/-- SYS_COMMIT (R519): with nothing staged it has no effect. -/
def doSysCommit (value : Nat) (s : State) : State :=
  if value % 2 = 0 ∨ ¬ s.sys.pend0 then s
  else
    let s1 := { s with sys := { s.sys with gpioCommit := some (s.absTick, s.sys.gpioDirStg, s.sys.permitEnStg), late0 := false } }
    if s.tb.running then s1 else s1.landPage0
def execSysCommit (value : Nat) (s : State) : Host.Outcome State Fault Refusal := .next (doSysCommit value s)

/-- SYS_COMMIT_LANDING (R519): at the first tick boundary after the write. -/
def doSysCommitLanding (s : State) : State :=
  match s.sys.gpioCommit with
  | some (t, _) => if t ≠ s.absTick then s.landPage0 else s
  | none => s
def execSysCommitLanding (s : State) : Host.Outcome State Fault Refusal := .next (doSysCommitLanding s)

/-! ### Page 12 (R403, R518 to R520) -/

/-- A slot's staged fields pass the commit's checks: the bases are aligned, the orders in range, and a changed slot is not open on PCIe (R403). -/
def Slot.ringsOk (sl : Slot) (r : Rings) : Bool :=
  r == sl.rings ||
  (r.cmdBase % 64 == 0 && r.rplBase % 64 == 0 && r.evqBase % 64 == 0 && r.wb % 64 == 0 && decide (1 ≤ r.cmdOrder) && decide (r.cmdOrder ≤ 8) &&
   decide (1 ≤ r.rplOrder) && decide (r.rplOrder ≤ 8) && decide (4 ≤ r.evqOrder) && decide (r.evqOrder ≤ 12) && sl.phase != .pcie)

/-- The page-12 commit is refused whole: `commit_err`, vector 16, and the event that names the first failing slot (R403, R405, R414, R520). -/
def State.refuseCommit (s : State) (i : Nat) : State :=
  (({ s with hs := { s.hs with commitErr := true, commitSet := none, lateSlots := 0 } }).vector16 3 s.hs.commitErr).raiseTo i
    { kind := .commitError, unit := noUnit, detail := i }

/-- The page-12 commit lands: every staged ring field together, or none. -/
def State.landPage12 (s : State) : State :=
  match s.hs.commitSet with
  | none => s
  | some (_, set) =>
    match (List.range 8).filter (fun i => !(s.slot i).ringsOk (tget {} set i)) with
    | i :: _ => s.refuseCommit i
    | [] =>
      { s with hs := { s.hs with slots := iter 8 (fun i (t : Tab Slot) => tmod {} t i (fun x => { x with rings := tget {} set i })) s.hs.slots
                                 stagedSlots := s.hs.lateSlots, lateSlots := 0, commitSet := none } }

/-- HS_COMMIT (R403, R519): with nothing staged it has no effect. -/
def doHsCommit (value : Nat) (s : State) : State :=
  if value % 2 = 0 ∨ s.hs.stagedSlots = 0 then s
  else
    let set := iter 8 (fun i (t : Tab Rings) => tset {} t i (s.slot i).staged) []
    let s1 := { s with hs := { s.hs with commitSet := some (s.absTick, set), lateSlots := 0 } }
    if s.tb.running then s1 else s1.landPage12
def execHsCommit (value : Nat) (s : State) : Host.Outcome State Fault Refusal := .next (doHsCommit value s)

/-- HS_COMMIT_LANDING (R403, R519). -/
def doHsCommitLanding (s : State) : State :=
  match s.hs.commitSet with
  | some (t, _) => if t ≠ s.absTick then s.landPage12 else s
  | none => s
def execHsCommitLanding (s : State) : Host.Outcome State Fault Refusal := .next (doHsCommitLanding s)

/-! ### Page 8: the unit-record window (R531 to R535) -/

/-- Why a fill is refused, 0 where it starts (R534). -/
def fillStatus (nb unit scope : Nat) : Nat :=
  let u := checkUid nb unit
  let members := memberCount nb u.2
  if u.1 = stBadParam ∨ (scope.testBit 0 ∧ u.2.level = 0) then stBadParam
  else if u.1 ≠ 0 then u.1
  else if scope.testBit 0 ∧ (bits scope 8 8 = 0 ∨ 48 < bits scope 8 8 ∨ members ≤ bits scope 16 16) then stRange
  else 0

/-- The page-8 commit lands: it ends a fill under way, and starts or refuses its own (R532, R534). -/
def State.landPage8 (s : State) : State :=
  match s.sys.urCommit with
  | none => s
  | some (_, unit, scope) =>
    let st := fillStatus s.nBays unit scope
    let p := { s.sys with urCommit := none, urFill := none, urCopy := none, late8 := false }
    if st ≠ 0 then { s with sys := { p with urState := 3, urErr := st } }
    else { s with sys := { p with urUnit := unit, urScope := scope, pend8 := s.sys.late8, urState := 1, urFill := some s.absTick } }

/-- UR_COMMIT (R519): it always starts a fill. -/
def doUrCommit (value : Nat) (s : State) : State :=
  if value % 2 = 0 then s
  else
    let s1 := { s with sys := { s.sys with urCommit := some (s.absTick, s.sys.urUnitStg, s.sys.urScopeStg), late8 := false } }
    if s.tb.running then s1 else s1.landPage8
def execUrCommit (value : Nat) (s : State) : Host.Outcome State Fault Refusal := .next (doUrCommit value s)

/-- UR_COMMIT_LANDING (R519, R532). -/
def doUrCommitLanding (s : State) : State :=
  match s.sys.urCommit with
  | some (t, _) => if t ≠ s.absTick then s.landPage8 else s
  | none => s
def execUrCommitLanding (s : State) : Host.Outcome State Fault Refusal := .next (doUrCommitLanding s)

/-- UR_FILL_PUBLISH (R533, R535): the copied records, their tick and their status, in one update. -/
def doUrFillPublish (s : State) : State :=
  match s.sys.urFill, s.sys.urCopy with
  | some t, some bytes =>
    let u := (checkUid s.nBays s.sys.urUnit).2
    let f := s.sys.fillSize s.nBays u
    let past := bits s.sys.urScope 16 16 + f
    { s with sys := { s.sys with
        urState := 2, urFilled := f, urNext := if s.sys.urScope.testBit 0 ∧ past < memberCount s.nBays u then past else 0xFFFF
        urErr := 0, urSnap := t, urSeq := incWrap 32 s.sys.urSeq, urFill := none, urCopy := none
        urData := iter (16 * f) (fun k (d : Tab Nat) => tset 0 d k (getLe bytes (4 * k) 4)) [] } }
  | _, _ => s
def execUrFillPublish (s : State) : Host.Outcome State Fault Refusal := .next (doUrFillPublish s)

/-! ### REGISTER_WRITE (R20, R23) -/

/-- Pages 0 to 4: the RW and W1C fields. -/
def State.writeLow (s : State) (o v : Nat) : State :=
  match o with
  | 0x0008 => { s with sys := { s.sys with badAccess := keep v 0 s.sys.badAccess } }
  | 0x0020 => { s with st := { s.st with otherSlotBad := keep v 5 s.st.otherSlotBad } }
  | 0x0024 => { s with st := { s.st with cause := sumN ((List.range 6).map (fun k => b1 (keep v k (s.st.cause.testBit k)) k)) } }
  | 0x0028 => { s with st := { s.st with flushSkipped := keep v 8 s.st.flushSkipped } }
  | 0x0034 => { s with sys := { s.sys with gpioOut := v % 65536 } }
  | 0x1000 => { s with ftg := { s.ftg with brownoutAny := keep v 5 s.ftg.brownoutAny, ovWarn := keep v 6 s.ftg.ovWarn, tripSeen := keep v 7 s.ftg.tripSeen,
                                           huLow := keep v 8 s.ftg.huLow, sat := keep v 9 s.ftg.sat } }
  | 0x100C => { s with ftg := { s.ftg with chans := tmapIf {} (fun c => v.testBit c) (fun _ (x : Chan) => { x with brownout := false }) s.ftg.chans } }
  | 0x1018 => { s with ftg := { s.ftg with chgFault := keep v 20 s.ftg.chgFault, capLow := keep v 21 s.ftg.capLow } }
  | 0x2000 => { s with thm := { s.thm with throttleSeen := keep v 6 s.thm.throttleSeen, sensorFaultSeen := keep v 7 s.thm.sensorFaultSeen } }
  | 0x3010 => { s with tb := { s.tb with retargeted := keep v 3 s.tb.retargeted } }
  | 0x3014 => { s with tb := { s.tb with pt := { s.tb.pt with stepped := keep v 4 s.tb.pt.stepped, refclkFault := keep v 5 s.tb.pt.refclkFault } } }
  | 0x4000 => { s with sp := { s.sp with serial := tmod {} s.sp.serial 0 (fun q => { q with lost := keep v 2 q.lost, slip := keep v 3 q.slip, clip := keep v 4 q.clip }) } }
  | 0x4004 => { s with sp := { s.sp with serial := tmod {} s.sp.serial 1 (fun q => { q with lost := keep v 2 q.lost, slip := keep v 3 q.slip, clip := keep v 4 q.clip }) } }
  | _ => s

/-- DBG_FREEZE (R213, R221): the clear of `freeze_denied`, then the limit, then the request. -/
def State.writeFreeze (s : State) (v : Nat) : State :=
  let m := { s.md with freezeDenied := keep v 3 s.md.freezeDenied, freezeLimit := if bits v 16 16 = 0 then 1 else bits v 16 16 }
  let s1 := { s with md := m }
  if v.testBit 0 then doFreezeReq false s1 else if s.production || !m.freezeReq then s1 else doFreezeEnd false s1

/-- Pages 5 to 15: the RW and W1C fields. -/
def State.writeHigh (s : State) (o v : Nat) : State :=
  match o with
  | 0x5000 => { s with xp := { s.xp with split := keep v 3 s.xp.split, swapLost := keep v 4 s.xp.swapLost, shapeSat := keep v 5 s.xp.shapeSat,
                                         outSat := keep v 6 s.xp.outSat, hardClamp := keep v 7 s.xp.hardClamp } }
  | 0x6000 => { s with ce := { s.ce with copeClamp := keep v 3 s.ce.copeClamp, plumbFloat := keep v 5 s.ce.plumbFloat
                                         status := setBit (setBit s.ce.status 3 (keep v 3 (s.ce.status.testBit 3))) 5 (keep v 5 (s.ce.status.testBit 5)) } }
  | 0x6200 => { s with ld := { s.ld with fallbackSeen := keep v 1 s.ld.fallbackSeen, diagDrift := keep v 5 s.ld.diagDrift }, z := { s.z with gridDone := keep v 7 s.z.gridDone } }
  | 0x7000 => { s with md := { s.md with overdraw := keep v 3 s.md.overdraw, offTarget := keep v 4 s.md.offTarget, entryCap := keep v 5 s.md.entryCap, courseFault := keep v 6 s.md.courseFault } }
  | 0x8E00 => { s with z := { s.z with tClip := keep v 2 s.z.tClip, offsetClip := keep v 3 s.z.offsetClip, freqSkip := keep v 4 s.z.freqSkip, voidPass := keep v 5 s.z.voidPass } }
  | 0x9000 => { s with lk := { s.lk with misrouted := keep v 2 s.lk.misrouted, escOverflow := keep v 3 s.lk.escOverflow, linkFloat := keep v 7 s.lk.linkFloat } }
  | 0xA000 => { s with rd := { s.rd with ksTakeover := keep v 6 s.rd.ksTakeover, tileTakeover := keep v 7 s.rd.tileTakeover, flyFloat := keep v 9 s.rd.flyFloat } }
  | 0xA008 => { s with rd := { s.rd with copyFail := keep v 12 s.rd.copyFail } }
  | 0xA00C => { s with rd := { s.rd with updateAborted := keep v 5 s.rd.updateAborted } }
  | 0xB000 => { s with lg := { s.lg with skipped := keep v 5 s.lg.skipped, gapSeen := keep v 6 s.lg.gapSeen, driveFail := keep v 7 s.lg.driveFail } }
  | 0xC000 => { s with hs := { s.hs with commitErr := keep v 10 s.hs.commitErr, authFail := keep v 11 s.hs.authFail, refused := keep v 12 s.hs.refused,
                                         evqOverflow := keep v 13 s.hs.evqOverflow } }
  | 0xD000 => { s with fu := { s.fu with marginalSeen := keep v 2 s.fu.marginalSeen, marked := keep v 3 s.fu.marked } }
  | 0xE000 => { s with ev := { s.ev with faultEdge := keep v 1 s.ev.faultEdge, takeover := keep v 2 s.ev.takeover, internal := keep v 4 s.ev.internal }
                       hs := { s.hs with commitErr := keep v 3 s.hs.commitErr } }
  | 0xE004 => { s with ev := { s.ev with mask := bits v 1 4 } }
  | 0xF000 => { s with sys := { s.sys with scratch0 := v } }
  | 0xF004 => { s with sys := { s.sys with scratch1 := v } }
  | 0xF010 => s.writeFreeze v
  | _ => s

/-- REGISTER_WRITE (R20, R23, R514): each field by its access code; reserved bits and unassigned words ignore the write. -/
def doRegisterWrite (offset value : Nat) (s : State) : State :=
  let v := value % pow32
  if !wordAligned offset then doBadAccess true s else if offset < 0x5000 then s.writeLow offset v else s.writeHigh offset v
def execRegisterWrite (offset value : Nat) (s : State) : Host.Outcome State Fault Refusal := .next (doRegisterWrite offset value s)

end Sys2Proof.Machine
end

