-- ==== Sys2Proof/Machine/Thermal.lean ====
section
/-! DEFINITION. Die thermal: conversions, broken sensors, levels, throttle and shutdown, the status command (13, 15 R444). -/

namespace Sys2Proof.Machine
open Sys2Proof

def State.modDie (s : State) (d : Nat) (f : Die → Die) : State := { s with thm := { s.thm with dies := tmod {} s.thm.dies d f } }

/-- A THERMAL_CONFIG word in force for a die: tiles share one set, the keystones another (R385). -/
def State.thmWord (s : State) (d i : Nat) : Nat :=
  let t := if d < 12 then 0 else 1
  tget ((rowDefault 0x0F01 t i).getD 0 0) s.thm.config (t * 8 + i)

/-- Conversions that a dwell of *D* holds (R381, R385). -/
def State.dwellCount (s : State) (d : Nat) : Nat := divCeil (s.thmWord d 4) 250

/-- A code in range: −60 °C to +160 °C (R382). -/
def codeInRange (c : DieCode) : Bool := !c.broken && decide (-7680 ≤ c.code) && decide (c.code ≤ 20480)

/-- The higher of a peak and a reading. -/
def peakOf (p : Option Int) (t : Int) : Option Int := match p with | some x => if x < t then some t else some x | none => some t

/-- Runs of conversions at or above each threshold, and at or below it less *h* (R384). -/
def State.levelRuns (s : State) (d : Nat) (t : Int) (x : Die) : Die :=
  let n := s.dwellCount d
  let run := fun (old : Nat) (b : Bool) => if b then Nat.min n (old + 1) else 0
  let th := fun (k : Nat) => ((s.thmWord d k : Nat) : Int)
  { x with above := (List.range 3).map (fun k => run (x.above.getD k 0) (decide (th k ≤ t)))
           below := (List.range 3).map (fun k => run (x.below.getD k 0) (decide (t ≤ th k - th 3))) }

/-- A die shows a reading: the latest, and the highest since each peak was read (R393, R444). -/
def Die.shows (x : Die) (t : Int) : Die := { x with temp := some t, peak := peakOf x.peak t, peakCmd := peakOf x.peakCmd t }

/-- One conversion of a die (R381 to R384, R393): while the sensor is not broken every reading is judged and shown; an open or shorted diode gives no reading and ends the runs (log 64). -/
def State.convert (s : State) (x : Die) (c : DieCode) : Die :=
  let same := x.raw == some c.code
  let x1 := { x with raw := some c.code, stuck := if same then Nat.min 16000 (x.stuck + 1) else 1, outRange := if codeInRange c then 0 else Nat.min 4 (x.outRange + 1) }
  if x.bad then
    { x1 with goodRun := if codeInRange c then Nat.min 4000 (x.goodRun + 1) else 0, varied := codeInRange c && (x.varied || (decide (0 < x.goodRun) && !same)) }
  else if c.broken then { x1 with above := [0, 0, 0], below := [0, 0, 0] }
  else s.levelRuns c.die c.code (x1.shows c.code)

/-- THERMAL_CONVERSION (R381): every fitted die's sensor, once per 250 µs. -/
def doThermalConversion (codes : List DieCode) (s : State) : State :=
  (codes.filter (fun c => s.dieFitted c.die)).foldl (fun (t : State) c => t.modDie c.die (fun x => t.convert x c)) s
def execThermalConversion (codes : List DieCode) (s : State) : Host.Outcome State Fault Refusal := .next (doThermalConversion codes s)

/-- A thermal event's detail: the die, the old level, the new one, and the reading. -/
def Die.detail (x : Die) (d : Nat) (old new : Level) : Nat := d + 16 * old.code + 64 * new.code + 65536 * temp16 x.temp

/-- Add one to a count of R444. -/
def Die.tally (x : Die) (k : Nat) : Die := { x with counts := x.counts.set k (incSat 16 (x.counts.getD k 0)) }

/-- SENSOR_BROKEN (R382, R383). -/
def doSensorBroken (d : Nat) (s : State) : State :=
  let x := s.die d
  if x.bad || !s.dieFitted d || (decide (x.outRange < 4) && decide (x.stuck < 16000)) then s
  else
    let s1 := s.modDie d (fun x => { x.tally 3 with bad := true, goodRun := 0, varied := false, above := [0, 0, 0], below := [0, 0, 0] })
    ({ s1 with thm := { s1.thm with sensorFaultSeen := true } }).raise { kind := .sensorFault, unit := noUnit, detail := d }
def execSensorBroken (die : Nat) (s : State) : Host.Outcome State Fault Refusal := if 14 ≤ die then .fault .noSuchUnit else .next (doSensorBroken die s)

/-- A die's sensor is good again: its levels restart from its present reading, each dwell afresh; the run of unchanged codes goes on (R382, R383). -/
def State.sensorGood (s : State) (d : Nat) (x : Die) : Die :=
  let y := { x with bad := false, outRange := 0, goodRun := 0, varied := false, above := [0, 0, 0], below := [0, 0, 0] }
  match x.raw with
  | some t => s.levelRuns d t (y.shows t)
  | none => y

/-- SENSOR_RECOVERED (R382, R383): 1 s of conversions in range and not all identical. -/
def doSensorRecovered (d : Nat) (s : State) : State :=
  let x := s.die d
  if x.bad && decide (4000 ≤ x.goodRun) && x.varied then s.modDie d (s.sensorGood d) else s
def execSensorRecovered (die : Nat) (s : State) : Host.Outcome State Fault Refusal := if 14 ≤ die then .fault .noSuchUnit else .next (doSensorRecovered die s)

/-- The level the readings of the dwell have reached (R384). -/
def State.levelDue (s : State) (d : Nat) : Level :=
  let x := s.die d
  let n := s.dwellCount d
  let up := fun (k : Nat) => decide (n ≤ x.above.getD k 0)
  let down := fun (k : Nat) => decide (n ≤ x.below.getD k 0)
  if x.bad || !s.dieFitted d then x.level
  else match x.level with
    | .shutdown => .shutdown
    | .throttle => if up 2 then .shutdown else if down 1 then .warning else .throttle
    | .warning => if up 2 then .shutdown else if up 1 then .throttle else if down 0 then .normal else .warning
    | .normal => if up 2 then .shutdown else if up 1 then .throttle else if up 0 then .warning else .normal

/-- A die enters THROTTLE: its request and its grace (R386). -/
def State.enterThrottle (s : State) (d : Nat) : State :=
  let s1 := s.modDie d (fun x => { x.tally 1 with request := true, grace := some (s.thmWord d 5 * 1000000000), enforceDue := false })
  ({ s1 with thm := { s1.thm with throttleSeen := true } }).raiseLive { kind := .throttleRequest, unit := noUnit, detail := d }

/-- A die enters SHUTDOWN: its gate opens and stays latched; both keystones gone start the safe stop of R389, once. -/
def State.enterShutdown (s : State) (d : Nat) : State :=
  let s1 := s.modDie d (fun x => { x with request := false, grace := none, enforceDue := false, releaseDue := false, enforced := false })
  let s2 := s1.modChan d (fun c => { c with gate := false, good := false, rail := .inBand, latched := true, thermal := true, offTime := false, checking := false })
  let s3 := s2.stopDie d
  if 12 ≤ d ∧ (s3.die (25 - d)).level = .shutdown then s3.startStop 2 false false true else s3

/-- THERMAL_LEVEL_CHANGE (R384, R386, R389, R390): a shut-down die's event is recorded by the keystone that is active after it. -/
def doThermalLevelChange (d : Nat) (s : State) : State :=
  let old := (s.die d).level
  let new := s.levelDue d
  if new = old then s else
  let e : Evt := { kind := .thermalLevel, unit := noUnit, detail := (s.die d).detail d old new }
  let s0 := s.modDie d (fun x => { x with level := new })
  let s1 := s0.raise e
  match new with
  | .shutdown => (s0.enterShutdown d).raise e
  | .throttle => s1.enterThrottle d
  | .warning =>
    if old = .throttle then s1.modDie d (fun x => { x with request := false, grace := none, enforceDue := false, releaseDue := x.enforced })
    else s1.modDie d (fun x => x.tally 0)
  | .normal => s1
def execThermalLevelChange (die : Nat) (s : State) : Host.Outcome State Fault Refusal := if 14 ≤ die then .fault .noSuchUnit else .next (doThermalLevelChange die s)

/-- THROTTLE_GRACE_END (R386): the die is still at THROTTLE; while its sensor is broken nothing is enforced (R383). -/
def doThrottleGraceEnd (d : Nat) (s : State) : State :=
  let x := s.die d
  if x.level = .throttle ∧ x.request ∧ x.grace = some 0 ∧ ¬ x.bad then s.modDie d (fun x => { x with grace := none, enforceDue := true }) else s
def execThrottleGraceEnd (die : Nat) (s : State) : Host.Outcome State Fault Refusal := if 14 ≤ die then .fault .noSuchUnit else .next (doThrottleGraceEnd die s)

/-- THROTTLE_ENFORCE (R386): at the cycle boundary after the grace. -/
def doThrottleEnforce (d : Nat) (s : State) : State :=
  let x := s.die d
  if x.enforceDue ∧ s.tb.idx = 0 ∧ ¬ x.bad then
    s.modDie d (fun x => { x.tally 2 with enforced := true, request := false, enforceDue := false })
  else s
def execThrottleEnforce (die : Nat) (s : State) : Host.Outcome State Fault Refusal := if 14 ≤ die then .fault .noSuchUnit else .next (doThrottleEnforce die s)

/-- THROTTLE_RELEASE (R386): at the cycle boundary after the die has fallen below THROTTLE. -/
def doThrottleRelease (d : Nat) (s : State) : State :=
  let x := s.die d
  if x.releaseDue ∧ s.tb.idx = 0 ∧ ¬ x.bad then
    s.modDie d (fun x => { x with enforced := false, releaseDue := false })
  else s
def execThrottleRelease (die : Nat) (s : State) : Host.Outcome State Fault Refusal := if 14 ≤ die then .fault .noSuchUnit else .next (doThrottleRelease die s)

/-- The graces run (R386). -/
def State.thermalTick (s : State) (ps : Nat) : State :=
  { s with thm := { s.thm with dies := s.thm.dies.map (fun e => (e.1, { e.2 with grace := e.2.grace.map (fun g => g - ps) })) } }

/-- A die's 16 bytes in THERMAL_STATUS_READ (R444). -/
def Die.bytes (x : Die) : List Nat :=
  le 2 (if x.bad then 0x8000 else temp16 x.temp) ++ le 2 (temp16 x.peakCmd) ++ [x.level.code, b1 x.enforced 0 + b1 x.bad 1] ++ le 2 (Nat.min 0xFFFF (graceMs x.grace)) ++
    (x.counts.map (le 2)).flatten

/-- `THERMAL_STATUS_READ`: the peaks start afresh. -/
def thermalStatusRead (s : State) : State × Ans :=
  ({ s with thm := { s.thm with dies := (s.thm.dies.map (fun e => (e.1, { e.2 with peakCmd := none }))).filter (fun e => e.2 != {}) } },
   okAns ((List.range 14).map (fun d => (s.die d).bytes)).flatten)
def doThermalStatusRead (h : Hdr) (s : State) : State := s.host h 0x0F02 thermalStatusRead
def execThermalStatusRead (h : Hdr) (s : State) : Host.Outcome State Fault Refusal := .next (doThermalStatusRead h s)

end Sys2Proof.Machine
end

