-- ==== Sys2Proof/Machine/Slots.lean ====
section
/-! DEFINITION. Host slots: opening, rights, loss, rings, interrupts, the ports' other answers (14, 15 R443). -/

namespace Sys2Proof.Machine
open Sys2Proof

/-- Change one slot. -/
def State.modSlot (s : State) (i : Nat) (f : Slot → Slot) : State := { s with hs := { s.hs with slots := tmod {} s.hs.slots i f } }

/-! ### Closing a slot (R412, R442, R469, R481) -/

/-- A slot closes: its commands are discarded, and so are replies it holds; its rights fall to none, its export and its MAINTAIN state end, the reply of its fuse command is discarded; its key stays, so that step 4 of R407 passes what step 6 answers (log 124). -/
def State.shutSlot (s : State) (i : Nat) : State :=
  let f := if s.fu.maint ∧ s.fu.owner = i then s.fu.leaveMaint else s.fu
  let s1 := s.modSlot i (fun x => { x with phase := .closed, rights := 0, queue := [], held := [], deficit := 0, granted := false, notAfter := 0 })
  State.endExport { s1 with fu := { f with underRoot0 := setBit f.underRoot0 i false, prog := f.prog.map (fun p => if p.slot = i then { p with hdr := { p.hdr with slot := 8 } } else p) } } i

/-- Every other live slot is told (R412, R414). -/
def State.tellGone (s : State) (i : Nat) (lost : Bool) : State := s.raiseLive { kind := .slotGone, unit := noUnit, detail := i + 8 * bit lost }

/-- Several slots close at once; then the others are told. -/
def State.shutSlots (s : State) (is : List Nat) (lost : Bool) : State :=
  is.foldl (fun (t : State) i => t.tellGone i lost) (is.foldl State.shutSlot s)

/-- A keepalive has run out: 3k without an accepted command (R412). -/
def State.keepaliveOut (s : State) (i : Nat) : Bool := (s.slot i).live && decide (3 * s.prm 0x0E06 i 2 0 * 1000000000 ≤ (s.slot i).idle)

/-- SLOT_LOST (R412). -/
def doSlotLost (i : Nat) (s : State) : State := if s.keepaliveOut i then s.shutSlots [i] true else s
def execSlotLost (slot : Nat) (s : State) : Host.Outcome State Fault Refusal := if 8 ≤ slot then .fault .noSuchUnit else .next (doSlotLost slot s)

/-- PCIE_LINK_DOWN (R412): every PCIe slot at once. -/
def doPcieLinkDown (s : State) : State := s.shutSlots ((List.range 8).filter (fun i => (s.slot i).phase == .pcie)) true
def execPcieLinkDown (s : State) : Host.Outcome State Fault Refusal := .next (doPcieLinkDown s)

/-- The slots opened under root 0 close at the end of the tick in which root 1 takes effect (R483). -/
def State.rotate (s : State) : State :=
  if s.fu.rotateDue then
    State.shutSlots { s with fu := { s.fu with rotateDue := false } } ((List.range 8).filter (fun i => (s.slot i).live && s.fu.underRoot0.testBit i)) false
  else s

/-! ### Rights (R397 to R400) -/

/-- The next rights generation (R400). -/
def genUp (g : Nat) : Nat := if g = 0xFFFFFFFF then 1 else g + 1

/-- The slot authentication root in use (R483). -/
def State.rootKey (s : State) : Option (List Nat) :=
  if s.fu.root = 1 then some (wordBytes (s.fu.read 2 16 8)) else if s.fu.root = 2 then some (wordBytes (s.fu.read 2 24 8)) else none

/-- The slot key that a grant derives (R398). -/
def grantKey (root grant : List Nat) : List Nat := hmac root (grant.take 48 ++ [0x4B])

/-- The grant names this device, this slot and this transport, is genuine, not withdrawn, and in its time (R397, R398). -/
def State.grantOk (s : State) (slot : Nat) (udp : Bool) (g : List Nat) : Bool :=
  match s.rootKey with
  | none => false
  | some k =>
    decide (g.length = 64) && decide (getLe g 0 4 = 0x544E5247) && (hmac k (g.take 48)).take 16 == g.drop 48 && decide (getLe g 4 1 = slot) &&
    (g.drop 8).take 12 == wordBytes (s.fu.read 1 0 3) && (getLe g 6 1).testBit (bit udp) && decide ((s.slot slot).topSerial ≤ getLe g 24 8) &&
    (!s.tb.pt.good || (decide (getLe g 32 8 ≤ s.tb.pt.ns) && decide (s.tb.pt.ns ≤ getLe g 40 8)))

/-- A slot as an accepted SLOT_OPEN leaves it: its queue and ring indices go on (R398, R401, R414). -/
def Slot.reopen (x : Slot) (udp : Bool) (peer rights : Nat) (key : List Nat) (notAfter serial : Nat) : Slot :=
  { x with phase := if udp then .udp else .pcie, rights := rights % 64, gen := genUp x.gen, key := key, notAfter := notAfter, granted := key != [], peer := if udp then peer else 0,
           hiSeq := 0, window := [], devSeq := 1, evSeq := 1, events := [], dropped := 0, idle := 0, topSerial := Nat.max x.topSerial serial }

/-- `SLOT_OPEN` (R398, R399): with a grant, or the bootstrap session of slot 7 over PCIe. -/
def slotOpen (h : Hdr) (grant : List Nat) (s : State) : State × Ans :=
  let boot := decide (grant = []) && decide (h.slot = 7) && !h.udp && !h.auth && s.bootstrap
  if !h.udp && !(s.slot h.slot).rings.valid then (s, refuseAns stState 0x0E01 255 h.slot)
  else if boot then
    let s1 := s.modSlot h.slot (fun x => x.reopen false 0 41 [] 0 0)
    (s1, okAns ([41, 1, 0, 0] ++ le 4 (s1.slot h.slot).gen))
  else if s.grantOk h.slot h.udp grant then
    let key := match s.rootKey with | some k => grantKey k grant | none => []
    let s1 := s.modSlot h.slot (fun x => x.reopen h.udp h.peer (getLe grant 5 1) key (getLe grant 40 8) (getLe grant 24 8))
    ({ s1 with fu := { s1.fu with underRoot0 := setBit s1.fu.underRoot0 h.slot (s.fu.root == 1) } },
     okAns ([getLe grant 5 1 % 64, getLe grant 6 1 % 4, 0, 0] ++ le 4 (s1.slot h.slot).gen))
  else (s, { status := stGrant })

/-- Its reply goes to the sender, whether or not the slot is open, under the key the grant gives (R395, R398). -/
def doSlotOpen (h : Hdr) (grant : List Nat) (s : State) : State :=
  if 8 ≤ h.slot then s else let r := slotOpen h grant s
  (if r.2.status = stOk then r.1.journal (.slotOpen h grant) else r.1).writeReplyUnder (match s.rootKey with | some k => grantKey k grant | none => []) h 0x0E01 0 r.2
def execSlotOpen (h : Hdr) (grant : List Nat) (s : State) : Host.Outcome State Fault Refusal := .next (doSlotOpen h grant s)

/-- `SLOT_CLOSE` (R412). -/
def doSlotClose (h : Hdr) (s : State) : State := s.hostJ (.slotClose h) h 0x0E02 (fun t => (if (t.slot h.slot).live then t.shutSlots [h.slot] false else t, okAns))
def execSlotClose (h : Hdr) (s : State) : Host.Outcome State Fault Refusal := .next (doSlotClose h s)

/-- `SLOT_KEEPALIVE` (R412). -/
def doSlotKeepalive (h : Hdr) (s : State) : State := s.host h 0x0E03 (fun t => (if (t.slot h.slot).live then t.modSlot h.slot (fun x => { x with idle := 0 }) else t, okAns))
def execSlotKeepalive (h : Hdr) (s : State) : Host.Outcome State Fault Refusal := .next (doSlotKeepalive h s)

/-- `SLOT_RIGHTS_DROP` (R400). -/
def slotRightsDrop (slot mask : Nat) (s : State) : State × Ans :=
  if !(s.slot slot).live then (s, { status := stNoSession }) else
  let s1 := s.modSlot slot (fun x => { x with rights := sumN ((List.range 6).map (fun k => b1 (x.rights.testBit k && !mask.testBit k) k)), gen := genUp x.gen })
  (s1, okAns (le 4 (s1.slot slot).gen))
def doSlotRightsDrop (h : Hdr) (mask : Nat) (s : State) : State := s.hostJ (.slotRightsDrop h mask) h 0x0E04 (slotRightsDrop h.slot mask)
def execSlotRightsDrop (h : Hdr) (mask : Nat) (s : State) : Host.Outcome State Fault Refusal := .next (doSlotRightsDrop h mask s)

/-- A grant's `g_not_after` has passed while plant time is LOCKED or HOLDOVER (R400). -/
def State.grantOut (s : State) (i : Nat) : Bool := (s.slot i).live && (s.slot i).granted && s.tb.pt.good && decide ((s.slot i).notAfter < s.tb.pt.ns)

/-- GRANT_EXPIRY (R400): the session stays, its rights fall to none. -/
def doGrantExpiry (i : Nat) (s : State) : State :=
  if s.grantOut i then (s.modSlot i (fun x => { x with rights := 0, gen := genUp x.gen, granted := false })).raiseTo i { kind := .rightsChanged, unit := noUnit } else s
def execGrantExpiry (slot : Nat) (s : State) : Host.Outcome State Fault Refusal := if 8 ≤ slot then .fault .noSuchUnit else .next (doGrantExpiry slot s)

/-! ### Events and status (R415, R443) -/

/-- `SLOT_EVENTS_SET` (R405, R415). -/
def slotEventsSet (slot mask moderation : Nat) (s : State) : State × Ans :=
  if 1000 < moderation then (s, refuseAns stRange 0x0E05 255 slot)
  else if !(s.slot slot).live then (s, { status := stNoSession })
  else (s.modSlot slot (fun x => { x with mask := mask % 65536, moderation := moderation }), okAns)
def doSlotEventsSet (h : Hdr) (mask moderation : Nat) (s : State) : State := s.hostJ (.slotEventsSet h mask moderation) h 0x0E05 (slotEventsSet h.slot mask moderation)
def execSlotEventsSet (h : Hdr) (mask moderation : Nat) (s : State) : Host.Outcome State Fault Refusal := .next (doSlotEventsSet h mask moderation s)

/-- The kept reply with the tag, written again on slot `i` under a new device sequence (R406, R443). -/
def HostIf.resend (h : HostIf) (i : Nat) (udp : Bool) (tag : Nat) : HostIf × Bool :=
  let x := tget {} h.slots i
  match tget none x.replies tag with
  | none => (h, false)
  | some r =>
    let r' : Reply := { r with seq := x.devSeq }
    (({ h with slots := tset {} h.slots i { x with devSeq := incWrap 32 x.devSeq, lastReply := some r' } } : HostIf).post i udp { reply := r', key := x.key, use := .copy }, true)

/-- `SLOT_STATUS_READ` (R443): the copy first, then its own reply. -/
def slotStatusRead (slot : Nat) (udp : Bool) (resend tag : Nat) (s : State) : State × Ans :=
  let r := if resend ≠ 0 ∧ (s.slot slot).live then s.hs.resend slot udp (tag % 65536) else (s.hs, false)
  let s1 := { s with hs := r.1 }
  (s1, okAns (le 4 (s1.slot slot).stat ++ le 4 (s1.slot slot).rightsWord ++ ((List.range 13).map (fun k => le 4 (tget 0 (s1.slot slot).byStep (k + 1)))).flatten ++
    [bit r.2, 0, 0, 0]))
def doSlotStatusRead (h : Hdr) (resend tag : Nat) (s : State) : State := s.host h 0x0E07 (slotStatusRead h.slot h.udp resend tag)
def execSlotStatusRead (h : Hdr) (resend tag : Nat) (s : State) : Host.Outcome State Fault Refusal := .next (doSlotStatusRead h resend tag s)

/-- The kept events from a sequence onwards, oldest first; those no longer kept are one overflow event in their place (R404, R415). -/
def Slot.fetch (x : Slot) (start : Nat) : List EvRec :=
  let kept := (x.events.filter (fun e => decide (start ≤ e.seq))).reverse
  let oldest := (x.events.reverse.headD { seq := x.evSeq }).seq
  let from1 := Nat.max 1 start
  if from1 < oldest then { seq := from1, code := EvKind.eventOverflow.code, detail := oldest - from1 } :: kept else kept

/-- `EVENT_FETCH` (R415, R443). -/
def eventFetch (slot : Nat) (udp : Bool) (start max : Nat) (s : State) : State × Ans :=
  let rs := ((s.slot slot).fetch start).take (Nat.min max (if udp then 44 else 126))
  (s, okAns (le 2 rs.length ++ [0, 0] ++ (rs.map EvRec.bytes).flatten))
def doEventFetch (h : Hdr) (start max : Nat) (s : State) : State := s.host h 0x0E08 (eventFetch h.slot h.udp start max)
def execEventFetch (h : Hdr) (start max : Nat) (s : State) : Host.Outcome State Fault Refusal := .next (doEventFetch h start max s)

/-! ### Ring indices (R402, R404, R418) -/

/-- A write that moves a free-running index backwards (R418). -/
def backwards (old new : Nat) : Bool := decide (2 ^ 31 ≤ (new + 2 ^ 32 - old) % 2 ^ 32)

/-- HS_RPL_CONS (R404): the entries are free; held replies take them, and waiting commands execute in the next window. -/
def doHsRplCons (i index : Nat) (s : State) : State :=
  if backwards (s.slot i).rplCons (index % 2 ^ 32) then s.modSlot i (fun x => { x with malformed := incSat 32 x.malformed })
  else let t := s.modSlot i (fun x => { x with rplCons := index % 2 ^ 32 }); { t with hs := t.hs.flush i }
def execHsRplCons (slot index : Nat) (s : State) : Host.Outcome State Fault Refusal := if 8 ≤ slot then .fault .noSuchUnit else .next (doHsRplCons slot index s)

/-- The event ring has space and events were dropped: one overflow event (R404). -/
def State.overflowEvent (s : State) (i : Nat) : State :=
  let x := s.slot i
  if x.phase = .pcie ∧ 0 < x.dropped ∧ (x.evqProd + 2 ^ 32 - x.evqCons) % 2 ^ 32 < 2 ^ x.rings.evqOrder then
    (s.modSlot i (fun y => { y with dropped := 0 })).raiseTo i { kind := .eventOverflow, unit := noUnit, detail := x.dropped }
  else s

/-- HS_EVQ_CONS (R404). -/
def doHsEvqCons (i index : Nat) (s : State) : State :=
  if backwards (s.slot i).evqCons (index % 2 ^ 32) then s.modSlot i (fun x => { x with malformed := incSat 32 x.malformed })
  else (s.modSlot i (fun x => { x with evqCons := index % 2 ^ 32 })).overflowEvent i
def execHsEvqCons (slot index : Nat) (s : State) : Host.Outcome State Fault Refusal := if 8 ≤ slot then .fault .noSuchUnit else .next (doHsEvqCons slot index s)

/-! ### Interrupts (R405) -/

/-- MSI_MODERATION_END (R405): a pending item raises one interrupt. -/
def doMsiModerationEnd (v : Nat) (s : State) : State :=
  let x := tget {} s.hs.vectors v
  if x.pending ∧ x.left = 0 then { s with hs := s.hs.signal v } else s
def execMsiModerationEnd (vector : Nat) (s : State) : Host.Outcome State Fault Refusal := if 17 ≤ vector then .fault .noSuchUnit else .next (doMsiModerationEnd vector s)

/-! ### Answers besides Ohmuc (R406) -/

/-- The address and VLAN are those set for the port. -/
def State.portIs (s : State) (port dst vlan : Nat) : Bool := s.prm 0x0102 port 0 0 != 0 && s.prm 0x0102 port 0 0 == dst && s.prm 0x0102 port 3 0 == vlan

/-- ARP (R406). -/
def doArp (port target vlan : Nat) (s : State) : State := if s.portIs port target vlan then { s with hs := { s.hs with netAnswer := some (.arp port) } } else s
def execArp (port target vlan : Nat) (s : State) : Host.Outcome State Fault Refusal := if 2 ≤ port then .fault .noSuchUnit else .next (doArp port target vlan s)

/-- ICMP_ECHO (R406). -/
def doIcmpEcho (port dst vlan ident seq : Nat) (s : State) : State :=
  if s.portIs port dst vlan then { s with hs := { s.hs with netAnswer := some (.echo port ident seq) } } else s
def execIcmpEcho (port dst vlan ident seq : Nat) (s : State) : Host.Outcome State Fault Refusal :=
  if 2 ≤ port then .fault .noSuchUnit else .next (doIcmpEcho port dst vlan ident seq s)

end Sys2Proof.Machine
end

