-- ==== Sys2Proof/Machine/Swap.lean ====
section
/-! DEFINITION. XP_SWAP: the checks of the whole shadow bank, and the landing of a swap (04 R127 to R135, 15 R429, and the checks of the owning chapters). -/

namespace Sys2Proof.Machine
open Sys2Proof

/-! ### The checks of a shadow bank (R128, R429) -/

/-- What a check refuses with: status, opcode, row, target (R420). -/
structure Miss where
  status : Nat
  op : Nat
  row : Nat
  target : Nat
deriving DecidableEq, Repr

/-- A check that fails when `c` holds. -/
def failIf (c : Bool) (status op row target : Nat) : Option Miss := if c then some ⟨status, op, row, target⟩ else none

/-- The first failure of a list of checks. -/
def firstFail (l : List (Option Miss)) : Option Miss := l.findSome? id

/-- A row of the shadow bank differs from the active one. -/
def State.rowChanged (s : State) (op tgt row : Nat) : Bool := s.xp.shadow.row op tgt row != s.xp.act.row op tgt row

/-- A bay is SYNCING or ENERGISED (R429). -/
def State.bayInUse (s : State) (b : Nat) : Bool := (s.bayStart b).phase == .syncing || (s.bayStart b).phase == .energised

/-- FOOTING_CONFIG: a reset band at least 1 % wider than its warning band, a float level at least 0.5 V above the ready level (R358, R429). -/
def State.checkFooting (s : State) : Option Miss :=
  let n := s.xp.shadow
  firstFail
    ((List.range 22).map (fun c => failIf (decide (n.word 0x0201 0 1 c < n.word 0x0201 0 0 c + 41943)) stBadParam 0x0201 1 c) ++
     [failIf (decide (n.word 0x0201 0 5 0 < n.word 0x0201 0 5 1 + 500)) stBadParam 0x0201 5 plantUid])

/-- Row `k` of a target stands in the range that another word sets for it; the spec gives the check no status of its own (R128; DESIGN CHOICE, log 78). -/
def State.checkCross (s : State) (op tgt k target : Nat) : Option Miss := failIf (crossBad s.nBays op s.xp.shadow tgt k) stBadParam op k target

/-- The preference list has no repeats (R54) and routes suit their kinds (R427); the nominal frequency stays while a bay is in use (R429); a pulse input keeps its limits (R105, R107); GS_V1 to GS_V3 share one connection (R429). -/
def State.checkPorts (s : State) : Option Miss :=
  let n := s.xp.shadow
  firstFail
    ([s.checkCross 0x0301 0 0 plantUid,
     failIf (s.rowChanged 0x0301 0 6 && s.allBays.any s.bayInUse) stState 0x0301 6 plantUid] ++
     (List.range 40).flatMap (fun i => [s.checkCross 0x0401 i 1 i, s.checkCross 0x0401 i 2 i]) ++
     [failIf (n.word 0x0407 0 0 0 == 1 && (decide (n.word 0x0407 0 2 0 < 100000) || decide (n.word 0x0407 0 2 1 < n.word 0x0407 0 2 0 + 1000000))) stBadParam 0x0407 2 plantUid,
     failIf (n.word 0x0408 1 0 0 != n.word 0x0408 0 0 0) stBadParam 0x0408 0 1,
     failIf (n.word 0x0408 2 0 0 != n.word 0x0408 0 0 0) stBadParam 0x0408 0 2])

/-- A section has a pole on or outside the unit circle (R119). -/
def Biquad.unstable (q : Biquad) : Bool := decide (1073741824 ≤ q.a2.natAbs) || decide (1073741824 + q.a2 ≤ (q.a1.natAbs : Int))

/-- The changed shaping sections and damping sections (R119, R126). -/
def State.checkSections (s : State) : Option Miss :=
  let n := s.xp.shadow
  firstFail
    (n.shapes.map (fun e => failIf (e.2 != tget {} s.xp.act.shapes e.1 && e.2.unstable) stBadParam 0x0502 (e.1 % 4) (e.1 / 4)) ++
     (List.range 4).map (fun k => s.checkCross 0x0505 k 1 k) ++
     (List.range 4).flatMap (fun k =>
       let new := State.dampSections.sectionsOf (n.row 0x0505 k 2)
       let old := State.dampSections.sectionsOf (s.xp.act.row 0x0505 k 2)
       (List.range 2).map (fun i => failIf (new.getD i {} != old.getD i {} && (new.getD i {}).unstable) stBadParam 0x0505 i k)))

/-- The first bad section of a control law, from 0, with the integrators seen so far (R148). -/
def badLawSection : Nat → Nat → List Biquad → Option Nat
  | _, _, [] => none
  | k, ints, q :: r =>
    let one : Int := 1073741824
    let here : Nat := if one + q.a1 + q.a2 = 0 then 1 else 0
    if one ≤ q.a2.natAbs ∨ one + q.a2 < q.a1.natAbs ∨ one - q.a1 + q.a2 = 0 ∨ 1 < ints + here then some k else badLawSection (k + 1) (ints + here) r

/-- The changed control laws (R148). -/
def State.checkLaws (s : State) : Option Miss :=
  firstFail (s.xp.shadow.laws.map (fun e =>
    if e.2 = tget {} s.xp.act.laws e.1 then none
    else (badLawSection 0 0 e.2.secs).map (fun k => ⟨stBadParam, 0x0602, e.1 % 11 * 8 + k, bayUid (e.1 / 11)⟩)))

/-- The destination kind suits the mode, which changes only at a cycle boundary and never to OFF while the bay is enabled (R141, R142, R429); *a* is 0 behind an earthed star or a delta winding (R40). -/
def State.checkMode (s : State) (mode b : Nat) : Option Miss :=
  let n := s.xp.shadow
  let m := n.word 0x0601 b 0 0
  firstFail
    [failIf (n.word 0x0503 b 0 0 != (if m = 1 then 1 else 0)) stState 0x0503 0 (bayUid b),
     failIf (s.rowChanged 0x0601 b 0 && (mode == 0 || (m == 0 && s.md.bayLive b))) stState 0x0601 0 (bayUid b),
     failIf (n.word 0x0601 b 5 0 != 0 && (n.word 0x0702 b 6 0 == 1 || (n.word 0x0702 b 5 0 == 1 && n.word 0x0702 b 6 0 == 2))) stState 0x0601 5 (bayUid b)]

/-- The courses of a bay in service (R47). -/
def State.coursesIn (s : State) (b : Nat) : List Nat := ((trange s.lk.courses (b * 384) 384).filter (fun e => e.2.serves)).map (fun e => e.1)

/-- A fitted mask of the shadow bank holds a course. -/
def State.willFit (s : State) (c : Nat) : Bool := (s.xp.shadow.word 0x0702 (c / 384) 0 (c / 128 % 3 * 4 + c % 128 / 32)).testBit (c % 32)

/-- Dead time and minimum pulse of a live bay stay (R216); the bay profile of a bay in use, the fitted masks and type codes of courses in service stay, and a transformer suits its connection and its reactor (R40, R266, R429). -/
def State.checkProfile (s : State) (b : Nat) : Option Miss :=
  let n := s.xp.shadow
  let cs := s.coursesIn b
  firstFail
    ([8, 9].map (fun r => failIf (s.rowChanged 0x0701 b r && s.md.bayLive b) stState 0x0701 r (bayUid b)) ++
     [s.checkCross 0x0701 b 9 (bayUid b), failIf (cs.any (fun c => !s.willFit c)) stState 0x0702 0 (bayUid b),
      failIf (cs.any (fun c => n.word 0x0702 b 1 (c / 128 % 3) != s.xp.act.word 0x0702 b 1 (c / 128 % 3))) stState 0x0702 1 (bayUid b)] ++
     [2, 3, 4, 5, 6, 7].map (fun r => failIf (s.rowChanged 0x0702 b r && s.bayInUse b) stState 0x0702 r (bayUid b)) ++
     [failIf (n.word 0x0702 b 5 0 == 1 && n.word 0x0907 b 0 0 == 0) stBadParam 0x0702 5 (bayUid b),
      failIf (n.word 0x0702 b 6 0 == 2 && n.word 0x0702 b 5 0 == 0) stBadParam 0x0702 6 (bayUid b)])

/-- A list rises strictly. -/
def rises : List Int → Bool
  | a :: b :: r => decide (a < b) && rises (b :: r)
  | _ => true

/-- Windows, hard limits and tables of the record parameters (R242). -/
def State.checkRecords (s : State) (b : Nat) : Option Miss :=
  let n := s.xp.shadow
  let w := n.word 0x0801 b
  let table := fun (k : Nat) => (List.range 65).map (fun i => n.int 0x0801 b 4 (65 * k + i))
  let curve := fun (k : Nat) => (List.range 8).map (fun i => n.int 0x0801 b 14 (16 * k + 2 * i))
  firstFail
    [failIf (decide (w 1 1 ≤ w 1 0)) stBadParam 0x0801 1 (bayUid b),
     failIf (decide (w 1 0 ≤ w 2 0) || decide (w 2 1 ≤ w 1 1)) stBadParam 0x0801 2 (bayUid b),
     failIf (decide (n.int 0x0801 b 3 0 < n.int 0x0601 b 10 2)) stBadParam 0x0801 3 (bayUid b),
     failIf ([0, 1].any (fun k => (table k).any (fun v => v != 0) && !rises (table k))) stBadParam 0x0801 4 (bayUid b),
     failIf ([0, 1].any (fun k => !rises (curve k))) stBadParam 0x0801 14 (bayUid b)]

/-- A core-temperature table, one whose points are staged or differ from 0, is strictly monotonic and made for the plant's nominal frequency (R253). -/
def State.checkTemps (s : State) (b : Nat) : Option Miss :=
  let n := s.xp.shadow
  let pts := fun (r : Nat) => (List.range 17).map (fun i => n.int 0x0902 b r i)
  let present := (pts 2 ++ pts 3).any (fun v => v != 0) || [2, 3].any (fun r => s.xp.staged.contains (itemRow 0x0902 b r))
  firstFail
    [failIf (present && n.word 0x0902 b 1 0 != n.word 0x0301 0 6 0) stState 0x0902 1 (bayUid b),
     failIf (present && !rises (pts 2)) stBadParam 0x0902 2 (bayUid b),
     failIf (present && !rises (pts 3) && !rises ((pts 3).map (fun v => -v))) stBadParam 0x0902 3 (bayUid b)]

/-- The reactor lies within the series path (R266): *L*_r within *L*_s, *R*_r + *R*_w within the series resistance, both sides squared and cleared of their roots. -/
def State.checkReactor (s : State) (b : Nat) : Option Miss :=
  let n := s.xp.shadow
  let v := n.word 0x0702 b 2 0
  let i := n.word 0x0702 b 4 0
  let l := n.word 0x0907 b 0 0 * 2 ^ 24 * 800 * n.word 0x0301 0 6 0 * i
  let r := (n.word 0x0907 b 1 0 + n.word 0x0907 b 1 1) * 2 ^ 22 * i
  let rs := n.int 0x0601 b 7 2
  firstFail
    [failIf (decide ((n.word 0x0601 b 7 0 * v * 10 ^ 12) ^ 2 < 3 * l ^ 2)) stBadParam 0x0907 0 (bayUid b),
     failIf (decide (rs < 0) || decide ((rs.toNat * v * 10 ^ 6) ^ 2 < 3 * r ^ 2)) stBadParam 0x0907 1 (bayUid b)]

/-- Thermal thresholds rise by at least *h* (R385). -/
def State.checkThermal (s : State) (t : Nat) : Option Miss :=
  let w := fun (k : Nat) => s.xp.shadow.word 0x0F01 t k 0
  firstFail
    [failIf (decide (w 1 < w 0 + w 3)) stBadParam 0x0F01 1 t,
     failIf (decide (w 2 < w 1 + w 3)) stBadParam 0x0F01 2 t]

/-- The checks of the whole shadow bank, by opcode (R128). -/
def State.checkShadow (s : State) (mode : Nat) : Option Miss :=
  firstFail
    ([s.checkFooting, s.checkPorts, s.checkSections] ++ s.allBays.map (s.checkMode mode) ++ [s.checkLaws] ++ s.allBays.map s.checkProfile ++
     s.allBays.map s.checkRecords ++ s.allBays.map s.checkTemps ++ s.allBays.map s.checkReactor ++ [s.checkThermal 0, s.checkThermal 1])

/-! ### XP_SWAP (R128, R129, R434) -/

/-- The answer of XP_SWAP. -/
def xpSwap (mode glide cycle : Nat) (s : State) : State × Ans :=
  let no := fun (st : Nat) => (s, refuseAns st 0x0507 255 0)
  if mode = 3 then
    (if s.xp.pend.isNone then no stState else ({ s with xp := { s.xp with pend := none } }, okAns (le 4 s.xp.generation)))
  else if s.stagingClosed then no stState
  else if 3 < mode ∨ 800 < glide then no stRange
  else if mode = 0 ∧ 3 ≤ s.xp.tickSwaps then (s, { status := 0x0101 })
  else if mode = 2 ∧ cycle ≤ s.tb.cycleNow then no stRange
  else match s.checkShadow mode with
    | some m => (s, refuseAns m.status m.op m.row m.target)
    | none =>
      ({ s with xp := { s.xp with pend := some { mode := mode + 1, glide := glide, cycle := cycle, tick := s.absTick,
                                                 sets := (s.ce.sets.filter (fun p => p.tick == s.absTick)).length } } },
       acceptedAns (le 4 (genUp s.xp.generation)))
/-- XP_SWAP: a CANCEL acts at once and goes to the standby's journal, so that a takeover does not bring the withdrawn swap back (R128, R132, R302). -/
def doXpSwap (h : Hdr) (mode glide cycle : Nat) (s : State) : State :=
  if mode = 3 then s.hostJ (.xpSwap h mode glide cycle) h 0x0507 (xpSwap mode glide cycle) else s.host h 0x0507 (xpSwap mode glide cycle)
def execXpSwap (h : Hdr) (mode glide cycle : Nat) (s : State) : Host.Outcome State Fault Refusal := .next (doXpSwap h mode glide cycle s)

/-! ### Landing (R129 to R135) -/

/-- The swap lands at the boundary that ends the present tick. -/
def State.swapLands (s : State) (p : PendSwap) : Bool :=
  s.rd.haveActive && (if p.mode = 1 then decide (p.tick ≤ s.absTick)
    else s.tb.idx == 799 && (if p.mode = 2 then decide (p.tick / 800 < s.tb.cycleNow + 1) else decide (p.cycle ≤ s.tb.cycleNow + 1)))

/-- The start values of the gains that glide: every node whose path stays and whose gain now is not its new one (R130). -/
def Crosspoint.glides (x : Crosspoint) (new : Bank) (g : Nat) : Tab (Option Int) :=
  if g = 0 then [] else
  ((x.act.nodes.map (fun e => e.1)) ++ (new.nodes.map (fun e => e.1)) ++ (x.glideFrom.map (fun e => e.1))).dedup.foldl (fun (t : Tab (Option Int)) k =>
    let o := tget {} x.act.nodes k
    let n := tget {} new.nodes k
    let now := x.gainNow k o
    if o.direct = n.direct ∧ now ≠ n.gain then tset none t k (some now) else t) []

/-- The new set: active and shadow bank are one, the generation has advanced (R129). -/
def Crosspoint.land (x : Crosspoint) (p : PendSwap) (tick : Nat) : Crosspoint :=
  let g := genUp x.generation
  { x with act := x.shadow, glideFrom := x.glides x.shadow p.glide, glideLen := p.glide, glideLeft := p.glide, staged := [], stagers := 0, dmaStager := none,
           pend := none, generation := g, swapTick := tick, swapEvt := some (g, p.mode - 1) }

/-- A swap within a cycle closes the open windows and opens new ones (R135); one at a cycle boundary leaves that to the boundary. -/
def State.splitWindows (s : State) : State :=
  if s.tb.idx = 799 then s else
  let w := s.xp.windows + 1
  let c := s.tb.cycleNow
  let g := s.xp.generation
  let f := s.tb.idx + 1
  let s1 := { s with
    xp := { s.xp with split := true, windows := w, tickSwaps := s.xp.tickSwaps + 1
                      dests := s.destList.foldl (fun (t : Tab Dest) d => tmod {} t d (fun q => q.turn true (freshDest c w g f true))) s.xp.dests }
    md := { s.md with piers := iter (3 * s.nBays) (fun p (t : Tab PierMod) => tmod {} t p (fun q => q.turn c w g f true)) s.md.piers } }
  s1.allBays.foldl (fun (t : State) b => t.turnWin b c w g f true) s1

/-- A bay's mode changes: outer and limit loops are cleared, the inner laws kept, the previous reference is the measured current (R142). -/
def State.changeMode (s : State) (b : Nat) : State :=
  let x := s.bayCtl b
  let f := fun (c : PierCtl) => ({ c with limits := c.limits.map LawState.clear, istar := c.im } : PierCtl)
  s.putBay b { x with pLaw := x.pLaw.clear, qLaw := x.qLaw.clear, idValid := false, dir := 0 } (f (s.pierCtl (3 * b))) (f (s.pierCtl (3 * b + 1))) (f (s.pierCtl (3 * b + 2)))

/-- A changed normal rate acts on the followers outside fallback; the sets accepted before the swap in its own tick no longer carry theirs (R151). -/
def Control.takeRate (c : Control) (rate : Nat) (p : PendSwap) : Control :=
  let f := fun (x : Follower) => if x.fallback then x else { x with rate := rate }
  let mine := fun (k : Nat) => ((c.sets.take k).filter (fun q => q.tick == p.tick)).length
  { c with p := f c.p, q := f c.q,
           sets := c.sets.zipIdx.map (fun e => if e.1.tick = p.tick ∧ mine e.2 < p.sets then { e.1 with rate := 0 } else e.1) }

/-- The words of FOOTING_CONFIG in force (R358). -/
def footingWords (n : Bank) : Tab Nat :=
  [(0, 22), (1, 22), (2, 14), (3, 1), (4, 1), (5, 2), (6, 1)].foldl (fun (t : Tab Nat) (r : Nat × Nat) =>
    iter r.2 (fun i (t : Tab Nat) => tset ((rowDefault 0x0201 0 r.1).getD i 0) t (r.1 * 64 + i) (n.word 0x0201 0 r.1 i)) t) []

/-- The words of THERMAL_CONFIG in force (R385). -/
def thermalWords (n : Bank) : Tab Nat :=
  iter 12 (fun k (t : Tab Nat) => tset ((rowDefault 0x0F01 (k / 6) (k % 6)).getD 0 0) t (k / 6 * 8 + k % 6) (n.word 0x0F01 (k / 6) (k % 6) 0)) []

/-- A staged item of an opcode's rows. -/
def Crosspoint.stagedOp (x : Crosspoint) (op : Nat) : Bool := x.staged.any (fun k => decide (k % 4 = 0) && decide (k / 4 / 64 / 512 = op))

/-- A course that was admitted while the swap was pending, at a position that the new mask does not fit, leaves service, and its records read ABSENT (R28, R129; DESIGN CHOICE, log 125: the spec checks the mask at acceptance). -/
def State.dropUnfitted (s : State) : State :=
  (((s.lk.courses.filter (fun e => e.2.serves)).map (fun e => e.1)).filter (fun c => !s.isFitted c)).foldl State.leaveService s

/-- What the landing changes outside the banks: slots, DMA, tone generators, followers and modes, impedance passes, diagnosis windows, footing and thermal words, plant time's source. `o` is the state before it (R82, R100, R125, R142, R151, R250, R263, R358, R368, R385). -/
def State.takeUp (s o : State) (p : PendSwap) : State :=
  let old := o.xp.act
  let new := s.xp.act
  let ch := fun (op t r : Nat) => old.row op t r != new.row op t r
  let s1 := s.rebindSlots
  let s2 := if o.xp.stagedOp 0x0406 then { s1 with sp := { s1.sp with dma := s1.sp.dma.land (if new.word 0x0406 0 0 0 = 1 then (match o.xp.dmaStager with | some i => some i | none => s1.sp.dma.owner) else none) } } else s1
  let s3 := { s2 with xp := { s2.xp with probes := iter 8 (fun k (t : Tab Probe) =>
      tmod {} t k (fun q => q.onSwap ((List.range 8).map (fun r => new.word 0x0504 k r 0)) ((List.range 8).any (fun r => o.xp.staged.contains (itemRow 0x0504 k r))))) s2.xp.probes } }
  let s4 := if (old.row 0x0603 0 1).getD 0 0 = (new.row 0x0603 0 1).getD 0 0 then s3 else { s3 with ce := s3.ce.takeRate (new.word 0x0603 0 1 0) p }
  let s5 := (s4.allBays.filter (fun b => ch 0x0601 b 0)).foldl State.changeMode s4
  let s6 := if ch 0x0901 0 0 || ch 0x0901 0 1 then { s5 with z := s5.z.discard ((s5.absTick + 1) / 800) } else s5
  let bays := s6.allBays.filter (fun b => ch 0x0601 b 7 || (List.range 17).any (fun r => ch 0x0907 b r))
  let s7 := { s6 with ld := { s6.ld with piers := bays.foldl (fun (t : Tab PierLoad) b => iter 3 (fun k (t : Tab PierLoad) => tmod {} t (3 * b + k) PierLoad.drop) t) s6.ld.piers } }
  let s8 := if o.xp.stagedOp 0x0201 then
      { s7 with ftg := { s7.ftg with config := footingWords new, charger := if s7.ftg.charger = .fault then (if s7.chargerMay then .precharge else .off) else s7.ftg.charger } } else s7
  let s9 := if o.xp.stagedOp 0x0F01 then
    { s8 with thm := { s8.thm with config := thermalWords new, dies := tmapAll {} (fun d => { d with above := [0, 0, 0], below := [0, 0, 0] }) s8.thm.dies } }
  else s8
  (if ch 0x0302 0 0 then s9.dropDiscipline.requalify else s9).dropUnfitted

/-- XP_SWAP_LANDING (R129): between the present tick and the next; the swap event is raised in the tick that the boundary opens. -/
def doXpSwapLanding (s : State) : State :=
  match s.xp.pend with
  | none => s
  | some p =>
    if !s.swapLands p then s
    else ({ s with xp := s.xp.land p (s.absTick + 1) }.takeUp s p).splitWindows
def execXpSwapLanding (s : State) : Host.Outcome State Fault Refusal := .next (doXpSwapLanding s)

/-- The swap event in the tick after the landing (R129). -/
def State.swapEvent (s : State) : State :=
  match s.xp.swapEvt with
  | none => s
  | some e => ({ s with xp := { s.xp with swapEvt := none } }).raise { kind := .swapLanded, unit := e.2, detail := e.1 }

end Sys2Proof.Machine
end

