-- ==== Sys2Proof/Machine/Margins.lean ====
section
/-! DEFINITION. Float margin and headroom, once per cycle (01 R37, R39 to R41). -/

namespace Sys2Proof.Machine
open Sys2Proof

/-- The bay has a fitted position: the float margin and headroom are formed for such bays only. -/
def State.bayFitted (s : State) (b : Nat) : Bool := (s.xp.act.row 0x0702 b 0).any (fun w => w != 0)

/-- V_CELL codes of every brick in a pier's chain: every record that is not ABSENT (R37). -/
def State.chainCodes (s : State) (p : Nat) : Nat :=
  sumN ((trange s.rc.bricks (p * 12288) 12288).map (fun e => if e.2.state = .absent then 0 else e.2.vCell))

/-- The smallest pairwise sum of float voltages, in codes (R37). -/
def State.pairCodes (s : State) (b : Nat) : Nat :=
  let v := fun (k : Nat) => s.chainCodes (3 * b + k)
  Nat.min (v 0 + v 1) (Nat.min (v 0 + v 2) (v 1 + v 2))

/-- The float margin is negative: the sum of codes lies below 1.10 × √2 × *V*_LL, compared in squares (R37). -/
def marginNegative (codes vllMv : Nat) : Bool := decide ((50000 * codes) ^ 2 < 2 * (65536 * 11 * vllMv) ^ 2)

/-- The float margin in mV. -/
def marginMv (codes vllMv : Nat) : Int := divRne ((codes : Int) * 5000 - (sqrtNear (242 * vllMv ^ 2) 100 : Nat) * 65536) 65536

/-- The float margin of a bay and its event, with the margin in volts (R37). -/
def State.floatMargin (s : State) (b : Nat) : State :=
  let v := s.prm 0x0702 b 2 0
  let c := s.pairCodes b
  let neg := marginNegative c v
  let mv := marginMv c v
  let was := (tget {} s.md.bays b).marginRaised
  let s1 := { s with md := { s.md with bays := tmod {} s.md.bays b (fun x => { x with margin := mv, marginRaised := neg }) } }
  let volts := patternOf 32 (divRne mv 1000)
  if neg && !was then s1.raise { kind := .floatMargin, unit := bayUid b, detail := volts }
  else if was && !neg then s1.raise { kind := .floatMarginClear, unit := bayUid b, detail := volts }
  else s1

/-- *k*_zs in Q2.30, rounded down, for *a* in Q2.22 (R40). -/
def kZs (a : Nat) : Nat :=
  if 9 * a ≤ 4194304 then 1073741824 - a * 256
  else Nat.sqrt (2 ^ 18 * (4194304 + 3 * a) ^ 3 / (108 * a))

/-- The bricks a pier needs (R39): *k*_ov in Q2.22, *k*_zs in Q2.30, *V*_LL and *V*_min in mV; rounded up. -/
def requiredBricks (kov kzs vllMv vminMv : Nat) : Nat :=
  let num := kov * kzs * vllMv
  let den := 2 ^ 52 * vminMv
  if den = 0 then 0 else
  let r := Nat.sqrt (2 * num ^ 2 / (3 * den ^ 2))
  if 3 * den ^ 2 * r ^ 2 < 2 * num ^ 2 then r + 1 else r

/-- A pier's available bricks (R36, R287). -/
def State.availableBricks (s : State) (p : Nat) : Nat :=
  ((trange s.rc.bricks (p * 12288) 12288).filter (fun e => e.2.state.available && !s.darkCourse (e.1 / 96))).length

/-- The headroom comparison of a pier and its event, with the shortfall in bricks (R39). -/
def State.headroom (s : State) (p : Nat) : State :=
  let b := p / 3
  let need := requiredBricks (s.prm 0x0702 b 3 0) (kZs (s.prm 0x0601 b 5 0)) (s.prm 0x0702 b 2 0) (s.prm 0x0702 b 3 1)
  let n := s.availableBricks p
  let short := decide (n < need)
  let was := (tget {} s.md.bays b).short.testBit (p % 3)
  let s1 := { s with md := { s.md with bays := tmod {} s.md.bays b (fun x => { x with short := setBit x.short (p % 3) short }) } }
  if short && !was then s1.raise { kind := .headroom, unit := pierUid p, detail := need - n }
  else if was && !short then s1.raise { kind := .headroomClear, unit := pierUid p }
  else s1

/-- Both, for every bay with a fitted position. -/
def State.marginsCycle (s : State) : State :=
  (s.allBays.filter s.bayFitted).foldl (fun (t : State) b => (((t.floatMargin b).headroom (3 * b)).headroom (3 * b + 1)).headroom (3 * b + 2)) s

end Sys2Proof.Machine
end

