-- ==== Sys2Proof/Machine/Catalog.lean ====
section
/-! DEFINITION. The command catalogue: each opcode's right and cost, and the command its parameters spell, none where their length is not allowed (15 R419, R424, R426, R428, R430 to R444). -/

namespace Sys2Proof.Machine
open Sys2Proof

/-- The right a command needs, none where it needs none, and its cost in units (R399, R409). -/
structure OpRow where
  right : Option Nat
  cost : Nat
deriving DecidableEq, Repr

def observe (cost : Nat) : Option OpRow := some ⟨some 0, cost⟩
def operate (cost : Nat) : Option OpRow := some ⟨some 1, cost⟩
def configure (cost : Nat) : Option OpRow := some ⟨some 2, cost⟩
def maintain (cost : Nat) : Option OpRow := some ⟨some 3, cost⟩
def safety (cost : Nat) : Option OpRow := some ⟨some 4, cost⟩
def fuseRight (cost : Nat) : Option OpRow := some ⟨some 5, cost⟩
def anyone (cost : Nat) : Option OpRow := some ⟨none, cost⟩

/-- Groups 0x01 to 0x04 (R426, R430 to R433). -/
def rowLow (op : Nat) : Option OpRow :=
  match op with
  | 0x0101 => observe 1 | 0x0102 => configure 2 | 0x0103 => configure 2 | 0x0104 => observe 2 | 0x0105 => maintain 2
  | 0x0106 => operate 2 | 0x0107 => maintain 1 | 0x0108 => safety 0 | 0x0109 => maintain 1
  | 0x0201 => safety 2 | 0x0202 => observe 2 | 0x0203 => maintain 1 | 0x0204 => maintain 1
  | 0x0301 => configure 2 | 0x0302 => configure 2 | 0x0303 => operate 1 | 0x0304 => observe 2
  | 0x0401 => configure 2 | 0x0402 => operate 1 | 0x0403 => operate 1 | 0x0404 => configure 2 | 0x0405 => configure 2
  | 0x0406 => configure 2 | 0x0407 => configure 2 | 0x0408 => configure 2 | 0x0409 => observe 1
  | _ => none

/-- Groups 0x05 to 0x07 (R426, R434 to R436). -/
def rowMid (op : Nat) : Option OpRow :=
  match op with
  | 0x0501 => configure 4 | 0x0502 => configure 2 | 0x0503 => configure 2 | 0x0504 => configure 2 | 0x0505 => configure 2
  | 0x0506 => configure 2 | 0x0507 => configure 8 | 0x0508 => observe 1 | 0x0509 => configure 2 | 0x050A => operate 1
  | 0x050B => observe 4 | 0x050C => operate 1
  | 0x0601 => configure 2 | 0x0602 => configure 2 | 0x0603 => configure 2 | 0x0604 => operate 1 | 0x0605 => observe 1
  | 0x0606 => operate 1 | 0x0607 => observe 2 | 0x0608 => observe 1
  | 0x0701 => configure 2 | 0x0702 => configure 2 | 0x0703 => safety 2 | 0x0704 => operate 1 | 0x0705 => operate 1
  | 0x0706 => operate 1 | 0x0707 => operate 1 | 0x0708 => operate 1 | 0x0709 => operate 1 | 0x070A => safety 0
  | 0x070B => safety 1 | 0x070C => observe 4
  | _ => none

/-- Groups 0x08 to 0x0B (R426, R437 to R440). -/
def rowHigh (op : Nat) : Option OpRow :=
  match op with
  | 0x0801 => configure 4 | 0x0802 => observe 4 | 0x0803 => operate 1 | 0x0804 => maintain 1
  | 0x0901 => configure 2 | 0x0902 => configure 2 | 0x0903 => operate 1 | 0x0904 => observe 2 | 0x0905 => operate 2
  | 0x0906 => observe 1 | 0x0907 => configure 2 | 0x0908 => operate 1 | 0x0909 => observe 2 | 0x090A => maintain 1 | 0x090B => observe 2
  | 0x0A01 => configure 2 | 0x0A02 => maintain 1 | 0x0A03 => maintain 1 | 0x0A04 => maintain 1 | 0x0A05 => observe 2 | 0x0A06 => observe 2
  | 0x0B01 => observe 1 | 0x0B02 => maintain 2 | 0x0B03 => maintain 2 | 0x0B04 => maintain 2 | 0x0B05 => maintain 16
  | 0x0B06 => maintain 16 | 0x0B07 => maintain 2
  | _ => none

/-- Groups 0x0C to 0x0F (R426, R441 to R444). -/
def rowTop (op : Nat) : Option OpRow :=
  match op with
  | 0x0C01 => configure 2 | 0x0C02 => observe 1 | 0x0C03 => observe 4 | 0x0C04 => observe 1 | 0x0C05 => observe 1 | 0x0C06 => maintain 16
  | 0x0D01 => observe 1 | 0x0D02 => observe 1 | 0x0D03 => fuseRight 1 | 0x0D04 => fuseRight 1 | 0x0D05 => observe 2
  | 0x0D06 => fuseRight 16 | 0x0D07 => fuseRight 2
  | 0x0E01 => anyone 1 | 0x0E02 => anyone 0 | 0x0E03 => anyone 0 | 0x0E04 => anyone 1 | 0x0E05 => anyone 1 | 0x0E06 => maintain 2
  | 0x0E07 => anyone 1 | 0x0E08 => anyone 2
  | 0x0F01 => safety 2 | 0x0F02 => observe 1
  | _ => none

/-- The catalogue's row of an opcode, none where it is unknown. -/
def opRow (op : Nat) : Option OpRow :=
  if op < 0x0500 then rowLow op else if op < 0x0800 then rowMid op else if op < 0x0C00 then rowHigh op else rowTop op

/-- The command, where the parameters have the length. -/
def sized (n : Nat) (bs : List Nat) (c : Instr) : Option Instr := if bs.length = n then some c else none

/-- Words of 4 bytes. -/
def words4 : Nat → List Nat → List Nat
  | 0, _ => []
  | n + 1, bs => getLe bs 0 4 :: words4 n (bs.drop 4)

/-- The parameters of a row-form command (R424). -/
def stgOf (bs : List Nat) : Stg := { target := getLe bs 0 4, mask := getLe bs 4 4, words := words4 (bs.length / 4 - 2) (bs.drop 8) }

/-- A row-form command. -/
def rowForm (op : Nat) (bs : List Nat) (c : Stg → Instr) : Option Instr :=
  match stagedSpec op with
  | some sp => sized (8 + 4 * stagedWords sp) bs (c (stgOf bs))
  | none => none

/-- The entries of XP_GAIN_SET (R428). -/
def gainEntries : Nat → List Nat → List GainEntry
  | 0, _ => []
  | n + 1, bs => { dest := getLe bs 0 2, src := getLe bs 2 1, path := getLe bs 3 1, gain := getLe bs 4 4 } :: gainEntries n (bs.drop 8)

/-- Groups 0x01 to 0x04. -/
def parseLow (h : Hdr) (op : Nat) (bs : List Nat) : Option Instr :=
  let u := getLe bs
  match op with
  | 0x0101 => sized 0 bs (.sysInfoRead h)
  | 0x0102 => rowForm op bs (.netConfig h)
  | 0x0103 => rowForm op bs (.startConfig h)
  | 0x0104 => sized 2 bs (.startStatusRead h (u 0 1) (u 1 1))
  | 0x0105 => sized 4 bs (.startRestoreSkip h (u 0 4))
  | 0x0106 => sized 4 bs (.baySync h (u 0 4))
  | 0x0107 => sized 4 bs (.bayExclude h (u 0 4))
  | 0x0108 => sized 0 bs (.safeStop h)
  | 0x0109 => sized 1 bs (.deviceReset h (u 0 1))
  | 0x0201 => rowForm op bs (.footingConfig h)
  | 0x0202 => sized 0 bs (.footingStatusRead h)
  | 0x0203 => sized 4 bs (.footingCountersClear h (u 0 4))
  | 0x0204 => sized 1 bs (.footingRailRestore h (u 0 1))
  | 0x0301 => rowForm op bs (.tickSourceSet h)
  | 0x0302 => rowForm op bs (.plantTimeConfig h)
  | 0x0303 => sized 9 bs (.plantTimeSet h (u 0 8) (u 8 1))
  | 0x0304 => sized 10 bs (.timebaseStatus h (u 0 8) (u 8 2))
  | 0x0401 => rowForm op bs (.streamRoute h)
  | 0x0402 => sized 8 bs (.streamStart h (u 0 8))
  | 0x0403 => sized 8 bs (.streamStop h (u 0 8))
  | 0x0404 => rowForm op bs (.streamPortConfig h)
  | 0x0405 => rowForm op bs (.svSubscribe h)
  | 0x0406 => rowForm op bs (.streamDmaConfig h)
  | 0x0407 => rowForm op bs (.setpointInputConfig h)
  | 0x0408 => rowForm op bs (.gridSenseConfig h)
  | 0x0409 => sized 0 bs (.streamStatusRead h)
  | _ => none

/-- Groups 0x05 to 0x07. -/
def parseMid (h : Hdr) (op : Nat) (bs : List Nat) : Option Instr :=
  let u := getLe bs
  match op with
  | 0x0501 => sized (4 + 8 * u 0 2) bs (.xpGainSet h (gainEntries (u 0 2) (bs.drop 4)))
  | 0x0502 => sized (4 + 20 * u 3 1) bs (.xpShapeSet h (u 0 2) (u 2 1) (u 3 1) (words4 (5 * u 3 1) (bs.drop 4)))
  | 0x0503 => rowForm op bs (.xpDestConfig h)
  | 0x0504 => rowForm op bs (.xpProbeSet h)
  | 0x0505 => rowForm op bs (.xpDampSet h)
  | 0x0506 => rowForm op bs (.xpIdleConfig h)
  | 0x0507 => sized 12 bs (.xpSwap h (u 0 1) (u 2 2) (u 4 8))
  | 0x0508 => sized 0 bs (.xpStatus h)
  | 0x0509 => sized 0 bs (.xpShadowDiscard h)
  | 0x050A => sized 4 bs (.xpFlagsClear h (u 0 4))
  | 0x050B => sized 6 bs (.xpStatsRead h (u 0 2) (u 2 2) (u 4 2))
  | 0x050C => sized 4 bs (.bayWake h (u 0 4))
  | 0x0601 => rowForm op bs (.ceBayConfig h)
  | 0x0602 => sized (8 + 20 * u 5 1) bs (.ceLawSet h (u 0 4) (u 4 1) (u 5 1) (u 6 1) (words4 (5 * u 5 1) (bs.drop 8)))
  | 0x0603 => rowForm op bs (.cePlantConfig h)
  | 0x0604 => sized 12 bs (.ceSetpointSet h (u 0 1) (u 4 4) (u 8 4))
  | 0x0605 => sized 4 bs (.ceFlagsRead h (u 0 4))
  | 0x0606 => sized 4 bs (.ceFlagsClear h (u 0 4))
  | 0x0607 => sized 8 bs (.ceWinnerStats h (u 0 4) (u 4 2) (u 6 2))
  | 0x0608 => sized 4 bs (.cePlumbStatus h (u 0 4))
  | 0x0701 => rowForm op bs (.mdBayConfig h)
  | 0x0702 => rowForm op bs (.bayProfileSet h)
  | 0x0703 => rowForm op bs (.tripConfig h)
  | 0x0704 => sized 5 bs (.pierDisable h (u 0 4) (u 4 1))
  | 0x0705 => sized 5 bs (.bayDisable h (u 0 4) (u 4 1))
  | 0x0706 => sized 5 bs (.plantDisable h (u 0 4) (u 4 1))
  | 0x0707 => sized 4 bs (.pierEnable h (u 0 4))
  | 0x0708 => sized 4 bs (.bayEnable h (u 0 4))
  | 0x0709 => sized 4 bs (.plantEnable h (u 0 4))
  | 0x070A => sized 0 bs (.tripAssert h)
  | 0x070B => sized 0 bs (.tripReset h)
  | 0x070C => sized 8 bs (.mdStatsRead h (u 0 4) (u 4 2) (u 6 2))
  | _ => none

/-- Groups 0x08 to 0x0B. An image chunk carries 4 to 4,032 bytes on PCIe and 4 to 1,408 on UDP, in multiples of 4 (R440). -/
def parseHigh (h : Hdr) (op : Nat) (bs : List Nat) : Option Instr :=
  let u := getLe bs
  match op with
  | 0x0801 => rowForm op bs (.unitProfileSet h)
  | 0x0802 => sized 10 bs (.unitRead h (u 0 4) (u 4 1) (u 6 2) (u 8 2))
  | 0x0803 => sized 4 bs (.unitRecal h (u 0 4))
  | 0x0804 => sized 4 bs (.unitRelease h (u 0 4))
  | 0x0901 => rowForm op bs (.zConfig h)
  | 0x0902 => rowForm op bs (.zTempTableSet h)
  | 0x0903 => sized 4 bs (.zPassRequest h (u 0 4))
  | 0x0904 => sized 4 bs (.zRead h (u 0 4))
  | 0x0905 => sized 4 bs (.gridZMeasure h (u 0 1) (u 1 1) (u 2 2))
  | 0x0906 => sized 0 bs (.gridZRead h)
  | 0x0907 => rowForm op bs (.loadModelConfig h)
  | 0x0908 => sized 6 bs (.loadAmbientSet h (u 0 4) (u 4 2))
  | 0x0909 => sized 4 bs (.loadModelRead h (u 0 4))
  | 0x090A => sized 16 bs (.loadBaselineSet h (u 0 4) (u 4 1) (u 8 4) (u 12 4))
  | 0x090B => sized 4 bs (.loadDiagRead h (u 0 4))
  | 0x0A01 => rowForm op bs (.linkConfig h)
  | 0x0A02 => sized 8 bs (.linkWindowOpen h (u 0 4) (u 4 1) (u 6 2))
  | 0x0A03 => sized 4 bs (.linkWindowClose h (u 0 4))
  | 0x0A04 => sized 4 bs (.courseWithdraw h (u 0 4))
  | 0x0A05 => sized 4 bs (.linkStatusRead h (u 0 4))
  | 0x0A06 => sized 4 bs (.linkPendingRead h (u 0 2) (u 2 2))
  | 0x0B01 => sized 0 bs (.rdStatusRead h)
  | 0x0B02 => sized 1 bs (.tileHandover h (u 0 1))
  | 0x0B03 => sized 1 bs (.tileHandback h (u 0 1))
  | 0x0B04 => sized 0 bs (.keystoneSwitch h)
  | 0x0B05 =>
    if 12 ≤ bs.length ∧ bs.length ≤ (if h.udp then 1416 else 4040) ∧ bs.length % 4 = 0 then some (.fwImageWrite h (u 0 1) (u 4 4) (bs.drop 8)) else none
  | 0x0B06 => sized 1 bs (.fwImageVerify h (u 0 1))
  | 0x0B07 => sized 0 bs (.fwUpdate h)
  | _ => none

/-- Groups 0x0C to 0x0F. `SLOT_OPEN` carries a grant, or nothing for the bootstrap of slot 7 over PCIe without a trailer (R399). -/
def parseTop (h : Hdr) (boot : Bool) (op : Nat) (bs : List Nat) : Option Instr :=
  let u := getLe bs
  match op with
  | 0x0C01 => rowForm op bs (.ledgerConfig h)
  | 0x0C02 => sized 0 bs (.ledgerStatusRead h)
  | 0x0C03 => sized 20 bs (.ledgerExport h (u 0 8) (u 8 1) (u 9 1) (u 12 8))
  | 0x0C04 => sized 4 bs (.ledgerExportAck h (u 0 4))
  | 0x0C05 => sized 0 bs (.ledgerExportStop h)
  | 0x0C06 => sized 1 bs (.ledgerDriveBind h (u 0 1))
  | 0x0D01 => sized 0 bs (.identityRead h)
  | 0x0D02 => sized 0 bs (.fuseStatusRead h)
  | 0x0D03 => sized 0 bs (.fuseMaintEnter h)
  | 0x0D04 => sized 0 bs (.fuseMaintExit h)
  | 0x0D05 => sized 6 bs (.fuseRead h (u 0 1) (u 2 2) (u 4 2))
  | 0x0D06 => sized (8 + 4 * u 4 2) bs (.fuseProgram h (u 0 1) (u 2 2) (u 4 2) (words4 (u 4 2) (bs.drop 8)))
  | 0x0D07 => sized 2 bs (.fuseLock h (u 0 1) (u 1 1))
  | 0x0E01 => sized (if boot then 0 else 64) bs (.slotOpen h bs)
  | 0x0E02 => sized 0 bs (.slotClose h)
  | 0x0E03 => sized 0 bs (.slotKeepalive h)
  | 0x0E04 => sized 1 bs (.slotRightsDrop h (u 0 1))
  | 0x0E05 => sized 4 bs (.slotEventsSet h (u 0 2) (u 2 2))
  | 0x0E06 => rowForm op bs (.slotLimitsSet h)
  | 0x0E07 => sized 4 bs (.slotStatusRead h (u 0 1) (u 2 2))
  | 0x0E08 => sized 6 bs (.eventFetch h (u 0 4) (u 4 2))
  | 0x0F01 => rowForm op bs (.thermalConfig h)
  | 0x0F02 => sized 0 bs (.thermalStatusRead h)
  | _ => none

/-- The command that an opcode and its parameters spell, none where the length is not allowed (R407 step 10, R419). -/
def parseCmd (h : Hdr) (boot : Bool) (op : Nat) (bs : List Nat) : Option Instr :=
  if op < 0x0500 then parseLow h op bs else if op < 0x0800 then parseMid h op bs else if op < 0x0C00 then parseHigh h op bs else parseTop h boot op bs

end Sys2Proof.Machine
end

