-- ==== Sys2Proof/Machine/Window.lean ====
section
/-! DEFINITION. Commands from arrival to execution: the packet, the acceptance checks of R407, the token buckets and queues, and the command window of R411 (14). -/

namespace Sys2Proof.Machine
open Sys2Proof

/-! ### Executing an accepted command -/

/-- The effect of a host command; the other rows are no commands of a slot. -/
def runCommand (i : Instr) (s : State) : State :=
  match i with
  | .netConfig h g => doNetConfig h g s
  | .startConfig h g => doStartConfig h g s
  | .footingConfig h g => doFootingConfig h g s
  | .tickSourceSet h g => doTickSourceSet h g s
  | .plantTimeConfig h g => doPlantTimeConfig h g s
  | .streamRoute h g => doStreamRoute h g s
  | .streamPortConfig h g => doStreamPortConfig h g s
  | .svSubscribe h g => doSvSubscribe h g s
  | .streamDmaConfig h g => doStreamDmaConfig h g s
  | .setpointInputConfig h g => doSetpointInputConfig h g s
  | .gridSenseConfig h g => doGridSenseConfig h g s
  | .xpGainSet h entries => doXpGainSet h entries s
  | .xpShapeSet h dest first count coefs => doXpShapeSet h dest first count coefs s
  | .xpDestConfig h g => doXpDestConfig h g s
  | .xpProbeSet h g => doXpProbeSet h g s
  | .xpDampSet h g => doXpDampSet h g s
  | .xpIdleConfig h g => doXpIdleConfig h g s
  | .ceBayConfig h g => doCeBayConfig h g s
  | .ceLawSet h bay law count shift coefs => doCeLawSet h bay law count shift coefs s
  | .cePlantConfig h g => doCePlantConfig h g s
  | .mdBayConfig h g => doMdBayConfig h g s
  | .bayProfileSet h g => doBayProfileSet h g s
  | .tripConfig h g => doTripConfig h g s
  | .unitProfileSet h g => doUnitProfileSet h g s
  | .zConfig h g => doZConfig h g s
  | .zTempTableSet h g => doZTempTableSet h g s
  | .loadModelConfig h g => doLoadModelConfig h g s
  | .linkConfig h g => doLinkConfig h g s
  | .ledgerConfig h g => doLedgerConfig h g s
  | .slotLimitsSet h g => doSlotLimitsSet h g s
  | .thermalConfig h g => doThermalConfig h g s
  | .sysInfoRead h => doSysInfoRead h s
  | .startStatusRead h first count => doStartStatusRead h first count s
  | .startRestoreSkip h bay => doStartRestoreSkip h bay s
  | .baySync h bay => doBaySync h bay s
  | .bayExclude h bay => doBayExclude h bay s
  | .safeStop h => doSafeStop h s
  | .deviceReset h force => doDeviceReset h force s
  | .footingStatusRead h => doFootingStatusRead h s
  | .footingCountersClear h channels => doFootingCountersClear h channels s
  | .footingRailRestore h channel => doFootingRailRestore h channel s
  | .plantTimeSet h time atPps => doPlantTimeSet h time atPps s
  | .timebaseStatus h first max => doTimebaseStatus h first max s
  | .streamStart h slots => doStreamStart h slots s
  | .streamStop h slots => doStreamStop h slots s
  | .streamStatusRead h => doStreamStatusRead h s
  | .xpSwap h mode glide cycle => doXpSwap h mode glide cycle s
  | .xpStatus h => doXpStatus h s
  | .xpShadowDiscard h => doXpShadowDiscard h s
  | .xpFlagsClear h flags => doXpFlagsClear h flags s
  | .xpStatsRead h dest start max => doXpStatsRead h dest start max s
  | .bayWake h bay => doBayWake h bay s
  | .ceSetpointSet h quantity value rate => doCeSetpointSet h quantity value rate s
  | .ceFlagsRead h bay => doCeFlagsRead h bay s
  | .ceFlagsClear h unit => doCeFlagsClear h unit s
  | .ceWinnerStats h bay start max => doCeWinnerStats h bay start max s
  | .cePlumbStatus h bay => doCePlumbStatus h bay s
  | .pierDisable h unit mode => doPierDisable h unit mode s
  | .bayDisable h unit mode => doBayDisable h unit mode s
  | .plantDisable h unit mode => doPlantDisable h unit mode s
  | .pierEnable h unit => doPierEnable h unit s
  | .bayEnable h unit => doBayEnable h unit s
  | .plantEnable h unit => doPlantEnable h unit s
  | .tripAssert h => doTripAssert h s
  | .tripReset h => doTripReset h s
  | .mdStatsRead h pier start max => doMdStatsRead h pier start max s
  | .unitRead h unit scope start max => doUnitRead h unit scope start max s
  | .unitRecal h unit => doUnitRecal h unit s
  | .unitRelease h unit => doUnitRelease h unit s
  | .zPassRequest h pier => doZPassRequest h pier s
  | .zRead h brick => doZRead h brick s
  | .gridZMeasure h gen pair cycles => doGridZMeasure h gen pair cycles s
  | .gridZRead h => doGridZRead h s
  | .loadAmbientSet h unit temp => doLoadAmbientSet h unit temp s
  | .loadModelRead h bay => doLoadModelRead h bay s
  | .loadBaselineSet h pier source l r => doLoadBaselineSet h pier source l r s
  | .loadDiagRead h bay => doLoadDiagRead h bay s
  | .linkWindowOpen h bay kind seconds => doLinkWindowOpen h bay kind seconds s
  | .linkWindowClose h bay => doLinkWindowClose h bay s
  | .courseWithdraw h course => doCourseWithdraw h course s
  | .linkStatusRead h bay => doLinkStatusRead h bay s
  | .linkPendingRead h start max => doLinkPendingRead h start max s
  | .rdStatusRead h => doRdStatusRead h s
  | .tileHandover h tile => doTileHandover h tile s
  | .tileHandback h tile => doTileHandback h tile s
  | .keystoneSwitch h => doKeystoneSwitch h s
  | .fwImageWrite h slot offset data => doFwImageWrite h slot offset data s
  | .fwImageVerify h slot => doFwImageVerify h slot s
  | .fwUpdate h => doFwUpdate h s
  | .ledgerStatusRead h => doLedgerStatusRead h s
  | .ledgerExport h base order start seq => doLedgerExport h base order start seq s
  | .ledgerExportAck h cons => doLedgerExportAck h cons s
  | .ledgerExportStop h => doLedgerExportStop h s
  | .ledgerDriveBind h pair => doLedgerDriveBind h pair s
  | .identityRead h => doIdentityRead h s
  | .fuseStatusRead h => doFuseStatusRead h s
  | .fuseMaintEnter h => doFuseMaintEnter h s
  | .fuseMaintExit h => doFuseMaintExit h s
  | .fuseRead h region offset words => doFuseRead h region offset words s
  | .fuseProgram h region offset words data => doFuseProgram h region offset words data s
  | .fuseLock h region kind => doFuseLock h region kind s
  | .slotOpen h grant => doSlotOpen h grant s
  | .slotClose h => doSlotClose h s
  | .slotKeepalive h => doSlotKeepalive h s
  | .slotRightsDrop h mask => doSlotRightsDrop h mask s
  | .slotEventsSet h mask moderation => doSlotEventsSet h mask moderation s
  | .slotStatusRead h resend tag => doSlotStatusRead h resend tag s
  | .eventFetch h start max => doEventFetch h start max s
  | .thermalStatusRead h => doThermalStatusRead h s
  | _ => s

/-- The active keystone has booted: the host endpoint answers (R328, R413). -/
def State.answers (s : State) : Bool := s.rd.haveActive && s.st.step4

/-! ### Packets (R394, R395) -/

/-- What a packet's bytes hold. -/
structure Pkt where
  magic : Nat
  version : Nat
  slot : Nat
  kind : Nat
  auth : Bool
  opcode : Nat
  tag : Nat
  seq : Nat
  gen : Nat
  plen : Nat
  params : List Nat
  signed : List Nat
  trailer : List Nat
deriving DecidableEq, Repr

/-- A packet's fields (R394). -/
def Pkt.parse (bs : List Nat) : Pkt :=
  let n := getLe bs 20 2
  { magic := getLe bs 0 2, version := getLe bs 2 1, slot := getLe bs 3 1 % 8, kind := getLe bs 4 1, auth := (getLe bs 5 1).testBit 0, opcode := getLe bs 6 2
    tag := getLe bs 8 2, seq := getLe bs 12 4, gen := getLe bs 16 4, plen := n, params := (bs.drop 32).take n, signed := bs.take (32 + n)
    trailer := (bs.drop (32 + n)).take 16 }

/-- The bootstrap `SLOT_OPEN` of slot 7: over PCIe, no parameters, no trailer (R399). -/
def State.bootOpen (s : State) (udp : Bool) (p : Pkt) : Bool :=
  p.opcode == 0x0E01 && p.plen == 0 && p.slot == 7 && !udp && !p.auth && s.bootstrap

/-- The key that a command's trailer is checked under: the slot's, or for `SLOT_OPEN` the one its grant gives; empty where there is none (R395, R398). -/
def State.trailerKey (s : State) (i : Nat) (p : Pkt) : List Nat :=
  if p.opcode = 0x0E01 then (match s.rootKey with | some k => grantKey k p.params | none => []) else (s.slot i).key

/-- The trailer check of step 4 (R395, R398, R407). -/
def State.trailerOk (s : State) (udp : Bool) (i : Nat) (p : Pkt) (len : Nat) : Bool :=
  let key := s.trailerKey i p
  let need := udp || (p.opcode == 0x0E01 && !s.bootOpen udp p)
  (!need || p.auth) && (!udp || len == 48 + p.plen) && (!p.auth || (key != [] && (hmac key p.signed).take 16 == p.trailer))

/-! ### Acceptance (R401, R407 to R410) -/

/-- Count a failed step (R407, R411, R417, R418). -/
def State.countStep (s : State) (i k : Nat) (udp : Bool) : State :=
  let s1 := s.modSlot i (fun x => { x with
    byStep := tmod 0 x.byStep k (incSat 32)
    authFail := if 3 ≤ k ∧ k ≤ 5 then incSat 32 x.authFail else x.authFail
    refused := if 12 ≤ k then incSat 32 x.refused else x.refused
    malformed := if k = 1 ∨ (k = 2 ∧ udp) then incSat 32 x.malformed else x.malformed })
  { s1 with hs := { s1.hs with authFail := s1.hs.authFail || k == 4, refused := s1.hs.refused || decide (12 ≤ k) } }

/-- Refuse a command at a step: it is counted, and its reply written. -/
def State.refuseStep (s : State) (h : Hdr) (op k : Nat) (a : Ans) : State := (s.countStep h.slot k h.udp).writeReply h op 0 a .refusal

/-- A sequence is fresh (R401). -/
def Slot.fresh (x : Slot) (seq : Nat) : Bool := decide (x.hiSeq < seq + 64) && !x.window.contains seq

/-- A sequence is consumed (R401, R407). -/
def Slot.consume (x : Slot) (seq : Nat) : Slot :=
  let hi := Nat.max x.hiSeq seq
  { x with hiSeq := hi, window := (seq :: x.window).filter (fun q => decide (hi < q + 64)) }

/-- The slot is open on the transport the command came by. -/
def Slot.openOn (x : Slot) (udp : Bool) : Bool := x.phase == (if udp then .udp else .pcie)

/-- A tag is outstanding: of a command queued, of a fuse command that runs, or of a command whose reply is held (R396). -/
def State.tagOut (s : State) (i tag : Nat) : Bool :=
  (s.slot i).queue.any (fun q => q.tag == tag) || (s.slot i).held.any (fun c => c.reply.tag == tag && c.use != .copy) || (match s.fu.prog with | some p => p.slot == i && p.hdr.tag == tag | none => false)

/-- The total cost queued (R410). -/
def State.queuedCost (s : State) : Nat := sumN ((List.range 8).map (fun i => sumN ((s.slot i).queue.map (fun q => q.cost))))

/-- Whole µs until the bucket holds a cost (R409). -/
def State.retryTokens (s : State) (i cost : Nat) : Nat := divCeil (cost * 10 ^ 12 - (s.slot i).bucket) (s.prm 0x0E06 i 0 0 * 10 ^ 6)

/-- Whole µs of ⌈U / 16⌉ ticks at the nominal frequency (R410). -/
def State.retryQueue (s : State) : Nat := divCeil (divCeil s.queuedCost 16 * 10 ^ 9) (800 * s.prm 0x0301 0 6 0)

/-- Steps 12 and 13, then acceptance: a command without cost executes at once (R409, R410, R412, R423). -/
def State.admitCmd (s : State) (h : Hdr) (op cost : Nat) (c : Instr) : State :=
  let i := h.slot
  if cost = 0 then runCommand c (s.modSlot i (fun x => { x with idle := 0 }))
  else if (s.slot i).bucket < cost * 10 ^ 12 then s.refuseStep h op 12 { status := stQueueFull, retry := s.retryTokens i cost }
  else if 64 ≤ (s.slot i).queue.length then s.refuseStep h op 13 { status := stQueueFull, retry := s.retryQueue }
  else s.modSlot i (fun x => { x with bucket := x.bucket - cost * 10 ^ 12, idle := 0, queue := x.queue ++ [{ cmd := c, cost := cost, tag := h.tag, left := Config.moreWindows c }] })

/-- Steps 6 to 11, for a packet whose trailer and sequence are good; the parameters' limit of R396 falls under step 10. -/
def State.checkCmd (s : State) (h : Hdr) (p : Pkt) (boot : Bool) : State :=
  let x := s.slot h.slot
  let op := p.opcode
  if op ≠ 0x0E01 ∧ ¬ x.openOn h.udp then s.refuseStep h op 6 { status := stNoSession }
  else if op ≠ 0x0E01 ∧ p.gen ≠ x.gen then s.refuseStep h op 7 { status := stRightsChanged }
  else match opRow op with
    | none => s.refuseStep h op 8 { status := stBadOpcode }
    | some r =>
      if (match r.right with | some k => !x.rights.testBit k | none => false) then s.refuseStep h op 9 { status := stDenied }
      else match (if p.params.length = p.plen ∧ p.plen ≤ (if h.udp then 1424 else 4048) then parseCmd h boot op p.params else none) with
        | none => s.refuseStep h op 10 { status := stBadLength }
        | some c =>
          if s.tagOut h.slot p.tag then (if h.udp then s.countStep h.slot 11 true else s.refuseStep h op 11 (refuseAns stBadParam op 255 p.tag))
          else s.admitCmd h op r.cost c

/-- The binding of step 3: the ring's slot, or the address and port bound to an open slot (R406, R407). -/
def State.bound (s : State) (udp : Bool) (ring peer : Nat) (p : Pkt) : Bool :=
  if udp then !(s.slot p.slot).live || ((s.slot p.slot).phase == .udp && (s.slot p.slot).peer == peer) else p.slot == ring

/-- A packet that arrives, in the order of R407. -/
def State.takePacket (s : State) (udp : Bool) (ring peer : Nat) (bs : List Nat) : State :=
  let p := Pkt.parse bs
  let i := if udp then p.slot else ring
  let h : Hdr := { slot := i, tag := p.tag, gen := p.gen, udp := udp, auth := p.auth, peer := peer }
  if bs.length < 32 ∨ p.magic ≠ 0x4F48 ∨ p.kind ≠ 1 then
    (if udp then { s with hs := { s.hs with malformed := incSat 32 s.hs.malformed } } else s.countStep ring 1 false)
  else if p.version ≠ 1 then (if udp then s.countStep i 2 true else s.refuseStep h p.opcode 2 { status := stBadVersion })
  else if !s.bound udp ring peer p then (if udp then s.countStep i 3 true else s.refuseStep h p.opcode 3 (refuseAns stBadParam p.opcode 255 p.slot))
  else if !s.trailerOk udp i p bs.length then (if udp then s.countStep i 4 true else s.refuseStep h p.opcode 4 { status := stAuth })
  else if !(s.slot i).fresh p.seq then s.countStep i 5 udp
  else (s.modSlot i (fun x => x.consume p.seq)).checkCmd h p (s.bootOpen udp p)

/-- Take the announced entries of a command ring; the consumer index follows (R402, R413). -/
def State.pumpRing (s : State) (i : Nat) : State :=
  let es := (s.slot i).ringWait
  let t := s.modSlot i (fun x => { x with ringWait := [], cmdCons := x.cmdProd })
  let s1 := { t with hs := t.hs.announce i }
  es.foldl (fun (t : State) e => t.takePacket false i 0 e) s1

/-- HS_CMD_PROD (R402, R413, R418): `entries` are what the ring holds from the old index on; they wait while no keystone answers. -/
def doHsCmdProd (i index : Nat) (entries : List (List Nat)) (s : State) : State :=
  let x := s.slot i
  if backwards x.cmdProd (index % pow32) then s.modSlot i (fun x => { x with malformed := incSat 32 x.malformed })
  else
    let n := Nat.min ((index + pow32 - x.cmdProd) % pow32) (2 ^ x.rings.cmdOrder)
    let s1 := s.modSlot i (fun x => { x with cmdProd := index % pow32, ringWait := if x.rings.valid then x.ringWait ++ entries.take n else x.ringWait })
    if s1.answers then s1.pumpRing i else s1
def execHsCmdProd (slot index : Nat) (entries : List (List Nat)) (s : State) : Host.Outcome State Fault Refusal :=
  if 8 ≤ slot then .fault .noSuchUnit else .next (doHsCmdProd slot index entries s)

/-- UDP_DATAGRAM (R406): to the port's address and VLAN, whole, at most 1,472 bytes, while a keystone answers. -/
def doUdpDatagram (port peer dst vlan : Nat) (fragment : Bool) (bytes : List Nat) (s : State) : State :=
  if !s.portIs port dst vlan || fragment || decide (1472 < bytes.length) || !s.answers then s else s.takePacket true 0 peer bytes
def execUdpDatagram (port peer dst vlan : Nat) (fragment : Bool) (bytes : List Nat) (s : State) : Host.Outcome State Fault Refusal :=
  if 2 ≤ port then .fault .noSuchUnit else .next (doUdpDatagram port peer dst vlan fragment bytes s)

/-! ### The command window (R404, R408, R409, R411) -/

/-- Reply places that a command needs: a resent copy takes one more (R443). -/
def replyPlaces (c : Instr) : Nat :=
  match c with
  | .slotStatusRead _ r _ => if r = 0 then 1 else 2
  | _ => 1

/-- The head of a slot's queue must wait: the reply ring has no room beside the replies held for it (R404), or a fuse command of the slot runs (R408, R480). -/
def State.headWaits (s : State) (i : Nat) (q : Queued) : Bool :=
  let x := s.slot i
  (x.phase != .udp && decide (2 ^ x.rings.rplOrder < (x.rplProd + pow32 - x.rplCons) % pow32 + x.held.length + replyPlaces q.cmd)) ||
  (match s.fu.prog with | some p => p.slot == i | none => false)

/-- The head command of a slot that may run, none where there is none. -/
def State.headOf (s : State) (i : Nat) : Option Queued :=
  match (s.slot i).queue with
  | [] => none
  | q :: _ => if s.headWaits i q then none else some q

/-- A command window in progress: the state, the units left, and the slots whose head has suspended in it (R409). -/
structure WindowRun where
  state : State
  units : Nat
  suspended : List Nat

/-- The head command of a slot that may run in this window, none where there is none. -/
def WindowRun.headOf (x : WindowRun) (i : Nat) : Option Queued := if x.suspended.contains i then none else x.state.headOf i

/-- A head that fits is charged: it executes, or suspends to the next window and stays at the head of its queue (R409). -/
def WindowRun.charge (x : WindowRun) (i : Nat) (q : Queued) : WindowRun :=
  let t := x.state.modSlot i (fun y => { y with deficit := y.deficit - q.cost, queue := if q.left = 0 then y.queue.tail else { q with left := q.left - 1 } :: y.queue.tail })
  if q.left = 0 then { x with state := runCommand q.cmd t, units := x.units - q.cost }
  else { state := t, units := x.units - q.cost, suspended := i :: x.suspended }

/-- Serve a slot while its head fits its deficit and the budget. -/
def serveSlot (i : Nat) : Nat → WindowRun → WindowRun
  | 0, x => x
  | n + 1, x =>
    match x.headOf i with
    | none => if (x.state.slot i).queue.isEmpty then { x with state := x.state.modSlot i (fun y => { y with deficit := 0 }) } else x
    | some q => if q.cost ≤ (x.state.slot i).deficit ∧ q.cost ≤ x.units then serveSlot i n (x.charge i q) else x

/-- One round: each slot with a command that may run gains 4 units and is served. -/
def windowRound (x : WindowRun) (i : Nat) : WindowRun :=
  match x.headOf i with
  | none => x
  | some _ => serveSlot i 17 { x with state := x.state.modSlot i (fun y => { y with deficit := y.deficit + 4 }) }

/-- Rounds until the budget is spent or no head fits what is left. -/
def windowRounds (order : List Nat) : Nat → WindowRun → State
  | 0, x => x.state
  | n + 1, x =>
    if order.any (fun i => match x.headOf i with | some q => decide (q.cost ≤ x.units) && decide (0 < x.units) | none => false) then
      windowRounds order n (order.foldl windowRound x)
    else x.state

/-- The command window of a tick: 16 units by deficit round robin, the first slot rotating (R411); a long command suspends at its end (R409, log 140). -/
def State.commandWindow (s : State) : State :=
  let order := (List.range 8).map (fun k => (s.hs.first + k) % 8)
  windowRounds order 80 { state := { s with hs := { s.hs with first := (s.hs.first + 1) % 8 } }, units := 16, suspended := [] }

end Sys2Proof.Machine
end

