-- ==== Sys2Proof/Machine/Tick.lean ====
section
/-! DEFINITION. TICK_BOUNDARY and CYCLE_BOUNDARY: what happens at the boundary between two ticks, and at the first tick of a cycle (02 R49 to R62, R73, R74, R76, R540, and what the other chapters do at a boundary). -/

namespace Sys2Proof.Machine
open Sys2Proof

/-! ### The cycle boundary -/

/-- The tiles' part: budgets, passes, medians, links, mirrors (R190, R188, R246, R293, R310). -/
def State.tileCycle (s : State) : State :=
  let s1 := { s with md := s.md.newCycle, lk := s.lk.newCycle
                     rd := { s.rd with tiles := tmapAll {} (fun (t : Tile) => { t with mirrorValid := t.mirrorValid || t.sweepWhole, sweepWhole := false }) s.rd.tiles } }
  s1.passCycle.medians

/-- The modulation windows of the ended cycle close and the new cycle's open, in the tiles, which go on through a flywheel (R134, R217, R306). -/
def State.turnPiers (s : State) : State :=
  let c := s.tb.cycleNow
  let g := s.xp.generation
  { s with md := { s.md with piers := iter (3 * s.nBays) (fun p (t : Tab PierMod) => tmod {} t p (fun q => q.turn c 0 g 0 false)) s.md.piers } }

/-- The keystone's statistics windows of the ended cycle close and the new cycle's first one opens under the generation in force (R134 to R136, R171). -/
def State.turnWindows (s : State) : State :=
  let c := s.tb.cycleNow
  let g := s.xp.generation
  let s1 := { s with
    xp := { s.xp with windows := 0, dests := s.destList.foldl (fun (t : Tab Dest) d => tmod {} t d (fun q => q.turn false (freshDest c 0 g 0 false))) s.xp.dests } }
  s1.allBays.foldl (fun (t : State) b => t.turnWin b c 0 g 0 false) s1

/-- Generators and idle detection at the boundary (R125, R137). -/
def State.crosspointCycle (s : State) : State :=
  { s with xp := { s.xp with
    probes := iter 8 (fun k (t : Tab Probe) => tmod {} t k (fun q => q.atCycle (s.probeWords k))) s.xp.probes
    idle := iter s.nBays (fun b (t : Tab IdleState) => tmod {} t b IdleState.cycle) s.xp.idle } }

/-- The load models and *E*_b at the boundary: `tc` is the ended cycle's length (R162, R257 to R263). -/
def State.engineCycle (s : State) : State :=
  let s1 := s.heatCycle (gFrac s.tb.cycleLen 1000000000000)
  let s2 := { s1 with ld := ({ s1.ld with piers := iter (3 * s1.nBays) (fun p (t : Tab PierLoad) => tmod {} t p (s1.diagCycle p)) s1.ld.piers }).takeAmbient s1.nBays }
  { s2 with ce := { s2.ce with bays := iter s2.nBays (fun b (t : Tab BayCtl) => tmod {} t b BayCtl.ebCycle) s2.ce.bays } }

/-- The work of a cycle boundary; its record is kept whether or not a keystone runs (R74). -/
def State.wholeCycle (s : State) : State :=
  let s1 := ({ s with tb := { s.tb with cycleLen := s.tb.cyclePs, cyclePs := 0 } }).openCycle.tileCycle.turnPiers
  if !s1.ksRuns then s1.recordCycle else
  s1.engineCycle.turnWindows.crosspointCycle.selectCycle.limitEvent.marginsCycle.excludeCycle.recordCycle

/-- CYCLE_BOUNDARY (R51): in the tick 0 that TICK_BOUNDARY has begun. -/
def doCycleBoundary (s : State) : State := if s.tb.running && s.tb.bnd then s.wholeCycle else s
def execCycleBoundary (s : State) : Host.Outcome State Fault Refusal := .next (doCycleBoundary s)

/-! ### The end of a tick -/

/-- What waits for the end of the tick: the deadline event, flag clears, TRIP_RESET, channel counters, the rotation of the root (R81, R133, R146, R212, R373, R484). -/
def State.endTick (s : State) (ps : Nat) : State :=
  let s1 := s.missEvent.clearCeFlags
  let s2 := { s1 with xp := { s1.xp.clearFlags (s1.xp.clearDue * 8) with clearDue := 0 }, md := s1.md.endReset }
  (s2.footingTick ps).rotate

/-- The standby's copy of the state as tick 799 ends; the journal starts afresh (R302). A standby that waits for its first copy is then ready, and an update switches to it (R317). -/
def State.copyStandby (s : State) : State :=
  if s.tb.idx ≠ 799 ∨ !s.rd.haveActive ∨ (s.rd.standby ≠ .syncing ∧ s.rd.standby ≠ .ready) then s else
  { s with rd := { s.rd with
    shadow := some { ce := s.ce, ld := s.ld, xp := { s.xp with swapEvt := none }, tb := s.tb, lgSeq := s.lg.seq, lgEpoch := s.lg.epoch, slots := s.hs.slots, windows := s.lk.bays
                     courses := s.lk.courses, drive := s.rd.drive }
    journal := [], standby := .ready
    switchDue := s.rd.switchDue || (s.rd.updatePhase == 2), updatePhase := if s.rd.updatePhase = 2 then 3 else s.rd.updatePhase } }

/-- A glide moves by one tick; at its end every gain stands at its new value (R130). -/
def Crosspoint.glideTick (x : Crosspoint) : Crosspoint :=
  let n := x.glideLeft - 1
  { x with glideLeft := n, glideFrom := if n = 0 then [] else x.glideFrom }

/-! ### The start of a tick -/

/-- The tiles' held currents age: what arrives in stage 1 of the new tick replaces them (R172, R175). -/
def State.ageCurrents (s : State) : State :=
  { s with ce := { s.ce with piers := iter (3 * s.nBays) (fun p (t : Tab PierCtl) =>
      tmod {} t p (fun c => { c with imPrev := c.im, imStalePrev := c.imStale, imStale := true })) s.ce.piers } }

/-- *V̄* of the grid and of the SV stream, whose voltages are channels 4 to 6 of its dataset (R540). -/
def State.meanVolts (s : State) : State :=
  let st := s.prm 0x0301 0 1 0
  let c := fun (k : Nat) => (s.chanTick (2048 + 8 * st + k)).value * 3
  let h := (s.gridPhases3 :: s.tb.vHist).take 800
  let v := if (tget {} s.sp.sv st).timedOut then [] else ((c 4, c 5, c 6) :: s.tb.svHist).take 800
  { s with tb := { s.tb with vHist := h, vbar := posSeqMag s.tb.idx h, svHist := v, svVbar := posSeqMag s.tb.idx v } }

/-- The referred grid voltages of every bay shift by a tick (R161). -/
def State.referTick (s : State) : State :=
  { s with ce := { s.ce with bays := iter s.nBays (fun b (t : Tab BayCtl) => tmod {} t b (fun x => { x with vg1 := x.vg, vg := s.referred b })) s.ce.bays } }

/-- The keystone's work at a boundary: PLLs, sources, the stage-3 latch, the measurements that rest on it, ages (R55, R63, R76, R255, R257, R334). Where none runs, the grid-sense domain's voltages still reach the tiles (R308), and the tick keeps its increment (R306). -/
def State.keystoneTick (s : State) (inp : TickIn) (ps : Nat) : State :=
  if !s.ksRuns then (((s.latchSense inp.sense).referTick).syncRest ps) else
  let s1 := ((s.pllTick inp.grid inp.sv).selectTick.followFreq).stage3 inp
  let s2 := (s1.meanVolts.referTick).gridZTick
  let s3 := (s2.syncTick ps).startTick ps
  { s3 with ld := s3.ld.age ps }

/-- The ramp of a safe stop, a running update (R317, R341). -/
def State.countTick (s : State) (ps : Nat) : State :=
  let p := s.rd.updatePhase
  { s with
    st := { s.st with rampLeft := if s.st.stopPhase = 1 then s.st.rampLeft - 1 else s.st.rampLeft }
    rd := { s.rd with updateAge := if p = 1 ∨ p = 2 ∨ p = 4 then s.rd.updateAge + ps else s.rd.updateAge }
    sys := { s.sys with permitLow := s.sys.permitLow - 1 } }

/-- Buckets fill, keepalives and moderation times run (R405, R409, R412). -/
def State.hostTick (s : State) (ps : Nat) : State :=
  let fill := fun (i : Nat) (x : Slot) => { x with
    bucket := Nat.min (s.prm 0x0E06 i 1 0 * 10 ^ 12) (x.bucket + s.prm 0x0E06 i 0 0 * ps)
    idle := if x.live && s.answers then x.idle + ps else x.idle }
  { s with hs := { s.hs with
    slots := iter 8 (fun i (t : Tab Slot) => tmod {} t i (fill i)) s.hs.slots
    vectors := tmapAll {} (fun (v : Vector17) => { v with left := v.left - ps }) s.hs.vectors } }

/-- Entries that waited for a keystone are taken, then the command window runs (R411, R413). -/
def State.serveHosts (s : State) : State :=
  if !s.answers then s else
  ((List.range 8).foldl (fun (t : State) i => if (t.slot i).ringWait.isEmpty then t else t.pumpRing i) s).commandWindow

/-- One tick at the nominal frequency, in ps: what the row stands for while no tick runs (R13, log 20). -/
def State.nominalPs (s : State) : Nat := 10 ^ 15 / (800 * s.prm 0x0301 0 6 0)

/-- What the balls and the bank show in the tick (R379, R524, log 118). -/
def State.sampleBalls (s : State) (inp : TickIn) : State :=
  State.measureBank { s with sys := { s.sys with gpioPins := inp.gpio % 65536 } } inp.bank

/-- Time passes while no tick runs: the footing's, the hosts', the dies' and the ledger's times are measured on REFCLK (R13), and the hosts have their command window (R422). -/
def State.idleTime (s : State) : State :=
  let ps := s.nominalPs
  ((((((s.footingTick ps).rotate).takeRoot).hostTick ps).thermalTick ps).ledgerTick ps).serveHosts

/-- A cycle's count of tick swaps starts with its first tick (R128). -/
def State.freshSwaps (s : State) : State := if s.tb.idx = 0 then { s with xp := { s.xp with tickSwaps := 0 } } else s

/-- TICK_BOUNDARY (R49, R51, R76). -/
def doTickBoundary (inp : TickIn) (sIn : State) : State :=
  let s := sIn.sampleBalls inp
  if !s.tb.running then s.idleTime else
  let s0 := if s.tb.bnd then s.wholeCycle else s
  let ps := s0.tb.toOverflow * 625
  let s1 := (s0.endTick ps).copyStandby
  let s2 := ({ s1 with xp := s1.xp.glideTick }).advanceTick.freshSwaps
  let s3 := ({ s2 with tb := { s2.tb with cyclePs := s2.tb.cyclePs + ps } }).swapEvent.takeRoot.takeCarries
  let s4 := ((s3.ageCurrents.trackCount.keystoneTick inp ps).countTick ps).hostTick ps
  let s5 := ({ s4 with lk := s4.lk.tick ps }.txPort 0).txPort 1
  ((s5.thermalTick ps).ledgerTick ps).serveHosts
def execTickBoundary (inp : TickIn) (s : State) : Host.Outcome State Fault Refusal := .next (doTickBoundary inp s)

end Sys2Proof.Machine
end

