-- ==== Sys2Proof/Machine/Dispatch.lean ====
section
/-! DEFINITION. One arm per command, each one call of its meaning. -/

namespace Sys2Proof.Machine

/-- The effect of a command on everything but the queue. -/
def exec (i : Instr) (s : State) : Host.Outcome State Fault Refusal :=
  match i with
  | .netConfig h g => Sys2Proof.Machine.execNetConfig h g s
  | .startConfig h g => Sys2Proof.Machine.execStartConfig h g s
  | .footingConfig h g => Sys2Proof.Machine.execFootingConfig h g s
  | .tickSourceSet h g => Sys2Proof.Machine.execTickSourceSet h g s
  | .plantTimeConfig h g => Sys2Proof.Machine.execPlantTimeConfig h g s
  | .streamRoute h g => Sys2Proof.Machine.execStreamRoute h g s
  | .streamPortConfig h g => Sys2Proof.Machine.execStreamPortConfig h g s
  | .svSubscribe h g => Sys2Proof.Machine.execSvSubscribe h g s
  | .streamDmaConfig h g => Sys2Proof.Machine.execStreamDmaConfig h g s
  | .setpointInputConfig h g => Sys2Proof.Machine.execSetpointInputConfig h g s
  | .gridSenseConfig h g => Sys2Proof.Machine.execGridSenseConfig h g s
  | .xpGainSet h entries => Sys2Proof.Machine.execXpGainSet h entries s
  | .xpShapeSet h dest first count coefs => Sys2Proof.Machine.execXpShapeSet h dest first count coefs s
  | .xpDestConfig h g => Sys2Proof.Machine.execXpDestConfig h g s
  | .xpProbeSet h g => Sys2Proof.Machine.execXpProbeSet h g s
  | .xpDampSet h g => Sys2Proof.Machine.execXpDampSet h g s
  | .xpIdleConfig h g => Sys2Proof.Machine.execXpIdleConfig h g s
  | .ceBayConfig h g => Sys2Proof.Machine.execCeBayConfig h g s
  | .ceLawSet h bay law count shift coefs => Sys2Proof.Machine.execCeLawSet h bay law count shift coefs s
  | .cePlantConfig h g => Sys2Proof.Machine.execCePlantConfig h g s
  | .mdBayConfig h g => Sys2Proof.Machine.execMdBayConfig h g s
  | .bayProfileSet h g => Sys2Proof.Machine.execBayProfileSet h g s
  | .tripConfig h g => Sys2Proof.Machine.execTripConfig h g s
  | .unitProfileSet h g => Sys2Proof.Machine.execUnitProfileSet h g s
  | .zConfig h g => Sys2Proof.Machine.execZConfig h g s
  | .zTempTableSet h g => Sys2Proof.Machine.execZTempTableSet h g s
  | .loadModelConfig h g => Sys2Proof.Machine.execLoadModelConfig h g s
  | .linkConfig h g => Sys2Proof.Machine.execLinkConfig h g s
  | .ledgerConfig h g => Sys2Proof.Machine.execLedgerConfig h g s
  | .slotLimitsSet h g => Sys2Proof.Machine.execSlotLimitsSet h g s
  | .thermalConfig h g => Sys2Proof.Machine.execThermalConfig h g s
  | .sysInfoRead h => Sys2Proof.Machine.execSysInfoRead h s
  | .startStatusRead h first count => Sys2Proof.Machine.execStartStatusRead h first count s
  | .startRestoreSkip h bay => Sys2Proof.Machine.execStartRestoreSkip h bay s
  | .baySync h bay => Sys2Proof.Machine.execBaySync h bay s
  | .bayExclude h bay => Sys2Proof.Machine.execBayExclude h bay s
  | .safeStop h => Sys2Proof.Machine.execSafeStop h s
  | .deviceReset h force => Sys2Proof.Machine.execDeviceReset h force s
  | .footingStatusRead h => Sys2Proof.Machine.execFootingStatusRead h s
  | .footingCountersClear h channels => Sys2Proof.Machine.execFootingCountersClear h channels s
  | .footingRailRestore h channel => Sys2Proof.Machine.execFootingRailRestore h channel s
  | .plantTimeSet h time atPps => Sys2Proof.Machine.execPlantTimeSet h time atPps s
  | .timebaseStatus h first max => Sys2Proof.Machine.execTimebaseStatus h first max s
  | .streamStart h slots => Sys2Proof.Machine.execStreamStart h slots s
  | .streamStop h slots => Sys2Proof.Machine.execStreamStop h slots s
  | .streamStatusRead h => Sys2Proof.Machine.execStreamStatusRead h s
  | .xpSwap h mode glide cycle => Sys2Proof.Machine.execXpSwap h mode glide cycle s
  | .xpStatus h => Sys2Proof.Machine.execXpStatus h s
  | .xpShadowDiscard h => Sys2Proof.Machine.execXpShadowDiscard h s
  | .xpFlagsClear h flags => Sys2Proof.Machine.execXpFlagsClear h flags s
  | .xpStatsRead h dest start max => Sys2Proof.Machine.execXpStatsRead h dest start max s
  | .bayWake h bay => Sys2Proof.Machine.execBayWake h bay s
  | .ceSetpointSet h quantity value rate => Sys2Proof.Machine.execCeSetpointSet h quantity value rate s
  | .ceFlagsRead h bay => Sys2Proof.Machine.execCeFlagsRead h bay s
  | .ceFlagsClear h unit => Sys2Proof.Machine.execCeFlagsClear h unit s
  | .ceWinnerStats h bay start max => Sys2Proof.Machine.execCeWinnerStats h bay start max s
  | .cePlumbStatus h bay => Sys2Proof.Machine.execCePlumbStatus h bay s
  | .pierDisable h unit mode => Sys2Proof.Machine.execPierDisable h unit mode s
  | .bayDisable h unit mode => Sys2Proof.Machine.execBayDisable h unit mode s
  | .plantDisable h unit mode => Sys2Proof.Machine.execPlantDisable h unit mode s
  | .pierEnable h unit => Sys2Proof.Machine.execPierEnable h unit s
  | .bayEnable h unit => Sys2Proof.Machine.execBayEnable h unit s
  | .plantEnable h unit => Sys2Proof.Machine.execPlantEnable h unit s
  | .tripAssert h => Sys2Proof.Machine.execTripAssert h s
  | .tripReset h => Sys2Proof.Machine.execTripReset h s
  | .mdStatsRead h pier start max => Sys2Proof.Machine.execMdStatsRead h pier start max s
  | .unitRead h unit scope start max => Sys2Proof.Machine.execUnitRead h unit scope start max s
  | .unitRecal h unit => Sys2Proof.Machine.execUnitRecal h unit s
  | .unitRelease h unit => Sys2Proof.Machine.execUnitRelease h unit s
  | .zPassRequest h pier => Sys2Proof.Machine.execZPassRequest h pier s
  | .zRead h brick => Sys2Proof.Machine.execZRead h brick s
  | .gridZMeasure h gen pair cycles => Sys2Proof.Machine.execGridZMeasure h gen pair cycles s
  | .gridZRead h => Sys2Proof.Machine.execGridZRead h s
  | .loadAmbientSet h unit temp => Sys2Proof.Machine.execLoadAmbientSet h unit temp s
  | .loadModelRead h bay => Sys2Proof.Machine.execLoadModelRead h bay s
  | .loadBaselineSet h pier source l r => Sys2Proof.Machine.execLoadBaselineSet h pier source l r s
  | .loadDiagRead h bay => Sys2Proof.Machine.execLoadDiagRead h bay s
  | .linkWindowOpen h bay kind seconds => Sys2Proof.Machine.execLinkWindowOpen h bay kind seconds s
  | .linkWindowClose h bay => Sys2Proof.Machine.execLinkWindowClose h bay s
  | .courseWithdraw h course => Sys2Proof.Machine.execCourseWithdraw h course s
  | .linkStatusRead h bay => Sys2Proof.Machine.execLinkStatusRead h bay s
  | .linkPendingRead h start max => Sys2Proof.Machine.execLinkPendingRead h start max s
  | .rdStatusRead h => Sys2Proof.Machine.execRdStatusRead h s
  | .tileHandover h tile => Sys2Proof.Machine.execTileHandover h tile s
  | .tileHandback h tile => Sys2Proof.Machine.execTileHandback h tile s
  | .keystoneSwitch h => Sys2Proof.Machine.execKeystoneSwitch h s
  | .fwImageWrite h slot offset data => Sys2Proof.Machine.execFwImageWrite h slot offset data s
  | .fwImageVerify h slot => Sys2Proof.Machine.execFwImageVerify h slot s
  | .fwUpdate h => Sys2Proof.Machine.execFwUpdate h s
  | .ledgerStatusRead h => Sys2Proof.Machine.execLedgerStatusRead h s
  | .ledgerExport h base order start seq => Sys2Proof.Machine.execLedgerExport h base order start seq s
  | .ledgerExportAck h cons => Sys2Proof.Machine.execLedgerExportAck h cons s
  | .ledgerExportStop h => Sys2Proof.Machine.execLedgerExportStop h s
  | .ledgerDriveBind h pair => Sys2Proof.Machine.execLedgerDriveBind h pair s
  | .identityRead h => Sys2Proof.Machine.execIdentityRead h s
  | .fuseStatusRead h => Sys2Proof.Machine.execFuseStatusRead h s
  | .fuseMaintEnter h => Sys2Proof.Machine.execFuseMaintEnter h s
  | .fuseMaintExit h => Sys2Proof.Machine.execFuseMaintExit h s
  | .fuseRead h region offset words => Sys2Proof.Machine.execFuseRead h region offset words s
  | .fuseProgram h region offset words data => Sys2Proof.Machine.execFuseProgram h region offset words data s
  | .fuseLock h region kind => Sys2Proof.Machine.execFuseLock h region kind s
  | .slotOpen h grant => Sys2Proof.Machine.execSlotOpen h grant s
  | .slotClose h => Sys2Proof.Machine.execSlotClose h s
  | .slotKeepalive h => Sys2Proof.Machine.execSlotKeepalive h s
  | .slotRightsDrop h mask => Sys2Proof.Machine.execSlotRightsDrop h mask s
  | .slotEventsSet h mask moderation => Sys2Proof.Machine.execSlotEventsSet h mask moderation s
  | .slotStatusRead h resend tag => Sys2Proof.Machine.execSlotStatusRead h resend tag s
  | .eventFetch h start max => Sys2Proof.Machine.execEventFetch h start max s
  | .thermalStatusRead h => Sys2Proof.Machine.execThermalStatusRead h s
  | .hsCmdProd slot index entries => Sys2Proof.Machine.execHsCmdProd slot index entries s
  | .hsRplCons slot index => Sys2Proof.Machine.execHsRplCons slot index s
  | .hsEvqCons slot index => Sys2Proof.Machine.execHsEvqCons slot index s
  | .hsCommit value => Sys2Proof.Machine.execHsCommit value s
  | .hsCommitLanding => Sys2Proof.Machine.execHsCommitLanding s
  | .sysCommit value => Sys2Proof.Machine.execSysCommit value s
  | .sysCommitLanding => Sys2Proof.Machine.execSysCommitLanding s
  | .urCommit value => Sys2Proof.Machine.execUrCommit value s
  | .urCommitLanding => Sys2Proof.Machine.execUrCommitLanding s
  | .urFillPublish => Sys2Proof.Machine.execUrFillPublish s
  | .stagedRegisterWrite offset value => Sys2Proof.Machine.execStagedRegisterWrite offset value s
  | .registerWrite offset value => Sys2Proof.Machine.execRegisterWrite offset value s
  | .rcRead offset => Sys2Proof.Machine.execRcRead offset s
  | .badAccess write => Sys2Proof.Machine.execBadAccess write s
  | .spDmaInProd index => Sys2Proof.Machine.execSpDmaInProd index s
  | .spDmaOutCons index => Sys2Proof.Machine.execSpDmaOutCons index s
  | .freezeReq halt => Sys2Proof.Machine.execFreezeReq halt s
  | .freezeEnd halt => Sys2Proof.Machine.execFreezeEnd halt s
  | .freezeLimit => Sys2Proof.Machine.execFreezeLimit s
  | .udpDatagram port peer dst vlan fragment bytes => Sys2Proof.Machine.execUdpDatagram port peer dst vlan fragment bytes s
  | .arp port target vlan => Sys2Proof.Machine.execArp port target vlan s
  | .icmpEcho port dst vlan ident seq => Sys2Proof.Machine.execIcmpEcho port dst vlan ident seq s
  | .msiModerationEnd vector => Sys2Proof.Machine.execMsiModerationEnd vector s
  | .slotLost slot => Sys2Proof.Machine.execSlotLost slot s
  | .pcieLinkDown => Sys2Proof.Machine.execPcieLinkDown s
  | .grantExpiry slot => Sys2Proof.Machine.execGrantExpiry slot s
  | .tickBoundary inp => Sys2Proof.Machine.execTickBoundary inp s
  | .cycleBoundary => Sys2Proof.Machine.execCycleBoundary s
  | .recordPass => Sys2Proof.Machine.execRecordPass s
  | .rankSnapshot => Sys2Proof.Machine.execRankSnapshot s
  | .crosspointStage => Sys2Proof.Machine.execCrosspointStage s
  | .controlStage => Sys2Proof.Machine.execControlStage s
  | .plumbRecovery bay pier => Sys2Proof.Machine.execPlumbRecovery bay pier s
  | .plumbFloat bay pier => Sys2Proof.Machine.execPlumbFloat bay pier s
  | .modulationStage => Sys2Proof.Machine.execModulationStage s
  | .stageDeadlineMiss stage units => Sys2Proof.Machine.execStageDeadlineMiss stage units s
  | .tickMarker => Sys2Proof.Machine.execTickMarker s
  | .tickMarkerEcho lane delay => Sys2Proof.Machine.execTickMarkerEcho lane delay s
  | .upstreamFrame frame => Sys2Proof.Machine.execUpstreamFrame frame s
  | .bayLinkLost bay => Sys2Proof.Machine.execBayLinkLost bay s
  | .courseDark course => Sys2Proof.Machine.execCourseDark course s
  | .courseLeaveService course => Sys2Proof.Machine.execCourseLeaveService course s
  | .withdraw course => Sys2Proof.Machine.execWithdraw course s
  | .hello lane msg => Sys2Proof.Machine.execHello lane msg s
  | .join bay msg => Sys2Proof.Machine.execJoin bay msg s
  | .serials bay msg => Sys2Proof.Machine.execSerials bay msg s
  | .ring bay msg => Sys2Proof.Machine.execRing bay msg s
  | .laneDown lane => Sys2Proof.Machine.execLaneDown lane s
  | .laneTrained lane => Sys2Proof.Machine.execLaneTrained lane s
  | .laneRetry lane => Sys2Proof.Machine.execLaneRetry lane s
  | .windowOpen bay kind => Sys2Proof.Machine.execWindowOpen bay kind s
  | .windowClose bay kind => Sys2Proof.Machine.execWindowClose bay kind s
  | .sspRxFrame port words => Sys2Proof.Machine.execSspRxFrame port words s
  | .sspRxSlip port full => Sys2Proof.Machine.execSspRxSlip port full s
  | .svAsdu asdu => Sys2Proof.Machine.execSvAsdu asdu s
  | .svStreamTimeout stream => Sys2Proof.Machine.execSvStreamTimeout stream s
  | .dmaInputBlock block => Sys2Proof.Machine.execDmaInputBlock block s
  | .dmaOutputBlock => Sys2Proof.Machine.execDmaOutputBlock s
  | .channelQualify slot => Sys2Proof.Machine.execChannelQualify slot s
  | .channelLost slot => Sys2Proof.Machine.execChannelLost slot s
  | .slotRampEnd slot => Sys2Proof.Machine.execSlotRampEnd slot s
  | .setpointQualify => Sys2Proof.Machine.execSetpointQualify s
  | .setpointLost => Sys2Proof.Machine.execSetpointLost s
  | .probeBurstEnd gen => Sys2Proof.Machine.execProbeBurstEnd gen s
  | .xpSwapLanding => Sys2Proof.Machine.execXpSwapLanding s
  | .gridSenseInvalid channel => Sys2Proof.Machine.execGridSenseInvalid channel s
  | .gridPllLock => Sys2Proof.Machine.execGridPllLock s
  | .gridPllLockLoss => Sys2Proof.Machine.execGridPllLockLoss s
  | .pllFreeze => Sys2Proof.Machine.execPllFreeze s
  | .pllFreezeExit => Sys2Proof.Machine.execPllFreezeExit s
  | .sourceEligible src => Sys2Proof.Machine.execSourceEligible src s
  | .ptpSync offset interval => Sys2Proof.Machine.execPtpSync offset interval s
  | .ptpAnnounce identity rank interval => Sys2Proof.Machine.execPtpAnnounce identity rank interval s
  | .ptpPdelay delay => Sys2Proof.Machine.execPtpPdelay delay s
  | .ptpLost => Sys2Proof.Machine.execPtpLost s
  | .ppsEdge after => Sys2Proof.Machine.execPpsEdge after s
  | .ppsLost => Sys2Proof.Machine.execPpsLost s
  | .plantTimeSetLapse => Sys2Proof.Machine.execPlantTimeSetLapse s
  | .plantTimeLocked => Sys2Proof.Machine.execPlantTimeLocked s
  | .ppsOutPulse rise => Sys2Proof.Machine.execPpsOutPulse rise s
  | .refclkFault => Sys2Proof.Machine.execRefclkFault s
  | .tripInputAssert input => Sys2Proof.Machine.execTripInputAssert input s
  | .isoSupplyLoss => Sys2Proof.Machine.execIsoSupplyLoss s
  | .bayIdle bay => Sys2Proof.Machine.execBayIdle bay s
  | .standbyEntry bay => Sys2Proof.Machine.execStandbyEntry bay s
  | .standbyExit bay => Sys2Proof.Machine.execStandbyExit bay s
  | .enableLanding bay pier => Sys2Proof.Machine.execEnableLanding bay pier s
  | .keystoneLost cause => Sys2Proof.Machine.execKeystoneLost cause s
  | .keystoneLive => Sys2Proof.Machine.execKeystoneLive s
  | .plannedSwitch => Sys2Proof.Machine.execPlannedSwitch s
  | .fwUpdateAbort => Sys2Proof.Machine.execFwUpdateAbort s
  | .flywheelRampStart => Sys2Proof.Machine.execFlywheelRampStart s
  | .flywheelFloat => Sys2Proof.Machine.execFlywheelFloat s
  | .tileTakeover tile => Sys2Proof.Machine.execTileTakeover tile s
  | .transferCycleStart => Sys2Proof.Machine.execTransferCycleStart s
  | .transferComplete => Sys2Proof.Machine.execTransferComplete s
  | .zPassEnd pier => Sys2Proof.Machine.execZPassEnd pier s
  | .gridZStart => Sys2Proof.Machine.execGridZStart s
  | .gridZResult => Sys2Proof.Machine.execGridZResult s
  | .ambientTimeout bay => Sys2Proof.Machine.execAmbientTimeout bay s
  | .diagWindowClose pier => Sys2Proof.Machine.execDiagWindowClose pier s
  | .syncStart => Sys2Proof.Machine.execSyncStart s
  | .syncPermitAssert => Sys2Proof.Machine.execSyncPermitAssert s
  | .syncTimeout => Sys2Proof.Machine.execSyncTimeout s
  | .safeStopFloat => Sys2Proof.Machine.execSafeStopFloat s
  | .safeStopFlush => Sys2Proof.Machine.execSafeStopFlush s
  | .safeStopComplete flushed => Sys2Proof.Machine.execSafeStopComplete flushed s
  | .powerOn => Sys2Proof.Machine.execPowerOn s
  | .sysResetN => Sys2Proof.Machine.execSysResetN s
  | .positionReady => Sys2Proof.Machine.execPositionReady s
  | .positionTimeout off => Sys2Proof.Machine.execPositionTimeout off s
  | .positionRetry => Sys2Proof.Machine.execPositionRetry s
  | .fuseLoad marginal ids journal => Sys2Proof.Machine.execFuseLoad marginal ids journal s
  | .keystoneSelfTest keystone pass => Sys2Proof.Machine.execKeystoneSelfTest keystone pass s
  | .electionTimeout limit => Sys2Proof.Machine.execElectionTimeout limit s
  | .signedBoot keystone => Sys2Proof.Machine.execSignedBoot keystone s
  | .serviceUartWrite slot offset data => Sys2Proof.Machine.execServiceUartWrite slot offset data s
  | .tileSelfTest tile pass => Sys2Proof.Machine.execTileSelfTest tile pass s
  | .timebaseStart locked => Sys2Proof.Machine.execTimebaseStart locked s
  | .admissionEnd bay => Sys2Proof.Machine.execAdmissionEnd bay s
  | .restore bay => Sys2Proof.Machine.execRestore bay s
  | .ledgerMount mount => Sys2Proof.Machine.execLedgerMount mount s
  | .vinLoss => Sys2Proof.Machine.execVinLoss s
  | .vinReturn => Sys2Proof.Machine.execVinReturn s
  | .bankCutoff => Sys2Proof.Machine.execBankCutoff s
  | .vaonLoss => Sys2Proof.Machine.execVaonLoss s
  | .warningExcursion channel high => Sys2Proof.Machine.execWarningExcursion channel high s
  | .supervisorTrip channels high => Sys2Proof.Machine.execSupervisorTrip channels high s
  | .retryOffEnd channel => Sys2Proof.Machine.execRetryOffEnd channel s
  | .retryRailCheck channel held => Sys2Proof.Machine.execRetryRailCheck channel held s
  | .footingReset => Sys2Proof.Machine.execFootingReset s
  | .bankBelowReady => Sys2Proof.Machine.execBankBelowReady s
  | .chargerPrecharge => Sys2Proof.Machine.execChargerPrecharge s
  | .chargerCc => Sys2Proof.Machine.execChargerCc s
  | .chargerCv => Sys2Proof.Machine.execChargerCv s
  | .chargerDone => Sys2Proof.Machine.execChargerDone s
  | .chargerFault => Sys2Proof.Machine.execChargerFault s
  | .capEstimate ms => Sys2Proof.Machine.execCapEstimate ms s
  | .footingI2cRead index => Sys2Proof.Machine.execFootingI2cRead index s
  | .thermalConversion codes => Sys2Proof.Machine.execThermalConversion codes s
  | .thermalLevelChange die => Sys2Proof.Machine.execThermalLevelChange die s
  | .sensorBroken die => Sys2Proof.Machine.execSensorBroken die s
  | .sensorRecovered die => Sys2Proof.Machine.execSensorRecovered die s
  | .throttleGraceEnd die => Sys2Proof.Machine.execThrottleGraceEnd die s
  | .throttleEnforce die => Sys2Proof.Machine.execThrottleEnforce die s
  | .throttleRelease die => Sys2Proof.Machine.execThrottleRelease die s
  | .snapshotDue => Sys2Proof.Machine.execSnapshotDue s
  | .snapshotCapture => Sys2Proof.Machine.execSnapshotCapture s
  | .eventPageSeal => Sys2Proof.Machine.execEventPageSeal s
  | .nvmeCompletion ident drive ok => Sys2Proof.Machine.execNvmeCompletion ident drive ok s
  | .driveTimeout drive => Sys2Proof.Machine.execDriveTimeout drive s
  | .smartPoll drive warning => Sys2Proof.Machine.execSmartPoll drive warning s
  | .resilverComplete pair => Sys2Proof.Machine.execResilverComplete pair s
  | .fuseProgramComplete bad weak => Sys2Proof.Machine.execFuseProgramComplete bad weak s
  | .jtagInstruction load => Sys2Proof.Machine.execJtagInstruction load s
  | .isoSupplyReturn => Sys2Proof.Machine.execIsoSupplyReturn s
  | .railReturn channel => Sys2Proof.Machine.execRailReturn channel s
  | .tripInputRelease input => Sys2Proof.Machine.execTripInputRelease input s

end Sys2Proof.Machine
end

