-- ==== Sys2Proof/WellFormed.lean ====
section
/-! DEFINITION. Which commands are well formed: the units they name exist in the variant, and header and register words have their widths. -/

namespace Sys2Proof

/-- A command header's fields have their widths (R394): 8 slots, 16-bit tags, 32-bit generations. -/
def Hdr.wf (h : Hdr) : Bool := decide (h.slot < 8) && decide (h.tag < 65536) && decide (h.gen < pow32)

/-- A row-form command's target, mask and words are 32-bit words (R424). -/
def Stg.wf (g : Stg) : Bool := decide (g.target < pow32) && decide (g.mask < pow32) && g.words.all (fun w => decide (w < pow32))

/-- The bays that a missed stage's units lie in (R79): stage 1 takes bays 0 to 143 and courses from 144, stage 2 positions, stage 6 piers 0 to 431 and courses from 432. -/
def missedBays (stage : Nat) (units : List Nat) : List Nat :=
  match stage with
  | 1 => units.map (fun u => if u < 144 then u else (u - 144) / 384)
  | 2 => units.map (fun u => u / 36864)
  | 6 => units.map (fun u => if u < 432 then u / 3 else (u - 432) / 384)
  | _ => []

/-- A command is well formed for a variant of `nb` bays and `nt` tiles (R4, R15). -/
def Instr.wf (nb nt : Nat) (i : Instr) : Bool :=
  match i with
  | .netConfig h g => h.wf && g.wf
  | .startConfig h g => h.wf && g.wf
  | .footingConfig h g => h.wf && g.wf
  | .tickSourceSet h g => h.wf && g.wf
  | .plantTimeConfig h g => h.wf && g.wf
  | .streamRoute h g => h.wf && g.wf
  | .streamPortConfig h g => h.wf && g.wf
  | .svSubscribe h g => h.wf && g.wf
  | .streamDmaConfig h g => h.wf && g.wf
  | .setpointInputConfig h g => h.wf && g.wf
  | .gridSenseConfig h g => h.wf && g.wf
  | .xpGainSet h _ => h.wf
  | .xpShapeSet h _ _ _ _ => h.wf
  | .xpDestConfig h g => h.wf && g.wf
  | .xpProbeSet h g => h.wf && g.wf
  | .xpDampSet h g => h.wf && g.wf
  | .xpIdleConfig h g => h.wf && g.wf
  | .ceBayConfig h g => h.wf && g.wf
  | .ceLawSet h _ _ _ _ _ => h.wf
  | .cePlantConfig h g => h.wf && g.wf
  | .mdBayConfig h g => h.wf && g.wf
  | .bayProfileSet h g => h.wf && g.wf
  | .tripConfig h g => h.wf && g.wf
  | .unitProfileSet h g => h.wf && g.wf
  | .zConfig h g => h.wf && g.wf
  | .zTempTableSet h g => h.wf && g.wf
  | .loadModelConfig h g => h.wf && g.wf
  | .linkConfig h g => h.wf && g.wf
  | .ledgerConfig h g => h.wf && g.wf
  | .slotLimitsSet h g => h.wf && g.wf
  | .thermalConfig h g => h.wf && g.wf
  | .sysInfoRead h => h.wf
  | .startStatusRead h _ _ => h.wf
  | .startRestoreSkip h _ => h.wf
  | .baySync h _ => h.wf
  | .bayExclude h _ => h.wf
  | .safeStop h => h.wf
  | .deviceReset h _ => h.wf
  | .footingStatusRead h => h.wf
  | .footingCountersClear h _ => h.wf
  | .footingRailRestore h _ => h.wf
  | .plantTimeSet h _ _ => h.wf
  | .timebaseStatus h _ _ => h.wf
  | .streamStart h _ => h.wf
  | .streamStop h _ => h.wf
  | .streamStatusRead h => h.wf
  | .xpSwap h _ _ _ => h.wf
  | .xpStatus h => h.wf
  | .xpShadowDiscard h => h.wf
  | .xpFlagsClear h _ => h.wf
  | .xpStatsRead h _ _ _ => h.wf
  | .bayWake h _ => h.wf
  | .ceSetpointSet h _ _ _ => h.wf
  | .ceFlagsRead h _ => h.wf
  | .ceFlagsClear h _ => h.wf
  | .ceWinnerStats h _ _ _ => h.wf
  | .cePlumbStatus h _ => h.wf
  | .pierDisable h _ _ => h.wf
  | .bayDisable h _ _ => h.wf
  | .plantDisable h _ _ => h.wf
  | .pierEnable h _ => h.wf
  | .bayEnable h _ => h.wf
  | .plantEnable h _ => h.wf
  | .tripAssert h => h.wf
  | .tripReset h => h.wf
  | .mdStatsRead h _ _ _ => h.wf
  | .unitRead h _ _ _ _ => h.wf
  | .unitRecal h _ => h.wf
  | .unitRelease h _ => h.wf
  | .zPassRequest h _ => h.wf
  | .zRead h _ => h.wf
  | .gridZMeasure h _ _ _ => h.wf
  | .gridZRead h => h.wf
  | .loadAmbientSet h _ _ => h.wf
  | .loadModelRead h _ => h.wf
  | .loadBaselineSet h _ _ _ _ => h.wf
  | .loadDiagRead h _ => h.wf
  | .linkWindowOpen h _ _ _ => h.wf
  | .linkWindowClose h _ => h.wf
  | .courseWithdraw h _ => h.wf
  | .linkStatusRead h _ => h.wf
  | .linkPendingRead h _ _ => h.wf
  | .rdStatusRead h => h.wf
  | .tileHandover h _ => h.wf
  | .tileHandback h _ => h.wf
  | .keystoneSwitch h => h.wf
  | .fwImageWrite h _ _ _ => h.wf
  | .fwImageVerify h _ => h.wf
  | .fwUpdate h => h.wf
  | .ledgerStatusRead h => h.wf
  | .ledgerExport h _ _ _ _ => h.wf
  | .ledgerExportAck h _ => h.wf
  | .ledgerExportStop h => h.wf
  | .ledgerDriveBind h _ => h.wf
  | .identityRead h => h.wf
  | .fuseStatusRead h => h.wf
  | .fuseMaintEnter h => h.wf
  | .fuseMaintExit h => h.wf
  | .fuseRead h _ _ _ => h.wf
  | .fuseProgram h _ _ _ _ => h.wf
  | .fuseLock h _ _ => h.wf
  | .slotOpen h _ => h.wf
  | .slotClose h => h.wf
  | .slotKeepalive h => h.wf
  | .slotRightsDrop h _ => h.wf
  | .slotEventsSet h _ _ => h.wf
  | .slotStatusRead h _ _ => h.wf
  | .eventFetch h _ _ => h.wf
  | .thermalStatusRead h => h.wf
  | .hsCmdProd slot index _ => decide (slot < 8) && decide (index < pow32)
  | .hsRplCons slot index => decide (slot < 8) && decide (index < pow32)
  | .hsEvqCons slot index => decide (slot < 8) && decide (index < pow32)
  | .hsCommit value => decide (value < pow32)
  | .hsCommitLanding => true
  | .sysCommit value => decide (value < pow32)
  | .sysCommitLanding => true
  | .urCommit value => decide (value < pow32)
  | .urCommitLanding => true
  | .urFillPublish => true
  | .stagedRegisterWrite _ value => decide (value < pow32)
  | .registerWrite _ value => decide (value < pow32)
  | .rcRead _ => true
  | .badAccess _ => true
  | .spDmaInProd index => decide (index < pow32)
  | .spDmaOutCons index => decide (index < pow32)
  | .freezeReq _ => true
  | .freezeEnd _ => true
  | .freezeLimit => true
  | .udpDatagram port _ _ _ _ _ => decide (port < 2)
  | .arp port _ _ => decide (port < 2)
  | .icmpEcho port _ _ _ _ => decide (port < 2)
  | .msiModerationEnd vector => decide (vector < 17)
  | .slotLost slot => decide (slot < 8)
  | .pcieLinkDown => true
  | .grantExpiry slot => decide (slot < 8)
  | .tickBoundary _ => true
  | .cycleBoundary => true
  | .recordPass => true
  | .rankSnapshot => true
  | .crosspointStage => true
  | .controlStage => true
  | .plumbRecovery bay pier => decide (bay < nb) && decide (pier < 3)
  | .plumbFloat bay pier => decide (bay < nb) && decide (pier < 3)
  | .modulationStage => true
  | .stageDeadlineMiss stage units => decide (1 ≤ stage) && decide (stage ≤ 6) && (missedBays stage units).all (fun b => decide (b < nb))
  | .tickMarker => true
  | .tickMarkerEcho lane _ => decide (lane < nb)
  | .upstreamFrame frame => decide (frame.lane < nb)
  | .bayLinkLost bay => decide (bay < nb)
  | .courseDark course => decide (course < nb * 384)
  | .courseLeaveService course => decide (course < nb * 384)
  | .withdraw course => decide (course < nb * 384)
  | .hello lane _ => decide (lane < nb)
  | .join bay _ => decide (bay < nb)
  | .serials bay _ => decide (bay < nb)
  | .ring bay _ => decide (bay < nb)
  | .laneDown lane => decide (lane < nb)
  | .laneTrained lane => decide (lane < nb)
  | .laneRetry lane => decide (lane < nb)
  | .windowOpen bay _ => decide (bay < nb)
  | .windowClose bay _ => decide (bay < nb)
  | .sspRxFrame port _ => decide (port < 2)
  | .sspRxSlip port _ => decide (port < 2)
  | .svAsdu _ => true
  | .svStreamTimeout stream => decide (stream < 8)
  | .dmaInputBlock _ => true
  | .dmaOutputBlock => true
  | .channelQualify slot => decide (slot < 40)
  | .channelLost slot => decide (slot < 40)
  | .slotRampEnd slot => decide (slot < 40)
  | .setpointQualify => true
  | .setpointLost => true
  | .probeBurstEnd gen => decide (gen < 8)
  | .xpSwapLanding => true
  | .gridSenseInvalid channel => decide (channel < 8)
  | .gridPllLock => true
  | .gridPllLockLoss => true
  | .pllFreeze => true
  | .pllFreezeExit => true
  | .sourceEligible _ => true
  | .ptpSync _ _ => true
  | .ptpAnnounce _ _ _ => true
  | .ptpPdelay _ => true
  | .ptpLost => true
  | .ppsEdge _ => true
  | .ppsLost => true
  | .plantTimeSetLapse => true
  | .plantTimeLocked => true
  | .ppsOutPulse _ => true
  | .refclkFault => true
  | .tripInputAssert input => decide (input < 12)
  | .isoSupplyLoss => true
  | .bayIdle bay => decide (bay < nb)
  | .standbyEntry bay => decide (bay < nb)
  | .standbyExit bay => decide (bay < nb)
  | .enableLanding bay pier => decide (bay < nb) && decide (pier < 3)
  | .keystoneLost _ => true
  | .keystoneLive => true
  | .plannedSwitch => true
  | .fwUpdateAbort => true
  | .flywheelRampStart => true
  | .flywheelFloat => true
  | .tileTakeover tile => decide (tile < nt)
  | .transferCycleStart => true
  | .transferComplete => true
  | .zPassEnd pier => decide (pier < nb * 3)
  | .gridZStart => true
  | .gridZResult => true
  | .ambientTimeout bay => decide (bay < nb)
  | .diagWindowClose pier => decide (pier < 3 * nb)
  | .syncStart => true
  | .syncPermitAssert => true
  | .syncTimeout => true
  | .safeStopFloat => true
  | .safeStopFlush => true
  | .safeStopComplete _ => true
  | .powerOn => true
  | .sysResetN => true
  | .positionReady => true
  | .positionTimeout _ => true
  | .positionRetry => true
  | .fuseLoad _ _ _ => true
  | .keystoneSelfTest keystone _ => decide (keystone < 2)
  | .electionTimeout _ => true
  | .signedBoot keystone => decide (keystone < 2)
  | .serviceUartWrite _ _ _ => true
  | .tileSelfTest tile _ => decide (tile < nt)
  | .timebaseStart _ => true
  | .admissionEnd bay => decide (bay < nb)
  | .restore bay => decide (bay < nb)
  | .ledgerMount _ => true
  | .vinLoss => true
  | .vinReturn => true
  | .bankCutoff => true
  | .vaonLoss => true
  | .warningExcursion channel _ => decide (channel ≤ 22)
  | .supervisorTrip _ _ => true
  | .retryOffEnd channel => decide (channel < 14)
  | .retryRailCheck channel _ => decide (channel < 14)
  | .footingReset => true
  | .bankBelowReady => true
  | .chargerPrecharge => true
  | .chargerCc => true
  | .chargerCv => true
  | .chargerDone => true
  | .chargerFault => true
  | .capEstimate _ => true
  | .footingI2cRead _ => true
  | .thermalConversion _ => true
  | .thermalLevelChange die => decide (die < 14)
  | .sensorBroken die => decide (die < 14)
  | .sensorRecovered die => decide (die < 14)
  | .throttleGraceEnd die => decide (die < 14)
  | .throttleEnforce die => decide (die < 14)
  | .throttleRelease die => decide (die < 14)
  | .snapshotDue => true
  | .snapshotCapture => true
  | .eventPageSeal => true
  | .nvmeCompletion _ drive _ => decide (drive < 16)
  | .driveTimeout drive => decide (drive < 16)
  | .smartPoll drive _ => decide (drive < 16)
  | .resilverComplete pair => decide (pair < 8)
  | .fuseProgramComplete _ _ => true
  | .jtagInstruction _ => true
  | .isoSupplyReturn => true
  | .railReturn channel => decide (channel ≤ 22)
  | .tripInputRelease input => decide (input < 12)

end Sys2Proof
end

