-- ==== Sys2Proof/Safety.lean ====
section
/-! DEFINITION. What counts as a safe step, and the words the statements use: a host command that is ready, its whole outcome, and the invariants of the block. -/

namespace Sys2Proof.Machine
open Sys2Proof

/-- A step is safe when it answers a next state. -/
def Goes (o : Host.Outcome State Fault Refusal) : Prop := ∃ t, o = .next t

/-- A host command can run: the present device step allows its opcode (R422) and its slot is open (R412). -/
abbrev HostReady (h : Hdr) (op : Nat) (s : State) : Prop := s.opAllowed op = true ∧ (s.slot h.slot).phase ≠ SlotPhase.closed

/-- The whole outcome of a host command: its own effect takes `s` to `t`, and the answer `a` is then written as its reply (R394, R404). -/
def Answers (i : Instr) (h : Hdr) (op : Nat) (s t : State) (a : Ans) : Prop :=
  exec i s = .next (t.writeReply h op (s.qualifier h) a)

/-- The same for an immediate command that changes device state: it also enters the standby's journal (R302). -/
def AnswersJ (i : Instr) (h : Hdr) (op : Nat) (s t : State) (a : Ans) : Prop := Answers i h op s (t.journal i) a

/-- A block's canonical tables that the statements rest on: the rows of both banks and the slots. -/
def Crosspoint.rowsWf (x : Crosspoint) : Bool := twf [] x.act.rows && twf [] x.shadow.rows

/-- The rows of both banks are in canonical form, in the standby's copy too. -/
def RowsInv (s : State) : Prop := s.xp.rowsWf = true ∧ ∀ h, s.rd.shadow = some h → h.xp.rowsWf = true

/-- The slots' table, and what the device has written into host memory, are in canonical form. -/
abbrev HostIf.Sorted (h : HostIf) : Prop := twf {} h.slots = true ∧ twf [] h.mem = true

/-- The host interface's tables are in canonical form. -/
abbrev SlotsInv (s : State) : Prop := s.hs.Sorted

/-- The tick index lies in 0 to 799 and the cycle counter in 48 bits (R51, R53). -/
abbrev TickInv (s : State) : Prop := s.tb.idx < 800 ∧ s.tb.cycle < 2 ^ 48

end Sys2Proof.Machine
end

