-- ==== Sys2Proof/Certificates/Slice0/Obligations.lean ====
section
/-! DEFINITION. The statements for the provers. Each says what a command or the block does; a command's statement gives its whole next state, which is its frame too. -/

open Sys2Proof Sys2Proof.Machine

/-- A step is exec of the command at the front of the queue (95_what_each_step_holds.md). With a command at the front of the queue a step is exec of that command on the state with the queue's rest; with an empty queue the block idles (log 19, the model's own queue). -/
def Obligations.StepRunsFrontCommand : Prop :=
  (∀ (c : Instr) (rest : List Instr) (s : State), s.pending = c :: rest → step s = exec c { s with pending := rest }) ∧
  (∀ s : State, s.pending = [] → step s = .next s)

/-- No well-formed command stops the block, and none is refused (R4, R15). Every command that names only units the variant has answers a next state, from every state; and no command whatever is refused. -/
def Obligations.WellFormedCommandsGo : Prop :=
  (∀ (i : Instr) (s : State), i.wf s.nBays s.nTiles = true → Goes (exec i s)) ∧
  (∀ (i : Instr) (s : State) (r : Refusal), exec i s ≠ .refused r)

/-- Every command leaves the queue of waiting commands alone (95_what_each_step_holds.md). Whatever command runs, the next state's queue is the one it ran with, resets and takeovers included (the queue is the model's own, log 19). -/
def Obligations.ExecLeavesQueue : Prop :=
  ∀ (i : Instr) (s t : State), exec i s = .next t → t.pending = s.pending

/-- Every step keeps the tick index below 800 and the cycle counter in 48 bits (R51, R53). From every state whose tick index lies in 0 to 799 and whose cycle counter lies in 48 bits, every step that answers a next state answers one of which the same holds. -/
def Obligations.TickInvariantKept : Prop :=
  ∀ s t : State, TickInv s → step s = .next t → TickInv t

/-- Every step keeps the parameter rows of both banks in canonical form (R127, R424). The rows of the active and the shadow bank, and of the standby's copy of both, stay sorted by key with no default row listed, so that equal banks are equal data; the statements on staging rest on it. -/
def Obligations.BankRowsInvariantKept : Prop :=
  ∀ s t : State, RowsInv s → step s = .next t → RowsInv t

/-- Every step keeps the slots' table and the writes to host memory in canonical form (R394, R412). The table of the eight host slots stays sorted by slot with no slot listed that is as after reset, and so does, by address, what the device has written into host memory; the statements on replies and closings rest on it. -/
def Obligations.SlotTableInvariantKept : Prop :=
  ∀ s t : State, SlotsInv s → step s = .next t → SlotsInv t

/-- The three invariants hold at reset (R51, R127, R394). Right after a power-on reset the tick index, the cycle counter, the banks' rows and the slots' table meet their invariants. -/
def Obligations.InvariantsHoldAtReset : Prop :=
  TickInv State.reset ∧ RowsInv State.reset ∧ SlotsInv State.reset

/-- The row-form staging commands and their opcodes (R424, R427). -/
def rowStagers : List ((Hdr → Stg → Instr) × Nat) :=
  [(.netConfig, 0x0102), (.startConfig, 0x0103), (.footingConfig, 0x0201), (.tickSourceSet, 0x0301), (.plantTimeConfig, 0x0302), (.streamRoute, 0x0401),
   (.streamPortConfig, 0x0404), (.svSubscribe, 0x0405), (.setpointInputConfig, 0x0407), (.gridSenseConfig, 0x0408), (.xpDestConfig, 0x0503), (.xpProbeSet, 0x0504),
   (.xpDampSet, 0x0505), (.xpIdleConfig, 0x0506), (.ceBayConfig, 0x0601), (.cePlantConfig, 0x0603), (.mdBayConfig, 0x0701), (.bayProfileSet, 0x0702),
   (.tripConfig, 0x0703), (.unitProfileSet, 0x0801), (.zConfig, 0x0901), (.zTempTableSet, 0x0902), (.loadModelConfig, 0x0907), (.linkConfig, 0x0A01),
   (.ledgerConfig, 0x0C01), (.slotLimitsSet, 0x0E06), (.thermalConfig, 0x0F01)]

/-- The bank as the applied rows would leave it. -/
def stagedBank (sp : StagedSpec) (op : Nat) (g : Stg) (s : State) : Bank :=
  (stageTargets s.nBays sp.target g.target).2.foldl (fun b i => b.setRows op i g.mask (cutRows sp.rows g.words)) s.xp.shadow

/-- The first applied row whose value is out of range, on some target (R424). -/
def firstBad (sp : StagedSpec) (op : Nat) (g : Stg) (s : State) : Option Nat :=
  badRow (fun k => (stageTargets s.nBays sp.target g.target).2.any (fun i => crossBad s.nBays op (stagedBank sp op g s) i k)) 0 sp.rows (cutRows sp.rows g.words) g.mask

/-- A staging command's parameters are taken (R424). -/
abbrev takesRows (sp : StagedSpec) (op : Nat) (g : Stg) (s : State) : Prop :=
  stagedSpec op = some sp ∧ s.stagingClosed = false ∧ g.words.length = stagedWords sp ∧ (stageTargets s.nBays sp.target g.target).1 = 0 ∧
  g.mask < 2 ^ sp.rows.length ∧ firstBad sp op g s = none

/-- A row-form staging command writes exactly its applied rows into the shadow bank (R127, R129, R343, R420, R424, R425, R427). For each of the 27 row-form staging commands other than STREAM_DMA_CONFIG (NET_CONFIG, START_CONFIG, FOOTING_CONFIG, TICK_SOURCE_SET, PLANT_TIME_CONFIG, STREAM_ROUTE, STREAM_PORT_CONFIG, SV_SUBSCRIBE, SETPOINT_INPUT_CONFIG, GRID_SENSE_CONFIG, XP_DEST_CONFIG, XP_PROBE_SET, XP_DAMP_SET, XP_IDLE_CONFIG, CE_BAY_CONFIG, CE_PLANT_CONFIG, MD_BAY_CONFIG, BAY_PROFILE_SET, TRIP_CONFIG, UNIT_PROFILE_SET, Z_CONFIG, Z_TEMP_TABLE_SET, LOAD_MODEL_CONFIG, LINK_CONFIG, LEDGER_CONFIG, SLOT_LIMITS_SET, THERMAL_CONFIG) the command completes: with staging open, a target the command takes, the right word count, no mask bit past the last row and every applied value in range, the command answers ST_OK, each applied row of each target holds the words given, every other row, node, section and law of the shadow bank keeps its value, and nothing else of the block changes but the count and slots of the staging and the reply. It is refused, and the block keeps everything, with ST_STATE while a swap is pending or a safe stop runs, with ST_BAD_LENGTH for another word count, with the target's status, with ST_BAD_PARAM for a mask bit past the last row, and with ST_RANGE and the first applied row that is out of range; that ST_STATE comes before the target's status is the model's choice (log 91), and so are the ranges that another word sets and staging judges (log 78). The premise that the shadow bank's rows are canonical is BankRowsInvariantKept's. -/
def Obligations.StagedRowsEnterShadow : Prop :=
  (∀ c ∈ rowStagers, ∀ (h : Hdr) (g : Stg) (s : State) (sp : StagedSpec),
    HostReady h c.2 s → RowsInv s → takesRows sp c.2 g s →
    let tgts := (stageTargets s.nBays sp.target g.target).2
    ∃ b, Answers (c.1 h g) h c.2 s (s.stage h.slot b (tgts.flatMap (fun i => rowItems c.2 i g.mask sp.rows.length))) okAns ∧
      b.nodes = s.xp.shadow.nodes ∧ b.shapes = s.xp.shadow.shapes ∧ b.laws = s.xp.shadow.laws ∧
      (∀ i ∈ tgts, ∀ k < sp.rows.length, g.mask.testBit k = true → b.row c.2 i k = (cutRows sp.rows g.words).getD k []) ∧
      (∀ op' i' k', i' < 512 → k' < 64 → ¬ (op' = c.2 ∧ i' ∈ tgts ∧ k' < sp.rows.length ∧ g.mask.testBit k' = true) →
        b.row op' i' k' = s.xp.shadow.row op' i' k')) ∧
  (∀ c ∈ rowStagers, ∀ (h : Hdr) (g : Stg) (s : State), HostReady h c.2 s → s.xp.pend.isSome = true ∨ s.stopping = true →
    Answers (c.1 h g) h c.2 s s (refuseAns stState c.2 255 g.target)) ∧
  (∀ c ∈ rowStagers, ∀ (h : Hdr) (g : Stg) (s : State) (sp : StagedSpec), HostReady h c.2 s → stagedSpec c.2 = some sp → s.stagingClosed = false →
    g.words.length ≠ stagedWords sp → Answers (c.1 h g) h c.2 s s (refuseAns stBadLength c.2 255 g.target)) ∧
  (∀ c ∈ rowStagers, ∀ (h : Hdr) (g : Stg) (s : State) (sp : StagedSpec), HostReady h c.2 s → stagedSpec c.2 = some sp → s.stagingClosed = false →
    g.words.length = stagedWords sp → (stageTargets s.nBays sp.target g.target).1 ≠ 0 →
    Answers (c.1 h g) h c.2 s s (refuseAns (stageTargets s.nBays sp.target g.target).1 c.2 255 g.target)) ∧
  (∀ c ∈ rowStagers, ∀ (h : Hdr) (g : Stg) (s : State) (sp : StagedSpec), HostReady h c.2 s → stagedSpec c.2 = some sp → s.stagingClosed = false →
    g.words.length = stagedWords sp → (stageTargets s.nBays sp.target g.target).1 = 0 → 2 ^ sp.rows.length ≤ g.mask →
    Answers (c.1 h g) h c.2 s s (refuseAns stBadParam c.2 255 g.target)) ∧
  (∀ c ∈ rowStagers, ∀ (h : Hdr) (g : Stg) (s : State) (sp : StagedSpec) (k : Nat), HostReady h c.2 s → stagedSpec c.2 = some sp → s.stagingClosed = false →
    g.words.length = stagedWords sp → (stageTargets s.nBays sp.target g.target).1 = 0 → g.mask < 2 ^ sp.rows.length → firstBad sp c.2 g s = some k →
    Answers (c.1 h g) h c.2 s s (refuseAns stRange c.2 k g.target))

/-- Staging changes the shadow bank and its account alone, never the active bank (R127). Taking a changed shadow bank sets the bank, counts each staged item once and notes the slot; the active bank and everything outside the crosspoint stay. -/
def Obligations.StagingLeavesActiveBank : Prop :=
  ∀ (s : State) (slot : Nat) (b : Bank) (items : List Nat),
    let t := s.stage slot b items
    t.xp.act = s.xp.act ∧ t.xp.shadow = b ∧ (∀ k, k ∈ t.xp.staged ↔ k ∈ items ∨ k ∈ s.xp.staged) ∧ (s.xp.staged.Nodup → t.xp.staged.Nodup) ∧
    t.xp.stagers.testBit slot = true ∧ t = { s with xp := { s.xp with shadow := b, staged := t.xp.staged, stagers := t.xp.stagers } }

/-- The list-form staging commands and STREAM_DMA_CONFIG stage what they name (R100, R115, R118, R129, R146, R343, R420, R428). XP_GAIN_SET writes each listed node's gain and path bit, XP_SHAPE_SET the named sections of one destination, CE_LAW_SET one law of a bay, each into the shadow bank alone; STREAM_DMA_CONFIG, where no other live slot owns the rings, stages its rows and notes its sender as the coming owner. Each is refused, and the block keeps everything, with ST_STATE while a swap is pending or a safe stop runs (STREAM_DMA_CONFIG also while another live slot owns the rings), with ST_BAD_LENGTH for a coefficient count other than 5 a section, and with ST_RANGE for a destination, source, path, gain, section, law, count or shift out of range. -/
def Obligations.StagedListsEnterShadow : Prop :=
  (∀ (h : Hdr) (es : List GainEntry) (s : State), HostReady h 0x0501 s → s.stagingClosed = false → es ≠ [] → es.length ≤ (if h.udp then 177 else 505) →
    (∀ e ∈ es, s.destOk e.dest = true ∧ e.src < 64 ∧ e.path < 2 ∧ -8388608 ≤ signedOf 32 e.gain ∧ signedOf 32 e.gain ≤ 8388607) →
    Answers (.xpGainSet h es) h 0x0501 s
      (s.stage h.slot (es.foldl (fun (b : Bank) e => { b with nodes := tset {} b.nodes (e.dest * 64 + e.src) { gain := signedOf 32 e.gain, direct := e.path == 1 } }) s.xp.shadow)
        (es.map (fun e => itemNode e.dest e.src))) okAns) ∧
  (∀ (h : Hdr) (dest first count : Nat) (coefs : List Nat) (s : State), HostReady h 0x0502 s → s.stagingClosed = false → coefs.length = 5 * count →
    s.destOk dest = true → 1 ≤ count → first + count ≤ 4 →
    Answers (.xpShapeSet h dest first count coefs) h 0x0502 s
      (s.stage h.slot ((sections count coefs).zipIdx.foldl (fun (b : Bank) q => { b with shapes := tset {} b.shapes (dest * 4 + first + q.2) q.1 }) s.xp.shadow)
        ((List.range count).map (fun k => itemSection dest (first + k)))) okAns) ∧
  (∀ (h : Hdr) (b law count shift : Nat) (coefs : List Nat) (s : State), HostReady h 0x0602 s → s.stagingClosed = false → coefs.length = 5 * count →
    b < s.nBays → law ≤ 10 → count ≤ 8 → -8 ≤ signedOf 8 shift → signedOf 8 shift ≤ 8 →
    Answers (.ceLawSet h (bayUid b) law count shift coefs) h 0x0602 s
      (s.stage h.slot { s.xp.shadow with laws := tset {} s.xp.shadow.laws (b * 11 + law) { shift := signedOf 8 shift, secs := sections count coefs } } [itemLaw b law]) okAns) ∧
  (∀ (h : Hdr) (g : Stg) (s : State) (sp : StagedSpec), HostReady h 0x0406 s → takesRows sp 0x0406 g s →
    (∀ o, s.sp.dma.owner = some o → o = h.slot ∨ (s.slot o).live = false) →
    let u := s.stage h.slot (stagedBank sp 0x0406 g s) ((stageTargets s.nBays sp.target g.target).2.flatMap (fun i => rowItems 0x0406 i g.mask sp.rows.length))
    Answers (.streamDmaConfig h g) h 0x0406 s { u with xp := { u.xp with dmaStager := some h.slot } } okAns) ∧
  (∀ (h : Hdr) (es : List GainEntry) (dest first count b law shift : Nat) (coefs : List Nat) (s : State), (s.slot h.slot).phase ≠ SlotPhase.closed → s.opAllowed 0x0501 = true →
    s.opAllowed 0x0502 = true → s.opAllowed 0x0602 = true → s.xp.pend.isSome = true ∨ s.stopping = true →
    Answers (.xpGainSet h es) h 0x0501 s s (refuseAns stState 0x0501 255 0) ∧ Answers (.xpShapeSet h dest first count coefs) h 0x0502 s s (refuseAns stState 0x0502 255 dest) ∧
    Answers (.ceLawSet h b law count shift coefs) h 0x0602 s s (refuseAns stState 0x0602 255 b)) ∧
  (∀ (h : Hdr) (es : List GainEntry) (s : State), HostReady h 0x0501 s → s.stagingClosed = false → es = [] ∨ (if h.udp then 177 else 505) < es.length →
    Answers (.xpGainSet h es) h 0x0501 s s (refuseAns stRange 0x0501 255 0)) ∧
  (∀ (h : Hdr) (e : GainEntry) (es : List GainEntry) (s : State), HostReady h 0x0501 s → s.stagingClosed = false → (e :: es).length ≤ (if h.udp then 177 else 505) →
    s.destOk e.dest = false ∨ 64 ≤ e.src ∨ 2 ≤ e.path ∨ signedOf 32 e.gain < -8388608 ∨ 8388607 < signedOf 32 e.gain →
    Answers (.xpGainSet h (e :: es)) h 0x0501 s s (refuseAns stRange 0x0501 255 e.dest)) ∧
  (∀ (h : Hdr) (dest first count : Nat) (coefs : List Nat) (s : State), HostReady h 0x0502 s → s.stagingClosed = false → coefs.length ≠ 5 * count →
    Answers (.xpShapeSet h dest first count coefs) h 0x0502 s s (refuseAns stBadLength 0x0502 255 dest)) ∧
  (∀ (h : Hdr) (dest first count : Nat) (coefs : List Nat) (s : State), HostReady h 0x0502 s → s.stagingClosed = false → coefs.length = 5 * count → s.destOk dest = false →
    Answers (.xpShapeSet h dest first count coefs) h 0x0502 s s (refuseAns stRange 0x0502 255 dest)) ∧
  (∀ (h : Hdr) (dest first count : Nat) (coefs : List Nat) (s : State), HostReady h 0x0502 s → s.stagingClosed = false → coefs.length = 5 * count → s.destOk dest = true →
    count = 0 ∨ 4 < first + count → Answers (.xpShapeSet h dest first count coefs) h 0x0502 s s (refuseAns stRange 0x0502 (first) dest)) ∧
  (∀ (h : Hdr) (b law count shift : Nat) (coefs : List Nat) (s : State), HostReady h 0x0602 s → s.stagingClosed = false → coefs.length ≠ 5 * count →
    Answers (.ceLawSet h b law count shift coefs) h 0x0602 s s (refuseAns stBadLength 0x0602 255 b)) ∧
  (∀ (h : Hdr) (b law count shift : Nat) (coefs : List Nat) (s : State), HostReady h 0x0602 s → s.stagingClosed = false → coefs.length = 5 * count → b < s.nBays →
    11 ≤ law ∨ 8 < count ∨ signedOf 8 shift < -8 ∨ 8 < signedOf 8 shift →
    Answers (.ceLawSet h (bayUid b) law count shift coefs) h 0x0602 s s (refuseAns stRange 0x0602 law (bayUid b))) ∧
  (∀ (h : Hdr) (g : Stg) (s : State) (o : Nat), HostReady h 0x0406 s → s.sp.dma.owner = some o → o ≠ h.slot → (s.slot o).live = true →
    Answers (.streamDmaConfig h g) h 0x0406 s s (refuseAns stState 0x0406 255 g.target)) ∧
  (∀ (h : Hdr) (g : Stg) (s : State), HostReady h 0x0406 s → s.sp.dma.owner = none → s.xp.pend.isSome = true ∨ s.stopping = true →
    Answers (.streamDmaConfig h g) h 0x0406 s s (refuseAns stState 0x0406 255 g.target))

/-- XP_SWAP, XP_STATUS, XP_SHADOW_DISCARD, XP_FLAGS_CLEAR and XP_STATS_READ complete (R127, R128, R129, R302, R343, R420, R434). An accepted XP_SWAP leaves one swap pending with its mode, glide and cycle and answers ST_ACCEPTED with the coming generation; mode 3 withdraws a pending one, and the standby's journal keeps it; a discard makes the shadow bank the active one, and the journal keeps it; XP_SWAP is refused with ST_STATE while a swap is pending or a safe stop runs, mode 3 with nothing pending, with ST_RANGE for a mode, glide or cycle out of range, with ST_BUSY_RETRY after three tick swaps of the cycle, and where a check fails with that check's status, opcode, row and target; a discard is refused with ST_STATE while a swap is pending; the flags to clear are noted for the tick's end; status and statistics change nothing. -/
def Obligations.ShadowBankCommands : Prop :=
  (∀ (h : Hdr) (mode glide cycle : Nat) (s : State), HostReady h 0x0507 s → mode ≤ 2 → glide ≤ 800 → s.stagingClosed = false → (mode = 0 → s.xp.tickSwaps < 3) →
    (mode = 2 → s.tb.cycleNow < cycle) → s.checkShadow mode = none →
    Answers (.xpSwap h mode glide cycle) h 0x0507 s
      { s with xp := { s.xp with pend := some { mode := mode + 1, glide := glide, cycle := cycle, tick := s.absTick, sets := (s.ce.sets.filter (fun p => p.tick == s.absTick)).length } } }
      (acceptedAns (le 4 (genUp s.xp.generation)))) ∧
  (∀ (h : Hdr) (glide cycle : Nat) (s : State), HostReady h 0x0507 s → s.xp.pend.isSome = true →
    AnswersJ (.xpSwap h 3 glide cycle) h 0x0507 s { s with xp := { s.xp with pend := none } } (okAns (le 4 s.xp.generation))) ∧
  (∀ (h : Hdr) (s : State), HostReady h 0x0508 s → Answers (.xpStatus h) h 0x0508 s s (okAns s.xp.statusBytes)) ∧
  (∀ (h : Hdr) (s : State), HostReady h 0x0509 s → s.xp.pend = none →
    AnswersJ (.xpShadowDiscard h) h 0x0509 s { s with xp := { s.xp with shadow := s.xp.act, staged := [], dmaStager := none } } okAns) ∧
  (∀ (h : Hdr) (flags : Nat) (s : State), HostReady h 0x050A s →
    AnswersJ (.xpFlagsClear h flags) h 0x050A s { s with xp := { s.xp with clearDue := s.xp.clearDue ||| (flags / 8 % 32) } } okAns) ∧
  (∀ (h : Hdr) (dest start max : Nat) (s : State), HostReady h 0x050B s → s.destOk dest = true →
    Answers (.xpStatsRead h dest start max) h 0x050B s s (okAns (cursor h.udp 32 start max ((tget {} s.xp.dests dest).recs.map (fun r => r.bytes dest))))) ∧
  (∀ (h : Hdr) (glide cycle : Nat) (s : State), HostReady h 0x0507 s → s.xp.pend = none → Answers (.xpSwap h 3 glide cycle) h 0x0507 s s (refuseAns stState 0x0507 255 0)) ∧
  (∀ (h : Hdr) (mode glide cycle : Nat) (s : State), HostReady h 0x0507 s → mode ≠ 3 → s.xp.pend.isSome = true ∨ s.stopping = true →
    Answers (.xpSwap h mode glide cycle) h 0x0507 s s (refuseAns stState 0x0507 255 0)) ∧
  (∀ (h : Hdr) (mode glide cycle : Nat) (s : State), HostReady h 0x0507 s → s.stagingClosed = false → 3 < mode ∨ (mode ≠ 3 ∧ 800 < glide) ∨ (mode = 2 ∧ cycle ≤ s.tb.cycleNow) →
    Answers (.xpSwap h mode glide cycle) h 0x0507 s s (refuseAns stRange 0x0507 255 0)) ∧
  (∀ (h : Hdr) (glide cycle : Nat) (s : State), HostReady h 0x0507 s → s.stagingClosed = false → glide ≤ 800 → 3 ≤ s.xp.tickSwaps →
    Answers (.xpSwap h 0 glide cycle) h 0x0507 s s { status := 0x0101 }) ∧
  (∀ (h : Hdr) (mode glide cycle : Nat) (m : Miss) (s : State), HostReady h 0x0507 s → mode ≤ 2 → glide ≤ 800 → s.stagingClosed = false → (mode = 0 → s.xp.tickSwaps < 3) →
    (mode = 2 → s.tb.cycleNow < cycle) → s.checkShadow mode = some m → Answers (.xpSwap h mode glide cycle) h 0x0507 s s (refuseAns m.status m.op m.row m.target)) ∧
  (∀ (h : Hdr) (s : State), HostReady h 0x0509 s → s.xp.pend.isSome = true → Answers (.xpShadowDiscard h) h 0x0509 s s (refuseAns stState 0x0509 255 0))

/-- A pending swap lands whole at its boundary, and not before (R129, R130). At its boundary the active bank becomes the shadow bank, the generation advances past 0, nothing stays staged or pending, the gains that change glide; the tick and the cycle, the trip path's latch stays, and so do the records, the links, the slots and the ledger where every course in service stays fitted (one that does not leaves service, the model's choice, log 125), and the whole timebase where the swap leaves the plant time's sources as they are. Before it nothing changes. -/
def Obligations.SwapLandsWhole : Prop :=
  (∀ (s : State) (p : PendSwap), s.xp.pend = some p → s.swapLands p = true →
    ∃ t, exec .xpSwapLanding s = .next t ∧ t.xp.act = s.xp.shadow ∧ t.xp.shadow = s.xp.shadow ∧ t.xp.staged = [] ∧ t.xp.stagers = 0 ∧ t.xp.pend = none ∧
      t.xp.generation = (if s.xp.generation = 0xFFFFFFFF then 1 else s.xp.generation + 1) ∧ t.xp.swapTick = s.absTick + 1 ∧ t.xp.glideLeft = p.glide ∧
      t = { s with tb := t.tb, xp := t.xp, sp := t.sp, ce := t.ce, md := t.md, z := t.z, ld := t.ld, ftg := t.ftg, thm := t.thm, rc := t.rc, lk := t.lk, lg := t.lg, hs := t.hs, ev := t.ev } ∧
      ((∀ e ∈ s.lk.courses, e.2.serves = true → ({ s with xp := { s.xp with act := s.xp.shadow } } : State).isFitted e.1 = true) → t.rc = s.rc ∧ t.lk = s.lk ∧ t.lg = s.lg ∧ t.hs = s.hs ∧ t.ev = s.ev) ∧
      t.md.latch = s.md.latch ∧
      (s.xp.act.row 0x0302 0 0 = s.xp.shadow.row 0x0302 0 0 → t.tb = s.tb) ∧ t.tb.idx = s.tb.idx ∧ t.tb.cycle = s.tb.cycle) ∧
  (∀ (s : State) (p : PendSwap), s.xp.pend = some p → s.swapLands p = false → exec .xpSwapLanding s = .next s) ∧
  (∀ s : State, s.xp.pend = none → exec .xpSwapLanding s = .next s)

/-- The lookahead limiter and the hard clamp keep a pier's voltage within the live limit (R120, R121). For every line of shaped samples, live limit, release step not below 0 and previous gain in 0 to 1: the limiter's gain lies in 0 to 1, its product with the sample that leaves the line, rounded towards zero into Q10.22, never exceeds the live limit on that grid, and a voltage destination's presented value never does either. -/
def Obligations.LookaheadHoldsLimit : Prop :=
  (∀ (l : Nat) (x : Int) (rest : List Int) (g u : Int), 0 ≤ g → g ≤ 1073741824 → 0 ≤ u →
    0 ≤ copeGain l (x :: rest) g u ∧ copeGain l (x :: rest) g u ≤ 1073741824 ∧
    (divTrunc (copeGain l (x :: rest) g u * x) 1073741824).natAbs ≤ l / 256) ∧
  (∀ (q : Dest) (cs : List Biquad) (sums : Int × Int) (l : Nat) (u : Int), (q.pierRun cs sums false l u).dest.out.natAbs ≤ l / 256)

/-- A CURRENT destination keeps the gain at 1 and clamps at the Q2.22 range alone (R122). The gain stage of a CURRENT destination leaves g at 1 and its output is the sum of the sample that leaves the line and the direct sum, saturated to Q2.22, whatever the live limit is. -/
def Obligations.CurrentDestinationUnlimited : Prop :=
  ∀ (q : Dest) (cs : List Biquad) (sums : Int × Int) (l : Nat) (u : Int),
    (q.pierRun cs sums true l u).dest.g = 1073741824 ∧
    (q.pierRun cs sums true l u).dest.out = satQ22 ((q.line.drop 1 ++ [q.latched]).headD 0 + sums.2)

/-- Stage 4 runs on the active bank and touches the crosspoint and the ports alone; a burst ends at a boundary (R76, R112, R124, R125, R126). CROSSPOINT_STAGE first ends stage 1, whose held detoured frames it takes; without one it takes the state as it is. That this row ends stage 1, and that a detoured frame is held until then, are the model's choices (logs 48 and 21). Where a keystone runs its stages, it then answers a next state that differs in the crosspoint and the waveform ports alone, with both banks, the pending swap and the generation unchanged, no missed destination left over, and each probe generator one tick further; where none runs, nothing more happens. A burst whose last cycle has passed ramps down and is done. -/
def Obligations.CrosspointStageRuns : Prop :=
  (∀ s : State, s.ksRuns = true → let u := s.closeStage1;
    ∃ t, exec .crosspointStage s = .next t ∧ t = { u with xp := t.xp, sp := t.sp } ∧ t.xp.act = u.xp.act ∧ t.xp.shadow = u.xp.shadow ∧
    t.xp.pend = u.xp.pend ∧ t.xp.generation = u.xp.generation ∧ t.xp.missNext = [] ∧ t.xp.probes = iter 8 (fun k q => tmod {} q k Probe.tick) u.xp.probes) ∧
  (∀ s : State, s.ksRuns = false → exec .crosspointStage s = .next s.closeStage1) ∧
  (∀ s : State, s.lk.held = [] → s.closeStage1 = s) ∧
  (∀ (k : Nat) (s : State), k < 8 → (tget {} s.xp.probes k).phase = .run → (tget {} s.xp.probes k).words.getD 6 0 ≠ 0 →
    (tget {} s.xp.probes k).words.getD 6 0 ≤ (tget {} s.xp.probes k).cycles → s.tb.idx = 0 →
    exec (.probeBurstEnd k) s = .next { s with xp := { s.xp with probes := tset {} s.xp.probes k { (tget {} s.xp.probes k).down with done := true } } })

/-- Idle, standby and waking (R137, R138, R139, R140, R307, R434). A live bay whose idle conditions have held for the dwell becomes idle and raises its event; an idle bay with its breaker open enters standby at a cycle boundary; a bay in standby leaves it at the first boundary after a trigger, its dwell counted from zero and its drive table anew; BAY_WAKE is such a trigger. R307 says of a disabled, floated or standby bay that it stays as it is in flywheel; that a bay not yet in standby does not enter it then is the model's choice (log 98), and so is the count of the idle conditions in the cycle that a standby ends in (log 108). -/
def Obligations.IdleAndStandby : Prop :=
  (∀ (b : Nat) (s : State), b < s.nBays → s.prm 0x0506 b 0 0 = 1 → s.md.bayLive b = true → s.prm 0x0506 b 3 0 ≤ (tget {} s.xp.idle b).dwell →
    (tget {} s.xp.idle b).idle = false → s.inStandby b = false →
    exec (.bayIdle b) s = .next (({ s with xp := { s.xp with idle := tset {} s.xp.idle b { (tget {} s.xp.idle b : IdleState) with idle := true } } }).raise { kind := .bayIdle, unit := bayUid b })) ∧
  (∀ (b : Nat) (s : State), b < s.nBays → (tget {} s.xp.idle b).idle = true → s.inStandby b = false → s.tb.idx = 0 → (s.bayLink b).opened = true → s.md.bayLive b = true → s.rd.flywheel = false →
    exec (.standbyEntry b) s = .next { s with xp := { s.xp with idle := tset {} s.xp.idle b { (tget {} s.xp.idle b : IdleState) with standby := true, wake := false } } }) ∧
  (∀ (b : Nat) (s : State), b < s.nBays → s.inStandby b = true → s.tb.idx = 0 → (tget {} s.xp.idle b).wake = true → s.rd.flywheel = false →
    exec (.standbyExit b) s = .next { s with xp := { s.xp with idle := tset {} s.xp.idle b { held := !s.tb.bnd } }, rd := { s.rd with drive := tdrop (fun k => decide (k / 2400 = b)) s.rd.drive } }) ∧
  (∀ (b : Nat) (s : State), b < s.nBays → s.rd.flywheel = true → exec (.standbyEntry b) s = .next s ∧ exec (.standbyExit b) s = .next s) ∧
  (∀ (h : Hdr) (b : Nat) (s : State), HostReady h 0x050C s → b < s.nBays → s.inStandby b = true →
    AnswersJ (.bayWake h (bayUid b)) h 0x050C s { s with xp := { s.xp with idle := tmod {} s.xp.idle b (fun i => { i with wake := true }) } } okAns)

/-- Opening, keeping, narrowing and closing a host session (R302, R397, R398, R399, R400, R405, R412, R415). SLOT_OPEN over a slot with its rings in force opens the bootstrap session of slot 7 with rights 41 where no authentication root is usable, or with a genuine grant the session that the grant names, whose generation advances in both cases; its reply is written to the sender. SLOT_CLOSE shuts the slot, tells the others and leaves no reply; the standby's journal keeps what they change; a slot that is shut is closed with no rights, no queued command, no held reply and no export, and ends the MAINTAIN state it holds, while the other slots keep their session, rights and queue; SLOT_KEEPALIVE restarts the keepalive; SLOT_RIGHTS_DROP takes the named rights away and advances the generation; SLOT_EVENTS_SET sets mask and moderation. The model's choices, and no rule's words: the transport byte of the reply is the grant's and the reply goes to the sender (log 71); SLOT_CLOSE has no reply, and held replies go with the slot (log 72). -/
def Obligations.SlotSessionCommands : Prop :=
  (∀ (h : Hdr) (s : State), h.slot = 7 → h.udp = false → h.auth = false → s.bootstrap = true → (s.slot 7).rings.valid = true →
    let t := s.modSlot 7 (fun x => x.reopen false 0 41 [] 0 0)
    exec (.slotOpen h []) s = .next ((t.journal (.slotOpen h [])).writeReply h 0x0E01 0 (okAns ([41, 1, 0, 0] ++ le 4 (t.slot 7).gen)))) ∧
  (∀ (h : Hdr) (grant key : List Nat) (s : State), h.slot < 8 → (h.udp = true ∨ (s.slot h.slot).rings.valid = true) → grant ≠ [] → s.grantOk h.slot h.udp grant = true →
    s.rootKey = some key →
    let t := s.modSlot h.slot (fun x => x.reopen h.udp h.peer (getLe grant 5 1) (grantKey key grant) (getLe grant 40 8) (getLe grant 24 8))
    exec (.slotOpen h grant) s = .next ((({ t with fu := { t.fu with underRoot0 := setBit t.fu.underRoot0 h.slot (s.fu.root == 1) } } : State).journal (.slotOpen h grant)).writeReplyUnder (grantKey key grant) h 0x0E01 0
      (okAns ([getLe grant 5 1 % 64, getLe grant 6 1 % 4, 0, 0] ++ le 4 (t.slot h.slot).gen)))) ∧
  (∀ (h : Hdr) (s : State), SlotsInv s → s.opAllowed 0x0E02 = true → (s.slot h.slot).live = true → exec (.slotClose h) s = .next ((s.shutSlots [h.slot] false).journal (.slotClose h))) ∧
  (∀ (h : Hdr) (s : State), SlotsInv s → HostReady h 0x0E03 s →
    Answers (.slotKeepalive h) h 0x0E03 s (s.modSlot h.slot (fun x => { x with idle := 0 })) okAns) ∧
  (∀ (h : Hdr) (mask : Nat) (s : State), SlotsInv s → HostReady h 0x0E04 s →
    ∃ t, AnswersJ (.slotRightsDrop h mask) h 0x0E04 s t (okAns (le 4 (genUp (s.slot h.slot).gen))) ∧ t = { s with hs := { s.hs with slots := t.hs.slots } } ∧
      t.slot h.slot = { s.slot h.slot with rights := (t.slot h.slot).rights, gen := genUp (s.slot h.slot).gen } ∧
      ∀ k < 6, (t.slot h.slot).rights.testBit k = ((s.slot h.slot).rights.testBit k && !mask.testBit k)) ∧
  (∀ (h : Hdr) (mask moderation : Nat) (s : State), SlotsInv s → HostReady h 0x0E05 s → moderation ≤ 1000 →
    AnswersJ (.slotEventsSet h mask moderation) h 0x0E05 s (s.modSlot h.slot (fun x => { x with mask := mask % 65536, moderation := moderation })) okAns) ∧
  (∀ (is : List Nat) (lost : Bool) (s : State), SlotsInv s → twf none s.lg.exports = true → (∀ i ∈ is, i < 8) →
    let t := s.shutSlots is lost
    t = { s with hs := t.hs, fu := t.fu, lg := t.lg, ev := t.ev } ∧
    (∀ i ∈ is, (t.slot i).phase = .closed ∧ (t.slot i).rights = 0 ∧ (t.slot i).queue = [] ∧ (t.slot i).held = [] ∧ tget none t.lg.exports i = none) ∧
    (∀ i, i ∉ is → (t.slot i).phase = (s.slot i).phase ∧ (t.slot i).rights = (s.slot i).rights ∧ (t.slot i).gen = (s.slot i).gen ∧ (t.slot i).queue = (s.slot i).queue) ∧
    t.fu.maint = (s.fu.maint && !is.contains s.fu.owner))

/-- Slot status, event fetch, ring indices and interrupts (R394, R404, R405, R406, R412, R415, R418, R443). SLOT_STATUS_READ without a resend and EVENT_FETCH answer without changing the block; with a resend of a tag whose reply is kept, SLOT_STATUS_READ first writes that reply again under a new device sequence and says so; a consumer index that moves forwards is taken, the replies held for the ring then taking the entries that free in their order, each with the rights generation then in force (log 75), and one that moves backwards is counted as malformed; where events were dropped and the event ring has space again, one overflow event gives their number, and while it has none they stay outstanding; a pending interrupt is raised when its moderation time has ended. -/
def Obligations.SlotReadsAndIndices : Prop :=
  (∀ (h : Hdr) (resend tag : Nat) (s : State), HostReady h 0x0E07 s → resend = 0 ∨ tget none (s.slot h.slot).replies (tag % 65536) = none →
    Answers (.slotStatusRead h resend tag) h 0x0E07 s s (okAns (le 4 (s.slot h.slot).stat ++ le 4 (s.slot h.slot).rightsWord ++
      ((List.range 13).map (fun k => le 4 (tget 0 (s.slot h.slot).byStep (k + 1)))).flatten ++ [0, 0, 0, 0]))) ∧
  (∀ (h : Hdr) (start max : Nat) (s : State), HostReady h 0x0E08 s →
    let rs := ((s.slot h.slot).fetch start).take (Nat.min max (if h.udp then 44 else 126))
    Answers (.eventFetch h start max) h 0x0E08 s s (okAns (le 2 rs.length ++ [0, 0] ++ (rs.map EvRec.bytes).flatten))) ∧
  (∀ (i index : Nat) (s : State), i < 8 → index < 2 ^ 32 → SlotsInv s → backwards (s.slot i).rplCons index = false → (s.slot i).held = [] →
    exec (.hsRplCons i index) s = .next (s.modSlot i (fun x => { x with rplCons := index }))) ∧
  (∀ (i index : Nat) (c : HeldReply) (s : State), i < 8 → index < 2 ^ 32 → SlotsInv s → backwards (s.slot i).rplCons index = false → (s.slot i).held = [c] → c.use = .answer →
    ({ s.slot i with rplCons := index } : Slot).replyFull = false → (s.slot i).rings.wb ≠ (s.slot i).replyAddr (s.slot i).rplProd →
    let bs := ({ c.reply with gen := (s.slot i).gen } : Reply).packet i 2 c.key
    ∃ t, exec (.hsRplCons i index) s = .next t ∧ t = { s with hs := t.hs } ∧ (t.slot i).held = [] ∧ (t.slot i).sent = bs ∧
      (t.slot i).rplProd = ((s.slot i).rplProd + 1) % 2 ^ 32 ∧ tget [] t.hs.mem ((s.slot i).replyAddr (s.slot i).rplProd) = bs) ∧
  (∀ (i index : Nat) (s : State), i < 8 → index < 2 ^ 32 → backwards (s.slot i).rplCons index = true →
    exec (.hsRplCons i index) s = .next (s.modSlot i (fun x => { x with malformed := incSat 32 x.malformed }))) ∧
  (∀ (i index : Nat) (s : State), i < 8 → index < 2 ^ 32 → SlotsInv s → backwards (s.slot i).evqCons index = false → (s.slot i).dropped = 0 →
    exec (.hsEvqCons i index) s = .next (s.modSlot i (fun x => { x with evqCons := index }))) ∧
  (∀ (v : Nat) (s : State), v < 17 → (tget {} s.hs.vectors v).pending = true → (tget {} s.hs.vectors v).left = 0 →
    exec (.msiModerationEnd v) s = .next { s with hs := s.hs.signal v }) ∧
  (∀ (h : Hdr) (resend tag : Nat) (r : Reply) (s : State), HostReady h 0x0E07 s → resend ≠ 0 → tget none (s.slot h.slot).replies (tag % 65536) = some r →
    let x := s.slot h.slot
    let y : Slot := { x with devSeq := (x.devSeq + 1) % 2 ^ 32, lastReply := some { r with seq := x.devSeq } }
    let t := { s with hs := ({ s.hs with slots := tset {} s.hs.slots h.slot y } : HostIf).post h.slot h.udp { reply := { r with seq := x.devSeq }, key := x.key, use := .copy } }
    Answers (.slotStatusRead h resend tag) h 0x0E07 s t (okAns (le 4 (t.slot h.slot).stat ++ le 4 (t.slot h.slot).rightsWord ++
      ((List.range 13).map (fun k => le 4 (tget 0 (t.slot h.slot).byStep (k + 1)))).flatten ++ [1, 0, 0, 0]))) ∧
  (∀ (i index : Nat) (s : State), i < 8 → index < 2 ^ 32 → SlotsInv s → backwards (s.slot i).rplCons index = false → (s.slot i).rings.rplOrder ≤ 8 → (s.slot i).rplProd < 2 ^ 32 →
    let x : Slot := { s.slot i with rplCons := index }
    let n := Nat.min (2 ^ x.rings.rplOrder - (x.rplProd + 2 ^ 32 - index) % 2 ^ 32) x.held.length
    ∃ t, exec (.hsRplCons i index) s = .next t ∧ t = { s with hs := t.hs } ∧ (t.slot i).held = (x.held.drop n).map (fun c => c.now x.gen) ∧ (t.slot i).rplProd = (x.rplProd + n) % 2 ^ 32) ∧
  (∀ (i index : Nat) (s : State), i < 8 → index < 2 ^ 32 → backwards (s.slot i).evqCons index = true →
    exec (.hsEvqCons i index) s = .next (s.modSlot i (fun x => { x with malformed := incSat 32 x.malformed }))) ∧
  (∀ (i index : Nat) (s : State), i < 8 → index < 2 ^ 32 → SlotsInv s → backwards (s.slot i).evqCons index = false → (s.slot i).phase = .pcie → 0 < (s.slot i).dropped → s.shedding = false →
    ((s.slot i).evqProd + 2 ^ 32 - index) % 2 ^ 32 < 2 ^ (s.slot i).rings.evqOrder →
    ∃ t, exec (.hsEvqCons i index) s = .next t ∧ (t.slot i).evqCons = index ∧ (t.slot i).dropped = 0 ∧ (t.slot i).evqProd = ((s.slot i).evqProd + 1) % 2 ^ 32 ∧
      t = (s.modSlot i (fun x => { x with evqCons := index, dropped := 0 })).raiseTo i { kind := .eventOverflow, unit := noUnit, detail := (s.slot i).dropped }) ∧
  (∀ (i index : Nat) (s : State), i < 8 → index < 2 ^ 32 → SlotsInv s → backwards (s.slot i).evqCons index = false →
    2 ^ (s.slot i).rings.evqOrder ≤ ((s.slot i).evqProd + 2 ^ 32 - index) % 2 ^ 32 → exec (.hsEvqCons i index) s = .next (s.modSlot i (fun x => { x with evqCons := index })))

/-- Losing slots, expiring grants, and the ports' other answers (R400, R406, R412). A slot whose keepalive has run out is shut (what that leaves is SlotSessionCommands') and the others are told; a lost PCIe link shuts every PCIe slot at once; an expired grant leaves the session open with no rights and a new generation, and tells its slot; an ARP or ICMP echo request for the port's address and VLAN is answered, any other is not. -/
def Obligations.SlotsLostAndPortAnswers : Prop :=
  (∀ (i : Nat) (s : State), i < 8 → s.keepaliveOut i = true → exec (.slotLost i) s = .next (s.shutSlots [i] true)) ∧
  (∀ s : State, exec .pcieLinkDown s = .next (s.shutSlots ((List.range 8).filter (fun i => (s.slot i).phase == .pcie)) true)) ∧
  (∀ (i : Nat) (s : State), i < 8 → s.grantOut i = true →
    exec (.grantExpiry i) s = .next ((s.modSlot i (fun x => { x with rights := 0, gen := genUp x.gen, granted := false })).raiseTo i { kind := .rightsChanged, unit := noUnit })) ∧
  (∀ (port target vlan : Nat) (s : State), port < 2 →
    exec (.arp port target vlan) s = .next (if s.portIs port target vlan then { s with hs := { s.hs with netAnswer := some (.arp port) } } else s)) ∧
  (∀ (port dst vlan ident seq : Nat) (s : State), port < 2 →
    exec (.icmpEcho port dst vlan ident seq) s = .next (if s.portIs port dst vlan then { s with hs := { s.hs with netAnswer := some (.echo port ident seq) } } else s))

/-- Writing a reply changes its slot alone, and what it holds (R394, R396, R400, R402, R404, R420). A reply carries the command's opcode, tag and status, the slot's device sequence and rights generation, the tick and the parameters; it is kept under its tag and the device sequence advances; over UDP it is sent; over PCIe it goes into the reply ring's entry, the producer index advances and the write-back area shows it, or, while the ring is full, it is held and nothing is overwritten (log 75); and no other slot and nothing outside the host interface and the events page changes. -/
def Obligations.RepliesReachTheirSlot : Prop :=
  ∀ (s : State) (h : Hdr) (op q : Nat) (a : Ans) (use : ReplyUse), SlotsInv s →
    let t := s.writeReply h op q a use
    let x := s.slot h.slot
    let r : Reply := { opcode := op, tag := h.tag, status := a.status, seq := x.devSeq, gen := x.gen, qualifier := q, retryAfter := a.retry, tick := s.absTick % pow32, params := a.params, auth := h.auth }
    t = { s with hs := t.hs, ev := t.ev } ∧ (a.status ≠ stInternal → t.ev = s.ev) ∧
    (∀ j, j ≠ h.slot → t.slot j = s.slot j) ∧
    (t.slot h.slot).lastReply = some r ∧ (t.slot h.slot).devSeq = (x.devSeq + 1) % 2 ^ 32 ∧
    (t.slot h.slot).rplProd = (if h.udp = true ∨ x.replyFull = true then x.rplProd else (x.rplProd + 1) % 2 ^ 32) ∧
    (h.udp = true ∨ x.replyFull = false → (t.slot h.slot).sent = r.packet h.slot 2 x.key ∧ (t.slot h.slot).held = x.held) ∧
    (h.udp = false → x.replyFull = true → (t.slot h.slot).held = x.held ++ [{ reply := r, key := x.key, use := use }] ∧ t.hs.mem = s.hs.mem) ∧
    (h.udp = false → x.replyFull = false → tget [] t.hs.mem x.rings.wb = (t.slot h.slot).writeBack ∧
      (x.rings.wb ≠ x.replyAddr x.rplProd → tget [] t.hs.mem (x.replyAddr x.rplProd) = r.packet h.slot 2 x.key)) ∧
    (t.slot h.slot).phase = (s.slot h.slot).phase ∧ (t.slot h.slot).rights = (s.slot h.slot).rights

/-- Raising an event stamps it, numbers it and gives it to the live slots whose mask takes it (R404, R414, R415, R537). While the keystone sheds no telemetry, an event advances the event sequence and becomes the last event; a live slot whose mask has the event's group keeps it first among at most 1,024, numbered with the slot's own event sequence, which advances; a closed slot and one whose mask lacks the group keep theirs; and of the rest of the block only the ledger's event region may change; an event that concerns one slot, or every live one, reaches it whatever its mask. That an event which a full PCIe ring drops still takes a sequence number and is kept is the model's choice (log 73). -/
def Obligations.EventsReachLiveSlots : Prop :=
  (∀ (s : State) (e : Evt), SlotsInv s → s.shedding = false →
    let t := s.raise e
    t = { s with hs := t.hs, ev := t.ev, lg := t.lg } ∧ t.ev.seq = (s.ev.seq + 1) % 2 ^ 32 ∧
    t.ev.last.code = e.kind.code ∧ t.ev.last.unit = e.unit ∧ t.ev.last.seq = t.ev.seq ∧ t.ev.last.tick = s.absTick ∧ t.ev.last.stamp = s.tb.stamp ∧
    (e.kind.ledgered = false → t.lg = s.lg) ∧
    (∀ i < 8, (s.slot i).phase = .closed ∨ (s.slot i).mask.testBit (e.kind.code / 256) = false → t.slot i = s.slot i) ∧
    (∀ i < 8, (s.slot i).phase ≠ .closed → (s.slot i).mask.testBit (e.kind.code / 256) = true →
      (t.slot i).events.length ≤ 1024 ∧ (t.slot i).evSeq = ((s.slot i).evSeq + 1) % 2 ^ 32 ∧
      ∃ r rest, (t.slot i).events = r :: rest ∧ r.code = e.kind.code ∧ r.unit = e.unit ∧ r.seq = (s.slot i).evSeq ∧ r.tick = s.absTick)) ∧
  (∀ (s : State) (e : Evt) (i : Nat), SlotsInv s → s.shedding = false → i < 8 → (s.slot i).phase ≠ .closed →
    ∃ (r r' : EvRec) (rest rest' : List EvRec), ((s.raiseTo i e).slot i).events = r :: rest ∧ ((s.raiseLive e).slot i).events = r' :: rest' ∧ r.code = e.kind.code ∧ r'.code = e.kind.code ∧
      (∀ j < 8, j ≠ i → (s.slot j).mask.testBit (e.kind.code / 256) = false → (s.raiseTo i e).slot j = s.slot j) ∧
      s.raiseTo i e = { s with hs := (s.raiseTo i e).hs, ev := (s.raiseTo i e).ev } ∧ s.raiseLive e = { s with hs := (s.raiseLive e).hs, ev := (s.raiseLive e).ev })

/-- The start's commands complete (R324, R333, R335, R337, R371, R430). SYS_INFO_READ and START_STATUS_READ answer from the state and change nothing; START_RESTORE_SKIP is noted for a bay in RESTORING or held for its restore; BAY_SYNC is accepted for a READY bay, or an ENERGISED one whose breaker has opened, while no other synchronises, under a grid target without slew and at half the nominal voltage; BAY_EXCLUDE is accepted for a bay that is not ENERGISED. STOPPED ends where the synchronisation starts and not with the command (log 54; SynchronisationRows says it). -/
def Obligations.StartCommands : Prop :=
  (∀ (h : Hdr) (s : State), HostReady h 0x0101 s → Answers (.sysInfoRead h) h 0x0101 s s
    (okAns ([s.variant, s.rd.active, s.st.bootSlot, 0] ++ wordBytes (s.fu.read 1 0 3) ++ le 4 (tget 0 s.rd.fwRevs s.rd.active) ++ le 2 (tget 0 s.rd.shadowRevs s.rd.active) ++ [0, 0] ++ le 4 slotSize ++ le 8 s.absTick ++
      le 4 s.xp.generation))) ∧
  (∀ (h : Hdr) (first count : Nat) (s : State), HostReady h 0x0104 s → 1 ≤ count → count ≤ 144 → first + count ≤ s.nBays →
    Answers (.startStatusRead h first count) h 0x0104 s s
      (okAns ((List.range count).map (fun k => [(s.bayStart (first + k)).phase.code, (s.bayStart (first + k)).reason])).flatten)) ∧
  (∀ (h : Hdr) (b : Nat) (s : State), HostReady h 0x0105 s → b < s.nBays → ((s.bayStart b).phase = .restoring ∨ ((s.bayStart b).phase = .held ∧ (s.bayStart b).reason = 3)) →
    AnswersJ (.startRestoreSkip h (bayUid b)) h 0x0105 s { s with st := { s.st with bays := tmod {} s.st.bays b (fun x => { x with skipDue := true }) } } okAns) ∧
  (∀ (h : Hdr) (b : Nat) (s : State), HostReady h 0x0106 s → b < s.nBays → ((s.bayStart b).phase = .ready ∨ ((s.bayStart b).phase = .energised ∧ (s.bayStart b).opened = true)) →
    s.st.sync = none → (∀ k < s.nBays, (s.bayStart k).syncDue = false) → s.enableOk b = true → s.tb.target = .grid → s.tb.slewing = false → one22 / 2 ≤ s.vBar b →
    AnswersJ (.baySync h (bayUid b)) h 0x0106 s { s with st := { s.st with bays := tmod {} s.st.bays b (fun x => { x with syncDue := true }) } } acceptedAns) ∧
  (∀ (h : Hdr) (b : Nat) (s : State), HostReady h 0x0107 s → b < s.nBays → (s.bayStart b).phase ≠ .energised →
    AnswersJ (.bayExclude h (bayUid b)) h 0x0107 s { s with st := { s.st with bays := tmod {} s.st.bays b (fun x => { x with exclDue := true }) } } okAns)

/-- Election, boot, self-tests and the timebase's start (R316, R323, R327, R328, R329, R330, R498). The preferred keystone that passes its self-test in step 3 is elected; when the preference wait ends the other candidate is; the active keystone boots from the last good slot when its image is good, from the other slot when only that one is, and otherwise stops with code 0x50 and opens the service UART; a chunk at offset 0 over the service UART replaces the image after both slots have failed; a tile that passes in step 4 or 5 is tested and stays in, and with the last of them step 5 is complete; one that passes in step 7 while it is out has recovered, and has its power again where a planned handover had switched it off (logs 50 and 117); and the timebase starts at tick 0 of cycle 0 under FREE with the device in step 7. -/
def Obligations.DeviceStepsComplete : Prop :=
  (∀ (k : Nat) (s : State), k < 2 → s.st.devStep = 3 → s.rd.ksFailed.testBit k = false → s.rd.candidates.testBit k = false → (s.chan (12 + k)).latched = false → k = s.preferred →
    exec (.keystoneSelfTest k true) s = .next (({ s with rd := { s.rd with candidates := setBit s.rd.candidates k true } }).elect k)) ∧
  (∀ s : State, s.st.devStep = 3 → s.rd.candidates.testBit s.preferred = false → s.rd.candidates.testBit (1 - s.preferred) = true →
    exec (.electionTimeout false) s = .next (({ s with st := { s.st with prefWaited := true } }).elect (1 - s.preferred))) ∧
  (∀ (k : Nat) (s : State), k < 2 → k = s.rd.active → s.rd.haveActive = true → (s.st.devStep = 4 ∨ s.st.devStep = 5) → s.st.step4 = false →
    ∃ t, exec (.signedBoot k) s = .next t ∧
      (s.imageGood s.rd.lastGood = true → t = { s with rd := t.rd, st := t.st } ∧ t.st.step4 = true ∧ t.st.bootSlot = s.rd.lastGood ∧ t.rd.lastGood = s.rd.lastGood ∧
        t.st.devStep = (if s.st.step5 then 6 else 5)) ∧
      (s.imageGood s.rd.lastGood = false → s.imageGood (1 - s.rd.lastGood) = true → t.st.step4 = true ∧ t.st.otherSlotBad = true ∧ t.st.bootSlot = 1 - s.rd.lastGood ∧
        t.rd.lastGood = 1 - s.rd.lastGood) ∧
      (s.imageGood s.rd.lastGood = false → s.imageGood (1 - s.rd.lastGood) = false → t.st.step4 = false ∧ t.st.uartOpen = true ∧ t.st.faultCode = 0x50)) ∧
  (∀ (slot : Nat) (data : List Nat) (s : State), s.st.uartOpen = true → slot ≤ 1 → data.length ≤ slotSize →
    exec (.serviceUartWrite slot 0 data) s = .next { s with rd := { s.rd with images := tmod {} s.rd.images slot (fun _ => { bytes := data.map (· % 256), verified := false }) } }) ∧
  (∀ (k : Nat) (s : State), k < s.nTiles → s.st.devStep = 7 → (s.tile k).phase = .out → (s.tile k).failed = false → (s.chan k).latched = false →
    exec (.tileSelfTest k true) s = .next (let u := s.modTile k (fun y => { y with recovered := true })
      if (s.tile k).handedOver = true then u.modChan k (fun x => { x with gate := true, good := true }) else u)) ∧
  (∀ (k : Nat) (s : State), k < s.nTiles → (s.st.devStep = 4 ∨ s.st.devStep = 5) → (s.tile k).tested = false → (s.chan k).latched = false →
    let u := s.modTile k (fun y => { y with tested := true, failed := false })
    ((∃ j < s.nTiles, (u.tile j).tested = false) → exec (.tileSelfTest k true) s = .next u) ∧
    ((∀ j < s.nTiles, (u.tile j).tested = true) → (u.tile k).failed = false → exec (.tileSelfTest k true) s = .next { u with st := { u.st with step5 := true, outputs := u.st.outputs || u.st.step4, devStep := if u.st.step4 = true then 6 else 4 } })) ∧
  (∀ s : State, s.st.devStep = 6 → s.tb.running = false →
    ∃ t, exec (.timebaseStart true) s = .next t ∧ t.st.devStep = 7 ∧ t.tb.running = true ∧ t.tb.idx = 0 ∧ t.tb.cycle = 0 ∧ t.tb.target = .free ∧ t.tb.slewing = false ∧
      t.md = s.md ∧ (s.rd.freshDue = false → t.xp = s.xp) ∧ t.fu = s.fu)

/-- Admission, restore and synchronisation of a bay (R307, R308, R332, R333, R335, R336). Admission ends when every fitted position is admitted, or at the admission time; a bay waiting for a ledger that does not serve is held at the restore time; the bay accepted for synchronisation starts at a cycle boundary, its piers enabled, its drive table anew and the permit not asserted; the permit is asserted when the test has held for the dwell and the hub reports energize_in; a synchronisation without a permit for the limit ends with its event and the bay floated; a record that the restore opens for a new serial with no image is a new record in JOINING, and the brick's serial is bound to its position. The model's choices, and no rule's words: the start ends STOPPED and takes the ledger from STOPPED to RUNNING or STALLED (log 54), waits outside flywheel (log 98), and is reported by an event (log 29). -/
def Obligations.SynchronisationRows : Prop :=
  (∀ (b : Nat) (s : State), b < s.nBays → (s.bayStart b).phase = .admitting → s.allAdmitted b = true → exec (.admissionEnd b) s = .next (s.startBay b .restoring 0)) ∧
  (∀ (b : Nat) (s : State), b < s.nBays → (s.bayStart b).phase = .admitting → s.allAdmitted b = false → s.prm 0x0103 0 7 0 * 1000000000 ≤ (s.bayStart b).age →
    exec (.admissionEnd b) s = .next (s.startBay b .restoring 2)) ∧
  (∀ (b : Nat) (s : State), b < s.nBays → (s.bayStart b).phase = .restoring → (s.bayStart b).restored = false → s.ledgerServes = true →
    exec (.restore b) s = .next (((s.toOpen b).foldl (fun (t : State) e => t.openRecord e.1 e.2 (s.course (e.1 / 96)).marked) s).markRestored b)) ∧
  (∀ (b : Nat) (s : State), b < s.nBays → (s.bayStart b).phase = .restoring → (s.bayStart b).restored = false → s.ledgerServes = false →
    s.prm 0x0103 0 8 0 * 1000000000 ≤ (s.bayStart b).age → exec (.restore b) s = .next (s.startBay b .held 3)) ∧
  (∀ (b : Nat) (s : State), s.tb.idx = 0 → s.rd.flywheel = false → s.allBays.find? (fun b => (s.bayStart b).syncDue) = some b →
    ({ s with st := { s.st with bays := tmod {} s.st.bays b (fun x => { x with syncDue := false }) } } : State).enableOk b = true → s.st.sync = none →
    let t := s.beginSync b
    exec .syncStart s = .next (t.raise { kind := .syncBegun, unit := bayUid b, detail := 1 }) ∧ t = { s with st := t.st, rd := t.rd, lg := t.lg, md := t.md, lk := t.lk } ∧
    t.st.sync = some { bay := b } ∧ t.st.syncPermit = false ∧ t.st.stopped = false ∧ (t.bayStart b).phase = .syncing ∧ (∀ k < 3, t.md.pierOn (3 * b + k) = true) ∧
    t.lg = (if s.lg.phase = 4 then { s.lg with phase := if (List.range 8).any s.pairOk then 2 else 3 } else s.lg) ∧
    t.rd = { s.rd with drive := tdrop (fun k => decide (k / 2400 = b)) s.rd.drive }) ∧
  (∀ (y : Sync) (s : State), s.st.sync = some y → y.closed = false → y.passing = true → s.prm 0x0103 0 4 0 ≤ y.dwell → s.energizeIn y.bay = true → s.st.syncPermit = false →
    exec .syncPermitAssert s = .next { s with st := { s.st with syncPermit := true, sync := some { y with permitted := true, permitAge := 0 } } }) ∧
  (∀ (y : Sync) (s : State), s.st.sync = some y → y.closed = false → y.permitted = false → s.prm 0x0103 0 5 0 * 800 ≤ y.waited →
    exec .syncTimeout s = .next ((s.endSync 4).raise { kind := .syncTimeout, unit := bayUid y.bay }) ∧
    s.endSync 4 = { s with md := s.md.floatBay y.bay, st := { s.st with sync := none, syncPermit := false, bays := tmod {} s.st.bays y.bay (fun x => { x with phase := .ready, reason := 4, age := 0 }) } }) ∧
  (∀ (x serial : Nat) (marked : Bool) (s : State), (tget {} s.rc.bricks x).state = .absent → tget 0 s.lk.bound x = 0 ∨ tget 0 s.lk.bound x = serial → serial ≠ 0 → tget [] s.lg.images x = [] →
    ∃ u : State, s.openRecord x serial marked = u.raise { kind := .restoreNew, unit := brickUid x } ∧ u = { s with rc := u.rc, lk := u.lk, md := u.md } ∧
      u.rc.bricks = tset {} s.rc.bricks x { Rec.new serial with recalDue := marked } ∧ tget 0 u.lk.bound x = serial)

/-- The safe stop, from its command to STOPPED (R339, R340, R341, R343, R344, R430). SAFE_STOP starts the ramp of 8,000 ticks with the command as its only cause, a synchronisation in progress ending with its bay floated, and where the tiles carry it the ramp runs with them, a ramp of theirs that runs going on from where it is; a further cause joins the stop that runs; when the scale has reached 0 every bay is floated and the flush is due; at the next cycle boundary the safe-stop event is raised and, where the ledger is mounted, the stop snapshot and the flush begin; the end of the flush is STOPPED, an ENERGISED bay being READY where its breaker has been reported open and waiting for that report elsewhere, or with a reset to follow that reset, in whose place the footing powers down without VIN_HOLD; DEVICE_RESET is refused with ST_STATE while a bay is ENERGISED unless forced, starts a safe stop with a reset to follow when forced, adds the reset to a stop that runs, and resets at once otherwise. The model's choices, and no rule's words: the power-down in place of the reset wherever VIN_HOLD is absent, and the DEVICE_RESET that joins a stop (log 62); the cause bit that a forced DEVICE_RESET sets, and READY by the breaker's report (log 52). What the reset and the power-down leave is ResetsKeepWhatTheSpecKeeps'. -/
def Obligations.SafeStopRuns : Prop :=
  (∀ (h : Hdr) (s : State), HostReady h 0x0108 s → s.stopping = false → s.st.sync = none →
    ∃ t, AnswersJ (.safeStop h) h 0x0108 s t acceptedAns ∧ t = { s with st := t.st, rd := t.rd } ∧ t.st.stopPhase = 1 ∧ t.st.rampLeft = 8000 ∧ t.st.stopCauses = 2 ∧
      t.st.resetAfter = false ∧ t.st.immediate = false ∧ t.st.noFlush = false ∧ t.st.bays = s.st.bays ∧ t = s.startStop 1 false false false) ∧
  (∀ s : State, s.st.stopPhase = 1 → s.st.rampLeft = 0 →
    let u := s.allBays.foldl State.disableFloat s
    exec .safeStopFloat s = .next { u with st := { u.st with stopPhase := 2, flushDue := true } }) ∧
  (∀ s : State, s.st.stopPhase = 2 → s.st.flushDue = true → s.tb.idx = 0 →
    let t := ({ s with st := { s.st with flushDue := false } }).raise { kind := .safeStop, unit := noUnit, detail := s.st.stopCauses }
    exec .safeStopFlush s = .next (if s.st.noFlush = true then t else if s.lg.phase = 3 then t.skipSnapshot else if s.lg.phase ≠ 2 then t else ((t.abandonFrame).beginCapture 1).issue)) ∧
  (∀ (flushed : Bool) (s : State), s.st.stopPhase = 2 → s.st.flushDue = false →
    let t := s.stopDone flushed
    (s.st.resetAfter = false → exec (.safeStopComplete flushed) s = .next t) ∧
    (s.st.resetAfter = true → exec (.safeStopComplete flushed) s = .next (if s.ftg.vinPresent = true then t.deviceReset (s.st.resetBits ||| 32) else t.powerDown)) ∧
    t.st.stopPhase = 3 ∧ t.st.stopped = true ∧ t.lg.phase = (if s.lg.phase = 2 ∨ s.lg.phase = 3 then 4 else s.lg.phase) ∧ t = { s with st := t.st, lg := t.lg } ∧
    (twf {} s.st.bays = true → ∀ b, t.bayStart b =
      (if (s.bayStart b).phase ≠ .energised then s.bayStart b else if (s.bayStart b).opened = true then { s.bayStart b with phase := .ready, reason := 0, age := 0, opened := false } else { s.bayStart b with stopFloat := true }))) ∧
  (∀ (h : Hdr) (s : State), HostReady h 0x0109 s → s.anyEnergised = true → Answers (.deviceReset h 0) h 0x0109 s s (refuseAns stState 0x0109 255 0)) ∧
  (∀ (h : Hdr) (force : Nat) (s : State), HostReady h 0x0109 s → (s.anyEnergised = true → force ≠ 0) → (s.anyEnergised = true ∨ s.stopping = true) →
    AnswersJ (.deviceReset h force) h 0x0109 s (s.startStop 1 false true false) acceptedAns) ∧
  (∀ (h : Hdr) (force : Nat) (s : State), HostReady h 0x0109 s → s.anyEnergised = false → s.stopping = false →
    exec (.deviceReset h force) s = .next ((s.writeReply h 0x0109 (s.qualifier h) acceptedAns).deviceReset 4)) ∧
  (∀ (cause : Nat) (immediate reset noFlush : Bool) (s : State), s.stopping = false → s.st.sync = none →
    s.startStop cause immediate reset noFlush = { s with st := { s.st with stopPhase := 1, stopCauses := 2 ^ cause, rampLeft := if immediate = true then 0 else 8000, resetAfter := reset, immediate := immediate, noFlush := noFlush, flushDue := false, resetBits := if reset = true then 2 ^ stopResetBit cause else 0 }, rd := if (s.ksLive = false ∨ s.rd.flywheel = true) ∧ immediate = false then { s.rd with stopRamp := true, ramp := true, rampTicks := if s.rd.ramp = true then s.rd.rampTicks else 0 } else s.rd }) ∧
  (∀ (cause : Nat) (immediate reset noFlush : Bool) (y : Sync) (s : State), s.stopping = false → s.st.sync = some y → y.closed = false →
    let t := s.startStop cause immediate reset noFlush
    t.st.stopPhase = 1 ∧ t.st.sync = none ∧ t.st.syncPermit = false ∧ t.md = s.md.floatBay y.bay ∧ t = { s with st := t.st, rd := t.rd, md := t.md }) ∧
  (∀ (cause : Nat) (immediate reset noFlush : Bool) (s : State), s.stopping = true →
    s.startStop cause immediate reset noFlush = { s with st := { s.st with stopCauses := setBit s.st.stopCauses cause true, resetAfter := s.st.resetAfter || reset, noFlush := s.st.noFlush || noFlush, immediate := s.st.immediate || immediate, rampLeft := if immediate = true then 0 else s.st.rampLeft, resetBits := if reset = true then setBit s.st.resetBits (stopResetBit cause) true else s.st.resetBits } }) ∧
  (∀ (b : Nat) (s : State), (s.bayStart b).phase = .energised → (s.bayLink b).opened = true →
    s.openReport b = { s with st := { s.st with bays := tmod {} s.st.bays b (fun x => if x.stopFloat = true then { x with phase := .ready, reason := 0, age := 0, opened := false, stopFloat := false } else { x with opened := true }) } })

/-- What a power-on reset and a device reset leave (R323, R339, R347, R351, R356, R373, R389, R505). A power-on reset of an unpowered device leaves step 1 with the power-on cause alone, the fuses' words, locks and journal, the boot images, the grant serials and host memory, the pins' levels, and every other register as after reset; SYS_RESET_N and the device reset leave the same, with their cause bits added, the reset count one higher, and of the footing the always-on status, the supplies, the switchovers and each channel's counters and latch kept, and of the dies those in SHUTDOWN; a power-down leaves what a device reset leaves but for the causes, which stay as they are, and the footing, which is in POWERDOWN with no position enabled; EXTEST, CLAMP and HIGHZ act as BYPASS once a lane has trained. The model's choices, and no rule's words: that the cause bits of resets add up until written (log 52), what of the footing's latches and of a thermal SHUTDOWN outlives a reset (log 63), and the cells of the chain (log 119). -/
def Obligations.ResetsKeepWhatTheSpecKeeps : Prop :=
  (∀ s : State, s.unpowered = true → ∃ t, exec .powerOn s = .next t ∧ t.st = { devStep := 1 } ∧ t.st.cause = 1 ∧ t.ftg = { vinOk := true, vinPresent := true, inPath := true, enabled := 1, bankMv := s.ftg.bankMv } ∧ t.thm = {} ∧
      t.pending = s.pending ∧ t.freeCtr = s.freeCtr ∧ t.rd = { images := s.rd.images, lastGood := s.rd.lastGood, active := s.preferred } ∧
      t.fu = { words := s.fu.words, locks := s.fu.locks, journal := s.fu.journal, root := s.fu.rootInUse } ∧ t.sys = { gpioPins := s.sys.gpioPins } ∧ t.hs = { mem := s.hs.mem, slots := t.hs.slots } ∧
      (twf {} s.hs.slots = true → ∀ i, t.slot i = { topSerial := (s.slot i).topSerial }) ∧
      t.tb = {} ∧ t.sp = {} ∧ t.xp = {} ∧ t.ce = {} ∧ t.md = {} ∧ t.rc = {} ∧ t.z = {} ∧ t.ld = {} ∧ t.lk = {} ∧ t.lg = {} ∧ t.ev = {}) ∧
  (∀ s : State, s.unpowered = false → exec .sysResetN s = .next (s.deviceReset 2)) ∧
  (∀ (causes : Nat) (s : State), ∃ t, s.deviceReset causes = t ∧
      t.st = { cause := s.st.cause ||| causes, resets := incSat 16 s.st.resets, laneSeen := s.st.laneSeen, jtag := s.st.jtag, scan := s.st.scan, devStep := 1 } ∧
      t.ftg = { vinOk := s.ftg.vinOk, vinPresent := s.ftg.vinPresent, onBank := s.ftg.onBank, inPath := s.ftg.inPath, aonFault := s.ftg.aonFault, lastTrip := s.ftg.lastTrip, lastReaction := s.ftg.lastReaction, aonRetries := s.ftg.aonRetries, chans := t.ftg.chans, bankMv := s.ftg.bankMv, charger := if s.ftg.charger = .fault then .fault else .off, switchovers := s.ftg.switchovers, enabled := 1 } ∧
      (twf {} s.ftg.chans = true → ∀ c, t.chan c = { uv := (s.chan c).uv, ov := (s.chan c).ov, retry := (s.chan c).retry, trip := (s.chan c).trip, retries := (s.chan c).retries, latched := (s.chan c).latched, thermal := (s.chan c).thermal, tick := (s.chan c).tick, clearDue := (s.chan c).clearDue }) ∧
      (twf {} s.thm.dies = true → ∀ d, t.die d = if (s.die d).level = .shutdown then { level := .shutdown } else {}) ∧
      t.pending = s.pending ∧ t.freeCtr = s.freeCtr ∧ t.rd = { images := s.rd.images, lastGood := s.rd.lastGood, active := s.preferred } ∧
      t.fu = { words := s.fu.words, locks := s.fu.locks, journal := s.fu.journal, root := s.fu.rootInUse } ∧ t.sys = { gpioPins := s.sys.gpioPins } ∧ t.hs = { mem := s.hs.mem, slots := t.hs.slots } ∧
      (twf {} s.hs.slots = true → ∀ i, t.slot i = { topSerial := (s.slot i).topSerial }) ∧
      t.tb = {} ∧ t.sp = {} ∧ t.xp = {} ∧ t.ce = {} ∧ t.md = {} ∧ t.rc = {} ∧ t.z = {} ∧ t.ld = {} ∧ t.lk = {} ∧ t.lg = {} ∧ t.ev = {}) ∧
  (∀ s : State, ∃ t, s.powerDown = t ∧ t.st = { cause := s.st.cause, resets := s.st.resets, laneSeen := s.st.laneSeen, jtag := s.st.jtag, scan := s.st.scan } ∧
      t.ftg.phase = .powerdown ∧ t.ftg.enabled = 0 ∧ t.ftg.vinOk = false ∧ t.ftg.onBank = false ∧ t.ftg.inPath = false ∧ t.ftg.charger = .off ∧ t.ftg.aonFault = s.ftg.aonFault ∧ t.ftg.lastTrip = s.ftg.lastTrip ∧
      t.ftg.bankMv = s.ftg.bankMv ∧ t.ftg.switchovers = s.ftg.switchovers ∧
      (twf {} s.ftg.chans = true → ∀ c, (t.chan c).trip = (s.chan c).trip ∧ (t.chan c).latched = (s.chan c).latched ∧ (t.chan c).good = false ∧ (c < 14 → (t.chan c).gate = true)) ∧
      (twf {} s.thm.dies = true → ∀ d, t.die d = if (s.die d).level = .shutdown then { level := .shutdown } else {}) ∧
      t.pending = s.pending ∧ t.freeCtr = s.freeCtr ∧ t.rd = { images := s.rd.images, lastGood := s.rd.lastGood, active := s.preferred } ∧
      t.fu = { words := s.fu.words, locks := s.fu.locks, journal := s.fu.journal, root := s.fu.rootInUse } ∧ t.sys = { gpioPins := s.sys.gpioPins } ∧ t.hs = { mem := s.hs.mem, slots := t.hs.slots } ∧
      (twf {} s.hs.slots = true → ∀ i, t.slot i = { topSerial := (s.slot i).topSerial }) ∧
      t.tb = {} ∧ t.sp = {} ∧ t.xp = {} ∧ t.ce = {} ∧ t.md = {} ∧ t.rc = {} ∧ t.z = {} ∧ t.ld = {} ∧ t.lk = {} ∧ t.lg = {} ∧ t.ev = {}) ∧
  (∀ (l : JtagLoad) (s : State), exec (.jtagInstruction l) s = .next { s with st := { s.st with jtag := if (l.ins = .extest ∨ l.ins = .clamp ∨ l.ins = .highz) ∧ s.st.laneSeen = true then .bypass else l.ins, scan := l.cells % 2 ^ 30 } })

/-- Register reads and writes by access code (R18, R20, R21, R23, R514, R523). A bad access sets bad_access and counts, and a bad read returns 0; a read returns the value in force and clears the register's RC field; a write sets a scratch word whole, clears only the W1C bits written as 1, and leaves the block as it is at a read-only register and at a word that no register has, which reads 0; staged fields take the value into their staged copy only. A read of any word shows the value in force, and of the block it changes at most the RC field: the peak of a die, a pair's drop count, a slot's counts of refusals and failed trailers. -/
def Obligations.RegisterAccesses : Prop :=
  (∀ (w : Bool) (s : State), exec (.badAccess w) s = .next { s with sys := { s.sys with badAccess := true, badCount := incSat 16 s.sys.badCount, busRead := if w then s.sys.busRead else 0 } }) ∧
  (∀ s : State, exec (.rcRead 0x0008) s = .next { s with sys := { s.sys with badCount := 0, busRead := s.reg 0x0008 } }) ∧
  (∀ (o : Nat) (s : State), o % 4 = 0 → o < 0x5000 → o ≠ 0x0008 → (o < 0x2010 ∨ 0x2044 < o) → exec (.rcRead o) s = .next { s with sys := { s.sys with busRead := s.reg o } }) ∧
  (∀ (v : Nat) (s : State), v < 2 ^ 32 → exec (.registerWrite 0xF000 v) s = .next { s with sys := { s.sys with scratch0 := v } }) ∧
  (∀ (v : Nat) (s : State), v < 2 ^ 32 → exec (.registerWrite 0x0008 v) s = .next { s with sys := { s.sys with badAccess := s.sys.badAccess && !v.testBit 0 } }) ∧
  (∀ (v : Nat) (s : State), v < 2 ^ 32 → exec (.registerWrite 0x0000 v) s = .next s ∧ exec (.registerWrite 0x0038 v) s = .next s ∧ exec (.registerWrite 0xE008 v) s = .next s) ∧
  (∀ (o v : Nat) (s : State), o % 4 = 0 → (0x0010 ≤ o ∧ o ≤ 0x001C) ∨ (0x0040 ≤ o ∧ o < 0x1000) ∨ (0x2048 ≤ o ∧ o < 0x3000) ∨ (0x3028 ≤ o ∧ o < 0x4000) ∨ (0xF014 ≤ o ∧ o < 0x10000) →
    exec (.registerWrite o v) s = .next s ∧ exec (.stagedRegisterWrite o v) s = .next s ∧ exec (.rcRead o) s = .next { s with sys := { s.sys with busRead := 0 } }) ∧
  (∀ (v : Nat) (s : State), v < 2 ^ 32 → s.sys.gpioCommit = none →
    exec (.stagedRegisterWrite 0x0030 v) s = .next { s with sys := { s.sys with gpioDirStg := v % 65536, pend0 := true, late0 := false } }) ∧
  (∀ (v : Nat) (s : State), v < 2 ^ 32 →
    exec (.stagedRegisterWrite 0x003C v) s = .next { s with sys := { s.sys with permitEnStg := v.testBit 0, pend0 := true, late0 := s.sys.gpioCommit.isSome } } ∧
    exec (.stagedRegisterWrite 0x8000 v) s = .next { s with sys := { s.sys with urUnitStg := v, pend8 := true, late8 := s.sys.urCommit.isSome } } ∧
    exec (.stagedRegisterWrite 0x8004 v) s = .next { s with sys := { s.sys with urScopeStg := v % 2 + v / 256 * 256, pend8 := true, late8 := s.sys.urCommit.isSome } }) ∧
  (∀ (i o v : Nat) (s : State), i < 8 → o ≤ 0x20 → o % 4 = 0 → v < 2 ^ 32 →
    exec (.stagedRegisterWrite (0xC100 + 64 * i + o) v) s = .next { s with hs := { s.hs with slots := tmod {} s.hs.slots i (fun x => { x with staged := x.staged.write o v }), stagedSlots := setBit s.hs.stagedSlots i true, lateSlots := if s.hs.commitSet.isSome then setBit s.hs.lateSlots i true else s.hs.lateSlots } }) ∧
  (∀ (v : Nat) (s : State), v < 2 ^ 32 →
    exec (.registerWrite 0x0034 v) s = .next { s with sys := { s.sys with gpioOut := v % 65536 } } ∧
    exec (.registerWrite 0xE004 v) s = .next { s with ev := { s.ev with mask := v / 2 % 16 } } ∧
    exec (.registerWrite 0xF004 v) s = .next { s with sys := { s.sys with scratch1 := v } } ∧
    exec (.registerWrite 0x7000 v) s = .next { s with md := { s.md with overdraw := s.md.overdraw && !v.testBit 3, offTarget := s.md.offTarget && !v.testBit 4, entryCap := s.md.entryCap && !v.testBit 5, courseFault := s.md.courseFault && !v.testBit 6 } } ∧
    exec (.registerWrite 0xC000 v) s = .next { s with hs := { s.hs with commitErr := s.hs.commitErr && !v.testBit 10, authFail := s.hs.authFail && !v.testBit 11, refused := s.hs.refused && !v.testBit 12, evqOverflow := s.hs.evqOverflow && !v.testBit 13 } }) ∧
  (∀ (o v : Nat) (s : State), o % 4 = 0 → o < 0x10000 → v < 2 ^ 32 →
    exec (.registerWrite o v) s = .next (if o < 0x5000 then s.writeLow o v else s.writeHigh o v) ∧
    ∃ t, exec (.stagedRegisterWrite o v) s = .next t ∧ t = { s with sys := t.sys, hs := t.hs }) ∧
  (∀ (o : Nat) (s : State), o % 4 = 0 → o < 0x10000 →
    ∃ t, exec (.rcRead o) s = .next t ∧ t = { s with sys := t.sys, thm := t.thm, lg := t.lg, hs := t.hs } ∧ t.sys = { s.sys with badCount := t.sys.badCount, busRead := s.reg o }) ∧
  (∀ (i : Nat) (s : State), i < 8 →
    exec (.rcRead (0xB104 + 8 * i)) s = .next { s with lg := { s.lg with drop := tset 0 s.lg.drop i 0 }, sys := { s.sys with busRead := s.reg (0xB104 + 8 * i) } } ∧
    exec (.rcRead (0xC134 + 64 * i)) s = .next { s with hs := { s.hs with slots := tmod {} s.hs.slots i (fun x => { x with refused := 0 }) }, sys := { s.sys with busRead := s.reg (0xC134 + 64 * i) } } ∧
    exec (.rcRead (0xC138 + 64 * i)) s = .next { s with hs := { s.hs with slots := tmod {} s.hs.slots i (fun x => { x with authFail := 0 }) }, sys := { s.sys with busRead := s.reg (0xC138 + 64 * i) } }) ∧
  (∀ (d : Nat) (s : State), d < 14 →
    exec (.rcRead (0x2010 + 4 * d)) s = .next { s with thm := { s.thm with dies := tmod {} s.thm.dies d (fun x => { x with peak := none }) }, sys := { s.sys with busRead := s.reg (0x2010 + 4 * d) } })

/-- A commit takes its page's staged set and applies it whole at the next boundary (R22, R403, R519, R520, R525, R531, R532, R534). While the tick runs, a commit with staged writes captures the staged set, and its landing in a later tick applies every field of it together: the GPIO directions and the permit enable of page 0, every slot's rings of page 12 where all pass their checks, and of page 12 nothing, with commit_err set, where one fails; a page-8 commit starts a fill or refuses it; a published fill shows its records and advances the sequence. That the staged set is captured at the commit write, and not at its landing, is the model's choice (log 70). -/
def Obligations.CommitsLandBetweenTicks : Prop :=
  (∀ (v : Nat) (s : State), v % 2 = 1 → s.sys.pend0 = true → s.tb.running = true →
    exec (.sysCommit v) s = .next { s with sys := { s.sys with gpioCommit := some (s.absTick, s.sys.gpioDirStg, s.sys.permitEnStg), late0 := false } }) ∧
  (∀ (n dir : Nat) (permit : Bool) (s : State), s.sys.gpioCommit = some (n, dir, permit) → n ≠ s.absTick →
    exec .sysCommitLanding s = .next { s with sys := { s.sys with gpioDir := dir, permitEn := permit, permitLow := (if permit = s.sys.permitEn then s.sys.permitLow else 1), gpioFresh := false, pend0 := s.sys.late0, late0 := false, gpioCommit := none } }) ∧
  (∀ (v : Nat) (s : State), v % 2 = 1 → s.hs.stagedSlots ≠ 0 → s.tb.running = true →
    ∃ set, exec (.hsCommit v) s = .next { s with hs := { s.hs with commitSet := some (s.absTick, set), lateSlots := 0 } } ∧ ∀ i < 8, tget {} set i = (s.slot i).staged) ∧
  (∀ (n : Nat) (set : Tab Rings) (s : State), SlotsInv s → s.hs.commitSet = some (n, set) → n ≠ s.absTick → (∀ i < 8, (s.slot i).ringsOk (tget {} set i) = true) →
    ∃ t, exec .hsCommitLanding s = .next t ∧ t = { s with hs := { s.hs with slots := t.hs.slots, stagedSlots := s.hs.lateSlots, lateSlots := 0, commitSet := none } } ∧
      ∀ i < 8, t.slot i = { s.slot i with rings := tget {} set i }) ∧
  (∀ (n i : Nat) (set : Tab Rings) (s : State), s.hs.commitSet = some (n, set) → n ≠ s.absTick → i < 8 → (s.slot i).ringsOk (tget {} set i) = false →
    ∃ t, exec .hsCommitLanding s = .next t ∧ t.hs.commitErr = true ∧ t.hs.commitSet = none ∧ ∀ j < 8, (t.slot j).rings = (s.slot j).rings) ∧
  (∀ (v : Nat) (s : State), v % 2 = 1 → s.tb.running = true →
    exec (.urCommit v) s = .next { s with sys := { s.sys with urCommit := some (s.absTick, s.sys.urUnitStg, s.sys.urScopeStg), late8 := false } }) ∧
  (∀ (n u c : Nat) (s : State), s.sys.urCommit = some (n, u, c) → n ≠ s.absTick → fillStatus s.nBays u c = 0 →
    exec .urCommitLanding s = .next { s with sys := { s.sys with urCommit := none, urCopy := none, late8 := false, urUnit := u, urScope := c, pend8 := s.sys.late8, urState := 1, urFill := some s.absTick } }) ∧
  (∀ (n u c : Nat) (s : State), s.sys.urCommit = some (n, u, c) → n ≠ s.absTick → fillStatus s.nBays u c ≠ 0 →
    exec .urCommitLanding s = .next { s with sys := { s.sys with urCommit := none, urFill := none, urCopy := none, late8 := false, urState := 3, urErr := fillStatus s.nBays u c } }) ∧
  (∀ (n : Nat) (bytes : List Nat) (s : State), s.sys.urFill = some n → s.sys.urCopy = some bytes →
    let u := (checkUid s.nBays s.sys.urUnit).2
    let f := s.sys.fillSize s.nBays u
    let past := s.sys.urScope / 2 ^ 16 % 2 ^ 16 + f
    ∃ t, exec .urFillPublish s = .next t ∧ t = { s with sys := { s.sys with urState := 2, urFilled := f, urErr := 0, urSnap := n, urSeq := (s.sys.urSeq + 1) % 2 ^ 32, urFill := none, urNext := if s.sys.urScope.testBit 0 = true ∧ past < memberCount s.nBays u then past else 0xFFFF, urCopy := none, urData := t.sys.urData } } ∧
      ∀ k < 16 * f, tget 0 t.sys.urData k = getLe bytes (4 * k) 4)

/-- A missed deadline is counted and leaves its units to the stage's fallback (R79, R81). A miss of stage 2, 4 or 5 while the tick runs adds its units to those that the coming stage treats as missed and counts it once for each tile concerned, or for the active keystone; nothing else of the block changes but the timebase's miss account. A counter stops at its end. A miss of any stage answers a next state. -/
def Obligations.DeadlineMissFallsBack : Prop :=
  (∀ (us : List Nat) (s : State), us ≠ [] → s.tb.running = true →
    exec (.stageDeadlineMiss 4 us) s = .next { s with tb := { s.tb.countMiss 4 (12 + s.rd.active) with missNow := (s.tb.missNow.1 ||| 2 ^ 4, s.tb.missNow.2 ||| 2 ^ (12 + s.rd.active)) }, xp := { s.xp with missNext := s.xp.missNext ++ us } }) ∧
  (∀ (us : List Nat) (s : State), us ≠ [] → s.tb.running = true →
    exec (.stageDeadlineMiss 5 us) s = .next { s with tb := { s.tb.countMiss 5 (12 + s.rd.active) with missNow := (s.tb.missNow.1 ||| 2 ^ 5, s.tb.missNow.2 ||| 2 ^ (12 + s.rd.active)) }, ce := { s.ce with missNext := s.ce.missNext ++ us } }) ∧
  (∀ (us : List Nat) (s : State), us ≠ [] → s.tb.running = true → (∀ x ∈ us, posBay x < s.nBays) →
    let ts := ((us.map posBay).eraseDups.map s.workTile).eraseDups
    exec (.stageDeadlineMiss 2 us) s = .next { s with rc := { s.rc with missNext := s.rc.missNext ++ us }, tb := { ts.foldl (fun (t : Timebase) u => t.countMiss 2 u) s.tb with missNow := (s.tb.missNow.1 ||| 2 ^ 2, ts.foldl (fun (m : Nat) u => m ||| 2 ^ u) s.tb.missNow.2) } }) ∧
  (∀ (k u : Nat) (t : Timebase), (t.countMiss k u).missCount = tset 0 t.missCount (k * 64 + u) (incSat 32 (tget 0 t.missCount (k * 64 + u)))) ∧
  (∀ (k : Nat) (us : List Nat) (s : State), 1 ≤ k → k ≤ 6 → (∀ b ∈ missBays k us, b < s.nBays) →
    ∃ t, exec (.stageDeadlineMiss k us) s = .next t ∧ t = { s with tb := t.tb, lk := t.lk, rc := t.rc, ce := t.ce, sp := t.sp, xp := t.xp, md := t.md } ∧
      (us = [] ∨ s.tb.running = false → t = s))

/-- Flywheel, planned transfers and a tile's takeover (R31, R308, R309, R312, R313, R316, R337, R364, R440). After 3,200 flywheel ticks the ramp starts; when the scale has reached 0 the enabled bays float; TILE_HANDOVER and TILE_HANDBACK set up one transfer between a tile and its neighbour; it runs from the next cycle boundary with both at half rate, and ends at the boundary after it with the bays at the neighbour; a tile that fails while its neighbour is normal is out at once, the takeover is counted and due; TICK_BOUNDARY runs takeCarries, by which the neighbour of a takeover that is due carries its bays with the records of its mirror; a tile handed over has its gate opened (R364); where the neighbour is out too, the tile's bays are excluded. The model's choices, and no rule's words: FLYWHEEL_FLOAT leaves the flywheel where a keystone lives (log 49) and ends a synchronisation of a bay it floats (log 138); the slots of bricks that move start anew (log 50); the banks a keystone without a copy gives the tiles when it takes them over (log 98); the bays of a tile whose neighbour cannot carry them are excluded (log 99); TRANSFER_COMPLETE raises an event (log 29). -/
def Obligations.FlywheelAndTransfers : Prop :=
  (∀ s : State, s.rd.flywheel = true → s.rd.ramp = false → 3200 ≤ s.rd.flyTicks → s.rd.rampTicks < 8000 →
    exec .flywheelRampStart s = .next { s with rd := { s.rd with ramp := true, rampTicks := 0 } }) ∧
  (∀ s : State, s.rd.flywheel = true → s.rd.ramp = true → 8000 ≤ s.rd.rampTicks → s.st.sync = none →
    exec .flywheelFloat s = .next { s with md := s.enabledBays.foldl (fun (m : Modulator) b => (m.floatBay b).tripBay b) s.md, xp := if s.rd.freshDue = true ∧ s.ksLive = true then {} else s.xp, rd := { s.rd with flyFloat := true, ramp := false, stopRamp := false, flywheel := !s.ksLive, freshDue := s.rd.freshDue && !s.ksLive } }) ∧
  (∀ (h : Hdr) (k : Nat) (s : State), HostReady h 0x0B02 s → k < s.nTiles → s.ksLive = true → s.rd.xfer = none → (s.tile k).phase = .normal → (s.tile (neighbour k)).phase = .normal →
    (s.tile k).carryDue = false → (s.tile (neighbour k)).carryDue = false →
    AnswersJ (.tileHandover h k) h 0x0B02 s
      { s with rd := { s.rd with xfer := some { sender := k, receiver := neighbour k, back := false, running := false, cycle := 0 } } } acceptedAns) ∧
  (∀ (h : Hdr) (k : Nat) (s : State), HostReady h 0x0B03 s → k < s.nTiles → s.ksLive = true → s.rd.xfer = none → (s.tile k).phase = .out → s.tileRecovered k = true →
    (s.tile (neighbour k)).phase = .carrying →
    AnswersJ (.tileHandback h k) h 0x0B03 s
      { s with rd := { s.rd with xfer := some { sender := neighbour k, receiver := k, back := true, running := false, cycle := 0 } } } acceptedAns) ∧
  (∀ (x : Transfer) (s : State), s.rd.xfer = some x → x.running = false → s.tb.idx = 0 →
    let half := fun (t : Tile) => { t with phase := .transfer, transferHalf := true }
    exec .transferCycleStart s = .next { s with rd := { s.rd with xfer := some { x with running := true, cycle := s.tb.cycleNow }, tiles := tmod {} (tmod {} s.rd.tiles x.sender half) x.receiver half } }) ∧
  (∀ (x : Transfer) (s : State), s.rd.xfer = some x → x.running = true → s.tb.idx = 0 → s.tb.cycleNow ≠ x.cycle →
    let moved := if x.back = true then x.receiver else x.sender
    let carrier := if x.back = true then x.sender else x.receiver
    ∃ t : State, exec .transferComplete s = .next (t.raise { kind := .transferEnded, unit := noUnit, detail := x.sender }) ∧ t = { s with rc := t.rc, rd := t.rd, md := t.md, lk := { s.lk with refs := dropTile moved s.lk.refs }, ftg := if x.back = true then s.ftg else { s.ftg with chans := tmod {} s.ftg.chans moved (fun y => { y with gate := false, good := false, rail := .inBand }) } } ∧
      t.rc = { s.rc with ext := dropTile moved s.rc.ext, mirror := t.rc.mirror } ∧ t.md = { s.md with bricks := t.md.bricks } ∧
      t.rd = { s.rd.count 3 s.absTick with xfer := none, drive := t.rd.drive, tiles := tmod {} (tmod {} s.rd.tiles moved (fun y => { y with phase := if x.back = true then .normal else .out, transferHalf := false, handedOver := !x.back, recovered := false, sweepWhole := false, mirrorValid := x.back })) carrier (fun y => { y with phase := if x.back = true then .normal else .carrying, transferHalf := false, sweepWhole := false, mirrorValid := false }) }) ∧
  (∀ (k : Nat) (s : State), k < s.nTiles → (s.tile k).phase ≠ .out → ∃ t, exec (.tileTakeover k) s = .next t ∧ t.tb = s.tb ∧ t.xp = s.xp ∧ t.fu = s.fu ∧ (s.rd.xfer = none → t.hs = s.hs ∧ t.lg = s.lg)) ∧
  (∀ (k : Nat) (s : State), k < s.nTiles → (s.tile k).phase = .normal → (s.tile (neighbour k)).phase = .normal → s.rd.xfer = none → s.ksLive = true →
    (s.tile k).carryDue = false →
    ∃ t, exec (.tileTakeover k) s = .next t ∧ t = { s with rd := t.rd, lk := t.lk, z := t.z } ∧
      t.rd.tiles = tmod {} (tmod {} s.rd.tiles k (fun y => { y with phase := .out, recovered := false, handedOver := false, carryDue := false, sweepWhole := false, mirrorValid := false }))
        (neighbour k) (fun y => { y with carryDue := true }) ∧ t.rd.tileTakeover = true ∧ t.rd.counts = (s.rd.count 2 s.absTick).counts) ∧
  (∀ (k : Nat) (s : State), let t := s.carry k (neighbour k)
    t = { s with rd := t.rd, rc := t.rc, md := t.md, lk := t.lk, z := t.z, ce := t.ce } ∧
      t.rd.tiles = tmod {} s.rd.tiles (neighbour k) (fun y => { y with phase := .carrying, carryDue := false, sweepWhole := false, mirrorValid := false }) ∧
      t.rc.bricks = tsplice s.rc.bricks (tileBase k) 442368 (trange s.rc.mirror (tileBase k) 442368) ∧ t.rc.ext = dropTile k s.rc.ext ∧ t.lk.refs = dropTile k s.lk.refs) ∧
  (∀ s : State, (∀ u < s.nTiles, (s.tile u).carryDue = false) → s.takeCarries = s) ∧
  (∀ (k : Nat) (s : State), k < s.nTiles → (s.tile k).phase = .normal → (s.tile k).carryDue = false → (s.tile (neighbour k)).phase = .out → s.rd.xfer = none →
    exec (.tileTakeover k) s = .next ((s.tileOut k).excludeTile k)) ∧
  (∀ (k : Nat) (s : State), k < s.nTiles → (s.tile k).phase = .out → exec (.tileTakeover k) s = .next s) ∧
  (∀ (y : Sync) (s : State), s.rd.flywheel = true → s.rd.ramp = true → 8000 ≤ s.rd.rampTicks → s.st.sync = some y → y.closed = false → y.bay ∈ s.enabledBays →
    ∃ t, exec .flywheelFloat s = .next t ∧ t.st.sync = none ∧ t.st.syncPermit = false ∧ (t.bayStart y.bay).phase = .ready ∧ t.rd.flyFloat = true ∧ t.rd.flywheel = !s.ksLive) ∧
  (∀ (k : Nat) (s : State), neighbour k < s.nTiles → (s.tile (neighbour k)).carryDue = true → (∀ u < s.nTiles, u ≠ neighbour k → (s.tile u).carryDue = false) → s.takeCarries = s.carry k (neighbour k)) ∧
  (∀ (inp : TickIn) (s : State), s.tb.running = true → ∃ (u : State) (ps : Nat),
    let v := ((u.takeCarries.ageCurrents.trackCount.keystoneTick inp ps).countTick ps).hostTick ps
    exec (.tickBoundary inp) s = .next ((((({ v with lk := v.lk.tick ps } : State).txPort 0).txPort 1).thermalTick ps).ledgerTick ps).serveHosts)

/-- Redundancy status, the planned switch and firmware images (R305, R317, R440). RD_STATUS_READ answers without change; KEYSTONE_SWITCH is noted where the standby's shadow is valid, and the switch at a cycle boundary makes the standby active with an empty journal; FW_IMAGE_WRITE erases at offset 0, appends at the offset that the bytes so far end at, and refuses any other with ST_BAD_PARAM; FW_IMAGE_VERIFY marks a genuine image verified and refuses another, and refuses the slot a keystone runs; FW_UPDATE reboots the standby from the verified slot when that image accepts the shadow's format and is refused otherwise; an update whose standby is absent is aborted. The model's choices, and no rule's words: what `written` counts, that FW_UPDATE needs a verified slot, and that an abort covers phase 4 and the standby then boots from its own former slot (log 51); the events of the switch and of the end of an update (log 29). -/
def Obligations.FirmwareAndUpdates : Prop :=
  (∀ (h : Hdr) (s : State), HostReady h 0x0B01 s → Answers (.rdStatusRead h) h 0x0B01 s s (okAns (le 4 s.rdStatus ++ le 4 s.tileState ++ le 4 s.mirror ++ le 4 s.fwStatus ++
    (s.rd.counts.map (le 4)).flatten ++ (s.rd.ticks.map (le 8)).flatten))) ∧
  (∀ (h : Hdr) (s : State), HostReady h 0x0B04 s → s.rd.shadowValid = true →
    AnswersJ (.keystoneSwitch h) h 0x0B04 s { s with rd := { s.rd with switchDue := true } } acceptedAns) ∧
  (∀ s : State, s.rd.switchDue = true → s.tb.idx = 0 → s.rd.shadowValid = true → s.rd.haveActive = true → s.rd.flywheel = false →
    exec .plannedSwitch s = .next (State.raise { s with rd := { s.rd with active := 1 - s.rd.active, standby := .booting, shadow := none, journal := [], switchDue := false, updatePhase := if s.rd.updatePhase = 3 then 4 else s.rd.updatePhase, updateAge := 0, prevSlot := s.rd.slotOf s.rd.active, beats := tset 0 s.rd.beats (1 - s.rd.active) s.absTick } } { kind := .keystoneSwitched, unit := noUnit, detail := 1 - s.rd.active })) ∧
  (∀ (h : Hdr) (slot off : Nat) (data : List Nat) (s : State), HostReady h 0x0B05 s → slot ≤ 1 → 4 ≤ data.length → data.length ≤ (if h.udp then 1408 else 4032) → data.length % 4 = 0 →
    s.runsSlot slot = false → (off = 0 ∨ off = (s.image slot).bytes.length) → off + data.length ≤ slotSize →
    AnswersJ (.fwImageWrite h slot off data) h 0x0B05 s
      { s with rd := { s.rd with images := tmod {} s.rd.images slot (fun i => { bytes := (if off = 0 then [] else i.bytes) ++ data.map (· % 256), verified := false }) } } (okAns (le 4 (off + data.length)))) ∧
  (∀ (h : Hdr) (slot : Nat) (s : State), HostReady h 0x0B06 s → slot ≤ 1 → s.runsSlot slot = false →
    let t := { s with rd := { s.rd with images := tmod {} s.rd.images slot (fun i => { i with verified := s.imageGood slot }) } }
    let i := Config.imageInfo (s.image slot).bytes
    (s.imageGood slot = true ∧ AnswersJ (.fwImageVerify h slot) h 0x0B06 s t (okAns (le 4 i.1 ++ le 2 i.2.1 ++ le 2 i.2.2.1 ++ le 2 i.2.2.2 ++ [0, 0]))) ∨
    (s.imageGood slot = false ∧ Answers (.fwImageVerify h slot) h 0x0B06 s t (refuseAns stVerify 0x0B06 255 slot))) ∧
  (∀ (h : Hdr) (slot : Nat) (s : State), HostReady h 0x0B06 s → slot ≤ 1 → s.runsSlot slot = true →
    Answers (.fwImageVerify h slot) h 0x0B06 s s (refuseAns stState 0x0B06 255 slot)) ∧
  (∀ (h : Hdr) (s : State), HostReady h 0x0B07 s → s.rd.shadowValid = true → (s.image s.rd.newSlot).verified = true → s.rd.xfer = none → s.rd.flywheel = false →
    (s.acceptsShadow = true ∧
      AnswersJ (.fwUpdate h) h 0x0B07 s { s with rd := { s.rd with standby := .booting, shadow := none, journal := [], updatePhase := 1, updateAge := 0, prevSlot := s.rd.slotOf (1 - s.rd.active), backDue := false } } acceptedAns) ∨
    (s.acceptsShadow = false ∧ Answers (.fwUpdate h) h 0x0B07 s s (refuseAns stState 0x0B07 255 0))) ∧
  (∀ s : State, s.rd.updatePhase = 1 → s.rd.standby = .absent →
    exec .fwUpdateAbort s = .next (State.raise { s with rd := { s.rd with updatePhase := 6, updateAborted := true, shadow := none, journal := [], backDue := true, standby := if s.rd.candidates.testBit (1 - s.rd.active) && !s.rd.ksFailed.testBit (1 - s.rd.active) then .booting else .absent } } { kind := .updateEnded, unit := noUnit })) ∧
  (∀ (h : Hdr) (slot off : Nat) (data : List Nat) (s : State), HostReady h 0x0B05 s → slot ≤ 1 → 4 ≤ data.length → data.length ≤ (if h.udp then 1408 else 4032) → data.length % 4 = 0 →
    s.runsSlot slot = false → off ≠ 0 → off ≠ (s.image slot).bytes.length → Answers (.fwImageWrite h slot off data) h 0x0B05 s s (refuseAns stBadParam 0x0B05 255 slot))

/-- Losing the active keystone, and the next one going live (R303, R304, R305, R331, R413). A fatal error of the active keystone ends its exports, drops the commands its slots wait with and the replies they hold, and ends its standing; with a valid shadow, and a bay ENERGISED since the start, the standby becomes the keystone that is to track from the next tick, with the shadow kept until then, and the timebase's tick goes on as it was; a keystone that has tracked for 400 ticks goes live at a cycle boundary; a cause that does not hold changes nothing. -/
def Obligations.KeystoneLossAndLive : Prop :=
  (∀ (h : Shadow) (s : State), SlotsInv s → twf none s.lg.exports = true → s.rd.haveActive = true → s.rd.shadowValid = true → s.rd.shadow = some h → s.st.onceEnergised = true →
    ∃ t, exec (.keystoneLost .fatal) s = .next t ∧ (∀ i < 8, (t.slot i).queue = [] ∧ (t.slot i).held = [] ∧ tget none t.lg.exports i = none) ∧ t.rd.trackDue = true ∧ t.rd.tracking = s.rd.tracking ∧ t.rd.haveActive = false ∧ t.rd.active = 1 - s.rd.active ∧ t.rd.ksTakeover = true ∧
      t.rd.shadow = some h ∧ t.rd.journal = s.rd.journal ∧ t.rd.standby = .absent ∧ t.rd.counts = (s.rd.count 0 s.absTick).counts ∧ t.ev.takeover = true ∧
      t.tb = s.tb ∧ t.xp = s.xp ∧ t.ce = s.ce ∧ t.md = s.md ∧ t.rc = s.rc ∧ t.st = s.st ∧ t.fu.words = s.fu.words) ∧
  (∀ s : State, s.rd.tracking = true → 400 ≤ s.rd.trackTicks → s.tb.idx = 0 →
    exec .keystoneLive s = .next { s with rd := { s.rd with haveActive := true, tracking := false, flywheel := s.rd.flywheel && s.rd.ramp, beats := tset 0 s.rd.beats s.rd.active s.absTick, standby := if s.rd.candidates.testBit (1 - s.rd.active) && !s.rd.ksFailed.testBit (1 - s.rd.active) then .booting else .absent }, ce := { s.ce with piers := (s.ce.piers.map (fun e => (e.1, { e.2 with resumed := 0 }))).filter (fun e => e.2 != {}) } }) ∧
  (∀ (c : LossCause) (s : State), s.lossHolds c = false → exec (.keystoneLost c) s = .next s)

/-- A tick boundary advances the tick index by exactly one and keeps the increment within 45 Hz to 65 Hz (R49, R50, R51). With the tick running and its cycle work done, a tick boundary takes index n to n + 1, and 799 to 0 with the cycle's increment due, and the cycle boundary then increments the 48-bit counter; the frequency in force lies within 45 Hz to 65 Hz in every state. Where the cycle work is still due the boundary does it first. That a boundary into tick 0 leaves the cycle's work to the cycle boundary's own row, which `bnd` remembers, is the model's split of one instant (logs 11 and 20, model's choice). -/
def Obligations.TickAdvancesByOne : Prop :=
  (∀ (inp : TickIn) (s : State), s.tb.running = true → s.tb.bnd = false →
    ∃ t, exec (.tickBoundary inp) s = .next t ∧ (t.tb.running = true → t.tb.idx = (if s.tb.idx = 799 then 0 else s.tb.idx + 1) ∧ t.tb.bnd = decide (s.tb.idx = 799) ∧ t.tb.cycle = s.tb.cycle)) ∧
  (∀ (inp : TickIn) (s : State), s.tb.running = true → s.tb.bnd = true →
    ∃ t, exec (.tickBoundary inp) s = .next t ∧ (t.tb.running = true → t.tb.idx = (if s.tb.idx = 799 then 0 else s.tb.idx + 1) ∧ t.tb.bnd = decide (s.tb.idx = 799) ∧
      t.tb.cycle = (s.tb.cycle + 1) % 2 ^ 48)) ∧
  (∀ s : State, s.tb.running = true → s.tb.bnd = true →
    ∃ t, exec .cycleBoundary s = .next t ∧ t.tb.cycle = (s.tb.cycle + 1) % 2 ^ 48 ∧ t.tb.bnd = false ∧ t.tb.idx = s.tb.idx) ∧
  (∀ s : State, 45 ≤ s.freqInForce ∧ s.freqInForce ≤ 65)

/-- The grid PLL's lock, loss, freeze and release, and a source's eligibility (R55, R63, R64). Each happens exactly on its rule's count: lock after four good cycles, loss on its error, range, rate or freeze limit, freeze while the positive sequence is below 0.5 pu, release after 800 ticks above it; a source is eligible when it has been qualified for Q whole cycles. -/
def Obligations.PllRows : Prop :=
  (∀ s : State, s.tb.pll.canLock = true → exec .gridPllLock s = .next { s with tb := { s.tb with pll := { s.tb.pll with locked := true } } }) ∧
  (∀ s : State, s.tb.pll.mustUnlock (s.prm 0x0301 0 8 0) = true →
    ∃ t, exec .gridPllLockLoss s = .next t ∧ t = { s with tb := { s.tb with pll := t.tb.pll, qGrid := {}, qFormed := t.tb.qFormed, qSv := t.tb.qSv, hold := t.tb.hold } } ∧
      t.tb.pll.locked = false ∧ (s.tb.target = .grid → t.tb.hold = true) ∧ t.tb.pll.goodCycles = 0 ∧ t.tb.pll.angle = s.tb.pll.angle ∧
      t.tb.pll.frozen = s.tb.pll.frozen) ∧
  (∀ s : State, s.tb.pll.low = true → s.tb.pll.frozen = false →
    exec .pllFreeze s = .next { s with tb := { s.tb with pll := { s.tb.pll with frozen := true, heldFreq := s.tb.pll.freq, frozenTicks := 0 } } }) ∧
  (∀ s : State, s.tb.pll.frozen = true → 800 ≤ s.tb.pll.recoverTicks →
    exec .pllFreezeExit s = .next { s with tb := { s.tb with pll := { s.tb.pll with frozen := false, frozenTicks := 0, resume := true } } }) ∧
  (∀ s : State, 800 * s.prm 0x0301 0 3 0 ≤ s.tb.qGrid.ticks →
    exec (.sourceEligible .grid) s = .next { s with tb := { s.tb with qGrid := { s.tb.qGrid with eligible := true } } }) ∧
  (∀ s : State, 800 * s.prm 0x0301 0 3 0 ≤ s.tb.qSv.ticks →
    exec (.sourceEligible .sv) s = .next { s with tb := { s.tb with qSv := { s.tb.qSv with eligible := true } } }) ∧
  (∀ (k : SrcQual), (k.tick false).eligible = false ∧ (k.tick false).ticks = 0) ∧
  (∀ s : State, 800 * s.prm 0x0301 0 3 0 ≤ s.tb.qFormed.ticks →
    exec (.sourceEligible .formed) s = .next { s with tb := { s.tb with qFormed := { s.tb.qFormed with eligible := true } } })

/-- PTP and PPS: measurements, losses and the lock (R65, R66, R67, R72, R503). A PTP announce with no grandmaster selected selects its sender; the peer delay is taken; a PTP source silent for three announce intervals is deselected; an on-time PPS edge that the discipline does not use only marks PPS present, one that it uses is a measurement that is slewed, and one off by more than 100 us is an outlier and only counted; the edge is placed within its tick in periods of 0.625 ns, and what the servo makes of a measurement rests on free values (log 27); PPS is lost after 2 s without an edge; plant time is LOCKED when the error has stayed within the threshold for 16 s; a REFCLK fault puts plant time in HOLDOVER at the largest error and starts a safe stop. -/
def Obligations.PlantTimeSources : Prop :=
  (∀ (ident rank interval : Nat) (s : State), s.usesPtp = true → s.tb.pt.grandmaster = none →
    exec (.ptpAnnounce ident rank interval) s =
      .next { s with tb := { s.tb with pt := { s.tb.pt with grandmaster := some (ident, rank), annAge := 0, annInterval := interval, syncAge := 0 } } }) ∧
  (∀ (d : Nat) (s : State), exec (.ptpPdelay d) s = .next { s with tb := { s.tb with pt := { s.tb.pt with peerDelay := d } } }) ∧
  (∀ (g : Nat × Nat) (off iv : Int) (s : State), s.usesPtp = true → s.tb.pt.grandmaster = some g → s.tb.pt.phase ≠ .unset → s.tb.pt.onOscillator = false → -1000000000 ≤ off → off ≤ 1000000000 →
    ∃ t, exec (.ptpSync off iv) s = .next t ∧ t = { s with tb := { s.tb with pt := t.tb.pt }, freeCtr := t.freeCtr } ∧ t.tb.pt.slewLeft = off * 1000000 ∧ t.tb.pt.atto = s.tb.pt.atto ∧
      t.tb.pt.inUse = true ∧ t.tb.pt.discPps = false) ∧
  (∀ (g : Nat × Nat) (s : State), s.tb.pt.grandmaster = some g → 3000 * s.tb.pt.annInterval ≤ s.tb.pt.annAge → s.tb.pt.inUse = false →
    exec .ptpLost s = .next { s with tb := { s.tb with pt := { s.tb.pt with grandmaster := none, syncInterval := 0 } } }) ∧
  (∀ (after : Nat) (s : State), s.usesPps = false → s.tb.pt.armed = none → (s.tb.pt.atto + after * 625000000) % 10 ^ 18 = 0 → s.tb.pt.outliers = 0 → s.tb.pt.reacquire = false →
    ∃ t, exec (.ppsEdge after) s = .next t ∧ t = { s with tb := { s.tb with pt := { s.tb.pt with ppsAge := 0, ppsPresent := true, ppsWithin := true, ppsGood := t.tb.pt.ppsGood } } }) ∧
  (∀ s : State, s.tb.pt.ppsPresent = true → 2000000000000 ≤ s.tb.pt.ppsAge → s.tb.pt.discPps = false →
    exec .ppsLost s = .next { s with tb := { s.tb with pt := { s.tb.pt with ppsPresent := false, ppsGood := 0, ppsWithin := false } } }) ∧
  (∀ s : State, s.tb.pt.phase = .acquiring → 16000000000000 ≤ s.tb.pt.goodPs → exec .plantTimeLocked s = .next { s with tb := { s.tb with pt := { s.tb.pt with phase := .locked, wasLocked := true } } }) ∧
  (∀ s : State, ∃ t, exec .refclkFault s = .next t ∧ t.tb.pt.phase = .holdover ∧ t.tb.pt.refclkFault = true ∧ t.tb.pt.onOscillator = true ∧ t.tb.pt.est = 0xFFFFFF ∧ t.st.resetAfter = true ∧
    (s.stopping = false → t.st.stopPhase = 1 ∧ t.st.stopCauses = 8)) ∧
  (∀ (after : Nat) (off : Int) (s : State), let now := s.tb.pt.atto + after * 625000000
    off = (((now + 5 * 10 ^ 17) / 10 ^ 18 * 10 ^ 18 : Nat) : Int) - (now : Nat) → s.ppsMay = true → s.tb.pt.onOscillator = false →
    s.tb.pt.phase ≠ .unset → s.tb.pt.armed = none → -(10 ^ 14) ≤ off → off ≤ 10 ^ 14 →
    ∃ t, exec (.ppsEdge after) s = .next t ∧ t = { s with tb := { s.tb with pt := t.tb.pt }, freeCtr := t.freeCtr } ∧ t.tb.pt.slewLeft = off ∧ t.tb.pt.atto = s.tb.pt.atto ∧
      t.tb.pt.inUse = true ∧ t.tb.pt.discPps = true ∧ t.tb.pt.ppsAge = 0 ∧ t.tb.pt.ppsPresent = true ∧ t.tb.pt.outliers = 0) ∧
  (∀ (after : Nat) (off : Int) (s : State), let now := s.tb.pt.atto + after * 625000000
    off = (((now + 5 * 10 ^ 17) / 10 ^ 18 * 10 ^ 18 : Nat) : Int) - (now : Nat) →
    s.tb.pt.armed = none → (10 ^ 14 < off ∨ off < -(10 ^ 14)) → s.tb.pt.reacquire = false → s.tb.pt.outliers + 1 ≠ 8 →
    exec (.ppsEdge after) s = .next { s with tb := { s.tb with pt := { s.tb.pt with ppsAge := 0, ppsPresent := true, outliers := s.tb.pt.outliers + 1, outlierCount := incSat 32 s.tb.pt.outlierCount, ppsGood := 0, ppsWithin := false } } }) ∧
  (∀ (after time : Nat) (s : State), s.tb.pt.phase = .unset → s.tb.pt.armed = some time → s.tb.pt.atto + after * 625000000 < time * 10 ^ 9 →
    exec (.ppsEdge after) s = .next (({ s with tb := { s.tb with pt := { (({ s.tb.pt with ppsAge := 0, ppsPresent := true } : PlantTime).firstSet (time * 10 ^ 9 - after * 625000000)) with armed := none } } }).raise
      { kind := .timeStep, unit := noUnit }))

/-- PPS_OUT rises at whole seconds for 100 ms, in LOCKED and HOLDOVER only (R71). In LOCKED or HOLDOVER the output rises at a whole second it has not marked yet and falls 100 ms after it; every command that answers a next state keeps it low outside LOCKED and HOLDOVER, so that in UNSET and ACQUIRING none raises it and one that leaves LOCKED or HOLDOVER lowers it. -/
def Obligations.PpsOutOnlyWhenGood : Prop :=
  (∀ s : State, s.tb.pt.good = true → s.tb.pt.ppsOutAt < s.tb.pt.ns / 1000000000 * 1000000000 →
    exec (.ppsOutPulse true) s = .next { s with tb := { s.tb with pt := { s.tb.pt with ppsOut := true, ppsOutAt := s.tb.pt.ns / 1000000000 * 1000000000 } } }) ∧
  (∀ s : State, s.tb.pt.ppsOutAt + 100000000 ≤ s.tb.pt.ns → exec (.ppsOutPulse false) s = .next { s with tb := { s.tb with pt := { s.tb.pt with ppsOut := false } } }) ∧
  (∀ s : State, s.tb.pt.ns < s.tb.pt.ppsOutAt + 100000000 → exec (.ppsOutPulse false) s = .next s) ∧
  (∀ s : State, s.tb.pt.good = false → exec (.ppsOutPulse true) s = .next s) ∧
  (∀ (i : Instr) (s t : State), (s.tb.pt.ppsOut = true → s.tb.pt.good = true) → exec i s = .next t → t.tb.pt.ppsOut = true → t.tb.pt.good = true)

/-- PLANT_TIME_SET, its lapse and TIMEBASE_STATUS (R68, R74, R432). An armed set is noted; any set that is taken replaces an armed one, which lands at the PPS edge with its event (R416, log 29); a set of an UNSET plant time to a later time replaces the count at once and raises its event; a set at most 1 ms ahead is slewed and leaves the count (a backward slew above 1 ms that it finds goes on at its rate, log 106); an armed set lapses after 2 s without an edge; the status answers without change. -/
def Obligations.PlantTimeCommands : Prop :=
  (∀ (h : Hdr) (time : Nat) (s : State), HostReady h 0x0303 s →
    AnswersJ (.plantTimeSet h time 1) h 0x0303 s { s with tb := { s.tb with pt := { s.tb.pt with armed := some time, armedAge := 0 } } } acceptedAns) ∧
  (∀ (h : Hdr) (time : Nat) (s : State), HostReady h 0x0303 s → s.tb.pt.phase ≠ .unset → ((time * 10 ^ 9 : Nat) : Int) - s.tb.pt.atto ≤ 10 ^ 15 →
    AnswersJ (.plantTimeSet h time 0) h 0x0303 s
      { s with tb := { s.tb with pt := { s.tb.pt with armed := none, armedAge := 0, slewLeft := ((time * 10 ^ 9 : Nat) : Int) - s.tb.pt.atto, slewBack := decide (((time * 10 ^ 9 : Nat) : Int) - s.tb.pt.atto < -(10 ^ 15)) || (s.tb.pt.slewBack && decide (((time * 10 ^ 9 : Nat) : Int) - s.tb.pt.atto < 0)) } } } okAns) ∧
  (∀ (time : Nat) (s : State), s.tb.pt.phase = .unset → s.tb.pt.ns < time →
    let p := ({ s.tb.pt with armed := none, armedAge := 0 } : PlantTime).firstSet (time * 10 ^ 9)
    plantTimeSet time 0 s = (({ s with tb := { s.tb with pt := p } }).raise { kind := .timeStep, unit := noUnit }, okAns) ∧ p.ns = time % 2 ^ 64 ∧ p.phase = .acquiring) ∧
  (∀ (h : Hdr) (time : Nat) (s : State), HostReady h 0x0303 s → s.tb.pt.phase = .unset → time ≤ s.tb.pt.ns →
    Answers (.plantTimeSet h time 0) h 0x0303 s s (refuseAns stRange 0x0303 255 0)) ∧
  (∀ s : State, s.tb.pt.armed.isSome = true → 2000000000000 ≤ s.tb.pt.armedAge →
    exec .plantTimeSetLapse s = .next (({ s with tb := { s.tb with pt := { s.tb.pt with armed := none, armedAge := 0 } } }).raise { kind := .setLapsed, unit := noUnit })) ∧
  (∀ (h : Hdr) (first max : Nat) (s : State), HostReady h 0x0304 s → Answers (.timebaseStatus h first max) h 0x0304 s s (okAns (timebaseStatus h.udp first max s))) ∧
  (∀ (after time : Nat) (s : State), let late := after * 625000000
    s.tb.pt.phase ≠ .unset → s.tb.pt.armed = some time → ((time * 10 ^ 9 : Nat) : Int) - ((s.tb.pt.atto + late : Nat) : Int) ≤ 10 ^ 15 →
    ∃ t : State, exec (.ppsEdge after) s = .next (t.raise { kind := .setLanded, unit := noUnit }) ∧ t = { s with tb := { s.tb with pt := t.tb.pt } } ∧ t.tb.pt.armed = none ∧ t.tb.pt.atto = s.tb.pt.atto ∧
      t.tb.pt.slewLeft = ((time * 10 ^ 9 : Nat) : Int) - ((s.tb.pt.atto + late : Nat) : Int))

/-- Starting, stopping, qualifying, losing and ramping a waveform slot (R84, R85, R86, R433). STREAM_START and STREAM_STOP note their request for exactly the named slots below 40; a slot waiting on a good channel starts its ramp when it qualifies; a live slot whose channel is lost ramps down with its value frozen; a ramp that has reached the top is LIVE at gain 1, one at the bottom WAITING or IDLE on the binding in force; each of these four changes is counted once, and nothing outside the slot changes. The status read changes nothing. -/
def Obligations.WaveformSlotRows : Prop :=
  (∀ (h : Hdr) (slots : Nat) (s : State), HostReady h 0x0402 s →
    AnswersJ (.streamStart h slots) h 0x0402 s { s with sp := { s.sp with slots := iter 40 (fun i q => if slots.testBit i then tmod {} q i (fun w => { w with asked := setBit w.asked 0 true }) else q) s.sp.slots } } okAns) ∧
  (∀ (h : Hdr) (slots : Nat) (s : State), HostReady h 0x0403 s →
    AnswersJ (.streamStop h slots) h 0x0403 s { s with sp := { s.sp with slots := iter 40 (fun i q => if slots.testBit i then tmod {} q i (fun w => { w with asked := setBit w.asked 1 true }) else q) s.sp.slots } } okAns) ∧
  (∀ (h : Hdr) (s : State), HostReady h 0x0409 s → Answers (.streamStatusRead h) h 0x0409 s s (okAns s.sp.statusBytes)) ∧
  (∀ (i : Nat) (s : State), i < 40 → (tget {} s.sp.slots i).phase = .waiting → (tget {} s.sp.slots i).due.testBit 0 = true →
    ∃ w : WaveSlot, exec (.channelQualify i) s = .next { s with sp := { s.sp with slots := tset {} s.sp.slots i w } } ∧ w.phase = .rampUp ∧ w.g = rampUpG (s.rampLen i) 0 ∧
      w.v = (s.chanView (tget {} s.sp.slots i).bound).value ∧ w.events = incSat 32 (tget {} s.sp.slots i).events) ∧
  (∀ (i : Nat) (s : State), i < 40 → (tget {} s.sp.slots i).phase = .live → (tget {} s.sp.slots i).due.testBit 1 = true → (tget {} s.sp.slots i).asked = 0 →
    ∃ w : WaveSlot, exec (.channelLost i) s = .next { s with sp := { s.sp with slots := tset {} s.sp.slots i w } } ∧ w.phase = .rampDown ∧ w.frozen = true ∧ w.afterLoss = true ∧
      w.v = (tget {} s.sp.slots i).v ∧ w.events = incSat 32 (tget {} s.sp.slots i).events) ∧
  (∀ (i : Nat) (s : State), i < 40 → (tget {} s.sp.slots i).phase = .rampUp → (tget {} s.sp.slots i).due.testBit 2 = true →
    ∃ w : WaveSlot, exec (.slotRampEnd i) s = .next { s with sp := { s.sp with slots := tset {} s.sp.slots i w } } ∧ w.phase = .live ∧ w.out = w.v ∧ w.events = incSat 32 (tget {} s.sp.slots i).events) ∧
  (∀ (i : Nat) (s : State), i < 40 → (tget {} s.sp.slots i).phase = .rampDown → (tget {} s.sp.slots i).due.testBit 2 = true → (tget {} s.sp.slots i).started = false →
    ∃ w : WaveSlot, exec (.slotRampEnd i) s = .next { s with sp := { s.sp with slots := tset {} s.sp.slots i w } } ∧ w.phase = .idle ∧ w.out = 0 ∧ w.bound = s.route i ∧ w.events = incSat 32 (tget {} s.sp.slots i).events)

/-- Serial frames and slips, sampled-values ASDUs and their timeout (R90, R91, R92, R96, R99). A frame of the declared length on an enabled serial port enters its FIFO and no other port's, one of another length enters none (log 8, model's choice); a slip on a full or an empty FIFO re-centres it to half its depth and is counted; an ASDU is taken by each stream that subscribes to it, with its eight values, each at its own channel's full scale (log 104), and a count below the stream's rate, and changes nothing else; four absent counts time a stream out. -/
def Obligations.SerialAndSvRows : Prop :=
  (∀ (port : Nat) (words : List Nat) (s : State), port < 2 → s.prm 0x0404 port 0 0 ≠ 0 → words.length = 4 * s.prm 0x0404 port 1 0 →
    (tget {} s.sp.serial port).res.fifo.length < s.prm 0x0404 port 2 0 →
    ∃ q : SerialPort, exec (.sspRxFrame port words) s = .next { s with sp := { s.sp with serial := tset {} s.sp.serial port q } } ∧
      q.res.fifo = words.map (fun w => divRne (slotSample w) 2) :: (tget {} s.sp.serial port).res.fifo) ∧
  (∀ (port : Nat) (words : List Nat) (s : State), port < 2 → s.prm 0x0404 port 0 0 ≠ 0 → words.length ≠ 4 * s.prm 0x0404 port 1 0 →
    ∃ q : SerialPort, exec (.sspRxFrame port words) s = .next { s with sp := { s.sp with serial := tset {} s.sp.serial port q } } ∧ q.res = (tget {} s.sp.serial port).res) ∧
  (∀ (port : Nat) (full : Bool) (s : State), port < 2 → s.prm 0x0404 port 0 0 ≠ 0 →
    (if full then s.prm 0x0404 port 2 0 ≤ (tget {} s.sp.serial port).res.fifo.length else (tget {} s.sp.serial port).res.fifo = []) →
    ∃ q : SerialPort, exec (.sspRxSlip port full) s = .next { s with sp := { s.sp with serial := tset {} s.sp.serial port q } } ∧ q.slip = true ∧ q.slipTick = true ∧
      q.slips = incSat 32 (tget {} s.sp.serial port).slips ∧ q.res.fifo.length = s.prm 0x0404 port 2 0 / 2) ∧
  (∀ (a : Asdu) (s : State), (∀ k < 8, s.svMatches k a = false) → exec (.svAsdu a) s = .next s) ∧
  (∀ (a : Asdu) (s : State), exec (.svAsdu a) s = .next { s with sp := { s.sp with sv := iter 8 (fun k t => if s.svMatches k a = true ∧ a.values.length = 8 ∧ a.count < s.svRate k then tmod {} t k (fun v => v.take a (s.prm 0x0405 k 2 0) (s.svRate k) ((List.range 8).map (s.prm 0x0405 k 5)) s.tb.pt.ns (s.prm 0x0405 k 8 0 == 1) s.tb.pt.good) else t) s.sp.sv } }) ∧
  (∀ (k : Nat) (s : State), k < 8 → 4 ≤ (tget {} s.sp.sv k).absent →
    ∃ t, exec (.svStreamTimeout k) s = .next t ∧ t.sp = { s.sp with sv := tset {} s.sp.sv k { (tget {} s.sp.sv k : SvStream) with timedOut := true, absent := 0 } } ∧
      t = { s with sp := t.sp, tb := { s.tb with qGrid := t.tb.qGrid, qFormed := t.tb.qFormed, qSv := t.tb.qSv, hold := t.tb.hold } }) ∧
  (∀ (port : Nat) (words : List Nat) (full : Bool) (s : State), port < 2 → s.prm 0x0404 port 0 0 = 0 → exec (.sspRxFrame port words) s = .next s ∧ exec (.sspRxSlip port full) s = .next s)

/-- Host DMA rings and blocks (R100, R101, R102, R103, R104, R405, R528). With a configuration in force a producer index that moves forwards within the ring is taken, and so is a consumer index that moves forwards; any other write of theirs is only counted; a posted block of the owner is consumed, its out-of-order or misaligned form only counted; a completed output block goes to the ring and signals the owner, or is dropped whole and counted where the ring is full. -/
def Obligations.DmaRingRows : Prop :=
  (∀ (index : Nat) (s : State), s.dmaOn = true → (index + 2 ^ 32 - s.sp.dma.inProd) % 2 ^ 32 < 2 ^ 31 → (index + 2 ^ 32 - s.sp.dma.inCons) % 2 ^ 32 ≤ 2 ^ s.prm 0x0406 0 2 2 →
    exec (.spDmaInProd index) s = .next { s with sp := { s.sp with dma := { s.sp.dma with inProd := index % 2 ^ 32, posted := s.sp.dma.posted ++ List.replicate ((index + 2 ^ 32 - s.sp.dma.inProd) % 2 ^ 32) s.absTick } } }) ∧
  (∀ (index : Nat) (s : State), s.dmaOn = true → (index + 2 ^ 32 - s.sp.dma.outCons) % 2 ^ 32 < 2 ^ 31 →
    exec (.spDmaOutCons index) s = .next { s with sp := { s.sp with dma := { s.sp.dma with outCons := index % 2 ^ 32 } } }) ∧
  (∀ (index : Nat) (s : State), s.dmaOn = true → 2 ^ 31 ≤ (index + 2 ^ 32 - s.sp.dma.outCons) % 2 ^ 32 →
    exec (.spDmaOutCons index) s = .next { s with sp := { s.sp with dma := { s.sp.dma with bad := satU 32 (s.sp.dma.bad + 1) } } }) ∧
  (∀ (block : List Nat) (o post : Nat) (rest : List Nat) (s : State), s.sp.dma.owner = some o → (s.slot o).live = true → s.sp.dma.posted = post :: rest →
    (getLe block 8 6 * 800 + getLe block 14 2 % 1024) % 64 = 0 → s.sp.dma.expect.getD 0 ≤ getLe block 8 6 * 800 + getLe block 14 2 % 1024 →
    ∃ d : DmaState, exec (.dmaInputBlock block) s = .next { s with sp := { s.sp with dma := d } } ∧ d.posted = rest ∧ d.inCons = (s.sp.dma.inCons + 1) % 2 ^ 32 ∧
      d.expect = some (getLe block 8 6 * 800 + getLe block 14 2 % 1024 + 64) ∧ d.bad = s.sp.dma.bad) ∧
  (∀ (block : List Nat) (o post : Nat) (rest : List Nat) (s : State), s.sp.dma.owner = some o → (s.slot o).live = true → s.sp.dma.posted = post :: rest →
    ((getLe block 8 6 * 800 + getLe block 14 2 % 1024) % 64 ≠ 0 ∨ getLe block 8 6 * 800 + getLe block 14 2 % 1024 < s.sp.dma.expect.getD 0) →
    ∃ d : DmaState, exec (.dmaInputBlock block) s = .next { s with sp := { s.sp with dma := d } } ∧ d.posted = rest ∧ d.inCons = (s.sp.dma.inCons + 1) % 2 ^ 32 ∧
      d.expect = s.sp.dma.expect ∧ d.ticks = s.sp.dma.ticks ∧ d.late = s.sp.dma.late ∧ d.bad = incSat 32 s.sp.dma.bad) ∧
  (∀ (o : Nat) (s : State), s.sp.dma.outDone ≠ [] → s.sp.dma.owner = some o → (s.sp.dma.outProd + 2 ^ 32 - s.sp.dma.outCons) % 2 ^ 32 < 2 ^ s.prm 0x0406 0 3 2 → s.sp.dma.gapDue = false →
    exec .dmaOutputBlock s = .next { s with sp := { s.sp with dma := { s.sp.dma with outDone := [], lastBlock := s.sp.dma.outDone, outAddr := s.dmaPlace 3 (s.prm 0x0406 0 1 1) s.sp.dma.outProd, gapDue := false, outProd := (s.sp.dma.outProd + 1) % 2 ^ 32, wbAddr := s.prm 0x0406 0 4 0 + s.prm 0x0406 0 4 1 * pow32, wb := le 4 s.sp.dma.inCons ++ le 4 ((s.sp.dma.outProd + 1) % 2 ^ 32) } }, hs := s.hs.signal (2 * o + 1) }) ∧
  (∀ s : State, s.sp.dma.outDone ≠ [] → 2 ^ s.prm 0x0406 0 3 2 ≤ (s.sp.dma.outProd + 2 ^ 32 - s.sp.dma.outCons) % 2 ^ 32 →
    exec .dmaOutputBlock s = .next { s with sp := { s.sp with dma := { s.sp.dma with outDone := [], dropped := incSat 32 s.sp.dma.dropped, gapDue := true } } }) ∧
  (∀ (index : Nat) (s : State), s.dmaOn = false → exec (.spDmaInProd index) s = .next s ∧ exec (.spDmaOutCons index) s = .next s) ∧
  (∀ (index : Nat) (s : State), s.dmaOn = true → (2 ^ 31 ≤ (index + 2 ^ 32 - s.sp.dma.inProd) % 2 ^ 32 ∨ 2 ^ s.prm 0x0406 0 2 2 < (index + 2 ^ 32 - s.sp.dma.inCons) % 2 ^ 32) →
    exec (.spDmaInProd index) s = .next { s with sp := { s.sp with dma := { s.sp.dma with bad := satU 32 (s.sp.dma.bad + 1) } } })

/-- The set-point input and an invalid grid-sense channel (R106, R110). The input qualifies after 800 valid readings and takes its value at once, and is lost after 16 invalid ones; an invalid grid-sense channel reads as invalid and is presented as 0. -/
def Obligations.SetpointAndSenseRows : Prop :=
  (∀ s : State, 800 ≤ s.sp.setp.goodRun → s.sp.setp.qualified = false →
    exec .setpointQualify s = .next { s with sp := { s.sp with setp := { s.sp.setp with qualified := true, lost := false, y := s.sp.setp.x } } }) ∧
  (∀ s : State, 16 ≤ s.sp.setp.badRun → s.sp.setp.lost = false →
    exec .setpointLost s = .next { s with sp := { s.sp with setp := { s.sp.setp with qualified := false, lost := true } } }) ∧
  (∀ (k : Nat) (s : State), k < 8 → exec (.gridSenseInvalid k) s = .next { s with sp := { s.sp with gs := tset {} s.sp.gs k { invalid := true } } }) ∧
  (({ invalid := true } : GridSense).tick = 0 ∧ ({ invalid := true } : GridSense).primary = 0)

/-- The commands of the control engine (R152, R171, R176, R428, R435). A set-point in range is taken while the quantity's source is the host word, and refused while another source is bound; reading a bay's flags, winner statistics or plumb status changes nothing and answers its bytes; a clear of flags is kept for the end of the tick, for one bay or for all. -/
def Obligations.ControlCommands : Prop :=
  (∀ (h : Hdr) (q v r : Nat) (s : State), HostReady h 0x0604 s → q ≤ 1 → signedOf 32 v = satQ22 (signedOf 32 v) → r ≤ 8384414 → s.prm 0x0603 0 0 q = 0 →
    AnswersJ (.ceSetpointSet h q v r) h 0x0604 s { s with ce := { s.ce with sets := s.ce.sets ++ [{ quantity := q, value := signedOf 32 v, rate := r, tick := s.absTick }] } } okAns) ∧
  (∀ (h : Hdr) (q v r : Nat) (s : State), HostReady h 0x0604 s → q ≤ 1 → signedOf 32 v = satQ22 (signedOf 32 v) → r ≤ 8384414 → s.prm 0x0603 0 0 q ≠ 0 →
    Answers (.ceSetpointSet h q v r) h 0x0604 s s (refuseAns stState 0x0604 255 0)) ∧
  (∀ (h : Hdr) (b : Nat) (s : State), HostReady h 0x0605 s → b < s.nBays → 
    Answers (.ceFlagsRead h (bayUid b)) h 0x0605 s s (okAns (le 2 (sumN ((s.lawStates b).zipIdx.map (fun e => b1 (e.1.any (fun q => q.outSat)) e.2))) ++
      (s.lawStates b).map (fun l => sumN ((List.range 8).map (fun j => b1 (l.any (fun q => (q.secs.getD j {}).sat)) j))) ++ [0] ++ le 4 (s.bayCtl b).clamps))) ∧
  (∀ (h : Hdr) (b : Nat) (s : State), HostReady h 0x0606 s → b < s.nBays →
    AnswersJ (.ceFlagsClear h (bayUid b)) h 0x0606 s { s with ce := { s.ce with clearDue := s.ce.clearDue ++ [b] } } okAns) ∧
  (∀ (h : Hdr) (s : State), HostReady h 0x0606 s → AnswersJ (.ceFlagsClear h plantUid) h 0x0606 s { s with ce := { s.ce with clearDue := s.allBays } } okAns) ∧
  (∀ (h : Hdr) (b start max : Nat) (s : State), HostReady h 0x0607 s → b < s.nBays →
    Answers (.ceWinnerStats h (bayUid b) start max) h 0x0607 s s (okAns (cursor h.udp 52 start max ((s.bayCtl b).recs.map WinStat.bytes)))) ∧
  (∀ (h : Hdr) (b : Nat) (s : State), HostReady h 0x0608 s → b < s.nBays → 
    Answers (.cePlumbStatus h (bayUid b)) h 0x0608 s s (okAns (le 4 (s.bayCtl b).declared ++ le 4 (s.bayCtl b).recovered ++ le 4 (s.bayCtl b).floated ++
      [sumN ((List.range 3).map (fun k => b1 (s.pierCtl (3 * b + k)).model k)), 0, 0, 0] ++ ((List.range 16).map (fun k => leS 4 ((s.bayCtl b).recs.getD k {}).rhoMax)).flatten)))

/-- The control stage, and how a plumb declaration ends (R143, R174, R180, R307). The control stage first ends stage 1, whose detoured frames it takes; without one it takes the state as it is. While a keystone is live or tracks it then changes only the control and load records and the drive tables, shows its tick and, where none tracks, its status as stage 5 leaves them, and leaves the drive tables alone in flywheel and tracking; without one nothing more happens. A declaration recovers on good residuals within its 16 ticks, and otherwise floats the bay, a synchronisation of it ending; each row without its condition changes nothing. The model's choices, and no rule's words: that this row ends stage 1 and takes the detoured frames held until then (log 48), that the float ends all declarations of the bay (log 32), and that it ends the bay's synchronisation (log 138). -/
def Obligations.ControlStageAndPlumb : Prop :=
  (∀ s : State, s.ksRuns = false → exec .controlStage s = .next s.closeStage1) ∧
  (∀ s : State, s.ksRuns = true → let u := s.closeStage1;
    ∃ t, exec .controlStage s = .next t ∧ t = { u with ce := t.ce, ld := t.ld, rd := { u.rd with drive := t.rd.drive } } ∧ t.ce.winTick = s.absTick ∧ t.ce.missNext = [] ∧
      (u.rd.tracking = true ∨ u.rd.flywheel = true → t.rd.drive = u.rd.drive) ∧ (u.rd.tracking = false → t.ce.status = t.ce.statusNow s.nBays) ∧
      t.ce.nGfm = (s.allBays.filter (fun b => s.bayMode b == 2)).length ∧ t.ce.nGfl = (s.allBays.filter (fun b => s.bayMode b == 1)).length) ∧
  (∀ (b k : Nat) (s : State), b < s.nBays → k < 3 → (s.pierCtl (pierIx b k)).model = true → 4 ≤ (s.pierCtl (pierIx b k)).goodTicks → (s.pierCtl (pierIx b k)).modelTicks ≤ 16 →
    exec (.plumbRecovery b k) s = .next (({ s with ce := { s.ce with piers := tset {} s.ce.piers (pierIx b k) { (s.pierCtl (pierIx b k) : PierCtl) with model := false, modelTicks := 0, goodTicks := 0, fb := (s.pierCtl (pierIx b k)).im }, bays := tmod {} s.ce.bays (pierIx b k / 3) (fun x => { x with recovered := incSat 32 x.recovered }) } } : State).raise
      { kind := .plumbRecovered, unit := pierUid (pierIx b k) })) ∧
  (∀ (b k : Nat) (s : State), b < s.nBays → k < 3 → (s.pierCtl (pierIx b k)).model = true → 16 ≤ (s.pierCtl (pierIx b k)).modelTicks → (s.pierCtl (pierIx b k)).goodTicks < 4 → s.syncingBay b = false →
    exec (.plumbFloat b k) s = .next (({ s with md := { (s.md.floatBay b : Modulator) with bays := tmod {} (s.md.floatBay b).bays b (fun x => { x with plumbFloat := true }) }, ce := { s.ce with floatNow := true, piers := iter 3 (fun j (t : Tab PierCtl) => tmod {} t (3 * b + j) PierCtl.measured) s.ce.piers, bays := tmod {} s.ce.bays b (fun x => { x with floated := incSat 32 x.floated }) } } : State).raise { kind := .plumbFloated, unit := bayUid b })) ∧
  (∀ (b k : Nat) (s : State), b < s.nBays → k < 3 → (s.pierCtl (pierIx b k)).model = false → exec (.plumbRecovery b k) s = .next s ∧ exec (.plumbFloat b k) s = .next s) ∧
  (∀ (b k : Nat) (y : Sync) (s : State), b < s.nBays → k < 3 → (s.pierCtl (pierIx b k)).model = true → 16 ≤ (s.pierCtl (pierIx b k)).modelTicks → (s.pierCtl (pierIx b k)).goodTicks < 4 →
    s.st.sync = some y → y.bay = b → y.closed = false →
    ∃ t : State, exec (.plumbFloat b k) s = .next (t.raise { kind := .plumbFloated, unit := bayUid b }) ∧ t = { s with md := t.md, ce := t.ce, st := t.st } ∧ t.ce.floatNow = true ∧
      t.st = { s.st with sync := none, syncPermit := false, bays := tmod {} s.st.bays b (fun x => { x with phase := .ready, reason := 0, age := 0 }) })

/-- Disabling a pier, a bay or the plant (R206, R336, R343, R436). A disable ends a pier's modulation at once, to FLOAT or BYPASS as asked or as the profile says; with the bay's breaker reported closed it floats the whole bay and the reply says so; a bay is floated as a whole where FLOAT applies; a plant disable acts on every bay; a bay that synchronises ends its synchronisation first, which floats it; a mode above 2 is refused, with ST_RANGE by the model's choice (log 44). Outside synchronisation only the modulator changes. -/
def Obligations.DisableCommands : Prop :=
  (∀ (h : Hdr) (b k mode : Nat) (s : State), HostReady h 0x0704 s → b < s.nBays → k < 3 → mode ≤ 2 → (s.bayLink b).closed = false → s.st.sync = none → (s.pierMod (pierIx b k)).mode = .enabled →
    AnswersJ (.pierDisable h (pierUid (pierIx b k)) mode) h 0x0704 s
      { s with md := s.md.setPier (pierIx b k) (if mode = 1 ∨ (mode = 2 ∧ s.mdPrm b 11 0 = 1) then PierMode.floated else PierMode.bypassed) }
      (okAns [bit (decide (mode = 1 ∨ (mode = 2 ∧ s.mdPrm b 11 0 = 1))), 2])) ∧
  (∀ (h : Hdr) (b k mode : Nat) (s : State), HostReady h 0x0704 s → b < s.nBays → k < 3 → 2 < mode →
    Answers (.pierDisable h (pierUid (pierIx b k)) mode) h 0x0704 s s (refuseAns stRange 0x0704 255 (pierUid (pierIx b k)))) ∧
  (∀ (h : Hdr) (b : Nat) (s : State), HostReady h 0x0705 s → b < s.nBays → s.st.sync = none → (s.pierMod (3 * b)).mode = .enabled →
    AnswersJ (.bayDisable h (bayUid b) 1) h 0x0705 s { s with md := s.md.floatBay b } (okAns [1, 3])) ∧
  (∀ (h : Hdr) (b mode : Nat) (s : State), HostReady h 0x0705 s → b < s.nBays → mode ≤ 2 → s.st.sync = none →
    let f := mode == 1 || (mode == 2 && s.mdPrm b 11 0 == 1) || (s.bayLink b).closed
    let t := if f = true then s.disableFloat b else ((s.disablePier (3 * b) .bypassed).disablePier (3 * b + 1) .bypassed).disablePier (3 * b + 2) .bypassed
    AnswersJ (.bayDisable h (bayUid b) mode) h 0x0705 s t (okAns [bit f, 3]) ∧ t = { s with md := t.md }) ∧
  (∀ (h : Hdr) (mode : Nat) (s : State), HostReady h 0x0706 s → mode ≤ 2 → s.st.sync = none →
    let t := s.allBays.foldl (fun (u : State) b => (u.disableBay b mode).1) s
    AnswersJ (.plantDisable h plantUid mode) h 0x0706 s t (okAns [bit (s.allBays.any (fun b => mode == 1 || (mode == 2 && s.mdPrm b 11 0 == 1) || (s.bayLink b).closed)), 4]) ∧
      t = { s with md := t.md }) ∧
  (∀ (h : Hdr) (b k mode : Nat) (s : State), HostReady h 0x0704 s → b < s.nBays → k < 3 → mode ≤ 2 → (s.bayLink b).closed = true → s.st.sync = none → (s.pierMod (3 * b)).mode = .enabled →
    AnswersJ (.pierDisable h (pierUid (pierIx b k)) mode) h 0x0704 s { s with md := s.md.floatBay b } (okAns [1, 3])) ∧
  (∀ (h : Hdr) (b k mode : Nat) (y : Sync) (s : State), HostReady h 0x0704 s → b < s.nBays → k < 3 → mode ≤ 2 → (s.bayLink b).closed = false → s.st.sync = some y → y.bay = b → y.closed = false →
    let u : State := { s with md := s.md.floatBay b, st := { s.st with sync := none, syncPermit := false, bays := tmod {} s.st.bays b (fun x => { x with phase := .ready, reason := 0, age := 0 }) } }
    let f := mode == 1 || (mode == 2 && s.mdPrm b 11 0 == 1)
    let m := if f = true then PierMode.floated else PierMode.bypassed
    AnswersJ (.pierDisable h (pierUid (pierIx b k)) mode) h 0x0704 s
      (if (u.pierMod (pierIx b k)).mode = m ∧ (u.pierMod (pierIx b k)).enabling = false then u else { u with md := u.md.setPier (pierIx b k) m }) (okAns [bit f, 2])) ∧
  (∀ (b : Nat) (s : State), s.st.sync = none → (s.pierMod (3 * b)).mode = .enabled → s.disableFloat b = { s with md := s.md.floatBay b }) ∧
  (∀ (p : Nat) (m : PierMode) (s : State), s.st.sync = none → (s.pierMod p).mode ≠ m → s.disablePier p m = { s with md := s.md.setPier p m })

/-- Enabling a pier, a bay or the plant, and the landing of an enable (R207, R337, R343, R371, R436, R442). An enable whose conditions hold is accepted and waits; one whose conditions do not hold is refused with ST_STATE; at tick 0 it lands where the conditions still hold, and drops where they do not. The plant's enable takes every bay whose conditions hold and that is not excluded, and answers how many it took; a bay's enable ends its exclusion by command; in a safe stop, with the hold-up bank below ready and in the fuses' MAINTAIN state both are refused. The model's choices, and no rule's words: the landing tests the conditions again and drops the enable, the pier's and the plant's enable leave excluded bays, and the bay's enable that only ends an exclusion answers ST_ACCEPTED (log 37); in flywheel an enable waits (log 98); an enable that MAINTAIN finds accepted drops (log 67); an event reports each landing (log 29); an excluded bay whose hub has been admitted meanwhile returns past its lane (R323). -/
def Obligations.EnableCommands : Prop :=
  (∀ (h : Hdr) (b k : Nat) (s : State), HostReady h 0x0707 s → b < s.nBays → k < 3 → s.enableOk b = true → (s.bayStart b).excl = .none →
    AnswersJ (.pierEnable h (pierUid (pierIx b k))) h 0x0707 s { s with md := s.md.askEnable (pierIx b k) } acceptedAns) ∧
  (∀ (h : Hdr) (b k : Nat) (s : State), HostReady h 0x0707 s → b < s.nBays → k < 3 → s.enableOk b = false ∨ (s.bayStart b).excl ≠ .none →
    Answers (.pierEnable h (pierUid (pierIx b k))) h 0x0707 s s (refuseAns stState 0x0707 255 (pierUid (pierIx b k)))) ∧
  (∀ (h : Hdr) (b : Nat) (s : State), HostReady h 0x0708 s → b < s.nBays → s.enableOk b = true → (s.bayStart b).excl = .none →
    AnswersJ (.bayEnable h (bayUid b)) h 0x0708 s { s with md := s.md.askBay b } acceptedAns) ∧
  (∀ (h : Hdr) (s : State), HostReady h 0x0709 s → s.stopping = false → s.fu.maint = false → s.huReady = true →
    let ok := s.allBays.filter (fun b => s.enableOk b && (s.bayStart b).excl == .none)
    AnswersJ (.plantEnable h plantUid) h 0x0709 s { s with md := ok.foldl Modulator.askBay s.md } (acceptedAns (le 2 ok.length ++ le 2 (s.nBays - ok.length)))) ∧
  (∀ (b k : Nat) (s : State), b < s.nBays → k < 3 → (s.pierMod (pierIx b k)).enabling = true → s.tb.idx = 0 → s.rd.flywheel = false → s.enableOk b = true →
    exec (.enableLanding b k) s = .next (State.raise { s with md := { s.md with piers := tmod {} s.md.piers (pierIx b k) (fun q => { q with mode := .enabled, enabling := false, first := true, stepped := false, residue := 0 }), bays := tmod {} s.md.bays (pierIx b k / 3) (fun x => { x with plumbFloat := false, marginTrip := false, loadedTimes := s.mdPrm (pierIx b k / 3) 8 0 * 65536 + s.mdPrm (pierIx b k / 3) 9 0 }) }, lk := { s.lk with bays := tmod {} s.lk.bays (pierIx b k / 3) (fun l => { l with release := l.release || l.lost, lost := false }) }, rd := { s.rd with drive := tdrop (fun x => decide (x / 800 = pierIx b k)) s.rd.drive } } { kind := .enableLanded, unit := pierUid (pierIx b k), detail := 1 })) ∧
  (∀ (b k : Nat) (s : State), b < s.nBays → k < 3 → (s.pierMod (pierIx b k)).enabling = true → s.tb.idx = 0 → s.rd.flywheel = false → s.enableOk b = false →
    exec (.enableLanding b k) s = .next (State.raise { s with md := { s.md with piers := tmod {} s.md.piers (pierIx b k) (fun q => { q with enabling := false }) } } { kind := .enableLanded, unit := pierUid (pierIx b k) })) ∧
  (∀ (b k : Nat) (s : State), b < s.nBays → k < 3 → s.rd.flywheel = true → exec (.enableLanding b k) s = .next s) ∧
  (∀ (h : Hdr) (b : Nat) (s : State), HostReady h 0x0708 s → b < s.nBays → s.stopping = false → s.fu.maint = false → s.huReady = true → (s.bayStart b).excl = .command →
    let past := (s.bayLink b).trained && (s.bayLink b).hub.isSome
    let waits := fun (x : BayStart) => x.back = .lane ∨ (x.back = .waitDevice ∧ s.st.devStep = 7)
    let u := { s with st := { s.st with bays := tmod {} s.st.bays b (fun x => { x with excl := .none, phase := if waits x then (if past = true then .admitting else .lane) else x.back, reason := if waits x ∧ past = true then 0 else x.backReason, age := 0, exclDue := false }) } }
    AnswersJ (.bayEnable h (bayUid b)) h 0x0708 s (if u.enableOk b = true then { u with md := u.md.askBay b } else u) acceptedAns) ∧
  (∀ (h : Hdr) (b : Nat) (s : State), HostReady h 0x0708 s → HostReady h 0x0709 s → b < s.nBays → s.stopping = true ∨ s.fu.maint = true ∨ s.huReady = false →
    Answers (.bayEnable h (bayUid b)) h 0x0708 s s (refuseAns stState 0x0708 255 (bayUid b)) ∧ Answers (.plantEnable h plantUid) h 0x0709 s s (refuseAns stState 0x0709 255 plantUid))

/-- The trip latch: what sets it, what it does and what resets it (R208, R209, R210, R212, R219). An enabled input, the loss of the isolated supply with an enabled GS_TRIP input, or TRIP_ASSERT sets the latch, which from then on only collects causes; an input that is not enabled does not. While the latch was clear, its stamp is that of the tick and only its own cause is marked. TRIP_RESET is refused while an enabled input is asserted or the supply fault stands, and else clears at the end of the tick. That TRIP_ASSERT withdraws a TRIP_RESET of the same tick is the model's choice (log 137). -/
def Obligations.TripPathRows : Prop :=
  (∀ (h : Hdr) (s : State), HostReady h 0x070A s → SlotsInv s → ∃ t, AnswersJ (.tripAssert h) h 0x070A s t okAns ∧ t.md.latch = true ∧ t.md.cmdCause = true ∧ t.md.resetDue = false ∧
    t.xp = s.xp ∧ t.ce = s.ce ∧ t.rc = s.rc ∧ t.lk = s.lk ∧ (s.md.latch = true → t = { s with md := { s.md with cmdCause := true, resetDue := false } }) ∧
    (s.md.latch = false → t.md.tripStamp = s.tb.stamp ∧ t.md.gsCause = 0 ∧ t.md.gpioCause = 0 ∧ t.md.isoCause = false ∧ t.md.freezeCause = false)) ∧
  (∀ (i : Nat) (s : State), i < 12 → s.tripEnabled i = true → ∃ t, exec (.tripInputAssert i) s = .next t ∧ t.md.latch = true ∧
    (i < 8 → t.md.gsCause.testBit i = true ∧ t.md.gsIn = setBit s.md.gsIn i true) ∧ (8 ≤ i → t.md.gpioCause.testBit (i - 8) = true ∧ t.md.gpioIn = setBit s.md.gpioIn (i - 8) true ∧ t.sys.gpioPins = setBit s.sys.gpioPins (i + 4) (s.prm 0x0703 i 1 0 == 1)) ∧ t.xp = s.xp ∧ t.ce = s.ce) ∧
  (∀ (i : Nat) (s : State), i < 8 → s.tripEnabled i = false → exec (.tripInputAssert i) s = .next { s with md := { s.md with gsIn := setBit s.md.gsIn i true } }) ∧
  (∀ (i : Nat) (s : State), i < 8 → exec (.tripInputRelease i) s = .next { s with md := { s.md with gsIn := setBit s.md.gsIn i false } }) ∧
  (∀ (i : Nat) (s : State), 8 ≤ i → i < 12 → exec (.tripInputRelease i) s = .next { s with md := { s.md with gpioIn := setBit s.md.gpioIn (i - 8) false }, sys := { s.sys with gpioPins := setBit s.sys.gpioPins (i + 4) (!(s.prm 0x0703 i 1 0 == 1)) } }) ∧
  (∀ (i : Nat) (s : State), 8 ≤ i → i < 12 → s.tripEnabled i = false → exec (.tripInputAssert i) s = .next s) ∧
  (∀ s : State, s.anyGsTrip = true → ∃ t, exec .isoSupplyLoss s = .next t ∧ t.md.latch = true ∧ t.md.isoCause = true ∧ t.sp.isoFault = true) ∧
  (∀ s : State, s.anyGsTrip = false → exec .isoSupplyLoss s = .next { s with sp := { s.sp with isoFault := true, gs := iter 8 (fun k (t : Tab GridSense) => tset {} t k { invalid := true }) s.sp.gs } }) ∧
  (∀ s : State, exec .isoSupplyReturn s = .next { s with sp := { s.sp with isoFault := false } }) ∧
  (∀ (h : Hdr) (s : State), HostReady h 0x070B s → s.sp.isoFault = false → (∀ i < 12, s.tripEnabled i = true → (if i < 8 then s.md.gsIn.testBit i else s.md.gpioIn.testBit (i - 8)) = false) →
    AnswersJ (.tripReset h) h 0x070B s { s with md := { s.md with resetDue := true } } okAns) ∧
  (∀ (h : Hdr) (i : Nat) (s : State), HostReady h 0x070B s → i < 12 → s.tripEnabled i = true → (if i < 8 then s.md.gsIn.testBit i else s.md.gpioIn.testBit (i - 8)) = true →
    Answers (.tripReset h) h 0x070B s s (refuseAns stState 0x070B 255 0)) ∧
  (∀ (h : Hdr) (s : State), HostReady h 0x070B s → s.sp.isoFault = true → Answers (.tripReset h) h 0x070B s s (refuseAns stState 0x070B 255 0)) ∧
  (∀ m : Modulator, m.resetDue = true → m.endReset.latch = false ∧ m.endReset.cmdCause = false ∧ m.endReset.gsCause = 0 ∧ m.endReset.gpioCause = 0)

/-- Lab freeze, the modulation stage, the ranking snapshot and the statistics (R77, R213, R214, R215, R217, R436). A freeze asked for on a fused production part is only noted as denied, and else takes effect at the next stage 6; its limit sets the trip latch; where freeze_req and a debug halt both ask for it, it ends when both have gone, which is the model's choice (log 111), and its end floats the frozen bays, a synchronisation of one of them ending (log 138). The modulation stage changes only modulation, the realised voltages, the flywheel and heartbeat records, the bays' downstream frames and the counter of free values; the snapshot is a copy of the records of its tick. -/
def Obligations.FreezeAndStageRows : Prop :=
  (∀ s : State, s.production = true → ∀ halt, exec (.freezeReq halt) s = .next { s with md := { s.md with freezeDenied := true } }) ∧
  (∀ s : State, s.production = false → exec (.freezeReq false) s = .next { s with md := { s.md with freezeReq := true, freezeDue := s.md.freezeDue || !s.md.frozen } } ∧
    exec (.freezeReq true) s = .next { s with md := { s.md with halted := true, freezeDue := s.md.freezeDue || !s.md.frozen } }) ∧
  (∀ s : State, s.md.halted = false → s.md.frozen = false → exec (.freezeEnd false) s = .next { s with md := { s.md with freezeReq := false, freezeDue := false } }) ∧
  (∀ s : State, s.md.halted = false → s.md.frozen = true → (∀ b, (s.bayMod b).frozen = true → s.syncingBay b = false) →
    let bs := s.allBays.filter (fun b => (s.bayMod b).frozen)
    let m := ({ s.md with freezeReq := false } : Modulator).floatBays bs
    exec (.freezeEnd false) s = .next { s with md := { m with frozen := false, freezeDue := false, freezeTicks := 0, piers := tmapAll {} (fun (q : PierMod) => { q with residue := 0 }) m.piers, bays := bs.foldl (fun (t : Tab BayMod) b => tmod {} t b (fun x => { x with frozen := false })) m.bays } }) ∧
  (∀ s : State, s.md.frozen = true → s.md.freezeLimit * 800 ≤ s.md.freezeTicks → ∃ t, exec .freezeLimit s = .next t ∧ t.md.latch = true ∧ t.md.freezeCause = true) ∧
  (∀ s : State, s.md.frozen = false → exec .freezeLimit s = .next s) ∧
  (∀ s : State, s.tb.running = false → exec .modulationStage s = .next s) ∧
  (∀ s : State, s.tb.running = true → ∃ t, exec .modulationStage s = .next t ∧ t = { s with md := t.md, ce := { s.ce with piers := t.ce.piers }, rd := t.rd, lk := { s.lk with bays := t.lk.bays }, freeCtr := t.freeCtr } ∧
    t.md.ran = true ∧ t.md.missPiers = [] ∧ t.md.missCourses = [] ∧ t.md.freezeDue = false) ∧
  (∀ s : State, ∃ sys, (s.sys.urFill = none → sys = s.sys) ∧ sys = { s.sys with urCopy := sys.urCopy } ∧ exec .rankSnapshot s = .next { s with sys := sys, rc := { s.rc with bricks := s.rankedBricks, snapBricks := s.rankedBricks, snapKeys := s.rc.keys, snapCourses := s.rc.courses, snapPiers := s.rc.piers, snapBays := s.rc.bays, snapPlant := s.rc.plant, snapTick := s.absTick, snapDark := (s.lk.courses.map (fun e => e.1)).filter s.darkCourse } }) ∧
  (∀ (h : Hdr) (b k start max : Nat) (s : State), HostReady h 0x070C s → b < s.nBays → k < 3 →
    Answers (.mdStatsRead h (pierUid (pierIx b k)) start max) h 0x070C s s (okAns (cursor h.udp 32 start max ((s.pierMod (pierIx b k)).recs.map (fun r => r.bytes (pierIx b k)))))) ∧
  (∀ s : State, s.md.halted = true → exec (.freezeEnd false) s = .next { s with md := { s.md with freezeReq := false } }) ∧
  (∀ s : State, s.md.freezeReq = true → exec (.freezeEnd true) s = .next { s with md := { s.md with halted := false } }) ∧
  (∀ s : State, s.md.freezeReq = false → s.md.frozen = false → exec (.freezeEnd true) s = .next { s with md := { s.md with halted := false, freezeDue := false } }) ∧
  (∀ s : State, s.md.freezeReq = false → s.md.frozen = true →
    ∃ t, exec (.freezeEnd true) s = .next t ∧ t = { s with md := t.md, st := t.st } ∧ t.md.frozen = false ∧ t.md.halted = false ∧ t.md.freezeTicks = 0 ∧ exec (.freezeEnd false) { s with md := { s.md with halted := false } } = .next t) ∧
  (∀ (b : Nat) (y : Sync) (s : State), s.md.halted = false → s.md.frozen = true → s.st.sync = some y → y.bay = b → b < s.nBays → y.closed = false → (s.bayMod b).frozen = true →
    ∃ t, exec (.freezeEnd false) s = .next t ∧ t.md.frozen = false ∧ t.st.sync = none ∧ t.st.syncPermit = false ∧ (t.bayStart b).phase = .ready)

/-- Stage 2 and the record commands (R228, R236, R241, R243, R437). Stage 2 answers a next state, takes up every request of earlier ticks and leaves the snapshot as it stands; a read of a unit's own record answers its 64 bytes of the snapshot, a read of its members a page of theirs, and neither changes anything; a scope above 1 is refused, with ST_RANGE by the model's choice (log 44), and a brick has no members; a recalibration or a release is noted for the next stage 2 with its count, and a release of a brick that is not quarantined is refused. -/
def Obligations.RecordRows : Prop :=
  (∀ s : State, ∃ t, exec .recordPass s = .next t ∧ t.rc.delivered = [] ∧ t.rc.missNext = [] ∧ t.rd.badCopies = [] ∧ t.xp = s.xp ∧ t.tb = s.tb ∧ t.lk.held = [] ∧
    (∀ e ∈ t.rc.recalReq, s.absTick ≤ e.2) ∧ (∀ e ∈ t.rc.releaseReq, s.absTick ≤ e.2) ∧ t.rc.snapBricks = s.rc.snapBricks ∧ t.rc.snapTick = s.rc.snapTick) ∧
  (∀ (h : Hdr) (unit start max : Nat) (s : State), HostReady h 0x0802 s → (checkUid s.nBays unit).1 = 0 → 0 < max →
    Answers (.unitRead h unit 0 start max) h 0x0802 s s (okAns (le 8 s.rc.snapTick ++ le 2 0xFFFF ++ le 2 1 ++ s.rc.snapBytes (checkUid s.nBays unit).2))) ∧
  (∀ (h : Hdr) (unit scope start max : Nat) (s : State), HostReady h 0x0802 s → (checkUid s.nBays unit).1 = 0 → 1 < scope →
    Answers (.unitRead h unit scope start max) h 0x0802 s s (refuseAns stRange 0x0802 255 unit)) ∧
  (∀ (h : Hdr) (unit start max : Nat) (s : State), HostReady h 0x0802 s → (checkUid s.nBays unit).1 = 0 → (checkUid s.nBays unit).2.level ≠ 0 → 0 < max → start < memberCount s.nBays (checkUid s.nBays unit).2 →
    let u := (checkUid s.nBays unit).2
    let n := min (min max (if h.udp then 22 else 63)) (memberCount s.nBays u - start)
    Answers (.unitRead h unit 1 start max) h 0x0802 s s (okAns (le 8 s.rc.snapTick ++ le 2 (if start + n < memberCount s.nBays u then start + n else 0xFFFF) ++ le 2 n ++
      ((List.range n).map (fun i => s.rc.snapBytes (u.member (start + i)))).flatten))) ∧
  (∀ (h : Hdr) (unit start max : Nat) (s : State), HostReady h 0x0802 s → (checkUid s.nBays unit).1 = 0 → (checkUid s.nBays unit).2.level = 0 →
    Answers (.unitRead h unit 1 start max) h 0x0802 s s (refuseAns stBadParam 0x0802 255 unit)) ∧
  (∀ (h : Hdr) (unit : Nat) (s : State), HostReady h 0x0803 s → (checkUid s.nBays unit).1 = 0 →
    let u := (checkUid s.nBays unit).2
    let xs := ((s.bricksOf u).filter (fun e => u.level == 0 || e.2.state.available)).map (fun e => (e.1, s.absTick))
    AnswersJ (.unitRecal h unit) h 0x0803 s { s with rc := { s.rc with recalReq := s.rc.recalReq ++ xs } } (okAns (le 4 xs.length))) ∧
  (∀ (h : Hdr) (unit : Nat) (s : State), HostReady h 0x0804 s → (checkUid s.nBays unit).1 = 0 → (checkUid s.nBays unit).2.level ≠ 0 →
    let xs := ((s.bricksOf (checkUid s.nBays unit).2).filter (fun e => e.2.state == .quarantined)).map (fun e => (e.1, s.absTick))
    AnswersJ (.unitRelease h unit) h 0x0804 s { s with rc := { s.rc with releaseReq := s.rc.releaseReq ++ xs } } (okAns (le 4 xs.length))) ∧
  (∀ (h : Hdr) (unit : Nat) (s : State), HostReady h 0x0804 s → (checkUid s.nBays unit).1 = 0 → (checkUid s.nBays unit).2.level = 0 →
    (∀ e ∈ s.bricksOf (checkUid s.nBays unit).2, e.2.state ≠ .quarantined) →
    Answers (.unitRelease h unit) h 0x0804 s s (refuseAns stState 0x0804 255 unit)) ∧
  (∀ (h : Hdr) (unit : Nat) (e : Nat × Rec) (s : State), HostReady h 0x0804 s → (checkUid s.nBays unit).1 = 0 → (checkUid s.nBays unit).2.level = 0 →
    s.bricksOf (checkUid s.nBays unit).2 = [e] → e.2.state = .quarantined →
    AnswersJ (.unitRelease h unit) h 0x0804 s { s with rc := { s.rc with releaseReq := s.rc.releaseReq ++ [(e.1, s.absTick)] } } (okAns [1, 0, 0, 0]))

/-- Impedance passes and the grid's impedance (R246, R249, R252, R255, R256, R438). A pass is asked for where passes are on and the tile's queue has room, and its end takes the pier's ended pass out of its slot, an event telling of one that was asked for; a read of a brick's impedance changes nothing but the counter of free values; a measurement of the grid is accepted where its generator runs, starts at the boundary with the generator's frequency word, and its result joins the list of eight, an event telling whether it is valid. That these events report the outcome of the accepted commands, and their codes, are the model's choice (log 29). -/
def Obligations.ImpedanceRows : Prop :=
  (∀ (h : Hdr) (b k : Nat) (s : State), HostReady h 0x0903 s → b < s.nBays → k < 3 → s.zPrm 0 0 ≠ 0 → s.halfRate (tileOf b) = false → (s.tile (tileOf b)).phase ≠ .out →
    (tget {} s.z.tiles (tileOf b)).requests.length < 4 →
    AnswersJ (.zPassRequest h (pierUid (pierIx b k))) h 0x0903 s { s with z := { s.z with tiles := tmod {} s.z.tiles (tileOf b) (fun q => { q with requests := q.requests ++ [pierIx b k] }) } } acceptedAns) ∧
  (∀ (h : Hdr) (unit : Nat) (s : State), HostReady h 0x0904 s → (checkLevel s.nBays 0 unit).1 = 0 →
    let u := (checkLevel s.nBays 0 unit).2
    let r := tget {} s.rc.snapBricks (posIx u.bay u.pier u.course u.brick)
    let never := fun (k : Nat) => r.zBin.getD (2 * k) 0 == 0 && r.zBin.getD (2 * k + 1) 0 == 0
    let ct : Nat := if never 0 || never 3 then 0x7FFFFFFF else patternOf 32 (divRne ((r.zBin.getD 6 0 - r.zBin.getD 0 0) * 2 ^ (8 + r.zExp).toNat) 256000)
    Answers (.zRead h unit) h 0x0904 s (s.binPhases r).1 (okAns (le 8 s.rc.snapTick ++ ((r.zBin.map (fun v => shrRne (v * 2 ^ (8 + r.zExp).toNat) 8)).map (leS 4)).flatten ++
      ((s.binPhases r).2.map (leS 2)).flatten ++ le 4 ct ++ le 1 r.zCount ++ leS 1 r.zExp ++ [0, 0])) ∧
    ∃ n, s.freeCtr ≤ n ∧ n ≤ s.freeCtr + 4 ∧ (s.binPhases r).1 = { s with freeCtr := n }) ∧
  (∀ (h : Hdr) (g pair cycles : Nat) (s : State), HostReady h 0x0905 s → (g = 6 ∨ g = 7) → pair ≤ 2 → 8 ≤ cycles → cycles ≤ 1024 → s.prm 0x0504 g 0 0 = 1 → s.prm 0x0504 g 1 0 ≠ 0 →
    s.prm 0x0504 g 2 0 * 800 * cycles % 2 ^ 32 = 0 → s.z.grid = none → s.z.gridPend = none →
    AnswersJ (.gridZMeasure h g pair cycles) h 0x0905 s { s with z := { s.z with gridPend := some (g - 6, pair, cycles) } } acceptedAns) ∧
  (∀ (h : Hdr) (s : State), HostReady h 0x0906 s → Answers (.gridZRead h) h 0x0906 s s (okAns ([s.z.gridResults.length, 0, 0, 0] ++ (s.z.gridResults.map (fun (g : GridZResult) => g.bytes)).flatten))) ∧
  (∀ (p : Nat) (q : Pass) (s : State), p < s.nBays * 3 → s.tb.idx = 1 → (tget {} s.z.slots (2 * tileOf (p / 3))).ending = some q → q.pier = p →
    ∃ t : State, exec (.zPassEnd p) s = .next (if q.requested = true then t.raise { kind := .zPassDone, unit := pierUid p } else t) ∧ t = { s with z := t.z, rc := t.rc } ∧ t.z.passes = incSat 32 s.z.passes ∧ t.z.slots = tmod {} s.z.slots (2 * tileOf (p / 3)) (fun k => { k with ending := none })) ∧
  (∀ (g pair cycles : Nat) (s : State), s.z.gridPend = some (g, pair, cycles) → s.tb.idx = 0 → 
    exec .gridZStart s = .next { s with z := { s.z with gridPend := none, grid := some { gen := g, pair := pair, cycles := cycles, cycle := s.tb.cycleNow, freqWord := s.prm 0x0504 (6 + g) 2 0, generation := s.xp.generation, vRe := 0, vIm := 0, iRe := 0, iIm := 0, ticks := 0, invalid := false, frozen := false, slewing := false } } }) ∧
  (∀ (g : GridZRun) (s : State), s.z.grid = some g → g.cycles * 800 ≤ g.ticks → ∃ (r : GridZResult) (n : Nat), exec .gridZResult s = .next (State.raise { s with freeCtr := n, z := { s.z with grid := none, gridResults := (r :: s.z.gridResults).take 8, gridDone := true } }
      { kind := .gridZDone, unit := noUnit, detail := bit (!g.invalid && !g.frozen && decide (((s.zPrm 8 0 * g.ticks * 2 ^ 30) ^ 2 : Nat) ≤ g.iRe * g.iRe + g.iIm * g.iIm)) }) ∧
    r.cycle = g.cycle ∧ r.cycles = g.cycles ∧ r.freqWord = g.freqWord ∧ (g.iRe ≠ 0 → n = s.freeCtr ∧
      r.zRe = satS 32 (ratRne (((g.vRe * g.iRe + g.vIm * g.iIm) * 1000000 : Int) / ((2 * (g.iRe * g.iRe + g.iIm * g.iIm) : Int) : Rat))) ∧
      r.zIm = satS 32 (ratRne (((g.vIm * g.iRe - g.vRe * g.iIm) * 1000000 : Int) / ((2 * (g.iRe * g.iRe + g.iIm * g.iIm) : Int) : Rat)))))

/-- Ambient, load models and load diagnosis (R257, R263, R264, R266, R438). An ambient in range, of a bay or of the plant, is kept for the coming boundary, one below or above it refused; the models' reads change nothing; a host's baseline is taken, and the last good result only where there is one; an ambient that has aged past its limit falls back once; a full diagnosis window closes and starts anew, and one that is not full stays open. -/
def Obligations.LoadRows : Prop :=
  (∀ (h : Hdr) (b temp : Nat) (s : State), HostReady h 0x0908 s → b < s.nBays → -6400 ≤ signedOf 16 temp → signedOf 16 temp ≤ 7680 →
    AnswersJ (.loadAmbientSet h (bayUid b) temp) h 0x0908 s { s with ld := { s.ld with bays := tmod {} s.ld.bays b (fun x => { x with ambNext := some (signedOf 16 temp) }) } } okAns) ∧
  (∀ (h : Hdr) (b temp : Nat) (s : State), HostReady h 0x0908 s → b < s.nBays → signedOf 16 temp < -6400 ∨ 7680 < signedOf 16 temp →
    Answers (.loadAmbientSet h plantUid temp) h 0x0908 s s (refuseAns stRange 0x0908 255 plantUid) ∧ Answers (.loadAmbientSet h (bayUid b) temp) h 0x0908 s s (refuseAns stRange 0x0908 255 (bayUid b))) ∧
  (∀ (h : Hdr) (b : Nat) (s : State), HostReady h 0x0909 s → b < s.nBays → Answers (.loadModelRead h (bayUid b)) h 0x0909 s s (okAns (s.loadModelBytes b))) ∧
  (∀ (h : Hdr) (b k l r : Nat) (s : State), HostReady h 0x090A s → b < s.nBays → k < 3 →
    AnswersJ (.loadBaselineSet h (pierUid (pierIx b k)) 1 l r) h 0x090A s
      { s with ld := { s.ld with piers := tset {} s.ld.piers (pierIx b k) { (tget {} s.ld.piers (pierIx b k) : PierLoad) with baseline := some (l, r) } } } okAns) ∧
  (∀ (h : Hdr) (b k l r : Nat) (s : State), HostReady h 0x090A s → b < s.nBays → k < 3 → (tget {} s.ld.piers (pierIx b k)).lastGood = none →
    Answers (.loadBaselineSet h (pierUid (pierIx b k)) 0 l r) h 0x090A s s (refuseAns stState 0x090A 255 (pierUid (pierIx b k)))) ∧
  (∀ (h : Hdr) (b : Nat) (s : State), HostReady h 0x090B s → b < s.nBays → 
    Answers (.loadDiagRead h (bayUid b)) h 0x090B s s (okAns ((List.range 3).map (fun k => (tget {} s.ld.piers (3 * b + k)).diagBytes)).flatten)) ∧
  (∀ (b : Nat) (s : State), b < s.nBays → (tget {} s.ld.bays b).fallback = false → s.prm 0x0907 b 12 1 * 1000000000 ≤ (tget {} s.ld.bays b).ambAge →
    exec (.ambientTimeout b) s = .next (({ s with ld := { s.ld with bays := tset {} s.ld.bays b { (tget {} s.ld.bays b : BayLoad) with fallback := true }, fallbackSeen := true } } : State).raise { kind := .ambientFallback, unit := bayUid b })) ∧
  (∀ (p : Nat) (s : State), p < 3 * s.nBays → (tget {} s.ld.piers p).cycles < s.prm 0x0907 (p / 3) 13 0 → exec (.diagWindowClose p) s = .next s) ∧
  (∀ (p : Nat) (s : State), p < 3 * s.nBays → s.prm 0x0907 (p / 3) 13 0 ≤ (tget {} s.ld.piers p).cycles → (tget {} s.ld.piers p).baseline = none →
    ∃ l : PierLoad, exec (.diagWindowClose p) s = .next { s with ld := { s.ld with piers := tset {} s.ld.piers p l } } ∧ l.used = 0 ∧ l.cycles = 0 ∧ l.winSums = [0, 0, 0, 0, 0] ∧ l.result.closed = s.tb.cycleNow) ∧
  (∀ (h : Hdr) (temp : Nat) (s : State), HostReady h 0x0908 s → -6400 ≤ signedOf 16 temp → signedOf 16 temp ≤ 7680 →
    AnswersJ (.loadAmbientSet h plantUid temp) h 0x0908 s { s with ld := { s.ld with ambNext := some (signedOf 16 temp) } } okAns)

/-- Lanes: training, markers, hubs and rings (R271, R272, R286, R323, R329, R487). A lane trains and goes down with its round trips, but no lane of a failed tile trains; a tick marker goes to the trained lanes, and its echo joins their round trips; a hub with a serial, the lane's bay and a measured delay within 1 us is admitted, one without a serial refused with reason 7; a bay that has waited 1 s at its lane trains it again; a ring message records its break. That a serial of 0 is an unreadable serial, and that a HELLO before the delay is measured is refused, are the model's choices (log 45). -/
def Obligations.LaneRows : Prop :=
  (∀ (b : Nat) (s : State), b < s.nBays → (s.tile (tileOf b)).failed = false → exec (.laneTrained b) s = .next { s with lk := { s.lk with bays := tmod {} s.lk.bays b (fun l => { l with trained := true, trips := [] }) }, st := { s.st with laneSeen := true, jtag := if jtagDrives s.st.jtag = true then .bypass else s.st.jtag } }) ∧
  (∀ (b : Nat) (s : State), b < s.nBays → exec (.laneDown b) s = .next { s with lk := { s.lk with bays := tmod {} s.lk.bays b (fun l => { l with trained := false, trips := [] }) } }) ∧
  (∀ s : State, exec .tickMarker s = .next { s with lk := { s.lk with bays := s.lk.bays.map (fun e => if e.2.trained then (e.1, { e.2 with marker := (s.absTick + 1) % 65536 }) else e) } }) ∧
  (∀ (b d : Nat) (s : State), b < s.nBays → (s.bayLink b).trained = true →
    exec (.tickMarkerEcho b d) s = .next { s with lk := { s.lk with bays := tmod {} s.lk.bays b (fun l => { l with trips := (d :: l.trips).take 800 }) } }) ∧
  (∀ (b d : Nat) (s : State), b < s.nBays → (s.bayLink b).trained = false → exec (.tickMarkerEcho b d) s = .next s) ∧
  (∀ (b : Nat) (m : HelloMsg) (s : State), b < s.nBays → (s.bayLink b).trained = true → (s.tile (tileOf b)).failed = false → m.serial ≠ 0 → m.bay = b → (s.bayLink b).trips ≠ [] → (s.bayLink b).delay m.turnaround ≤ 1600 →
    let u := ({ s with lk := { s.lk with bays := tmod {} s.lk.bays b (fun l => { l with hub := some { serial := m.serial, fw := m.fw, twin := m.twin, turnaround := m.turnaround }, hubReason := 0 }) } } : State).raiseX { kind := .binding, unit := bayUid b, detail := 1 } [le 8 0 ++ le 8 0 ++ le 8 m.serial ++ le 8 0]
    exec (.hello b m) s = .next (if (s.bayStart b).phase = .lane then
      { u with st := { u.st with bays := tmod {} u.st.bays b (fun x => { x with phase := .admitting, reason := 0, age := 0 }) } } else u)) ∧
  (∀ (b : Nat) (m : HelloMsg) (s : State), b < s.nBays → (s.bayLink b).trained = true → (s.tile (tileOf b)).failed = false → m.serial = 0 → exec (.hello b m) s = .next (s.refuseHub b 7)) ∧
  (∀ (b : Nat) (m : HelloMsg) (s : State), b < s.nBays → (s.bayLink b).trained = false ∨ (s.tile (tileOf b)).failed = true → exec (.hello b m) s = .next s) ∧
  (∀ (b : Nat) (m : RingMsg) (s : State), b < s.nBays → m.pos < 384 → ∃ u : State, exec (.ring b m) s = .next (u.raise { kind := if m.fromA == 255 && m.fromB == 255 then .ringRepaired else .ringBreak, unit := pierUid (pierIx b (m.pos / 128)), detail := m.fromA + m.fromB * 256 }) ∧
    u = { s with lk := { s.lk with bays := tmod {} s.lk.bays b (fun l => { l with breaks := l.breaks.set (m.pos / 128) (m.fromA, m.fromB), nBreaks := if m.fromA == 255 && m.fromB == 255 then l.nBreaks else incSat 32 l.nBreaks }) } }) ∧
  (∀ (b : Nat) (s : State), b < s.nBays → (s.bayStart b).phase = .lane → 1000000000000 ≤ (s.bayStart b).age →
    exec (.laneRetry b) s = .next { s with st := { s.st with bays := tmod {} s.st.bays b (fun x => { x with phase := .lane, reason := 1, age := 0 }) }, lk := { s.lk with bays := tmod {} s.lk.bays b (fun l => if l.hub.isSome then l else { l with trained := false, trips := [] }) } }) ∧
  (∀ (b : Nat) (s : State), b < s.nBays → (s.bayStart b).age < 1000000000000 → exec (.laneRetry b) s = .next s) ∧
  (∀ (b : Nat) (s : State), b < s.nBays → (s.tile (tileOf b)).failed = true → exec (.laneTrained b) s = .next s)

/-- Courses and frames: dark, out of service, withdrawn, joined; frames and lost bays (R47, R48, R211, R279, R282, R284, R287, R289, R294, R314, R362, 09_bay_links_and_partners.md). A serving course that misses in two accepted frames goes dark and is counted; at its dark limit it leaves service, as a withdrawn one does after a whole cycle. A JOIN inside a window by a fitted course of the declared type, not in service elsewhere and in order is accepted while the cycle has room; one refused before for its type code only inside a maintenance window. SERIALS out of sequence end the handshake; the last part admits a course that is still fitted and of the declared type, whose serials are present, clash with none and whose voltages fit, and refuses one that is no longer fitted or no longer of the type. A frame that is late or of a wrong length, check or type, or that is sound and of another tick, is discarded whole and counted; one of a bay that is neither the lane's own nor its twin is also misrouted; one of a bay whose frame of the tick has come is passed over; a detoured one on the twin's lane waits for the end of stage 1. An accepted frame gives the bay's link its tick, its flags and no missed frame. A course that leaves service is out with its records closed; one that is admitted is in service with its serials bound. Ten missed frames, or one that says the hub floated, float the bay once, a synchronisation of it ending, and raise PLANT_TRIP where no tile serves the bay any longer. The model's choices, and no rule's words: what clashes, the reason codes of WAIT and the end of a handshake out of sequence (log 46), the wait of a detoured frame (log 48), the bounds of the frame's counts (log 135) and a pool entry that names no brick (log 136), a JOIN of another type code (log 88), the end of the synchronisation (log 138). -/
def Obligations.CourseRows : Prop :=
  (∀ (c : Nat) (s : State), c < s.nBays * 384 → (s.course c).serves = true → (s.course c).dark = false → 2 ≤ (s.course c).missing → s.frameHere (c / 384) = true →
    exec (.courseDark c) s = .next { s with lk := { s.lk with courses := tmod {} s.lk.courses c (fun k => { k with dark := true, darkTicks := 0 }), bays := tmod {} s.lk.bays (c / 384) (fun l => { l with nDark := incSat 32 l.nDark }) } }) ∧
  (∀ (c : Nat) (s : State), c < s.nBays * 384 → (s.course c).dark = true → exec (.courseDark c) s = .next s) ∧
  (∀ (c : Nat) (s : State), c < s.nBays * 384 → (s.course c).serves = true → (s.course c).dark = true → s.prm 0x0A01 0 1 0 * 800 ≤ (s.course c).darkTicks →
    ∃ t : State, exec (.courseLeaveService c) s = .next t ∧ t = s.leaveService c ∧ t.xp = s.xp ∧ t.tb = s.tb ∧ t.ce = s.ce ∧ t.lk.bays = s.lk.bays) ∧
  (∀ (c : Nat) (s : State), c < s.nBays * 384 → (s.course c).dark = false → exec (.courseLeaveService c) s = .next s) ∧
  (∀ (c : Nat) (s : State), c < s.nBays * 384 → (s.course c).phase = .withdrawn → 2 ≤ (s.course c).withdrawCycles →
    ∃ t : State, exec (.withdraw c) s = .next t ∧ t = (s.sendMsg (c / 384) 0x24 (c % 384) []).leaveService c ∧ t.xp = s.xp ∧ t.tb = s.tb ∧ t.ce = s.ce) ∧
  (∀ (c : Nat) (s : State), c < s.nBays * 384 → (s.course c).withdrawCycles < 2 → exec (.withdraw c) s = .next s) ∧
  (∀ (b : Nat) (m : JoinMsg) (s : State) (typed : Bool), b < s.nBays → m.pos < 384 → s.isFitted (b * 384 + m.pos) = true → m.serial ≠ 0 → (s.course (b * 384 + m.pos)).phase = .out →
    typed = ((s.course (b * 384 + m.pos)).reason == 2 && (s.course (b * 384 + m.pos)).offer == m.serial) → (if typed then (s.bayLink b).maint.isSome else s.windowCovers (b * 384 + m.pos)) = true →
    m.ctype = s.pierType (b * 384 + m.pos) → s.serialElsewhere (b * 384 + m.pos) m.serial = false → m.ordered = true → s.badCal (b * 384 + m.pos) m.serial m.cal = false → (s.bayLink b).accepts < s.prm 0x0A01 0 0 0 →
    exec (.join b m) s = .next (((((s.modCourse (b * 384 + m.pos) (fun k => { k with offer := m.serial })).modCourse (b * 384 + m.pos) (fun k => { k with serial := m.serial, ctype := if k.phase = .out then m.ctype else k.ctype, fw := m.fw, cal := m.cal, reason := if typed then 2 else 0 })).modCourse (b * 384 + m.pos)
      (fun k => { k with hand := true, parts := [], codes := [], partTick := s.absTick, slot := none })).modLink b (fun l => { l with accepts := l.accepts + 1 })).sendMsg b 0x20 m.pos [])) ∧
  (∀ (b : Nat) (m : JoinMsg) (s : State), b < s.nBays → 384 ≤ m.pos → exec (.join b m) s = .next { s with lk := { s.lk with bays := tmod {} s.lk.bays b (fun l => { l with nMisrouted := incSat 32 l.nMisrouted }), misrouted := true } }) ∧
  (∀ (b : Nat) (m : SerialsMsg) (s : State), b < s.nBays → m.pos < 384 → m.part ≤ 3 → m.serials.length = 24 → (s.course (b * 384 + m.pos)).hand = true → m.part ≠ (s.course (b * 384 + m.pos)).parts.length →
    exec (.serials b m) s = .next { s with lk := { s.lk with courses := tmod {} s.lk.courses (b * 384 + m.pos) (fun k => { k with hand := false, parts := [], codes := [] }) } }) ∧
  (∀ (b : Nat) (m : SerialsMsg) (s : State), b < s.nBays → m.pos < 384 → m.part < 3 → m.serials.length = 24 → (s.course (b * 384 + m.pos)).hand = true → m.part = (s.course (b * 384 + m.pos)).parts.length →
    (m.part = 0 ∨ s.absTick = (s.course (b * 384 + m.pos)).partTick + 1) → 
    exec (.serials b m) s = .next { s with lk := { s.lk with courses := tmod {} s.lk.courses (b * 384 + m.pos) (fun k => { k with parts := (s.course (b * 384 + m.pos)).parts ++ [m.serials], codes := (s.course (b * 384 + m.pos)).codes ++ (List.range 24).map (fun i => m.codes.getD i none), partTick := s.absTick }) } }) ∧
  (∀ (f : UpFrame) (s : State), f.lane < s.nBays → (s.bayLink f.lane).trained = true → (s.tile (tileOf f.lane)).phase ≠ .out →
    (f.inTime = false ∨ f.bytes.length ≠ 40756 + 6 * getLe f.bytes 12 2 + getLe f.bytes 14 2 ∨ getLe f.bytes (f.bytes.length - 4) 4 ≠ crc32 (f.bytes.take (f.bytes.length - 4)) ∨ getLe f.bytes 0 1 ≠ 1) →
    exec (.upstreamFrame f) s = .next { s with lk := { s.lk with bays := tmod {} s.lk.bays f.lane (fun l => { l with nDiscarded := incSat 32 l.nDiscarded }) } }) ∧
  (∀ (f : UpFrame) (s : State), f.lane < s.nBays → (s.bayLink f.lane).trained = true → (s.tile (tileOf f.lane)).phase ≠ .out → f.inTime = true →
    f.bytes.length = 40756 + 6 * getLe f.bytes 12 2 + getLe f.bytes 14 2 → getLe f.bytes (f.bytes.length - 4) 4 = crc32 (f.bytes.take (f.bytes.length - 4)) → getLe f.bytes 0 1 = 1 →
    getLe f.bytes 1 1 = f.lane → getLe f.bytes 4 8 % 2 ^ 58 + 1 = s.absTick → ¬ ((s.bayLink f.lane).accepted = true ∧ (s.bayLink f.lane).upTick + 1 = s.absTick) →
    exec (.upstreamFrame f) s = .next (s.acceptFrame f.lane f.lane (s.absTick - 1) (getLe f.bytes 12 2) (getLe f.bytes 14 2) f.bytes)) ∧
  (∀ (b : Nat) (s : State), b < s.nBays → (s.bayLink b).lost = false → (10 ≤ (s.bayLink b).missed ∨ ((s.bayLink b).accepted = true ∧ (s.bayLink b).hubFloated = true ∧ (s.bayLink b).release = false)) → s.st.sync = none →
    ∃ u : State, exec (.bayLinkLost b) s = .next (u.raise { kind := .bayLost, unit := bayUid b }) ∧
      u = { s with md := (if s.served b = true then s.md.floatBay b else (s.md.floatBay b).tripBay b), lk := { s.lk with bays := tmod {} s.lk.bays b (fun l => { l with lost := true, release := false }), linkFloat := true } }) ∧
  (∀ (b : Nat) (s : State), b < s.nBays → (s.bayLink b).lost = true → exec (.bayLinkLost b) s = .next s) ∧
  (∀ (b : Nat) (m : SerialsMsg) (all : List Nat) (s : State), b < s.nBays → m.pos < 384 → m.part = 3 → m.serials.length = 24 → (s.course (b * 384 + m.pos)).hand = true →
    (s.course (b * 384 + m.pos)).parts.length = 3 → s.absTick = (s.course (b * 384 + m.pos)).partTick + 1 → all = (s.course (b * 384 + m.pos)).parts.flatten ++ m.serials → 0 ∉ all →
    s.isFitted (b * 384 + m.pos) = true → (s.course (b * 384 + m.pos)).ctype = s.pierType (b * 384 + m.pos) → s.badCal (b * 384 + m.pos) (s.course (b * 384 + m.pos)).serial (s.course (b * 384 + m.pos)).cal = false →
    s.serialClash (b * 384 + m.pos) all = false → s.voltageFails (b * 384 + m.pos) all ((s.course (b * 384 + m.pos)).codes ++ (List.range 24).map (fun i => m.codes.getD i none)) = false →
    exec (.serials b m) s = .next (s.admitHub (b * 384 + m.pos) all)) ∧
  (∀ (b : Nat) (m : SerialsMsg) (s : State), b < s.nBays → m.pos < 384 → m.part = 3 → m.serials.length = 24 → (s.course (b * 384 + m.pos)).hand = true →
    (s.course (b * 384 + m.pos)).parts.length = 3 → s.absTick = (s.course (b * 384 + m.pos)).partTick + 1 →
    (s.isFitted (b * 384 + m.pos) = false → exec (.serials b m) s = .next (s.refuseUnfitted (b * 384 + m.pos) (s.course (b * 384 + m.pos)).serial)) ∧
    (s.isFitted (b * 384 + m.pos) = true → (s.course (b * 384 + m.pos)).ctype ≠ s.pierType (b * 384 + m.pos) →
      exec (.serials b m) s = .next (s.refuseType (b * 384 + m.pos) (s.course (b * 384 + m.pos)).ctype))) ∧
  (∀ (f : UpFrame) (b : Nat) (s : State), f.lane < s.nBays → (s.bayLink f.lane).trained = true → (s.tile (tileOf f.lane)).phase ≠ .out → f.inTime = true →
    f.bytes.length = 40756 + 6 * getLe f.bytes 12 2 + getLe f.bytes 14 2 → getLe f.bytes (f.bytes.length - 4) 4 = crc32 (f.bytes.take (f.bytes.length - 4)) → getLe f.bytes 0 1 = 1 →
    b = getLe f.bytes 1 1 → b = twin f.lane → b ≠ f.lane → (getLe f.bytes 2 2).testBit 0 = true → getLe f.bytes 4 8 % 2 ^ 58 + 1 = s.absTick → s.frameHere b = false →
    exec (.upstreamFrame f) s = .next { s with lk := { s.lk with held := tset [] s.lk.held b f.bytes } }) ∧
  (∀ (f : UpFrame) (s : State), f.lane < s.nBays → (s.bayLink f.lane).trained = true → (s.tile (tileOf f.lane)).phase ≠ .out → f.inTime = true →
    f.bytes.length = 40756 + 6 * getLe f.bytes 12 2 + getLe f.bytes 14 2 → getLe f.bytes (f.bytes.length - 4) 4 = crc32 (f.bytes.take (f.bytes.length - 4)) → getLe f.bytes 0 1 = 1 →
    let drop := fun (l : BayLink) => { l with nDiscarded := incSat 32 l.nDiscarded }
    (getLe f.bytes 1 1 = f.lane → getLe f.bytes 4 8 % 2 ^ 58 + 1 ≠ s.absTick → exec (.upstreamFrame f) s = .next { s with lk := { s.lk with bays := tmod {} s.lk.bays f.lane drop } }) ∧
    (getLe f.bytes 1 1 = f.lane → getLe f.bytes 4 8 % 2 ^ 58 + 1 = s.absTick → s.frameHere f.lane = true → exec (.upstreamFrame f) s = .next s) ∧
    (getLe f.bytes 1 1 ≠ f.lane → getLe f.bytes 1 1 ≠ twin f.lane →
      exec (.upstreamFrame f) s = .next { s with lk := { s.lk with bays := tmod {} (tmod {} s.lk.bays f.lane (fun l => { l with nMisrouted := incSat 32 l.nMisrouted })) f.lane drop, misrouted := true } })) ∧
  (∀ (f : UpFrame) (s : State), f.lane < s.nBays → (s.bayLink f.lane).trained = false ∨ (s.tile (tileOf f.lane)).phase = .out → exec (.upstreamFrame f) s = .next s) ∧
  (∀ (b lane tick e m : Nat) (bs : List Nat) (s : State), let t := s.acceptFrame b lane tick e m bs
    (t.bayLink b).accepted = true ∧ (t.bayLink b).own = (lane == b) ∧ (t.bayLink b).upTick = tick ∧ (t.bayLink b).missed = 0 ∧ (t.bayLink b).brkClosed = (getLe bs 2 2).testBit 1 ∧
      (t.bayLink b).brkValid = (getLe bs 2 2).testBit 2 ∧ (t.bayLink b).energizeIn = (getLe bs 2 2).testBit 3 ∧ (t.bayLink b).hubFloated = (getLe bs 2 2).testBit 7 ∧ (t.bayLink b).hubTemp = getLeS bs 18 2 ∧
      (∀ j, j ≠ b → t.bayLink j = s.bayLink j) ∧ t.tb = s.tb ∧ t.xp = s.xp ∧ t.rd = s.rd ∧ t.fu = s.fu ∧ t.ftg = s.ftg) ∧
  (∀ (c : Nat) (s : State), twf {} s.rc.bricks = true → let t := s.leaveService c
    (t.course c).phase = .out ∧ (t.course c).hand = false ∧ (t.course c).dark = false ∧ (t.course c).recoveryDue = true ∧ (∀ j, j ≠ c → t.course j = s.course j) ∧
      (∀ x, tget {} t.rc.bricks x = if x / 96 = c ∧ (tget {} s.rc.bricks x).state ≠ .absent then {} else tget {} s.rc.bricks x)) ∧
  (∀ (c : Nat) (serials : List Nat) (s : State), twf 0 s.lk.bound = true → let t := s.admitHub c serials
    (t.course c).phase = .service ∧ (t.course c).hand = false ∧ (t.course c).pending = false ∧ (t.course c).reason = 0 ∧ (t.course c).missing = 0 ∧ (t.course c).dark = false ∧
      (∀ j, j ≠ c → t.course j = s.course j) ∧ (∀ j < 96, tget 0 t.lk.bound (c * 96 + j) = if serials.getD j emptySerial = emptySerial then 0 else serials.getD j emptySerial) ∧
      (t.bayLink (c / 384)).outQ = (s.bayLink (c / 384)).outQ ++ [{ kind := 0x23, pos := c % 384, payload := le 2 (s.prm 0x0701 (c / 384) 8 0 / 5) ++ le 2 (s.prm 0x0701 (c / 384) 9 0 / 5) }]) ∧
  (∀ (b : Nat) (y : Sync) (s : State), b < s.nBays → (s.bayLink b).lost = false → 10 ≤ (s.bayLink b).missed → s.st.sync = some y → y.bay = b → y.closed = false →
    ∃ u : State, exec (.bayLinkLost b) s = .next (u.raise { kind := .bayLost, unit := bayUid b }) ∧ u.st.sync = none ∧ u.st.syncPermit = false ∧ u.lk.linkFloat = true ∧ (u.bayLink b).lost = true)

/-- Link windows, withdrawal and the links' reads (R290, R296, R298, R439). A window is asked for and opens at a boundary, a close closes it at one; a course in service is withdrawn and one that is not refused; a bay's link status and the pending courses read without effect. The numbers of the window kinds, in LINK_WINDOW_OPEN and in the WINDOW_OPEN and WINDOW_CLOSE events, are the model's choice (logs 44, 47). -/
def Obligations.LinkCommands : Prop :=
  (∀ (h : Hdr) (b kind n : Nat) (s : State), HostReady h 0x0A02 s → b < s.nBays → kind ≤ 1 → n ≠ 0 → (s.bayLink b).closed = false →
    AnswersJ (.linkWindowOpen h (bayUid b) kind n) h 0x0A02 s { s with lk := { s.lk with bays := tmod {} s.lk.bays b (fun l => if kind = 0 then { l with openTest := some n } else { l with openMaint := some n }) } } okAns) ∧
  (∀ (h : Hdr) (b n : Nat) (s : State), HostReady h 0x0A02 s → b < s.nBays → n ≠ 0 → (s.bayLink b).closed = true →
    Answers (.linkWindowOpen h (bayUid b) 0 n) h 0x0A02 s s (refuseAns stState 0x0A02 255 (bayUid b))) ∧
  (∀ (h : Hdr) (b : Nat) (s : State), HostReady h 0x0A03 s → b < s.nBays →
    AnswersJ (.linkWindowClose h (bayUid b)) h 0x0A03 s { s with lk := { s.lk with bays := tmod {} s.lk.bays b (fun l => { l with openTest := none, openMaint := none, closeDue := l.test.isSome || l.maint.isSome }) } } okAns) ∧
  (∀ (b n : Nat) (s : State), b < s.nBays → s.tb.idx = 0 → (s.bayLink b).openTest = some n →
    exec (.windowOpen b 1) s = .next { s with lk := { s.lk with bays := tmod {} s.lk.bays b (fun l => { l with test := some (n * 1000000000000), openTest := none }) } }) ∧
  (∀ (b n : Nat) (s : State), b < s.nBays → s.tb.idx = 0 → (s.bayLink b).openMaint = some n →
    exec (.windowOpen b 3) s = .next { s with lk := { s.lk with bays := tmod {} s.lk.bays b (fun l => { l with maint := some (n * 1000000000000), openMaint := none }) } }) ∧
  (∀ (b : Nat) (s : State), b < s.nBays → s.tb.idx = 0 → (s.bayLink b).maint = some 0 →
    exec (.windowClose b 3) s = .next { s with lk := { s.lk with bays := tmod {} s.lk.bays b (fun l => { l with maint := none, closeDue := l.closeDue && l.test.isSome }) } }) ∧
  (∀ (b k : Nat) (s : State), b < s.nBays → s.tb.idx ≠ 0 → exec (.windowOpen b k) s = .next s ∧ exec (.windowClose b k) s = .next s) ∧
  (∀ (h : Hdr) (unit : Nat) (s : State), HostReady h 0x0A04 s → (checkLevel s.nBays 1 unit).1 = 0 →
    (s.course (courseIx (checkLevel s.nBays 1 unit).2.bay (checkLevel s.nBays 1 unit).2.pier (checkLevel s.nBays 1 unit).2.course)).phase = .service →
    AnswersJ (.courseWithdraw h unit) h 0x0A04 s { s with lk := { s.lk with courses := tmod {} s.lk.courses (courseIx (checkLevel s.nBays 1 unit).2.bay (checkLevel s.nBays 1 unit).2.pier (checkLevel s.nBays 1 unit).2.course) (fun k => { k with phase := .withdrawn, withdrawTick := s.absTick, withdrawCycles := 0 }) } } okAns) ∧
  (∀ (h : Hdr) (unit : Nat) (s : State), HostReady h 0x0A04 s → (checkLevel s.nBays 1 unit).1 = 0 →
    (s.course (courseIx (checkLevel s.nBays 1 unit).2.bay (checkLevel s.nBays 1 unit).2.pier (checkLevel s.nBays 1 unit).2.course)).phase = .out →
    Answers (.courseWithdraw h unit) h 0x0A04 s s (refuseAns stState 0x0A04 255 unit)) ∧
  (∀ (h : Hdr) (b kind n : Nat) (s : State), HostReady h 0x0A02 s → b < s.nBays → 1 < kind → Answers (.linkWindowOpen h (bayUid b) kind n) h 0x0A02 s s (refuseAns stRange 0x0A02 255 (bayUid b))) ∧
  (∀ (h : Hdr) (b : Nat) (s : State), HostReady h 0x0A05 s → b < s.nBays → let l := s.bayLink b;
    Answers (.linkStatusRead h (bayUid b)) h 0x0A05 s s
    (okAns (le 4 (b1 l.trained 0 + b1 l.detour 1 + b1 l.xlinkUp 2 + fld l.ringSplit 3 3 + fld l.ringFail 6 3 + b1 l.lost 9) ++ (l.breaks.map (fun p => [p.1 % 256, p.2 % 256])).flatten ++ [0, 0] ++
    ([(s.bayLink b).nMissed, (s.bayLink b).nDiscarded, (s.bayLink b).nDetours, (s.bayLink b).nEscapes, (s.bayLink b).nMisrouted, (s.bayLink b).nBreaks, (s.bayLink b).nDark, (s.bayLink b).nRefused].map (le 4)).flatten))) ∧
  (∀ (h : Hdr) (start max : Nat) (s : State), HostReady h 0x0A06 s → Answers (.linkPendingRead h start max) h 0x0A06 s s (okAns (cursor h.udp 16 start max
    ((s.lk.courses.filter (fun e => e.2.pending || e.2.reason != 0)).map (fun e => le 4 (courseUid e.1) ++ le 8 e.2.offer ++ [e.2.reason, 0, 0, 0]))))) ∧
  (∀ (b : Nat) (s : State), b < s.nBays → s.tb.idx = 0 → (s.bayStart b).phase = .admitting →
    exec (.windowOpen b 0) s = .next { s with lk := { s.lk with bays := tmod {} s.lk.bays b (fun l => { l with startup := true }) } }) ∧
  (∀ (b : Nat) (s : State), b < s.nBays → s.tb.idx = 0 → (s.bayStart b).phase = .energised →
    exec (.windowClose b 0) s = .next { s with lk := { s.lk with bays := tmod {} s.lk.bays b (fun l => { l with startup := false }) } })

/-- The ledger's commands and its mounting (R441, R447, R466, R467, R469, R473). The status read changes nothing; the place of the stop's first page in its reply is the model's reading (log 123); an export is accepted on a free slot over PCIe with a ring in range, refused over UDP, acknowledged and stopped only where one runs; a pair that is bound already answers ST_OK, also where one of its drives has failed; a pair without a plant binding or with a drive of another plant is refused; a mount is taken once an active keystone has passed step 4, and is idle again without a plant. The first page not delivered, which the end of an export names, is the least of the pages still in the ring, of a gap not yet marked and of what comes next. The model's choices, and no rule's words: the mount only after step 4 and the phase 0 until then (log 60), the bind in phase 0 and the readings of own, foreign and failed drives (log 57), the export's refusal on the hold-up bank and what a live start and an acknowledgement count (log 59), the phase a ledger begins to serve in on a STOPPED device (log 54). -/
def Obligations.LedgerCommands : Prop :=
  (∀ (h : Hdr) (s : State), HostReady h 0x0C02 s → Answers (.ledgerStatusRead h) h 0x0C02 s s (okAns (le 4 s.lgStatus ++ le 8 s.lg.seq ++ le 4 s.lg.epoch ++ le 4 s.lg.lost ++ le 4 s.lgDrives ++ le 4 (satU 32 s.retention)))) ∧
  (∀ (h : Hdr) (base order seq : Nat) (s : State), HostReady h 0x0C03 s → h.udp = false → tget none s.lg.exports h.slot = none → s.saving = false → base % 4096 = 0 → 2 ≤ order → order ≤ 12 →
    AnswersJ (.ledgerExport h base order 0 seq) h 0x0C03 s (({ s with lg := { s.lg with prod := tset 0 s.lg.prod h.slot 0, exports := tset none s.lg.exports h.slot (some { base := base, order := order, live := true, next := s.lg.epoch * 2 ^ 48 + s.lg.durable + 1, cons := 0, gap := none, ring := [], markers := [], delivered := 0 }) } } : State).pump h.slot) acceptedAns) ∧
  (∀ (h : Hdr) (base order start seq : Nat) (s : State), HostReady h 0x0C03 s → h.udp = true → Answers (.ledgerExport h base order start seq) h 0x0C03 s s (refuseAns stState 0x0C03 255 0)) ∧
  (∀ (h : Hdr) (cons : Nat) (s : State), HostReady h 0x0C04 s → tget none s.lg.exports h.slot = none → Answers (.ledgerExportAck h cons) h 0x0C04 s s (refuseAns stState 0x0C04 255 0)) ∧
  (∀ (h : Hdr) (cons : Nat) (e : Export) (s : State), HostReady h 0x0C04 s → tget none s.lg.exports h.slot = some e →
    (tget 0 s.lg.prod h.slot + pow32 - e.cons) % pow32 < (cons + pow32 - e.cons) % pow32 → AnswersJ (.ledgerExportAck h cons) h 0x0C04 s s okAns) ∧
  (∀ (h : Hdr) (cons : Nat) (e : Export) (s : State), HostReady h 0x0C04 s → tget none s.lg.exports h.slot = some e → (cons + pow32 - e.cons) % pow32 ≤ (tget 0 s.lg.prod h.slot + pow32 - e.cons) % pow32 →
    let done : List Nat := (List.range ((cons + pow32 - e.cons) % pow32)).map (fun j => (e.cons + j) % pow32); let pages : Nat := (done.filter (fun j => match tget none e.ring j with | some c => c != 0 | none => false)).length;
    AnswersJ (.ledgerExportAck h cons) h 0x0C04 s (({ s with lg := { s.lg with exports := tmod none s.lg.exports h.slot (fun x => x.map (fun (y : Export) => { y with cons := cons % pow32, delivered := satU 32 (y.delivered + pages), ring := tdrop (fun j => done.contains j) y.ring, markers := tdrop (fun j => done.contains j) y.markers })) } } : State).pump h.slot) okAns) ∧
  (∀ (h : Hdr) (s : State), HostReady h 0x0C05 s → tget none s.lg.exports h.slot = none → Answers (.ledgerExportStop h) h 0x0C05 s s (refuseAns stState 0x0C05 255 0)) ∧
  (∀ (h : Hdr) (e : Export) (s : State), HostReady h 0x0C05 s → SlotsInv s → tget none s.lg.exports h.slot = some e →
    AnswersJ (.ledgerExportStop h) h 0x0C05 s (({ s with lg := { s.lg with exports := tset none s.lg.exports h.slot none } } : State).raise { kind := .exportEnded, unit := noUnit, detail := s.lg.firstLeft e % 65536 }) (okAns (le 4 e.delivered ++ le 8 (s.lg.firstLeft e % 2 ^ 64)))) ∧
  (∀ (h : Hdr) (p : Nat) (s : State), HostReady h 0x0C06 s → 8 ≤ p → Answers (.ledgerDriveBind h p) h 0x0C06 s s (refuseAns stRange 0x0C06 255 p)) ∧
  (∀ (h : Hdr) (p : Nat) (s : State), HostReady h 0x0C06 s → p < 8 → s.fu.plantId.isSome = true → s.lg.phase ≠ 0 →
    (∀ d : Nat, (d = 2 * p ∨ d = 2 * p + 1) → (s.drive d).present = true ∧ (s.drive d).supported = true ∧ (s.drive d).failed = false ∧ s.foreignDrive (s.drive d) = false) →
    AnswersJ (.ledgerDriveBind h p) h 0x0C06 s (if s.ownDrive (s.drive (2 * p)) = true ∧ s.ownDrive (s.drive (2 * p + 1)) = true then s else
      let first : Bool := !s.ownDrive (s.drive (2 * p)) && !s.ownDrive (s.drive (2 * p + 1));
      let bound : (Drive → Drive) := fun x => if s.ownDrive x = true then x else { x with block := some { plant := s.fu.plantId.getD [], serial := wordBytes (s.fu.read 1 0 3), pair := p }, copying := !first };
      ({ s with lg := { s.lg with drives := tset {} (tset {} s.lg.drives (2 * p) (bound (s.drive (2 * p)))) (2 * p + 1) (bound (s.drive (2 * p + 1))) } } : State).ledgerPhase.issue) okAns) ∧
  (∀ (h : Hdr) (p : Nat) (s : State), HostReady h 0x0C06 s → p < 8 → s.fu.plantId.isSome = true → s.ownDrive (s.drive (2 * p)) = true → s.ownDrive (s.drive (2 * p + 1)) = true →
    AnswersJ (.ledgerDriveBind h p) h 0x0C06 s s okAns) ∧
  (∀ (h : Hdr) (p : Nat) (s : State), HostReady h 0x0C06 s → p < 8 → (s.fu.plantId = none ∨ s.foreignDrive (s.drive (2 * p)) = true ∨ s.foreignDrive (s.drive (2 * p + 1)) = true) →
    Answers (.ledgerDriveBind h p) h 0x0C06 s s (refuseAns stState 0x0C06 255 p)) ∧
  (∀ (m : MountIn) (s : State), s.rd.haveActive = false → exec (.ledgerMount m) s = .next s) ∧
  (∀ (m : MountIn) (s : State), s.rd.haveActive = true → s.st.step4 = true → s.lg.mounted = false → ∃ t, exec (.ledgerMount m) s = .next t ∧ t.lg.mounted = true ∧ t.lg.takeover = false ∧
    t.xp = s.xp ∧ t.tb = s.tb ∧ t.rc = s.rc) ∧
  (∀ (m : MountIn) (s : State), s.rd.haveActive = true → s.st.step4 = true → s.lg.mounted = false → s.fu.plantId.isNone = true →
    exec (.ledgerMount m) s = .next { s with lg := { s.lg with drives := s.findDrives m.drives, direct := m.direct, mounted := true, takeover := false, ops := [], queue := [], frame := none, cap := none, phase := 0 } }) ∧
  (∀ (h : Hdr) (p : Nat) (s : State), HostReady h 0x0C06 s → SlotsInv s → p < 8 → s.fu.plantId.isSome = true → s.lg.phase = 0 → s.ownDrive (s.drive (2 * p)) = false →
    (∀ d : Nat, (d = 2 * p ∨ d = 2 * p + 1) → (s.drive d).present = true ∧ (s.drive d).supported = true ∧ (s.drive d).failed = false ∧ s.foreignDrive (s.drive d) = false) →
    let first : Bool := !s.ownDrive (s.drive (2 * p + 1));
    let bound : (Drive → Drive) := fun x => if s.ownDrive x = true then x else { x with block := some { plant := s.fu.plantId.getD [], serial := wordBytes (s.fu.read 1 0 3), pair := p }, copying := !first };
    AnswersJ (.ledgerDriveBind h p) h 0x0C06 s (({ s with lg := { s.lg with phase := if s.st.stopped = true then 4 else 2, mounted := true, drives := tset {} (tset {} s.lg.drives (2 * p) (bound (s.drive (2 * p)))) (2 * p + 1) (bound (s.drive (2 * p + 1))) } } : State).newEpoch 1).ledgerPhase okAns) ∧
  (∀ (l : Ledger) (e : Export), l.firstLeft e ≤ e.next ∧ (∀ n k : Nat, (n, some (k + 1)) ∈ e.ring → l.firstLeft e ≤ k) ∧ (∀ g, e.gap = some g → l.firstLeft e ≤ g.1) ∧
    (∀ (k : Nat) (q : Stored), (k, some q) ∈ l.pages → k < e.next → q.durable = false → l.firstLeft e ≤ k) ∧
    (e.ring = [] → e.gap = none → (∀ p ∈ l.pages, ∀ q, p.2 = some q → q.durable = true) → l.firstLeft e = e.next))

/-- Snapshots, event pages and drives (R446, R447, R448, R453, R454, R455, R461, R463). A snapshot falls due once the plant time has passed a multiple of the cadence and begins at the boundary, and is skipped and counted while another is under way or the ledger has stalled; the cadence is four times as long from the first snapshot that falls due under enforcement; a full page of held events is sealed; a write that every copy has completed makes its pages durable, and an event page is followed by a Flush; a command that no drive has changes nothing; a drive's first timeout is a retry and its second a failure; a critical SMART warning fails the drive, low spare only raises the event; a pair that has been copied is whole. What a snapshot due in another phase than 2 does, and the skip at its capture, are the model's choices (log 58). -/
def Obligations.LedgerRows : Prop :=
  (∀ s : State, s.cadence ≠ 0 → s.lg.lastDue < s.tb.pt.ns / 1000000 / s.cadence * s.cadence → s.lg.phase = 2 → s.lg.busy = false →
    exec .snapshotDue s = .next { s with lg := { s.lg with lastDue := s.tb.pt.ns / 1000000 / s.cadence * s.cadence, slowed := s.shedding, due := true } }) ∧
  (∀ s : State, s.tb.pt.ns / 1000000 / s.cadence * s.cadence ≤ s.lg.lastDue → exec .snapshotDue s = .next s) ∧
  (∀ s : State, s.cadence ≠ 0 → s.lg.lastDue < s.tb.pt.ns / 1000000 / s.cadence * s.cadence → s.lg.phase = 3 ∨ (s.lg.phase = 2 ∧ s.lg.busy = true) →
    exec .snapshotDue s = .next { s with lg := { s.lg with lastDue := s.tb.pt.ns / 1000000 / s.cadence * s.cadence, slowed := s.shedding } }.skipSnapshot) ∧
  (∀ s : State, s.lg.due = true → s.tb.idx = 0 → s.lg.phase = 2 → exec .snapshotCapture s = .next { s with lg := { s.lg with due := false, skips := 0, snapshot := (s.lg.snapshot + 1) % pow32, cap := some { cycle := s.tb.cycleNow, flags := b1 s.shedding 1 + b1 (s.lg.skips != 0) 2, stamp := s.tb.stamp, quality := fld s.tb.pt.phase.code 0 2 + b1 s.degraded 2 + b1 s.tb.slewing 3, generation := s.xp.generation, est := s.tb.pt.estRead, entries := [] } } }) ∧
  (∀ s : State, s.lg.due = false → exec .snapshotCapture s = .next s) ∧
  (∀ s : State, s.lg.phase ≠ 2 → s.lg.phase ≠ 4 → exec .eventPageSeal s = .next s) ∧
  (∀ s : State, s.lg.phase = 2 → s.lg.slots ≠ [] → 124 ≤ s.lg.heldSlots → s.lg.seq + 1 < 2 ^ 48 → ∃ t, exec .eventPageSeal s = .next t ∧ t = { s with lg := t.lg } ∧ t.lg.seq = s.lg.seq + 1 ∧
    t.lg.slots = s.lg.slots.drop (fitEvents 124 s.lg.slots).length) ∧
  (∀ (ident d : Nat) (ok : Bool) (s : State), d < 16 → s.lg.ops = [] → exec (.nvmeCompletion ident d ok) s = .next s) ∧
  (∀ (ident d : Nat) (o : NvmeOp) (s : State), d < 16 → s.lg.ops.find? (fun x => x.ident == ident && x.pair == d / 2 && x.waiting.testBit (d % 2)) = some o → setBit o.waiting (d % 2) false ≠ 0 →
    exec (.nvmeCompletion ident d true) s = .next { s with lg := { s.lg with drives := tmod {} s.lg.drives d (fun x => { x with retrying := false }), ops := s.lg.ops.map (fun x => if x.ident = o.ident then { x with waiting := setBit o.waiting (d % 2) false } else x) } }) ∧
  (∀ (d : Nat) (s : State), d < 16 → s.lg.ops.any (fun o => o.pair == d / 2 && o.waiting.testBit (d % 2)) = true → (s.drive d).retrying = false →
    exec (.driveTimeout d) s = .next { s with lg := { s.lg with drives := tmod {} s.lg.drives d (fun x => { x with retrying := true }) } }) ∧
  (∀ (d : Nat) (s : State), d < 16 → s.lg.ops.any (fun o => o.pair == d / 2 && o.waiting.testBit (d % 2)) = true → (s.drive d).retrying = true → (s.drive d).failed = false →
    exec (.driveTimeout d) s = .next (s.failDrive d 0)) ∧
  (∀ (d w : Nat) (s : State), d < 16 → s.driveOk d = true → (w.testBit 2 || w.testBit 3) = true → exec (.smartPoll d w) s = .next (s.failDrive d (if w.testBit 0 then 512 else 0))) ∧
  (∀ (d : Nat) (s : State), d < 16 → s.driveOk d = true → exec (.smartPoll d 1) s = .next (s.raise { kind := .driveFailed, unit := noUnit, detail := d + 512 })) ∧
  (∀ (d : Nat) (s : State), d < 16 → s.driveOk d = true → exec (.smartPoll d 0) s = .next s) ∧
  (∀ (p : Nat) (s : State), p < 8 → ((s.drive (2 * p)).copying || (s.drive (2 * p + 1)).copying) = true → exec (.resilverComplete p) s = .next (({ s with lg := { s.lg with drives := tmod {} (tmod {} s.lg.drives (2 * p) (fun x => { x with copying := false })) (2 * p + 1) (fun x => { x with copying := false }) } } : State).ledgerPhase.raise { kind := .resilvered, unit := noUnit, detail := p })) ∧
  (∀ (p : Nat) (s : State), p < 8 → ((s.drive (2 * p)).copying || (s.drive (2 * p + 1)).copying) = false → exec (.resilverComplete p) s = .next s) ∧
  (∀ (d extra : Nat) (s : State), (s.drive d).failed = false → s.ownDrive (s.drive d) = false → s.lg.ops = [] → s.failDrive d extra = (({ s with lg := { s.lg with driveFail := true, drives := tmod {} s.lg.drives d (fun x => { x with failed := true, retrying := false, copying := false }) } } : State).raise { kind := .driveFailed, unit := noUnit, detail := d + 256 + extra }).ledgerPhase.issue) ∧
  (∀ (ident d : Nat) (o : NvmeOp) (s : State), d < 16 → s.lg.ops.find? (fun x => x.ident == ident && x.pair == d / 2 && x.waiting.testBit (d % 2)) = some o → setBit o.waiting (d % 2) false = 0 →
    s.driveWhole d = true →
    exec (.nvmeCompletion ident d true) s = .next (({ s with lg := { s.lg with drives := tmod {} s.lg.drives d (fun x => { x with retrying := false }) } } : State).finishOp o)) ∧
  (∀ (ident d : Nat) (o : NvmeOp) (s : State), d < 16 → s.lg.ops.find? (fun x => x.ident == ident && x.pair == d / 2 && x.waiting.testBit (d % 2)) = some o →
    exec (.nvmeCompletion ident d false) s = .next (State.failDrive { s with lg := { s.lg with drives := tmod {} s.lg.drives d (fun x => { x with errorReads := incSat 32 x.errorReads }) } } d 0)) ∧
  (∀ s : State, s.lg.due = true → s.tb.idx = 0 → s.lg.phase ≠ 2 → exec .snapshotCapture s = .next (({ s with lg := { s.lg with due := false, skips := satU 16 (s.lg.skips + 1), skipped := true } } : State).raise
    { kind := .snapshotSkipped, unit := noUnit, detail := satU 16 (s.lg.skips + 1) })) ∧
  (∀ s : State, s.cadence = if s.shedding = true ∧ s.lg.slowed = true then Nat.min 600000 (4 * s.prm 0x0C01 0 0 0) else s.prm 0x0C01 0 0 0) ∧
  (∀ s : State, s.skipSnapshot = ({ s with lg := { s.lg with skips := satU 16 (s.lg.skips + 1), skipped := true } } : State).raise { kind := .snapshotSkipped, unit := noUnit, detail := satU 16 (s.lg.skips + 1) }) ∧
  (∀ (o : NvmeOp) (s : State), twf none s.lg.pages = true → s.lg.exports = [] → s.lg.queue = [] →
    let u := s.finishOp o
    let pages := o.pages.foldl (fun (t : Tab (Option Stored)) k => tmod none t k (fun q => q.map (fun (y : Stored) => { y with durable := true }))) s.lg.pages
    let kind := fun (k : Nat) => (tget none pages k).map (fun q => (q.page.kind, q.page.flags.testBit 0))
    u = { s with lg := u.lg } ∧ u.lg.pages = pages ∧ u.lg.durable = (o.pages.filter (fun k => k / 2 ^ 48 == s.lg.epoch)).foldl (fun m k => Nat.max m (k % 2 ^ 48)) s.lg.durable ∧
      ∃ fl : List NvmeOp, u.lg.ops = s.lg.ops.filter (fun x => x.ident != o.ident) ++ fl ∧ (∀ x ∈ fl, x.flush = true ∧ x.pages = []) ∧
        ((∀ k ∈ o.pages, ∀ q, kind k = some q → q.1 ≠ 3 ∧ q.1 ≠ 0x10) → fl = []) ∧
        ((∀ k ∈ o.pages, ∀ q, kind k = some q → q.1 ≠ 3) → (∃ k ∈ o.pages, ∃ f, kind k = some (0x10, f)) → fl.map (fun x => x.pair) = [o.pair]))

/-- Input, hold-up bank and charger (R351, R352, R356, R367, R368, R369, R371, R372). The loss of the input with a charged bank switches over to the bank, ends the exports and starts a safe stop, also while the cascade runs, which goes on from the bank (log 63), and in FOOTING_HOLD; with a bank below its pre-charge level it powers down; its return switches back and leaves a stop running, and starts a device in FOOTING_HOLD at step 1; the cut-off powers down; a bank below its ready level sets hu_low and raises an event where a bay is ENERGISED on the input; the loss of VAON loses the always-on state; the charger goes through its states in order, and a low capacitance is reported. The model's choices, and no rule's words: the bank voltage that a row of the bank or of the charger leaves between two measurements (log 55), the rounding of the estimate and its cap 0xFFFE (log 65). -/
def Obligations.FootingSupplyRows : Prop :=
  (∀ s : State, s.ftg.vinPresent = false → exec .vinLoss s = .next s) ∧
  (∀ s : State, s.ftg.vinPresent = true → s.ftg.phase ≠ .powerdown → s.ftg.bankMv < 2000 → exec .vinLoss s = .next (({ s with ftg := { s.ftg with vinPresent := false, vinOk := false, chans := tmod {} s.ftg.chans 22 (fun x => { x with rail := .inBand }) } } : State).powerDown)) ∧
  (∀ s : State, s.ftg.vinPresent = true → 2000 ≤ s.ftg.bankMv → s.ftg.phase ≠ .powerdown → exec .vinLoss s = .next ((({ s with ftg := { s.ftg with vinPresent := false, vinOk := false, chans := tmod {} s.ftg.chans 22 (fun x => { x with rail := .inBand }), inPath := false, onBank := true, phase := .holdup, switchovers := incSat 16 s.ftg.switchovers, sat := s.ftg.sat || decide (s.ftg.switchovers = 0xFFFF), charger := if s.ftg.charger = .fault then .fault else .off } } : State).startStop 0 false false false).endExports)) ∧
  (∀ s : State, s.ftg.vinPresent = false → s.ftg.phase = .holdup → s.st.devStep ≠ 15 → exec .vinReturn s = .next { s with ftg := { s.ftg with vinPresent := true, vinOk := true, onBank := false, inPath := true, phase := if s.st.devStep = 1 then .sequencing else .running } }) ∧
  (∀ s : State, s.ftg.vinPresent = false → s.ftg.phase = .holdup → s.st.devStep = 15 → s.ftg.enabled = 0 → exec .vinReturn s = .next s.powerOn) ∧
  (∀ s : State, s.ftg.vinPresent = true → s.ftg.phase = .powerdown → exec .vinLoss s = .next { s with ftg := { s.ftg with vinPresent := false, vinOk := false, chans := tmod {} s.ftg.chans 22 (fun x => { x with rail := .inBand }) } }) ∧
  (∀ s : State, s.ftg.vinPresent = true → exec .vinReturn s = .next s) ∧
  (∀ s : State, s.ftg.onBank = true → s.ftg.vinPresent = false → exec .bankCutoff s = .next (({ s with ftg := { s.ftg with bankMv := 5999 } } : State).powerDown)) ∧
  (∀ s : State, s.ftg.onBank = false → exec .bankCutoff s = .next s) ∧
  (∀ s : State, ∃ t, exec .vaonLoss s = .next t ∧ t.ftg = { phase := .powerdown } ∧ t.thm = {} ∧ t.st.cause = 1 ∧ t.fu.words = s.fu.words ∧ t.fu.locks = s.fu.locks ∧ t.pending = s.pending) ∧
  (∀ s : State, s.huReady = true → s.anyEnergised = false → exec .bankBelowReady s = .next { s with ftg := { s.ftg with bankMv := s.ftgWord 5 1 - 1 } }) ∧
  (∀ s : State, s.huReady = true → s.anyEnergised = true → s.ftg.vinPresent = true → exec .bankBelowReady s = .next (({ s with ftg := { s.ftg with bankMv := s.ftgWord 5 1 - 1, huLow := true } } : State).raise { kind := .holdupLow, unit := noUnit })) ∧
  (∀ s : State, s.huReady = false → exec .bankBelowReady s = .next s) ∧
  (∀ s : State, s.ftg.charger = .off → s.chargerMay = true → exec .chargerPrecharge s = .next { s with ftg := { s.ftg with charger := .precharge } }) ∧
  (∀ s : State, s.ftg.charger = .off → 2000 ≤ s.ftg.bankMv → s.chargerMay = true → exec .chargerCc s = .next { s with ftg := { s.ftg with charger := .cc } }) ∧
  (∀ s : State, s.ftg.charger = .done → exec .chargerCv s = .next { s with ftg := { s.ftg with charger := .cv, bankMv := s.ftgWord 5 0 - 300 } }) ∧
  (∀ s : State, s.ftg.charger = .precharge → s.chargerMay = true → exec .chargerCc s = .next { s with ftg := { s.ftg with charger := .cc, bankMv := Nat.max 2000 s.ftg.bankMv } }) ∧
  (∀ s : State, s.ftg.charger = .cc → exec .chargerCv s = .next { s with ftg := { s.ftg with charger := .cv, bankMv := s.ftgWord 5 0 } }) ∧
  (∀ s : State, s.ftg.charger = .cv → exec .chargerDone s = .next { s with ftg := { s.ftg with charger := .done, bankMv := s.ftgWord 5 0 } }) ∧
  (∀ s : State, s.ftg.charger = .cc → exec .chargerFault s = .next (({ s with ftg := { s.ftg with charger := .fault, chgFault := true } } : State).raise { kind := .chargerFault, unit := noUnit })) ∧
  (∀ s : State, s.ftg.charger = .off → exec .chargerFault s = .next s) ∧
  (∀ (ms : Nat) (s : State), s.ftg.charger = .cc → let est : Nat := Nat.min 0xFFFE (divRne (s.ftgWord 4 0 * ms : Nat) 30000).toNat;
    exec (.capEstimate ms) s = .next (if est * 5 < s.ftgWord 6 0 * 4 then ({ s with ftg := { s.ftg with capEst := est, bankMv := 13000, capLow := true } } : State).raise { kind := .capacityLow, unit := noUnit, detail := est }
      else { s with ftg := { s.ftg with capEst := est, bankMv := 13000 } })) ∧
  (∀ (ms : Nat) (s : State), s.ftg.charger ≠ .cc → exec (.capEstimate ms) s = .next s)

/-- The cascade, supervision and the footing's commands (R354, R359, R360, R361, R362, R363, R373, R374, R431). A ready position is recorded and the cascade goes on, the last ending step 1; a position that is late retries three times and then holds the footing. An excursion of a watched rail, or of the present input, is counted once, its return raises one event. Of channels that trip together the severest reaction acts for all: it is recorded, and where it opens gates the die of each stops as TILE_TAKEOVER or a fatal KEYSTONE_LOST stops it, and where it stops the device an immediate safe stop with a reset to follow begins. A retry closes the gate and is counted, and is checked. The reset of a footing fault follows the float blocks or 16 ticks. The reads change nothing; a clear marks its channels for the end of the tick; a restore closes the gate of a latched rail, a tile's where its neighbour carries it, and is refused where the rail is not latched or out of range where the variant has no such rail. The model's choices, and no rule's words: the packing of the events' details, the channel with 256 added for an excursion above (log 30), the reset's place after 16 ticks and before the flush (log 62), channel 22 (log 63). -/
def Obligations.FootingRailRows : Prop :=
  (∀ s : State, s.sequencing = true → s.ftg.waiting = false → s.ftg.position = 9 → s.ftg.enabled.testBit 9 = true → ∃ t, exec .positionReady s = .next t ∧
    t = { s with ftg := { s.ftg with ready := setBit s.ftg.ready 9 true, chans := t.ftg.chans, phase := if s.ftg.onBank then .holdup else .running }, st := { s.st with devStep := 2 } }) ∧
  (∀ s : State, s.sequencing = true → s.ftg.waiting = false → s.ftg.position < 9 → s.ftg.enabled.testBit s.ftg.position = true → let q : Nat := if s.ftg.position = 7 then 9 else s.ftg.position + 1;
    ∃ t, exec .positionReady s = .next t ∧ t = { s with ftg := { s.ftg with ready := setBit s.ftg.ready s.ftg.position true, enabled := setBit s.ftg.enabled q true, position := q, chans := t.ftg.chans } }) ∧
  (∀ (off : Bool) (s : State), s.sequencing = true → s.ftg.waiting = false → tget 0 s.ftg.posRetries s.ftg.position < 3 → ∃ t, exec (.positionTimeout off) s = .next t ∧ t = { s with ftg := { s.ftg with waiting := true, enabled := setBit s.ftg.enabled s.ftg.position false, ready := setBit s.ftg.ready s.ftg.position false, posRetries := tmod 0 s.ftg.posRetries s.ftg.position (· + 1), chans := t.ftg.chans } }) ∧
  (∀ (off : Bool) (s : State), s.sequencing = true → s.ftg.waiting = false → 3 ≤ tget 0 s.ftg.posRetries s.ftg.position → ∃ t, exec (.positionTimeout off) s = .next t ∧ t.st.faultCode = (if s.ftg.position = 9 then (if off then 0x21 else 0x20) else 0x10 + s.ftg.position) ∧
    t.ftg.phase = .hold ∧ t.st.devStep = 15 ∧ t.ftg.aonFault = t.st.faultCode ∧ t.ftg.aonRetries = 3 ∧ t.ev.faultN = true ∧ t.xp = s.xp) ∧
  (∀ s : State, s.sequencing = true → s.ftg.waiting = true → ∃ t, exec .positionRetry s = .next t ∧
    t = { s with ftg := { s.ftg with waiting := false, enabled := setBit s.ftg.enabled s.ftg.position true, chans := t.ftg.chans } }) ∧
  (∀ s : State, s.ftg.phase = .running → ∀ off, exec .positionReady s = .next s ∧ exec (.positionTimeout off) s = .next s ∧ exec .positionRetry s = .next s) ∧
  (∀ (c : Nat) (high : Bool) (s : State), c < 22 → s.watched c = true → (s.chan c).rail = .inBand → exec (.warningExcursion c high) s = .next (({ s with ftg := { s.ftg with chans := tmod {} s.ftg.chans c (fun x => { x with rail := if high then .high else .low }) } } : State).countChan c (if high then 1 else 0))) ∧
  (∀ (high : Bool) (s : State), s.ftg.vinPresent = true → (s.chan 22).rail = .inBand → exec (.warningExcursion 22 high) s = .next (({ s with ftg := { s.ftg with vinOk := false, chans := tmod {} s.ftg.chans 22 (fun x => { x with rail := if high then .high else .low }) } } : State).countChan 22 (if high then 1 else 0))) ∧
  (∀ (high : Bool) (s : State), s.ftg.vinPresent = false → exec (.warningExcursion 22 high) s = .next s) ∧
  (∀ (c k : Nat) (s : State), (s.chan c).counter k ≠ 0xFFFF → s.countChan c k = { s with ftg := { s.ftg with chans := tmod {} s.ftg.chans c (fun x => { (x.setCounter k (incSat 16 (x.counter k))) with tick := x.tick.set k (incSat 16 (x.tick.getD k 0)) }) } }) ∧
  (∀ (c : Nat) (high : Bool) (s : State), c < 22 → s.watched c = false → exec (.warningExcursion c high) s = .next s) ∧
  (∀ (c : Nat) (s : State), c < 22 → (s.chan c).rail = .low → exec (.railReturn c) s = .next (({ s with ftg := { s.ftg with chans := tmod {} s.ftg.chans c (fun x => { x with rail := .inBand, brownout := x.brownout || (s.chan c).rail == .low }), brownoutAny := true } } : State).raise
    { kind := .excursion, unit := noUnit, detail := c })) ∧
  (∀ (c : Nat) (s : State), c < 22 → (s.chan c).rail = .high → exec (.railReturn c) s = .next (({ s with ftg := { s.ftg with chans := tmod {} s.ftg.chans c (fun x => { x with rail := .inBand }), ovWarn := true } } : State).raise
    { kind := .excursion, unit := noUnit, detail := c + 256 })) ∧
  (∀ s : State, (s.chan 22).rail = .low → s.ftg.vinPresent = true → exec (.railReturn 22) s = .next (({ s with ftg := { s.ftg with vinOk := true, chans := tmod {} s.ftg.chans 22 (fun x => { x with rail := .inBand }) } } : State).raise
    { kind := .excursion, unit := noUnit, detail := 22 })) ∧
  (∀ (c : Nat) (s : State), c < 22 → (s.chan c).rail = .inBand → exec (.railReturn c) s = .next s) ∧
  (∀ (cs : List Nat) (high : Bool) (s : State), (∀ c ∈ cs, s.watched c = false) → exec (.supervisorTrip cs high) s = .next s) ∧
  (∀ (c : Nat) (high : Bool) (s : State), c < 22 → s.watched c = true → s.ftg.phase = .running ∨ s.ftg.phase = .holdup → s.st.devStep ≠ 1 → s.reactionCode c = 1 →
    exec (.supervisorTrip [c] high) s = .next { s.countTrip c high with ftg := { (s.countTrip c high).ftg with lastTrip := c, lastReaction := 1, tripSeen := (s.countTrip c high).ftg.tripSeen || decide (c < 14) } }) ∧
  (∀ (c : Nat) (high : Bool) (s : State), c < 14 → s.watched c = true → s.ftg.phase = .running ∨ s.ftg.phase = .holdup → s.st.devStep ≠ 1 → s.reactionCode c = 2 ∨ s.reactionCode c = 3 →
    exec (.supervisorTrip [c] high) s = .next (State.openGate ({ s.countTrip c high with ftg := { (s.countTrip c high).ftg with lastTrip := c, lastReaction := s.reactionCode c, tripSeen := true } } : State) (s.reactionCode c == 3) c)) ∧
  (∀ (c : Nat) (high : Bool) (s : State), c < 22 → s.watched c = true → s.ftg.phase = .running ∨ s.ftg.phase = .holdup → s.st.devStep ≠ 1 → 4 ≤ s.reactionCode c →
    exec (.supervisorTrip [c] high) s = .next (State.footingStop ({ s.countTrip c high with ftg := { (s.countTrip c high).ftg with lastTrip := c, lastReaction := s.reactionCode c, tripSeen := (s.countTrip c high).ftg.tripSeen || decide (c < 14) } } : State))) ∧
  (∀ (c : Nat) (s : State), 14 ≤ c → s.reactionCode c = 5) ∧
  (∀ (c : Nat) (s : State), c < 14 → s.reactionCode c = match s.reaction c with | 0 => 1 | 1 => if (s.chan c).retries.length < 3 then 2 else 3 | 2 => 3 | _ => 4) ∧
  (∀ (c : Nat) (s : State), c < 14 → (s.chan c).offTime = true → exec (.retryOffEnd c) s = .next (({ s with ftg := { s.ftg with chans := tmod {} s.ftg.chans c (fun x => { x with offTime := false, gate := true, checking := true, retries := 0 :: x.retries }) } } : State).countChan c 2)) ∧
  (∀ (c : Nat) (s : State), c < 14 → (s.chan c).offTime = false → exec (.retryOffEnd c) s = .next s) ∧
  (∀ (c : Nat) (s : State), c < 14 → (s.chan c).checking = true → exec (.retryRailCheck c false) s = .next { s with ftg := { s.ftg with chans := tmod {} s.ftg.chans c (fun x => { x with checking := false, gate := false, latched := true }) } }) ∧
  (∀ (c : Nat) (s : State), c < 12 → (s.chan c).checking = true → exec (.retryRailCheck c true) s = .next { s with ftg := { s.ftg with chans := tmod {} s.ftg.chans c (fun x => { x with checking := false, good := true, rail := .inBand }) } }) ∧
  (∀ (c : Nat) (s : State), c = 12 ∨ c = 13 → (s.chan c).checking = true → exec (.retryRailCheck c true) s = .next (({ s with ftg := { s.ftg with chans := tmod {} s.ftg.chans c (fun x => { x with checking := false, good := true, rail := .inBand }) } } : State).keystoneBack (c - 12))) ∧
  (∀ (k : Nat) (s : State), s.rd.haveActive = true → s.rd.active ≠ k → s.st.step4 = true →
    s.keystoneBack k = if s.rd.ksFailed.testBit k = true then s else { s with rd := { s.rd with candidates := setBit s.rd.candidates k true, standby := .booting } }) ∧
  (∀ s : State, s.ftg.resetDue = true → (2 ≤ s.st.stopPhase ∨ 16 ≤ s.ftg.resetAge) → s.ftg.vinPresent = true → exec .footingReset s = .next (s.deviceReset 8)) ∧
  (∀ s : State, s.ftg.resetDue = true → (2 ≤ s.st.stopPhase ∨ 16 ≤ s.ftg.resetAge) → s.ftg.vinPresent = false → exec .footingReset s = .next s.powerDown) ∧
  (∀ s : State, s.st.stopPhase < 2 → s.ftg.resetAge < 16 → exec .footingReset s = .next s) ∧
  (∀ s : State, s.ftg.resetDue = false → exec .footingReset s = .next s) ∧
  (∀ (index : Nat) (s : State), exec (.footingI2cRead index) s = .next { s with ftg := { s.ftg with i2cIndex := index % 65536, i2cRead := s.footingReg (4 * (index % 65536)) % pow32 } }) ∧
  (∀ (h : Hdr) (s : State), HostReady h 0x0202 s → Answers (.footingStatusRead h) h 0x0202 s s (okAns (((List.range 8).map (fun k => le 4 (s.footingReg (4 * k)))).flatten ++
    ((List.range 44).map (fun k => le 4 (s.footingReg (0x100 + 4 * k)))).flatten ++ (s.ftgConfig.map (le 4)).flatten))) ∧
  (∀ (h : Hdr) (m : Nat) (s : State), HostReady h 0x0203 s → AnswersJ (.footingCountersClear h m) h 0x0203 s { s with ftg := { s.ftg with chans := (List.range 22).foldl (fun cs c => if m.testBit c then tmod {} cs c (fun x => { x with clearDue := true }) else cs) s.ftg.chans } } okAns) ∧
  (∀ (h : Hdr) (c : Nat) (s : State), HostReady h 0x0204 s → c < 14 → (c < 12 → c < s.nTiles ∧ (s.tile (neighbour c)).phase = .carrying) → (s.chan c).latched = true → (s.chan c).thermal = false →
    AnswersJ (.footingRailRestore h c) h 0x0204 s { s with ftg := { s.ftg with chans := tmod {} s.ftg.chans c (fun x => { x with latched := false, gate := true, checking := true }) } } okAns) ∧
  (∀ (h : Hdr) (c : Nat) (s : State), HostReady h 0x0204 s → c < 14 → (c < 12 → c < s.nTiles) → (s.chan c).latched = false ∨ (s.chan c).thermal = true ∨ (c < 12 ∧ (s.tile (neighbour c)).phase ≠ .carrying) →
    Answers (.footingRailRestore h c) h 0x0204 s s (refuseAns stState 0x0204 255 c)) ∧
  (∀ (h : Hdr) (c : Nat) (s : State), HostReady h 0x0204 s → 14 ≤ c ∨ (c < 12 ∧ s.nTiles ≤ c) → Answers (.footingRailRestore h c) h 0x0204 s s (refuseAns stRange 0x0204 255 c)) ∧
  (∀ (cs : List Nat) (high : Bool) (s : State), cs ≠ [] → cs.Nodup → (∀ c ∈ cs, c < 22 ∧ s.watched c = true) → s.ftg.phase = .running ∨ s.ftg.phase = .holdup → s.st.devStep ≠ 1 →
    let u := cs.foldl (fun (t : State) c => t.countTrip c high) s
    ∃ w ∈ cs, (∀ c ∈ cs, s.reactionCode c ≤ s.reactionCode w) ∧
      let v : State := { u with ftg := { u.ftg with lastTrip := w, lastReaction := s.reactionCode w, tripSeen := u.ftg.tripSeen || cs.any (fun c => decide (c < 14)) } }
      exec (.supervisorTrip cs high) s = .next (if s.reactionCode w = 1 then v else if s.reactionCode w ≤ 3 then cs.foldl (fun (t : State) c => t.openGate (s.reactionCode w == 3) c) v else v.footingStop)) ∧
  (∀ (c : Nat) (high : Bool) (s : State), ∃ u : State, s.countTrip c high = u.raise { kind := .railTrip, unit := noUnit, detail := c + 256 * u.reactionCode c } ∧ u = { s with ftg := u.ftg } ∧
    (u.chan c).rail = (if high then .tripHigh else .tripLow) ∧ (u.chan c).trip = incSat 16 (s.chan c).trip) ∧
  (∀ (latch : Bool) (c : Nat) (s : State), let u : State := { s with ftg := { s.ftg with chans := tmod {} s.ftg.chans c (fun x => { x with gate := false, good := false, rail := .inBand, checking := false, offTime := !latch, latched := x.latched || latch }) } }
    ((s.openGate latch c).chan c = u.chan c ∧ (u.chan c).gate = false ∧ (u.chan c).offTime = (!latch) ∧ (u.chan c).latched = ((s.chan c).latched || latch)) ∧
    (c < 12 → c < s.nTiles → exec (.tileTakeover c) u = .next (s.openGate latch c)) ∧
    (c = 12 + s.rd.active → s.rd.haveActive = true → exec (.keystoneLost .fatal) u = .next (s.openGate latch c)) ∧
    (12 ≤ c → c ≠ 12 + s.rd.active → s.rd.haveActive = true →
      s.openGate latch c = { u with rd := { s.rd with standby := .absent, shadow := none, journal := [], candidates := setBit s.rd.candidates (1 - s.rd.active) false } })) ∧
  (∀ s : State, let t := s.footingStop
    t.ftg = { s.ftg with resetDue := true, resetAge := if s.ftg.resetDue = true then s.ftg.resetAge else 0 } ∧
    t = { (s.startStop 4 true true (!(s.rd.haveActive && s.watched (12 + s.rd.active) && (s.chan (12 + s.rd.active)).rail == .inBand)) : State) with ftg := t.ftg } ∧
    t.st.resetAfter = true ∧ t.st.immediate = true ∧ t.st.rampLeft = 0 ∧ (t.st.stopPhase = 1 ∨ t.st.stopPhase = 2) ∧ (s.stopping = false → t.st.stopPhase = 1 ∧ t.st.stopCauses = 16))

/-- Fuses: loading, reading, the MAINTAIN state, programming and locks (R442, R476, R477, R479, R480, R481, R482, R487). Fuses are loaded in step 2 only; where every region verifies step 3 begins, a failed region below 4 stops the device with its code, a later one leaves the code and lets step 3 begin; identity and status reads change nothing; a read of a locked or absent region is refused; the MAINTAIN state is entered where nothing forbids it and left after the command under way; a program command outside it is refused, and one that passes its checks opens a journal entry, raises LDO_FUSE and answers later, when its pulses have ended; a lock outside the state is refused; a write lock follows the seal where its margin verify, a free value, succeeds (log 67). Programming never clears a bit. The model's choices, and no rule's words: a program command while one runs answers ST_STATE, the pulses take effect at FUSE_PROGRAM_COMPLETE, and what becomes of an entry whose command was lost (log 66). -/
def Obligations.FuseRows : Prop :=
  (∀ (l : List Nat) (ids : List (Nat × Nat)) (jt : JournalTest) (s : State), s.st.devStep ≠ 2 → exec (.fuseLoad l ids jt) s = .next s) ∧
  (∀ (l : List Nat) (ids : List (Nat × Nat)) (jt : JournalTest) (s : State), s.st.devStep = 2 → let u : State := ((List.range 6).foldl (fun (t : State) r => t.countMarginal r (l.getD r 0)) s).settleJournal jt; let bad : List Nat := (List.range 6).filter (u.fu.fails ids);
    let f : Fuses := { u.fu with fail := sumN (bad.map (fun r => 2 ^ r)) }; let v : State := { u with fu := { f with root := f.rootInUse } };
    exec (.fuseLoad l ids jt) s = .next (match bad with
      | [] => { v with st := { v.st with devStep := 3 } }
      | r :: _ => if r < 4 then ({ v with st := { v.st with faultCode := 0x30 + r, devStep := 15 }, ftg := { v.ftg with aonFault := 0x30 + r } } : State).assertFault
          else { v with st := { v.st with faultCode := 0x30 + r, devStep := 3 }, ftg := { v.ftg with aonFault := 0x30 + r } })) ∧
  (∀ (r n : Nat) (s : State), n ≠ 0 → s.countMarginal r n = ({ s with fu := { s.fu with marginal := tset 0 s.fu.marginal r (satU 16 n), marginalSeen := true } } : State).raise { kind := .fuseMarginal, unit := noUnit, detail := r + 65536 * satU 16 n }) ∧
  (∀ (jt : JournalTest) (r e : Nat) (s : State), (s.fu.entry r e).start = true → (s.fu.entry r e).fin = false → (s.fu.entry r e).copy = none → r * 16 + e ∉ jt.stuck →
    s.settleEntry jt r e = ({ s with fu := { s.fu with journal := tset {} s.fu.journal (r * 16 + e) { s.fu.entry r e with fin := true, marked := true }, marked := true } } : State).raise { kind := .fuseJournal, unit := noUnit, detail := r + 16 * e + 256 }) ∧
  (∀ (h : Hdr) (s : State), HostReady h 0x0D01 s → Answers (.identityRead h) h 0x0D01 s s (okAns (wordBytes (s.fu.read 1 0 3) ++ [s.variant, 0, 0, 0] ++
    (match s.fu.plantId with | some p => p | none => List.replicate 16 0) ++ wordBytes (s.fu.read 1 4 28)))) ∧
  (∀ (h : Hdr) (s : State), HostReady h 0x0D02 s → Answers (.fuseStatusRead h) h 0x0D02 s s (okAns ((List.range 6).map (fun r =>
    [b1 (s.fu.lock r 0) 0 + b1 (s.fu.lock r 1) 1, s.fu.journalState r] ++ le 2 (tget 0 s.fu.marginal r))).flatten)) ∧
  (∀ (h : Hdr) (s : State), HostReady h 0x0D03 s → (∀ b < s.nBays, (s.bayStart b).phase ≠ .syncing ∧ (s.bayStart b).phase ≠ .energised) → s.stopping = false → s.rd.xfer = none → s.fu.maint = false →
    AnswersJ (.fuseMaintEnter h) h 0x0D03 s { s with fu := { s.fu with maint := true, owner := h.slot, leaveDue := false } } okAns) ∧
  (∀ (h : Hdr) (s : State), HostReady h 0x0D03 s → (s.stopping = true ∨ s.rd.xfer.isSome = true ∨ (s.fu.maint = true ∧ s.fu.owner ≠ h.slot) ∨ (∃ b < s.nBays, (s.bayStart b).phase = .syncing ∨ (s.bayStart b).phase = .energised)) → Answers (.fuseMaintEnter h) h 0x0D03 s s (refuseAns stState 0x0D03 255 0)) ∧
  (∀ (h : Hdr) (s : State), HostReady h 0x0D04 s → s.fu.prog = none → AnswersJ (.fuseMaintExit h) h 0x0D04 s { s with fu := { s.fu with maint := false } } okAns) ∧
  (∀ (h : Hdr) (s : State), HostReady h 0x0D04 s → s.fu.prog.isSome = true → AnswersJ (.fuseMaintExit h) h 0x0D04 s { s with fu := { s.fu with leaveDue := s.fu.maint } } okAns) ∧
  (∀ (h : Hdr) (r w n : Nat) (s : State), HostReady h 0x0D05 s → r < 6 → 0 < n → n ≤ 64 → w + n ≤ fuseSize r → s.fu.lock r 1 = false →
    Answers (.fuseRead h r (32 * w) n) h 0x0D05 s s (okAns (wordBytes (s.fu.read r w n)))) ∧
  (∀ (h : Hdr) (r w n : Nat) (s : State), HostReady h 0x0D05 s → 6 ≤ r → Answers (.fuseRead h r w n) h 0x0D05 s s (refuseAns stRange 0x0D05 255 r)) ∧
  (∀ (h : Hdr) (r w n : Nat) (s : State), HostReady h 0x0D05 s → r < 6 → 0 < n → n ≤ 64 → w + n ≤ fuseSize r → s.fu.lock r 1 = true →
    Answers (.fuseRead h r (32 * w) n) h 0x0D05 s s (refuseAns stState 0x0D05 255 r)) ∧
  (∀ (h : Hdr) (r w n : Nat) (data : List Nat) (s : State), HostReady h 0x0D06 s → r < 6 → 0 < n → n ≤ 16 → w + n ≤ fuseSize r → (s.fu.maint = false ∨ s.fu.owner ≠ h.slot ∨ s.fu.prog.isSome = true) →
    Answers (.fuseProgram h r (32 * w) n data) h 0x0D06 s s (refuseAns stState 0x0D06 255 r)) ∧
  (∀ (h : Hdr) (r w n : Nat) (data : List Nat) (s : State), r < 6 → 0 < n → n ≤ 16 → w + n ≤ fuseSize r → s.fu.maint = true → s.fu.owner = h.slot → s.fu.prog = none → (s.fu.refuses r w (data.take n)).1 = 0 →
    exec (.fuseProgram h r (32 * w) n data) s = .next { s with rd := { s.rd with journal := .fuseProgram h r (32 * w) n data :: s.rd.journal }, ftg := { s.ftg with ldoFuse := 2500 }, fu := { s.fu with journal := tset {} s.fu.journal (r * 16 + s.fu.nextEntry r) { start := true, off := w, words := (data.take n).length, crc := crc16 (wordBytes (data.take n)), copy := some (data.take n, crc16 (wordBytes (data.take n))) }, prog := some { region := r, entry := s.fu.nextEntry r, off := w, data := data.take n, slot := h.slot, hdr := h } } }) ∧
  (∀ (h : Hdr) (r w n : Nat) (data : List Nat) (s : State), HostReady h 0x0D06 s → r < 6 → 0 < n → n ≤ 16 → w + n ≤ fuseSize r → s.fu.maint = true → s.fu.owner = h.slot → s.fu.prog = none → (s.fu.refuses r w (data.take n)).1 ≠ 0 →
    Answers (.fuseProgram h r (32 * w) n data) h 0x0D06 s s (refuseAns (s.fu.refuses r w (data.take n)).1 0x0D06 255 (s.fu.refuses r w (data.take n)).2)) ∧
  (∀ (bad weak : List Nat) (s : State), s.fu.prog = none → exec (.fuseProgramComplete bad weak) s = .next s) ∧
  (∀ (bad weak : List Nat) (p : Prog) (s : State), s.fu.prog = some p → ∃ t, exec (.fuseProgramComplete bad weak) s = .next t ∧ t.fu.prog = none ∧ t.fu.words = (s.fu.blow p.region p.off p.data).words ∧
    t.fu.locks = s.fu.locks ∧ t.xp = s.xp ∧ t.md = s.md) ∧
  (∀ (p : Prog) (s : State), s.fu.prog = some p → p.slot ≠ 8 → HostReady p.hdr 0x0D06 s → SlotsInv s → s.fu.leaveDue = false → Answers (.fuseProgramComplete [] []) p.hdr 0x0D06 s
    (({ s with ftg := { s.ftg with ldoFuse := 1800 }, fu := { s.fu.blow p.region p.off p.data with prog := none, journal := tset {} s.fu.journal (p.region * 16 + p.entry) { s.fu.entry p.region p.entry with fin := true, marked := false, resumed := false } } } : State).raise
      { kind := .fuseProgrammed, unit := noUnit, detail := p.region + 256 * p.off + 65536 * sumN ((List.range p.data.length).map (fun i => toBlow ((s.fu.read p.region p.off p.data.length).getD i 0) (p.data.getD i 0))) })
    (okAns (le 2 (sumN ((List.range p.data.length).map (fun i => toBlow ((s.fu.read p.region p.off p.data.length).getD i 0) (p.data.getD i 0)))) ++ le 2 0))) ∧
  (∀ (h : Hdr) (r k : Nat) (s : State), HostReady h 0x0D07 s → r < 6 → k < 2 → (s.fu.maint = false ∨ s.fu.owner ≠ h.slot ∨ s.fu.prog.isSome = true) → Answers (.fuseLock h r k) h 0x0D07 s s (refuseAns stState 0x0D07 255 r)) ∧
  (∀ (h : Hdr) (r : Nat) (s : State), HostReady h 0x0D07 s → SlotsInv s → r < 6 → s.fu.maint = true → s.fu.owner = h.slot → s.fu.prog = none → s.fu.lock r 0 = false →
    let u : State := { s with freeCtr := s.freeCtr + 1, fu := s.fu.blow r (fuseSize r - 1) [s.fu.sealWord r] };
    if Config.freeValue s.freeCtr % 2 ^ 1 = 0 then
      AnswersJ (.fuseLock h r 0) h 0x0D07 s (({ u with fu := { u.fu with locks := tset 0 u.fu.locks (r * 2) 7 } } : State).raise { kind := .fuseLock, unit := noUnit, detail := r }) okAns
    else Answers (.fuseLock h r 0) h 0x0D07 s u { status := stVerify }) ∧
  (∀ (h : Hdr) (r : Nat) (s : State), HostReady h 0x0D07 s → SlotsInv s → (r = 2 ∨ r = 4 ∨ r = 5) → s.fu.maint = true → s.fu.owner = h.slot → s.fu.prog = none → s.fu.lock r 1 = false →
    AnswersJ (.fuseLock h r 1) h 0x0D07 s (({ s with fu := { s.fu with locks := tset 0 s.fu.locks (r * 2 + 1) 7 } } : State).raise { kind := .fuseLock, unit := noUnit, detail := r + 256 * 1 }) okAns) ∧
  (∀ (h : Hdr) (r : Nat) (s : State), HostReady h 0x0D07 s → r < 6 → s.fu.maint = true → s.fu.owner = h.slot → s.fu.prog = none → s.fu.lock r 0 = true →
    Answers (.fuseLock h r 0) h 0x0D07 s s (refuseAns stState 0x0D07 255 r)) ∧
  (∀ (h : Hdr) (r : Nat) (s : State), HostReady h 0x0D07 s → (r = 0 ∨ r = 1 ∨ r = 3) → s.fu.maint = true → s.fu.owner = h.slot → s.fu.prog = none →
    Answers (.fuseLock h r 1) h 0x0D07 s s (refuseAns stState 0x0D07 255 r)) ∧
  (∀ (r off : Nat) (data : List Nat) (f : Fuses), twf 0 f.words = true → (f.blow r off data).locks = f.locks ∧
    (∀ k j, (tget 0 f.words k).testBit j = true → (tget 0 (f.blow r off data).words k).testBit j = true) ∧
    (∀ i < data.length, tget 0 (f.blow r off data).words (r * 128 + off + i) = tget 0 f.words (r * 128 + off + i) ||| data.getD i 0 % 2 ^ 32) ∧
    (∀ k, (∀ i < data.length, k ≠ r * 128 + off + i) → tget 0 (f.blow r off data).words k = tget 0 f.words k))

/-- Die thermal: conversions, sensors, levels and throttling (R381, R382, R383, R384, R386, R389, R444). A conversion touches only the dies; a sensor out of range for four conversions, or stuck, is broken once and recovers after a second of good ones, without an event; while it is not yet broken its readings are shown and judged, in range or not, by the model's reading (log 64); a level goes up by its dwell, SHUTDOWN stays; a die that enters THROTTLE asks for its load to be shed, which every live slot is told, and has its grace from then; one that enters SHUTDOWN is latched off, its tile or keystone stopping, and the second keystone to do so starts a safe stop; a THROTTLE request is enforced only after its grace and at a boundary, and released at one, without an event; a status read starts the peaks afresh and nothing else. -/
def Obligations.ThermalRows : Prop :=
  (∀ (codes : List DieCode) (s : State), ∃ dies, exec (.thermalConversion codes) s = .next { s with thm := { s.thm with dies := dies } } ∧ (codes = [] → dies = s.thm.dies)) ∧
  (∀ (c : DieCode) (s : State), s.dieFitted c.die = false → exec (.thermalConversion [c]) s = .next s) ∧
  (∀ (c : DieCode) (s : State), s.dieFitted c.die = true → exec (.thermalConversion [c]) s = .next { s with thm := { s.thm with dies := tmod {} s.thm.dies c.die (fun x => s.convert x c) } }) ∧
  (∀ (x : Die) (c : DieCode) (s : State), x.bad = false → c.broken = false → (s.convert x c).temp = some c.code ∧ (s.convert x c).outRange = (if codeInRange c = true then 0 else min 4 (x.outRange + 1)) ∧
    (s.convert x c).peak = (match x.peak with | some p => if p < c.code then some c.code else some p | none => some c.code) ∧ (s.convert x c).peakCmd = (match x.peakCmd with | some p => if p < c.code then some c.code else some p | none => some c.code)) ∧
  (∀ (x : Die) (c : DieCode) (s : State), x.bad = false → c.broken = true → (s.convert x c).temp = x.temp ∧ (s.convert x c).outRange = Nat.min 4 (x.outRange + 1) ∧ (s.convert x c).above = [0, 0, 0]) ∧
  (∀ (d : Nat) (s : State), d < 14 → (s.die d).bad = false → s.dieFitted d = true → (4 ≤ (s.die d).outRange ∨ 16000 ≤ (s.die d).stuck) → ∃ u : State, exec (.sensorBroken d) s = .next (u.raise { kind := .sensorFault, unit := noUnit, detail := d }) ∧
    u = { s with thm := { s.thm with dies := tmod {} s.thm.dies d (fun x => { (x.tally 3 : Die) with bad := true, goodRun := 0, varied := false, above := [0, 0, 0], below := [0, 0, 0] }), sensorFaultSeen := true } }) ∧
  (∀ (d : Nat) (s : State), d < 14 → (s.die d).bad = true → exec (.sensorBroken d) s = .next s) ∧
  (∀ (d : Nat) (s : State), d < 14 → (s.die d).bad = true → 4000 ≤ (s.die d).goodRun → (s.die d).varied = true → ∃ x : Die,
    exec (.sensorRecovered d) s = .next { s with thm := { s.thm with dies := tset {} s.thm.dies d x } } ∧ x = s.sensorGood d (s.die d) ∧
    x.bad = false ∧ x.outRange = 0 ∧ x.goodRun = 0 ∧ x.varied = false ∧ x.stuck = (s.die d).stuck ∧ x.level = (s.die d).level ∧ (∀ t, (s.die d).raw = some t → x.temp = some t)) ∧
  (∀ (d : Nat) (s : State), d < 14 → s.levelDue d = (s.die d).level → exec (.thermalLevelChange d) s = .next s) ∧
  (∀ (d : Nat) (s : State), d < 14 → (s.die d).level = .normal → s.levelDue d = .warning → ∃ u : State, u = ({ s with thm := { s.thm with dies := tmod {} s.thm.dies d (fun x => { x with level := .warning }) } } : State).raise
      { kind := .thermalLevel, unit := noUnit, detail := (s.die d).detail d .normal .warning } ∧
    exec (.thermalLevelChange d) s = .next { u with thm := { u.thm with dies := tmod {} u.thm.dies d (fun x => x.tally 0) } }) ∧
  (∀ (d : Nat) (s : State), (s.die d).level = .shutdown → s.levelDue d = .shutdown) ∧
  (∀ (d : Nat) (s : State), d < 14 → (s.die d).level ≠ .throttle → s.levelDue d = .throttle → exec (.thermalLevelChange d) s = .next ((({ s with thm := { s.thm with dies := tmod {} s.thm.dies d (fun x => { x with level := .throttle }) } } : State).raise
      { kind := .thermalLevel, unit := noUnit, detail := (s.die d).detail d (s.die d).level .throttle }).enterThrottle d)) ∧
  (∀ (d : Nat) (s : State), d < 14 → (s.die d).level ≠ .shutdown → s.levelDue d = .shutdown → exec (.thermalLevelChange d) s = .next ((({ s with thm := { s.thm with dies := tmod {} s.thm.dies d (fun x => { x with level := .shutdown }) } } : State).enterShutdown d).raise
      { kind := .thermalLevel, unit := noUnit, detail := (s.die d).detail d (s.die d).level .shutdown })) ∧
  (∀ (d : Nat) (s : State), d < 14 → (s.die d).level = .throttle → (s.die d).request = true → (s.die d).grace = some 0 → (s.die d).bad = false →
    exec (.throttleGraceEnd d) s = .next { s with thm := { s.thm with dies := tmod {} s.thm.dies d (fun x => { x with grace := none, enforceDue := true }) } }) ∧
  (∀ (d : Nat) (s : State), d < 14 → (s.die d).enforceDue = true → s.tb.idx = 0 → (s.die d).bad = false →
    exec (.throttleEnforce d) s = .next { s with thm := { s.thm with dies := tmod {} s.thm.dies d (fun x => { (x.tally 2 : Die) with enforced := true, request := false, enforceDue := false }) } }) ∧
  (∀ (d : Nat) (s : State), d < 14 → (s.die d).releaseDue = true → s.tb.idx = 0 → (s.die d).bad = false →
    exec (.throttleRelease d) s = .next { s with thm := { s.thm with dies := tmod {} s.thm.dies d (fun x => { x with enforced := false, releaseDue := false }) } }) ∧
  (∀ (d : Nat) (s : State), d < 14 → s.tb.idx ≠ 0 → exec (.throttleEnforce d) s = .next s ∧ exec (.throttleRelease d) s = .next s) ∧
  (∀ (h : Hdr) (s : State), HostReady h 0x0F02 s → Answers (.thermalStatusRead h) h 0x0F02 s { s with thm := { s.thm with dies := (s.thm.dies.map (fun e => (e.1, { e.2 with peakCmd := none }))).filter (fun e => e.2 != {}) } } (okAns ((List.range 14).map (fun d => (s.die d).bytes)).flatten)) ∧
  (∀ (x : Die), x.bytes = le 2 (if x.bad then 0x8000 else temp16 x.temp) ++ le 2 (temp16 x.peakCmd) ++ [x.level.code, b1 x.enforced 0 + b1 x.bad 1] ++ le 2 (Nat.min 0xFFFF (graceMs x.grace)) ++ (x.counts.map (le 2)).flatten) ∧
  (∀ (d : Nat) (s : State), s.enterThrottle d = ({ s with thm := { s.thm with throttleSeen := true, dies := tmod {} s.thm.dies d (fun x => { (x.tally 1 : Die) with request := true, grace := some (s.thmWord d 5 * 1000000000), enforceDue := false }) } } : State).raiseLive { kind := .throttleRequest, unit := noUnit, detail := d }) ∧
  (∀ (d : Nat) (s : State), d < 14 →
    let u : State := { s with thm := { s.thm with dies := tmod {} s.thm.dies d (fun x => { x with request := false, grace := none, enforceDue := false, releaseDue := false, enforced := false }) }, ftg := { s.ftg with chans := tmod {} s.ftg.chans d (fun c => { c with gate := false, good := false, rail := .inBand, latched := true, thermal := true, offTime := false, checking := false }) } }
    (d < 12 → d < s.nTiles → exec (.tileTakeover d) u = .next (s.enterShutdown d)) ∧
    (d = 12 + s.rd.active → s.rd.haveActive = true → (u.die (25 - d)).level ≠ .shutdown → exec (.keystoneLost .fatal) u = .next (s.enterShutdown d)) ∧
    (12 ≤ d → d ≠ 12 + s.rd.active → s.rd.haveActive = true → (u.die (25 - d)).level ≠ .shutdown →
      s.enterShutdown d = { u with rd := { s.rd with standby := .absent, shadow := none, journal := [], candidates := setBit s.rd.candidates (1 - s.rd.active) false } }) ∧
    (12 ≤ d → (u.die (25 - d)).level = .shutdown → s.stopping = false → ((s.enterShutdown d).st.stopPhase = 1 ∧ (s.enterShutdown d).st.stopCauses = 4 ∧ (s.enterShutdown d).st.noFlush = true)) ∧
    ((s.enterShutdown d).chan d).latched = true ∧ ((s.enterShutdown d).chan d).gate = false)

/-- How commands arrive: the command ring and the datagrams (R402, R406, R407, R408, R409, R410, R412, R413). A producer index that moves backwards is only counted; while no keystone answers, announced entries wait in order; without entries a forward index is taken alone, and the consumer index is announced in the write-back area of the slot. A datagram for another address or VLAN, a fragment, one of more than 1,472 bytes, or any while no keystone answers changes nothing. Each packet passes the steps of R407 in their order, the first that fails being counted and, but for the first and for a replay, answered where the packet came over PCIe; one that passes them all consumes its sequence and is accepted into its slot's queue at its cost, or executes at once where it has none. That announced entries wait and datagrams are dropped while no keystone answers is the model's choice (log 76), and how many windows a long command takes is a free value (log 140). -/
def Obligations.ArrivalRows : Prop :=
  (∀ (i index : Nat) (es : List (List Nat)) (s : State), i < 8 → backwards (s.slot i).cmdProd (index % pow32) = true →
    exec (.hsCmdProd i index es) s = .next { s with hs := { s.hs with slots := tmod {} s.hs.slots i (fun x => { x with malformed := incSat 32 x.malformed }) } }) ∧
  (∀ (i index : Nat) (es : List (List Nat)) (s : State), i < 8 → backwards (s.slot i).cmdProd (index % pow32) = false → s.answers = false →
    exec (.hsCmdProd i index es) s = .next { s with hs := { s.hs with slots := tmod {} s.hs.slots i (fun x => { x with cmdProd := index % pow32, ringWait := if x.rings.valid then x.ringWait ++ es.take (Nat.min ((index + pow32 - (s.slot i).cmdProd) % pow32) (2 ^ (s.slot i).rings.cmdOrder)) else x.ringWait }) } }) ∧
  (∀ (i index : Nat) (s : State), i < 8 → SlotsInv s → backwards (s.slot i).cmdProd (index % pow32) = false → (s.slot i).ringWait = [] →
    ∃ t, exec (.hsCmdProd i index []) s = .next t ∧ (t.slot i).cmdProd = index % pow32 ∧ (t.slot i).ringWait = [] ∧ (s.answers = true → (t.slot i).cmdCons = index % pow32) ∧ t = { s with hs := { s.hs with slots := t.hs.slots, mem := t.hs.mem } }) ∧
  (∀ (i index : Nat) (es : List (List Nat)) (s : State), i < 8 → backwards (s.slot i).cmdProd (index % pow32) = false → s.answers = true →
    let u : State := { s with hs := { s.hs with slots := tmod {} s.hs.slots i (fun x => { x with cmdProd := index % pow32, ringWait := if x.rings.valid then x.ringWait ++ es.take (Nat.min ((index + pow32 - (s.slot i).cmdProd) % pow32) (2 ^ (s.slot i).rings.cmdOrder)) else x.ringWait }) } };
    exec (.hsCmdProd i index es) s = .next ((u.slot i).ringWait.foldl (fun (t : State) e => t.takePacket false i 0 e) { u with hs := ({ u.hs with slots := tmod {} u.hs.slots i (fun x => { x with ringWait := [], cmdCons := x.cmdProd }) } : HostIf).announce i })) ∧
  (∀ (port peer dst vlan : Nat) (frag : Bool) (bytes : List Nat) (s : State), port < 2 → (s.portIs port dst vlan = false ∨ frag = true ∨ 1472 < bytes.length ∨ s.answers = false) →
    exec (.udpDatagram port peer dst vlan frag bytes) s = .next s) ∧
  (∀ (port peer dst vlan : Nat) (bytes : List Nat) (s : State), port < 2 → s.portIs port dst vlan = true → bytes.length ≤ 1472 → s.answers = true → bytes.length < 32 →
    exec (.udpDatagram port peer dst vlan false bytes) s = .next { s with hs := { s.hs with malformed := incSat 32 s.hs.malformed } }) ∧
  (∀ (port peer dst vlan : Nat) (bytes : List Nat) (s : State), port < 2 → s.portIs port dst vlan = true → bytes.length ≤ 1472 → s.answers = true →
    exec (.udpDatagram port peer dst vlan false bytes) s = .next (s.takePacket true 0 peer bytes)) ∧
  (∀ (i op cost : Nat) (h : Hdr) (c : Instr) (s : State), h.slot = i → cost ≠ 0 → cost * 10 ^ 12 ≤ (s.slot i).bucket → (s.slot i).queue.length < 64 →
    s.admitCmd h op cost c = { s with hs := { s.hs with slots := tmod {} s.hs.slots i (fun x => { x with bucket := x.bucket - cost * 10 ^ 12, idle := 0, queue := x.queue ++ [{ cmd := c, cost := cost, tag := h.tag, left := Config.moreWindows c }] }) } }) ∧
  (∀ (ring peer : Nat) (bs : List Nat) (s : State), bs.length < 32 ∨ (Pkt.parse bs).magic ≠ 0x4F48 ∨ (Pkt.parse bs).kind ≠ 1 →
    s.takePacket true 0 peer bs = { s with hs := { s.hs with malformed := incSat 32 s.hs.malformed } } ∧
    s.takePacket false ring peer bs = { s with hs := { s.hs with slots := tmod {} s.hs.slots ring (fun x => { x with byStep := tmod 0 x.byStep 1 (incSat 32), malformed := incSat 32 x.malformed }) } }) ∧
  (∀ (udp : Bool) (ring peer : Nat) (bs : List Nat) (s : State), 32 ≤ bs.length → (Pkt.parse bs).magic = 0x4F48 → (Pkt.parse bs).kind = 1 →
    let p := Pkt.parse bs
    let i := if udp = true then p.slot else ring
    let h : Hdr := { slot := i, tag := p.tag, gen := p.gen, udp := udp, auth := p.auth, peer := peer }
    let fails := fun (k : Nat) (a : Ans) => if udp = true then s.countStep i k true else (s.countStep i k false).writeReply h p.opcode 0 a .refusal
    (p.version ≠ 1 → s.takePacket udp ring peer bs = fails 2 { status := stBadVersion }) ∧
    (p.version = 1 → s.bound udp ring peer p = false → s.takePacket udp ring peer bs = fails 3 (refuseAns stBadParam p.opcode 255 p.slot)) ∧
    (p.version = 1 → s.bound udp ring peer p = true → s.trailerOk udp i p bs.length = false → s.takePacket udp ring peer bs = fails 4 { status := stAuth }) ∧
    (p.version = 1 → s.bound udp ring peer p = true → s.trailerOk udp i p bs.length = true →
      (p.seq + 64 ≤ (s.slot i).hiSeq ∨ p.seq ∈ (s.slot i).window → s.takePacket udp ring peer bs = s.countStep i 5 udp) ∧
      ((s.slot i).hiSeq < p.seq + 64 → p.seq ∉ (s.slot i).window → s.takePacket udp ring peer bs = ({ s with hs := { s.hs with slots := tmod {} s.hs.slots i (fun x => { x with hiSeq := Nat.max x.hiSeq p.seq, window := (p.seq :: x.window).filter (fun q => decide (Nat.max x.hiSeq p.seq < q + 64)) }) } } : State).checkCmd h p (s.bootOpen udp p)))) ∧
  (∀ (i k : Nat) (udp : Bool) (s : State), s.countStep i k udp = { s with hs := { s.hs with slots := tmod {} s.hs.slots i (fun x => { x with byStep := tmod 0 x.byStep k (incSat 32), authFail := if 3 ≤ k ∧ k ≤ 5 then incSat 32 x.authFail else x.authFail, refused := if 12 ≤ k then incSat 32 x.refused else x.refused, malformed := if k = 1 ∨ (k = 2 ∧ udp = true) then incSat 32 x.malformed else x.malformed }), authFail := s.hs.authFail || k == 4, refused := s.hs.refused || decide (12 ≤ k) } }) ∧
  (∀ (h : Hdr) (p : Pkt) (boot : Bool) (s : State),
    let fails := fun (k : Nat) (a : Ans) => (s.countStep h.slot k h.udp).writeReply h p.opcode 0 a .refusal
    let isOpen : Prop := (s.slot h.slot).phase = (if h.udp = true then SlotPhase.udp else SlotPhase.pcie)
    (p.opcode ≠ 0x0E01 → ¬ isOpen → s.checkCmd h p boot = fails 6 { status := stNoSession }) ∧
    (p.opcode ≠ 0x0E01 → isOpen → p.gen ≠ (s.slot h.slot).gen → s.checkCmd h p boot = fails 7 { status := stRightsChanged }) ∧
    (p.opcode = 0x0E01 ∨ (isOpen ∧ p.gen = (s.slot h.slot).gen) →
      (opRow p.opcode = none → s.checkCmd h p boot = fails 8 { status := stBadOpcode }) ∧
      ∀ r : OpRow, opRow p.opcode = some r →
        (∀ k, r.right = some k → (s.slot h.slot).rights.testBit k = false → s.checkCmd h p boot = fails 9 { status := stDenied }) ∧
        ((∀ k, r.right = some k → (s.slot h.slot).rights.testBit k = true) →
          (p.params.length ≠ p.plen ∨ (if h.udp = true then 1424 else 4048) < p.plen ∨ parseCmd h boot p.opcode p.params = none → s.checkCmd h p boot = fails 10 { status := stBadLength }) ∧
          ∀ c : Instr, p.params.length = p.plen → p.plen ≤ (if h.udp = true then 1424 else 4048) → parseCmd h boot p.opcode p.params = some c →
            (s.tagOut h.slot p.tag = true → s.checkCmd h p boot = if h.udp = true then s.countStep h.slot 11 true else fails 11 (refuseAns stBadParam p.opcode 255 p.tag)) ∧
            (s.tagOut h.slot p.tag = false → s.checkCmd h p boot = s.admitCmd h p.opcode r.cost c)))) ∧
  (∀ (h : Hdr) (op cost : Nat) (c : Instr) (s : State),
    let fails := fun (k : Nat) (a : Ans) => (s.countStep h.slot k h.udp).writeReply h op 0 a .refusal
    (cost = 0 → s.admitCmd h op cost c = runCommand c { s with hs := { s.hs with slots := tmod {} s.hs.slots h.slot (fun x => { x with idle := 0 }) } }) ∧
    ((s.slot h.slot).bucket < cost * 10 ^ 12 → s.admitCmd h op cost c = fails 12 { status := stQueueFull, retry := s.retryTokens h.slot cost }) ∧
    (cost ≠ 0 → cost * 10 ^ 12 ≤ (s.slot h.slot).bucket → 64 ≤ (s.slot h.slot).queue.length → s.admitCmd h op cost c = fails 13 { status := stQueueFull, retry := s.retryQueue }))
end

