-- ==== Sys2Proof/Laws/Host.lean ====
section
/-! SUPPORT. What running a host command does, said once: the provers cite these lemmas rather than unfold `State.host`. -/

namespace Sys2Proof.Machine
open Sys2Proof

theorem State.slot_eq (s : State) (i : Nat) : tget {} s.hs.slots i = s.slot i := rfl

/-- A ready command whose effect leaves the slot open writes its answer as the reply. -/
theorem host_ready {h : Hdr} {op : Nat} {s t : State} {f : State → State × Ans} {a : Ans} (hr : HostReady h op s) (hf : f s = (t, a))
    (ht : (t.slot h.slot).phase ≠ SlotPhase.closed) : s.host h op f = t.writeReply h op (s.qualifier h) a := by
  simp [State.host, hr.1, hf, State.slot_eq, ht]

/-- The same where the effect leaves the host interface alone. -/
theorem host_same {h : Hdr} {op : Nat} {s t : State} {f : State → State × Ans} {a : Ans} (hr : HostReady h op s) (hf : f s = (t, a))
    (ht : t.hs = s.hs) : s.host h op f = t.writeReply h op (s.qualifier h) a :=
  host_ready hr hf (by simpa [State.slot, ht] using hr.2)

/-- An immediate command whose answer is no refusal also enters the journal. -/
theorem hostJ_ready {h : Hdr} {op : Nat} {s t : State} {i : Instr} {f : State → State × Ans} {a : Ans} (hr : HostReady h op s) (hf : f s = (t, a))
    (ha : a.status = stOk ∨ a.status = stAccepted) (ht : (t.slot h.slot).phase ≠ SlotPhase.closed) :
    s.hostJ i h op f = (t.journal i).writeReply h op (s.qualifier h) a :=
  host_ready hr (by simp [hf, ha]) (by simpa [State.slot, State.journal] using ht)

theorem hostJ_same {h : Hdr} {op : Nat} {s t : State} {i : Instr} {f : State → State × Ans} {a : Ans} (hr : HostReady h op s) (hf : f s = (t, a))
    (ha : a.status = stOk ∨ a.status = stAccepted) (ht : t.hs = s.hs) : s.hostJ i h op f = (t.journal i).writeReply h op (s.qualifier h) a :=
  hostJ_ready hr hf ha (by simpa [State.slot, ht] using hr.2)

/-- A host command's whole outcome, from its effect: the form the statements use. -/
theorem answers_same {i : Instr} {h : Hdr} {op : Nat} {s t : State} {f : State → State × Ans} {a : Ans} (hx : exec i s = .next (s.host h op f))
    (hr : HostReady h op s) (ht : t.hs = s.hs) (hf : f s = (t, a)) : Answers i h op s t a :=
  hx.trans (congrArg _ (host_same hr hf ht))

theorem answersJ_same {i : Instr} {h : Hdr} {op : Nat} {s t : State} {f : State → State × Ans} {a : Ans} (hx : exec i s = .next (s.hostJ i h op f))
    (hr : HostReady h op s) (ht : t.hs = s.hs) (ha : a.status = stOk ∨ a.status = stAccepted) (hf : f s = (t, a)) : AnswersJ i h op s t a :=
  hx.trans (congrArg _ (hostJ_same hr hf ha ht))

/-- The same where the effect acts on the host interface and leaves the slot open. -/
theorem answers_open {i : Instr} {h : Hdr} {op : Nat} {s t : State} {f : State → State × Ans} {a : Ans} (hx : exec i s = .next (s.host h op f))
    (hr : HostReady h op s) (ht : (t.slot h.slot).phase ≠ SlotPhase.closed) (hf : f s = (t, a)) : Answers i h op s t a :=
  hx.trans (congrArg _ (host_ready hr hf ht))

theorem answersJ_open {i : Instr} {h : Hdr} {op : Nat} {s t : State} {f : State → State × Ans} {a : Ans} (hx : exec i s = .next (s.hostJ i h op f))
    (hr : HostReady h op s) (ht : (t.slot h.slot).phase ≠ SlotPhase.closed) (ha : a.status = stOk ∨ a.status = stAccepted) (hf : f s = (t, a)) :
    AnswersJ i h op s t a :=
  hx.trans (congrArg _ (hostJ_ready hr hf ha ht))

/-- An immediate command whose answer is a refusal has no effect and does not enter the journal. -/
theorem answersJ_refused {i : Instr} {h : Hdr} {op : Nat} {s : State} {f : State → State × Ans} {a : Ans} (hx : exec i s = .next (s.hostJ i h op f))
    (hr : HostReady h op s) (ha : a.status ≠ stOk) (hb : a.status ≠ stAccepted) (hf : f s = (s, a)) : Answers i h op s s a :=
  hx.trans (congrArg _ (host_ready hr (by simp [hf, ha, hb]) hr.2))

/-- A command the present device step does not allow answers ST_STATE and has no effect (R422). -/
theorem host_early {h : Hdr} {op : Nat} {s : State} {f : State → State × Ans} (ho : s.opAllowed op = false) (hp : (s.slot h.slot).phase ≠ SlotPhase.closed) :
    s.host h op f = s.writeReply h op (s.qualifier h) (refuseAns stState op 255 0) := by
  simp [State.host, ho, State.slot_eq, hp]

/-- On a closed slot the effect stands and the reply is discarded (R412). -/
theorem host_closed {h : Hdr} {op : Nat} {s : State} {f : State → State × Ans} (ho : s.opAllowed op = true) (hp : ((f s).1.slot h.slot).phase = SlotPhase.closed) :
    s.host h op f = (f s).1 := by
  simp [State.host, ho, State.slot_eq, hp]

@[simp] theorem status_ok (p : List Nat) : (okAns p).status = stOk := rfl
@[simp] theorem status_accepted (p : List Nat) : (acceptedAns p).status = stAccepted := rfl

end Sys2Proof.Machine
end

