-- ==== Sys2Proof/Laws/Tab.lean ====
section
/-! SUPPORT. Sparse tables: every operation keeps the canonical form, a read after a write gives the value written, and a write leaves every other key alone. -/

namespace Sys2Proof.Machine
open Sys2Proof

variable {α : Type} [DecidableEq α] {d : α}

theorem twfFrom_mono {t : Tab α} {a b : Nat} (h : a ≤ b) (w : twfFrom d b t = true) : twfFrom d a t = true := by
  cases t with
  | nil => rfl
  | cons e r => simp [twfFrom] at w ⊢; exact ⟨⟨by omega, w.1.2⟩, w.2⟩

/-- A key below every listed one reads the default. -/
theorem tget_of_lt {t : Tab α} {a k : Nat} (h : k < a) (w : twfFrom d a t = true) : tget d t k = d := by
  cases t with
  | nil => rfl
  | cons e r =>
    simp [twfFrom] at w
    have h1 : k ≠ e.1 := by omega
    have h2 : k < e.1 := by omega
    simp [tget, h1, h2]

theorem twfFrom_tset {t : Tab α} {a k : Nat} {v : α} (h : a ≤ k) (w : twfFrom d a t = true) : twfFrom d a (tset d t k v) = true := by
  induction t generalizing a with
  | nil => unfold tset; split <;> simp_all [twfFrom]
  | cons e r ih =>
    simp only [twfFrom, Bool.and_eq_true, decide_eq_true_eq] at w
    simp only [tset]
    split
    · split
      · simp [twfFrom, w]
      · simp [twfFrom, *]
    · split
      · split
        · exact twfFrom_mono (by omega) w.2
        · next hk _ => subst hk; simp [twfFrom, *]
      · simp only [twfFrom, Bool.and_eq_true, decide_eq_true_eq]
        exact ⟨w.1, ih (by omega) w.2⟩

theorem twf_tset {t : Tab α} (k : Nat) (v : α) (w : twf d t = true) : twf d (tset d t k v) = true := twfFrom_tset (Nat.zero_le k) w

theorem twf_tmod {t : Tab α} (k : Nat) (f : α → α) (w : twf d t = true) : twf d (tmod d t k f) = true := twf_tset k _ w

/-- A read after a write to the same key gives the value written. -/
theorem tget_tset_self {t : Tab α} {k : Nat} {v : α} (w : twf d t = true) : tget d (tset d t k v) k = v := by
  have : ∀ (t : Tab α) (a : Nat), twfFrom d a t = true → tget d (tset d t k v) k = v := by
    intro t; induction t with
    | nil => intro a _; simp only [tset]; split <;> simp_all [tget]
    | cons e r ih =>
      intro a w
      simp only [twfFrom, Bool.and_eq_true, decide_eq_true_eq] at w
      simp only [tset]
      split
      · next h => split
                  · next hv => simp [tget, h, Nat.ne_of_lt h, hv]
                  · simp [tget]
      · split
        · next hk => split
                     · next hv => subst hv; subst hk; exact tget_of_lt (Nat.lt_succ_self _) w.2
                     · simp [tget]
        · next h1 h2 => simp only [tget, h1, h2, if_false]; exact ih _ w.2
  exact this t 0 w

/-- A write leaves every other key alone. -/
theorem tget_tset_ne {t : Tab α} {k j : Nat} {v : α} (hj : j ≠ k) (w : twf d t = true) : tget d (tset d t k v) j = tget d t j := by
  have : ∀ (t : Tab α) (a : Nat), twfFrom d a t = true → tget d (tset d t k v) j = tget d t j := by
    intro t; induction t with
    | nil => intro a _; simp only [tset]; split <;> simp [tget, hj]
    | cons e r ih =>
      intro a w
      simp only [twfFrom, Bool.and_eq_true, decide_eq_true_eq] at w
      simp only [tset]
      split
      · next h =>
        split
        · rfl
        · by_cases hl : j < k
          · have h1 : j ≠ e.1 := by omega
            have h2 : j < e.1 := by omega
            simp [tget, hj, hl, h1, h2]
          · simp [tget, hj, hl]
      · split
        · next hk =>
          subst hk
          split
          · by_cases hl : j < e.1
            · rw [tget_of_lt (a := e.1 + 1) (by omega) w.2]; simp [tget, hj, hl]
            · simp [tget, hj, hl]
          · simp [tget, hj]
        · simp only [tget]; split
          · rfl
          · split
            · rfl
            · exact ih _ w.2
  exact this t 0 w

theorem tget_tmod_self {t : Tab α} {k : Nat} {f : α → α} (w : twf d t = true) : tget d (tmod d t k f) k = f (tget d t k) := tget_tset_self w

theorem tget_tmod_ne {t : Tab α} {k j : Nat} {f : α → α} (hj : j ≠ k) (w : twf d t = true) : tget d (tmod d t k f) j = tget d t j := tget_tset_ne hj w

theorem twfFrom_tmapIf {p : Nat → Bool} {f : Nat → α → α} {t : Tab α} {a : Nat} (w : twfFrom d a t = true) : twfFrom d a (tmapIf d p f t) = true := by
  induction t generalizing a with
  | nil => rfl
  | cons e r ih =>
    simp only [twfFrom, Bool.and_eq_true, decide_eq_true_eq] at w
    simp only [tmapIf]
    split
    · split
      · exact ih (twfFrom_mono (by omega) w.2)
      · simp only [twfFrom, Bool.and_eq_true, decide_eq_true_eq]; exact ⟨⟨w.1.1, by assumption⟩, ih w.2⟩
    · simp only [twfFrom, Bool.and_eq_true, decide_eq_true_eq]; exact ⟨w.1, ih w.2⟩

theorem twf_tmapIf {p : Nat → Bool} {f : Nat → α → α} {t : Tab α} (w : twf d t = true) : twf d (tmapIf d p f t) = true := twfFrom_tmapIf w

theorem twf_tmapAll {f : α → α} {t : Tab α} (w : twf d t = true) : twf d (tmapAll d f t) = true := twfFrom_tmapIf w

theorem twfFrom_filter {p : Nat × α → Bool} {t : Tab α} {a : Nat} (w : twfFrom d a t = true) : twfFrom d a (t.filter p) = true := by
  induction t generalizing a with
  | nil => rfl
  | cons e r ih =>
    simp only [twfFrom, Bool.and_eq_true, decide_eq_true_eq] at w
    simp only [List.filter]
    split
    · simp only [twfFrom, Bool.and_eq_true, decide_eq_true_eq]; exact ⟨w.1, ih w.2⟩
    · exact ih (twfFrom_mono (by omega) w.2)

theorem twf_tdrop {p : Nat → Bool} {t : Tab α} (w : twf d t = true) : twf d (tdrop p t) = true := twfFrom_filter w

theorem twf_trange {t : Tab α} {lo n : Nat} (w : twf d t = true) : twf d (trange t lo n) = true := twfFrom_filter w

end Sys2Proof.Machine
end

