-- ==== Sys2Proof/Laws/HostMem.lean ====
section
/-! SUPPORT. What sending to a host does, said once: where a reply or an event goes, what host memory then holds, and that both tables keep their canonical form (R402, R404, R415). -/

namespace Sys2Proof.Machine
open Sys2Proof

section
variable (h : HostIf) (i : Nat)

@[simp] theorem HostIf.signal_slots (v : Nat) : (h.signal v).slots = h.slots := rfl
@[simp] theorem HostIf.signal_mem (v : Nat) : (h.signal v).mem = h.mem := rfl
@[simp] theorem HostIf.put_slots (a : Nat) (bs : List Nat) : (h.put a bs).slots = h.slots := rfl
@[simp] theorem HostIf.put_mem (a : Nat) (bs : List Nat) : (h.put a bs).mem = tset [] h.mem a bs := rfl
@[simp] theorem HostIf.announce_slots : (h.announce i).slots = h.slots := rfl
@[simp] theorem HostIf.announce_mem : (h.announce i).mem = tset [] h.mem (tget {} h.slots i).rings.wb (tget {} h.slots i).writeBack := rfl

/-- The slot of a reply: the packet is sent, or held while the reply ring is full. -/
theorem HostIf.post_slots (udp : Bool) (c : HeldReply) : (h.post i udp c).slots =
    tset {} h.slots i (if udp then { tget {} h.slots i with sent := c.reply.packet i 2 c.key } else if (tget {} h.slots i).replyFull then { tget {} h.slots i with held := (tget {} h.slots i).held ++ [c] }
      else { tget {} h.slots i with sent := c.reply.packet i 2 c.key, rplProd := incWrap 32 (tget {} h.slots i).rplProd }) := by
  simp only [HostIf.post]; split_ifs <;> rfl

/-- Host memory after a reply: unchanged, but for an entry taken over PCIe and the write-back area after it. -/
theorem HostIf.post_mem (w : twf {} h.slots = true) (udp : Bool) (c : HeldReply) : (h.post i udp c).mem =
    if udp then h.mem else if (tget {} h.slots i).replyFull then h.mem
    else tset [] (tset [] h.mem ((tget {} h.slots i).replyAddr (tget {} h.slots i).rplProd) (c.reply.packet i 2 c.key)) (tget {} h.slots i).rings.wb
      ({ tget {} h.slots i with rplProd := incWrap 32 (tget {} h.slots i).rplProd } : Slot).writeBack := by
  simp only [HostIf.post]; split_ifs <;> simp [tget_tset_self w]; rfl

theorem HostIf.put_sorted {h : HostIf} (w : h.Sorted) (a : Nat) (bs : List Nat) : (h.put a bs).Sorted := ⟨w.1, twf_tset _ _ w.2⟩
theorem HostIf.announce_sorted {h : HostIf} (w : h.Sorted) (i : Nat) : (h.announce i).Sorted := HostIf.put_sorted w _ _
theorem HostIf.signal_sorted {h : HostIf} (w : h.Sorted) (v : Nat) : (h.signal v).Sorted := w
theorem HostIf.set_sorted {h : HostIf} (w : h.Sorted) (i : Nat) (x : Slot) : ({ h with slots := tset {} h.slots i x } : HostIf).Sorted := ⟨twf_tset _ _ w.1, w.2⟩

theorem HostIf.post_sorted {h : HostIf} (w : h.Sorted) (i : Nat) (udp : Bool) (c : HeldReply) : (h.post i udp c).Sorted := by
  simp only [HostIf.post]
  split_ifs
  · exact HostIf.set_sorted w _ _
  · exact HostIf.set_sorted w _ _
  · exact HostIf.signal_sorted (HostIf.announce_sorted (HostIf.put_sorted (HostIf.set_sorted w _ _) _ _) _) _

theorem HostIf.flush_sorted {h : HostIf} (w : h.Sorted) (i : Nat) : (h.flush i).Sorted := by
  simp only [HostIf.flush]
  generalize (tget {} h.slots i).held = l
  have w0 := HostIf.set_sorted w i { tget {} h.slots i with held := [] }
  revert w0
  generalize ({ h with slots := tset {} h.slots i { tget {} h.slots i with held := [] } } : HostIf) = g
  induction l generalizing g with
  | nil => exact id
  | cons b l ih => exact fun w0 => ih _ (HostIf.post_sorted w0 _ _ _)

theorem HostIf.deliver_sorted {h : HostIf} (w : h.Sorted) (i : Nat) (force : Bool) (r : EvRec) : (h.deliver i force r).Sorted := by
  have w1 : ∀ (x : Slot) (o : Bool), ({ h with slots := tset {} h.slots i x, evqOverflow := o } : HostIf).Sorted := fun _ _ => ⟨twf_tset _ _ w.1, w.2⟩
  simp only [HostIf.deliver]
  split_ifs
  · exact HostIf.signal_sorted (HostIf.announce_sorted (HostIf.put_sorted (w1 _ _) _ _) _) _
  · exact w1 _ _
  · exact w

theorem HostIf.merge_sorted {h : HostIf} (w : h.Sorted) (i : Nat) (force : Bool) (m : Nat) (r : EvRec) : (h.merge i force m r).Sorted := by
  simp only [HostIf.merge]
  split_ifs
  · exact HostIf.set_sorted w _ _
  · exact HostIf.deliver_sorted w _ _ _
  · exact w

end

/-- An event keeps both tables in their form. -/
theorem State.publish_sorted {s : State} (w : s.hs.Sorted) (e : Evt) (force : Nat → Bool) : (s.publish e force).hs.Sorted := by
  have hf : ∀ (l : List Nat) (g : HostIf), g.Sorted →
      (l.foldl (fun (h : HostIf) i => if s.shedding then h.merge i (force i) (evSources e.kind) (s.stampEvt e) else h.deliver i (force i) (s.stampEvt e)) g).Sorted := by
    intro l
    induction l with
    | nil => exact fun _ hg => hg
    | cons a l ih => exact fun g hg => ih _ (by split_ifs <;> [exact HostIf.merge_sorted hg _ _ _ _; exact HostIf.deliver_sorted hg _ _ _])
  exact hf _ _ w

end Sys2Proof.Machine
end

