-- ==== Sys2Proof/Laws/State.lean ====
section
/-! SUPPORT. What the shared updates of State leave alone: one lemma for each field of State and each named update, so that no proof unfolds the update. -/

namespace Sys2Proof.Machine
open Sys2Proof

section
variable (s : State)

/-! `State.raiseX` -/
@[simp] theorem State.raiseX_pending (e : Evt) (x : List (List Nat)) : (s.raiseX e x).pending = s.pending := rfl
@[simp] theorem State.raiseX_tb (e : Evt) (x : List (List Nat)) : (s.raiseX e x).tb = s.tb := rfl
@[simp] theorem State.raiseX_sp (e : Evt) (x : List (List Nat)) : (s.raiseX e x).sp = s.sp := rfl
@[simp] theorem State.raiseX_xp (e : Evt) (x : List (List Nat)) : (s.raiseX e x).xp = s.xp := rfl
@[simp] theorem State.raiseX_ce (e : Evt) (x : List (List Nat)) : (s.raiseX e x).ce = s.ce := rfl
@[simp] theorem State.raiseX_md (e : Evt) (x : List (List Nat)) : (s.raiseX e x).md = s.md := rfl
@[simp] theorem State.raiseX_rc (e : Evt) (x : List (List Nat)) : (s.raiseX e x).rc = s.rc := rfl
@[simp] theorem State.raiseX_z (e : Evt) (x : List (List Nat)) : (s.raiseX e x).z = s.z := rfl
@[simp] theorem State.raiseX_ld (e : Evt) (x : List (List Nat)) : (s.raiseX e x).ld = s.ld := rfl
@[simp] theorem State.raiseX_lk (e : Evt) (x : List (List Nat)) : (s.raiseX e x).lk = s.lk := rfl
@[simp] theorem State.raiseX_rd (e : Evt) (x : List (List Nat)) : (s.raiseX e x).rd = s.rd := rfl
@[simp] theorem State.raiseX_st (e : Evt) (x : List (List Nat)) : (s.raiseX e x).st = s.st := rfl
@[simp] theorem State.raiseX_ftg (e : Evt) (x : List (List Nat)) : (s.raiseX e x).ftg = s.ftg := rfl
@[simp] theorem State.raiseX_thm (e : Evt) (x : List (List Nat)) : (s.raiseX e x).thm = s.thm := rfl
@[simp] theorem State.raiseX_fu (e : Evt) (x : List (List Nat)) : (s.raiseX e x).fu = s.fu := rfl
@[simp] theorem State.raiseX_sys (e : Evt) (x : List (List Nat)) : (s.raiseX e x).sys = s.sys := rfl
@[simp] theorem State.raiseX_freeCtr (e : Evt) (x : List (List Nat)) : (s.raiseX e x).freeCtr = s.freeCtr := rfl

/-! `State.raise` -/
@[simp] theorem State.raise_pending (e : Evt) : (s.raise e).pending = s.pending := rfl
@[simp] theorem State.raise_tb (e : Evt) : (s.raise e).tb = s.tb := rfl
@[simp] theorem State.raise_sp (e : Evt) : (s.raise e).sp = s.sp := rfl
@[simp] theorem State.raise_xp (e : Evt) : (s.raise e).xp = s.xp := rfl
@[simp] theorem State.raise_ce (e : Evt) : (s.raise e).ce = s.ce := rfl
@[simp] theorem State.raise_md (e : Evt) : (s.raise e).md = s.md := rfl
@[simp] theorem State.raise_rc (e : Evt) : (s.raise e).rc = s.rc := rfl
@[simp] theorem State.raise_z (e : Evt) : (s.raise e).z = s.z := rfl
@[simp] theorem State.raise_ld (e : Evt) : (s.raise e).ld = s.ld := rfl
@[simp] theorem State.raise_lk (e : Evt) : (s.raise e).lk = s.lk := rfl
@[simp] theorem State.raise_rd (e : Evt) : (s.raise e).rd = s.rd := rfl
@[simp] theorem State.raise_st (e : Evt) : (s.raise e).st = s.st := rfl
@[simp] theorem State.raise_ftg (e : Evt) : (s.raise e).ftg = s.ftg := rfl
@[simp] theorem State.raise_thm (e : Evt) : (s.raise e).thm = s.thm := rfl
@[simp] theorem State.raise_fu (e : Evt) : (s.raise e).fu = s.fu := rfl
@[simp] theorem State.raise_sys (e : Evt) : (s.raise e).sys = s.sys := rfl
@[simp] theorem State.raise_freeCtr (e : Evt) : (s.raise e).freeCtr = s.freeCtr := rfl

/-! `State.raiseTo` -/
@[simp] theorem State.raiseTo_pending (i : Nat) (e : Evt) : (s.raiseTo i e).pending = s.pending := rfl
@[simp] theorem State.raiseTo_tb (i : Nat) (e : Evt) : (s.raiseTo i e).tb = s.tb := rfl
@[simp] theorem State.raiseTo_sp (i : Nat) (e : Evt) : (s.raiseTo i e).sp = s.sp := rfl
@[simp] theorem State.raiseTo_xp (i : Nat) (e : Evt) : (s.raiseTo i e).xp = s.xp := rfl
@[simp] theorem State.raiseTo_ce (i : Nat) (e : Evt) : (s.raiseTo i e).ce = s.ce := rfl
@[simp] theorem State.raiseTo_md (i : Nat) (e : Evt) : (s.raiseTo i e).md = s.md := rfl
@[simp] theorem State.raiseTo_rc (i : Nat) (e : Evt) : (s.raiseTo i e).rc = s.rc := rfl
@[simp] theorem State.raiseTo_z (i : Nat) (e : Evt) : (s.raiseTo i e).z = s.z := rfl
@[simp] theorem State.raiseTo_ld (i : Nat) (e : Evt) : (s.raiseTo i e).ld = s.ld := rfl
@[simp] theorem State.raiseTo_lk (i : Nat) (e : Evt) : (s.raiseTo i e).lk = s.lk := rfl
@[simp] theorem State.raiseTo_rd (i : Nat) (e : Evt) : (s.raiseTo i e).rd = s.rd := rfl
@[simp] theorem State.raiseTo_st (i : Nat) (e : Evt) : (s.raiseTo i e).st = s.st := rfl
@[simp] theorem State.raiseTo_ftg (i : Nat) (e : Evt) : (s.raiseTo i e).ftg = s.ftg := rfl
@[simp] theorem State.raiseTo_thm (i : Nat) (e : Evt) : (s.raiseTo i e).thm = s.thm := rfl
@[simp] theorem State.raiseTo_lg (i : Nat) (e : Evt) : (s.raiseTo i e).lg = s.lg := rfl
@[simp] theorem State.raiseTo_fu (i : Nat) (e : Evt) : (s.raiseTo i e).fu = s.fu := rfl
@[simp] theorem State.raiseTo_sys (i : Nat) (e : Evt) : (s.raiseTo i e).sys = s.sys := rfl
@[simp] theorem State.raiseTo_freeCtr (i : Nat) (e : Evt) : (s.raiseTo i e).freeCtr = s.freeCtr := rfl

/-! `State.raiseLive` -/
@[simp] theorem State.raiseLive_pending (e : Evt) : (s.raiseLive e).pending = s.pending := rfl
@[simp] theorem State.raiseLive_tb (e : Evt) : (s.raiseLive e).tb = s.tb := rfl
@[simp] theorem State.raiseLive_sp (e : Evt) : (s.raiseLive e).sp = s.sp := rfl
@[simp] theorem State.raiseLive_xp (e : Evt) : (s.raiseLive e).xp = s.xp := rfl
@[simp] theorem State.raiseLive_ce (e : Evt) : (s.raiseLive e).ce = s.ce := rfl
@[simp] theorem State.raiseLive_md (e : Evt) : (s.raiseLive e).md = s.md := rfl
@[simp] theorem State.raiseLive_rc (e : Evt) : (s.raiseLive e).rc = s.rc := rfl
@[simp] theorem State.raiseLive_z (e : Evt) : (s.raiseLive e).z = s.z := rfl
@[simp] theorem State.raiseLive_ld (e : Evt) : (s.raiseLive e).ld = s.ld := rfl
@[simp] theorem State.raiseLive_lk (e : Evt) : (s.raiseLive e).lk = s.lk := rfl
@[simp] theorem State.raiseLive_rd (e : Evt) : (s.raiseLive e).rd = s.rd := rfl
@[simp] theorem State.raiseLive_st (e : Evt) : (s.raiseLive e).st = s.st := rfl
@[simp] theorem State.raiseLive_ftg (e : Evt) : (s.raiseLive e).ftg = s.ftg := rfl
@[simp] theorem State.raiseLive_thm (e : Evt) : (s.raiseLive e).thm = s.thm := rfl
@[simp] theorem State.raiseLive_lg (e : Evt) : (s.raiseLive e).lg = s.lg := rfl
@[simp] theorem State.raiseLive_fu (e : Evt) : (s.raiseLive e).fu = s.fu := rfl
@[simp] theorem State.raiseLive_sys (e : Evt) : (s.raiseLive e).sys = s.sys := rfl
@[simp] theorem State.raiseLive_freeCtr (e : Evt) : (s.raiseLive e).freeCtr = s.freeCtr := rfl

/-! `State.publish` -/
@[simp] theorem State.publish_pending (e : Evt) (f : Nat → Bool) : (s.publish e f).pending = s.pending := rfl
@[simp] theorem State.publish_tb (e : Evt) (f : Nat → Bool) : (s.publish e f).tb = s.tb := rfl
@[simp] theorem State.publish_sp (e : Evt) (f : Nat → Bool) : (s.publish e f).sp = s.sp := rfl
@[simp] theorem State.publish_xp (e : Evt) (f : Nat → Bool) : (s.publish e f).xp = s.xp := rfl
@[simp] theorem State.publish_ce (e : Evt) (f : Nat → Bool) : (s.publish e f).ce = s.ce := rfl
@[simp] theorem State.publish_md (e : Evt) (f : Nat → Bool) : (s.publish e f).md = s.md := rfl
@[simp] theorem State.publish_rc (e : Evt) (f : Nat → Bool) : (s.publish e f).rc = s.rc := rfl
@[simp] theorem State.publish_z (e : Evt) (f : Nat → Bool) : (s.publish e f).z = s.z := rfl
@[simp] theorem State.publish_ld (e : Evt) (f : Nat → Bool) : (s.publish e f).ld = s.ld := rfl
@[simp] theorem State.publish_lk (e : Evt) (f : Nat → Bool) : (s.publish e f).lk = s.lk := rfl
@[simp] theorem State.publish_rd (e : Evt) (f : Nat → Bool) : (s.publish e f).rd = s.rd := rfl
@[simp] theorem State.publish_st (e : Evt) (f : Nat → Bool) : (s.publish e f).st = s.st := rfl
@[simp] theorem State.publish_ftg (e : Evt) (f : Nat → Bool) : (s.publish e f).ftg = s.ftg := rfl
@[simp] theorem State.publish_thm (e : Evt) (f : Nat → Bool) : (s.publish e f).thm = s.thm := rfl
@[simp] theorem State.publish_lg (e : Evt) (f : Nat → Bool) : (s.publish e f).lg = s.lg := rfl
@[simp] theorem State.publish_fu (e : Evt) (f : Nat → Bool) : (s.publish e f).fu = s.fu := rfl
@[simp] theorem State.publish_sys (e : Evt) (f : Nat → Bool) : (s.publish e f).sys = s.sys := rfl
@[simp] theorem State.publish_freeCtr (e : Evt) (f : Nat → Bool) : (s.publish e f).freeCtr = s.freeCtr := rfl

/-! `State.journal` -/
@[simp] theorem State.journal_pending (i : Instr) : (s.journal i).pending = s.pending := rfl
@[simp] theorem State.journal_tb (i : Instr) : (s.journal i).tb = s.tb := rfl
@[simp] theorem State.journal_sp (i : Instr) : (s.journal i).sp = s.sp := rfl
@[simp] theorem State.journal_xp (i : Instr) : (s.journal i).xp = s.xp := rfl
@[simp] theorem State.journal_ce (i : Instr) : (s.journal i).ce = s.ce := rfl
@[simp] theorem State.journal_md (i : Instr) : (s.journal i).md = s.md := rfl
@[simp] theorem State.journal_rc (i : Instr) : (s.journal i).rc = s.rc := rfl
@[simp] theorem State.journal_z (i : Instr) : (s.journal i).z = s.z := rfl
@[simp] theorem State.journal_ld (i : Instr) : (s.journal i).ld = s.ld := rfl
@[simp] theorem State.journal_lk (i : Instr) : (s.journal i).lk = s.lk := rfl
@[simp] theorem State.journal_st (i : Instr) : (s.journal i).st = s.st := rfl
@[simp] theorem State.journal_ftg (i : Instr) : (s.journal i).ftg = s.ftg := rfl
@[simp] theorem State.journal_thm (i : Instr) : (s.journal i).thm = s.thm := rfl
@[simp] theorem State.journal_hs (i : Instr) : (s.journal i).hs = s.hs := rfl
@[simp] theorem State.journal_lg (i : Instr) : (s.journal i).lg = s.lg := rfl
@[simp] theorem State.journal_fu (i : Instr) : (s.journal i).fu = s.fu := rfl
@[simp] theorem State.journal_ev (i : Instr) : (s.journal i).ev = s.ev := rfl
@[simp] theorem State.journal_sys (i : Instr) : (s.journal i).sys = s.sys := rfl
@[simp] theorem State.journal_freeCtr (i : Instr) : (s.journal i).freeCtr = s.freeCtr := rfl

/-! `State.free` -/
@[simp] theorem State.free_pending (w : Nat) : ((s.free w).2).pending = s.pending := rfl
@[simp] theorem State.free_tb (w : Nat) : ((s.free w).2).tb = s.tb := rfl
@[simp] theorem State.free_sp (w : Nat) : ((s.free w).2).sp = s.sp := rfl
@[simp] theorem State.free_xp (w : Nat) : ((s.free w).2).xp = s.xp := rfl
@[simp] theorem State.free_ce (w : Nat) : ((s.free w).2).ce = s.ce := rfl
@[simp] theorem State.free_md (w : Nat) : ((s.free w).2).md = s.md := rfl
@[simp] theorem State.free_rc (w : Nat) : ((s.free w).2).rc = s.rc := rfl
@[simp] theorem State.free_z (w : Nat) : ((s.free w).2).z = s.z := rfl
@[simp] theorem State.free_ld (w : Nat) : ((s.free w).2).ld = s.ld := rfl
@[simp] theorem State.free_lk (w : Nat) : ((s.free w).2).lk = s.lk := rfl
@[simp] theorem State.free_rd (w : Nat) : ((s.free w).2).rd = s.rd := rfl
@[simp] theorem State.free_st (w : Nat) : ((s.free w).2).st = s.st := rfl
@[simp] theorem State.free_ftg (w : Nat) : ((s.free w).2).ftg = s.ftg := rfl
@[simp] theorem State.free_thm (w : Nat) : ((s.free w).2).thm = s.thm := rfl
@[simp] theorem State.free_hs (w : Nat) : ((s.free w).2).hs = s.hs := rfl
@[simp] theorem State.free_lg (w : Nat) : ((s.free w).2).lg = s.lg := rfl
@[simp] theorem State.free_fu (w : Nat) : ((s.free w).2).fu = s.fu := rfl
@[simp] theorem State.free_ev (w : Nat) : ((s.free w).2).ev = s.ev := rfl
@[simp] theorem State.free_sys (w : Nat) : ((s.free w).2).sys = s.sys := rfl

/-! `State.stage` -/
@[simp] theorem State.stage_pending (k : Nat) (b : Bank) (l : List Nat) : (s.stage k b l).pending = s.pending := rfl
@[simp] theorem State.stage_tb (k : Nat) (b : Bank) (l : List Nat) : (s.stage k b l).tb = s.tb := rfl
@[simp] theorem State.stage_sp (k : Nat) (b : Bank) (l : List Nat) : (s.stage k b l).sp = s.sp := rfl
@[simp] theorem State.stage_ce (k : Nat) (b : Bank) (l : List Nat) : (s.stage k b l).ce = s.ce := rfl
@[simp] theorem State.stage_md (k : Nat) (b : Bank) (l : List Nat) : (s.stage k b l).md = s.md := rfl
@[simp] theorem State.stage_rc (k : Nat) (b : Bank) (l : List Nat) : (s.stage k b l).rc = s.rc := rfl
@[simp] theorem State.stage_z (k : Nat) (b : Bank) (l : List Nat) : (s.stage k b l).z = s.z := rfl
@[simp] theorem State.stage_ld (k : Nat) (b : Bank) (l : List Nat) : (s.stage k b l).ld = s.ld := rfl
@[simp] theorem State.stage_lk (k : Nat) (b : Bank) (l : List Nat) : (s.stage k b l).lk = s.lk := rfl
@[simp] theorem State.stage_rd (k : Nat) (b : Bank) (l : List Nat) : (s.stage k b l).rd = s.rd := rfl
@[simp] theorem State.stage_st (k : Nat) (b : Bank) (l : List Nat) : (s.stage k b l).st = s.st := rfl
@[simp] theorem State.stage_ftg (k : Nat) (b : Bank) (l : List Nat) : (s.stage k b l).ftg = s.ftg := rfl
@[simp] theorem State.stage_thm (k : Nat) (b : Bank) (l : List Nat) : (s.stage k b l).thm = s.thm := rfl
@[simp] theorem State.stage_hs (k : Nat) (b : Bank) (l : List Nat) : (s.stage k b l).hs = s.hs := rfl
@[simp] theorem State.stage_lg (k : Nat) (b : Bank) (l : List Nat) : (s.stage k b l).lg = s.lg := rfl
@[simp] theorem State.stage_fu (k : Nat) (b : Bank) (l : List Nat) : (s.stage k b l).fu = s.fu := rfl
@[simp] theorem State.stage_ev (k : Nat) (b : Bank) (l : List Nat) : (s.stage k b l).ev = s.ev := rfl
@[simp] theorem State.stage_sys (k : Nat) (b : Bank) (l : List Nat) : (s.stage k b l).sys = s.sys := rfl
@[simp] theorem State.stage_freeCtr (k : Nat) (b : Bank) (l : List Nat) : (s.stage k b l).freeCtr = s.freeCtr := rfl

/-! `State.modSlot` -/
@[simp] theorem State.modSlot_pending (i : Nat) (f : Slot → Slot) : (s.modSlot i f).pending = s.pending := rfl
@[simp] theorem State.modSlot_tb (i : Nat) (f : Slot → Slot) : (s.modSlot i f).tb = s.tb := rfl
@[simp] theorem State.modSlot_sp (i : Nat) (f : Slot → Slot) : (s.modSlot i f).sp = s.sp := rfl
@[simp] theorem State.modSlot_xp (i : Nat) (f : Slot → Slot) : (s.modSlot i f).xp = s.xp := rfl
@[simp] theorem State.modSlot_ce (i : Nat) (f : Slot → Slot) : (s.modSlot i f).ce = s.ce := rfl
@[simp] theorem State.modSlot_md (i : Nat) (f : Slot → Slot) : (s.modSlot i f).md = s.md := rfl
@[simp] theorem State.modSlot_rc (i : Nat) (f : Slot → Slot) : (s.modSlot i f).rc = s.rc := rfl
@[simp] theorem State.modSlot_z (i : Nat) (f : Slot → Slot) : (s.modSlot i f).z = s.z := rfl
@[simp] theorem State.modSlot_ld (i : Nat) (f : Slot → Slot) : (s.modSlot i f).ld = s.ld := rfl
@[simp] theorem State.modSlot_lk (i : Nat) (f : Slot → Slot) : (s.modSlot i f).lk = s.lk := rfl
@[simp] theorem State.modSlot_rd (i : Nat) (f : Slot → Slot) : (s.modSlot i f).rd = s.rd := rfl
@[simp] theorem State.modSlot_st (i : Nat) (f : Slot → Slot) : (s.modSlot i f).st = s.st := rfl
@[simp] theorem State.modSlot_ftg (i : Nat) (f : Slot → Slot) : (s.modSlot i f).ftg = s.ftg := rfl
@[simp] theorem State.modSlot_thm (i : Nat) (f : Slot → Slot) : (s.modSlot i f).thm = s.thm := rfl
@[simp] theorem State.modSlot_lg (i : Nat) (f : Slot → Slot) : (s.modSlot i f).lg = s.lg := rfl
@[simp] theorem State.modSlot_fu (i : Nat) (f : Slot → Slot) : (s.modSlot i f).fu = s.fu := rfl
@[simp] theorem State.modSlot_ev (i : Nat) (f : Slot → Slot) : (s.modSlot i f).ev = s.ev := rfl
@[simp] theorem State.modSlot_sys (i : Nat) (f : Slot → Slot) : (s.modSlot i f).sys = s.sys := rfl
@[simp] theorem State.modSlot_freeCtr (i : Nat) (f : Slot → Slot) : (s.modSlot i f).freeCtr = s.freeCtr := rfl

/-! `State.modLink` -/
@[simp] theorem State.modLink_pending (b : Nat) (f : BayLink → BayLink) : (s.modLink b f).pending = s.pending := rfl
@[simp] theorem State.modLink_tb (b : Nat) (f : BayLink → BayLink) : (s.modLink b f).tb = s.tb := rfl
@[simp] theorem State.modLink_sp (b : Nat) (f : BayLink → BayLink) : (s.modLink b f).sp = s.sp := rfl
@[simp] theorem State.modLink_xp (b : Nat) (f : BayLink → BayLink) : (s.modLink b f).xp = s.xp := rfl
@[simp] theorem State.modLink_ce (b : Nat) (f : BayLink → BayLink) : (s.modLink b f).ce = s.ce := rfl
@[simp] theorem State.modLink_md (b : Nat) (f : BayLink → BayLink) : (s.modLink b f).md = s.md := rfl
@[simp] theorem State.modLink_rc (b : Nat) (f : BayLink → BayLink) : (s.modLink b f).rc = s.rc := rfl
@[simp] theorem State.modLink_z (b : Nat) (f : BayLink → BayLink) : (s.modLink b f).z = s.z := rfl
@[simp] theorem State.modLink_ld (b : Nat) (f : BayLink → BayLink) : (s.modLink b f).ld = s.ld := rfl
@[simp] theorem State.modLink_rd (b : Nat) (f : BayLink → BayLink) : (s.modLink b f).rd = s.rd := rfl
@[simp] theorem State.modLink_st (b : Nat) (f : BayLink → BayLink) : (s.modLink b f).st = s.st := rfl
@[simp] theorem State.modLink_ftg (b : Nat) (f : BayLink → BayLink) : (s.modLink b f).ftg = s.ftg := rfl
@[simp] theorem State.modLink_thm (b : Nat) (f : BayLink → BayLink) : (s.modLink b f).thm = s.thm := rfl
@[simp] theorem State.modLink_hs (b : Nat) (f : BayLink → BayLink) : (s.modLink b f).hs = s.hs := rfl
@[simp] theorem State.modLink_lg (b : Nat) (f : BayLink → BayLink) : (s.modLink b f).lg = s.lg := rfl
@[simp] theorem State.modLink_fu (b : Nat) (f : BayLink → BayLink) : (s.modLink b f).fu = s.fu := rfl
@[simp] theorem State.modLink_ev (b : Nat) (f : BayLink → BayLink) : (s.modLink b f).ev = s.ev := rfl
@[simp] theorem State.modLink_sys (b : Nat) (f : BayLink → BayLink) : (s.modLink b f).sys = s.sys := rfl
@[simp] theorem State.modLink_freeCtr (b : Nat) (f : BayLink → BayLink) : (s.modLink b f).freeCtr = s.freeCtr := rfl

/-! `State.modCourse` -/
@[simp] theorem State.modCourse_pending (c : Nat) (f : Course → Course) : (s.modCourse c f).pending = s.pending := rfl
@[simp] theorem State.modCourse_tb (c : Nat) (f : Course → Course) : (s.modCourse c f).tb = s.tb := rfl
@[simp] theorem State.modCourse_sp (c : Nat) (f : Course → Course) : (s.modCourse c f).sp = s.sp := rfl
@[simp] theorem State.modCourse_xp (c : Nat) (f : Course → Course) : (s.modCourse c f).xp = s.xp := rfl
@[simp] theorem State.modCourse_ce (c : Nat) (f : Course → Course) : (s.modCourse c f).ce = s.ce := rfl
@[simp] theorem State.modCourse_md (c : Nat) (f : Course → Course) : (s.modCourse c f).md = s.md := rfl
@[simp] theorem State.modCourse_rc (c : Nat) (f : Course → Course) : (s.modCourse c f).rc = s.rc := rfl
@[simp] theorem State.modCourse_z (c : Nat) (f : Course → Course) : (s.modCourse c f).z = s.z := rfl
@[simp] theorem State.modCourse_ld (c : Nat) (f : Course → Course) : (s.modCourse c f).ld = s.ld := rfl
@[simp] theorem State.modCourse_rd (c : Nat) (f : Course → Course) : (s.modCourse c f).rd = s.rd := rfl
@[simp] theorem State.modCourse_st (c : Nat) (f : Course → Course) : (s.modCourse c f).st = s.st := rfl
@[simp] theorem State.modCourse_ftg (c : Nat) (f : Course → Course) : (s.modCourse c f).ftg = s.ftg := rfl
@[simp] theorem State.modCourse_thm (c : Nat) (f : Course → Course) : (s.modCourse c f).thm = s.thm := rfl
@[simp] theorem State.modCourse_hs (c : Nat) (f : Course → Course) : (s.modCourse c f).hs = s.hs := rfl
@[simp] theorem State.modCourse_lg (c : Nat) (f : Course → Course) : (s.modCourse c f).lg = s.lg := rfl
@[simp] theorem State.modCourse_fu (c : Nat) (f : Course → Course) : (s.modCourse c f).fu = s.fu := rfl
@[simp] theorem State.modCourse_ev (c : Nat) (f : Course → Course) : (s.modCourse c f).ev = s.ev := rfl
@[simp] theorem State.modCourse_sys (c : Nat) (f : Course → Course) : (s.modCourse c f).sys = s.sys := rfl
@[simp] theorem State.modCourse_freeCtr (c : Nat) (f : Course → Course) : (s.modCourse c f).freeCtr = s.freeCtr := rfl

/-! `State.modChan` -/
@[simp] theorem State.modChan_pending (c : Nat) (f : Chan → Chan) : (s.modChan c f).pending = s.pending := rfl
@[simp] theorem State.modChan_tb (c : Nat) (f : Chan → Chan) : (s.modChan c f).tb = s.tb := rfl
@[simp] theorem State.modChan_sp (c : Nat) (f : Chan → Chan) : (s.modChan c f).sp = s.sp := rfl
@[simp] theorem State.modChan_xp (c : Nat) (f : Chan → Chan) : (s.modChan c f).xp = s.xp := rfl
@[simp] theorem State.modChan_ce (c : Nat) (f : Chan → Chan) : (s.modChan c f).ce = s.ce := rfl
@[simp] theorem State.modChan_md (c : Nat) (f : Chan → Chan) : (s.modChan c f).md = s.md := rfl
@[simp] theorem State.modChan_rc (c : Nat) (f : Chan → Chan) : (s.modChan c f).rc = s.rc := rfl
@[simp] theorem State.modChan_z (c : Nat) (f : Chan → Chan) : (s.modChan c f).z = s.z := rfl
@[simp] theorem State.modChan_ld (c : Nat) (f : Chan → Chan) : (s.modChan c f).ld = s.ld := rfl
@[simp] theorem State.modChan_lk (c : Nat) (f : Chan → Chan) : (s.modChan c f).lk = s.lk := rfl
@[simp] theorem State.modChan_rd (c : Nat) (f : Chan → Chan) : (s.modChan c f).rd = s.rd := rfl
@[simp] theorem State.modChan_st (c : Nat) (f : Chan → Chan) : (s.modChan c f).st = s.st := rfl
@[simp] theorem State.modChan_thm (c : Nat) (f : Chan → Chan) : (s.modChan c f).thm = s.thm := rfl
@[simp] theorem State.modChan_hs (c : Nat) (f : Chan → Chan) : (s.modChan c f).hs = s.hs := rfl
@[simp] theorem State.modChan_lg (c : Nat) (f : Chan → Chan) : (s.modChan c f).lg = s.lg := rfl
@[simp] theorem State.modChan_fu (c : Nat) (f : Chan → Chan) : (s.modChan c f).fu = s.fu := rfl
@[simp] theorem State.modChan_ev (c : Nat) (f : Chan → Chan) : (s.modChan c f).ev = s.ev := rfl
@[simp] theorem State.modChan_sys (c : Nat) (f : Chan → Chan) : (s.modChan c f).sys = s.sys := rfl
@[simp] theorem State.modChan_freeCtr (c : Nat) (f : Chan → Chan) : (s.modChan c f).freeCtr = s.freeCtr := rfl

/-! `State.modDie` -/
@[simp] theorem State.modDie_pending (d : Nat) (f : Die → Die) : (s.modDie d f).pending = s.pending := rfl
@[simp] theorem State.modDie_tb (d : Nat) (f : Die → Die) : (s.modDie d f).tb = s.tb := rfl
@[simp] theorem State.modDie_sp (d : Nat) (f : Die → Die) : (s.modDie d f).sp = s.sp := rfl
@[simp] theorem State.modDie_xp (d : Nat) (f : Die → Die) : (s.modDie d f).xp = s.xp := rfl
@[simp] theorem State.modDie_ce (d : Nat) (f : Die → Die) : (s.modDie d f).ce = s.ce := rfl
@[simp] theorem State.modDie_md (d : Nat) (f : Die → Die) : (s.modDie d f).md = s.md := rfl
@[simp] theorem State.modDie_rc (d : Nat) (f : Die → Die) : (s.modDie d f).rc = s.rc := rfl
@[simp] theorem State.modDie_z (d : Nat) (f : Die → Die) : (s.modDie d f).z = s.z := rfl
@[simp] theorem State.modDie_ld (d : Nat) (f : Die → Die) : (s.modDie d f).ld = s.ld := rfl
@[simp] theorem State.modDie_lk (d : Nat) (f : Die → Die) : (s.modDie d f).lk = s.lk := rfl
@[simp] theorem State.modDie_rd (d : Nat) (f : Die → Die) : (s.modDie d f).rd = s.rd := rfl
@[simp] theorem State.modDie_st (d : Nat) (f : Die → Die) : (s.modDie d f).st = s.st := rfl
@[simp] theorem State.modDie_ftg (d : Nat) (f : Die → Die) : (s.modDie d f).ftg = s.ftg := rfl
@[simp] theorem State.modDie_hs (d : Nat) (f : Die → Die) : (s.modDie d f).hs = s.hs := rfl
@[simp] theorem State.modDie_lg (d : Nat) (f : Die → Die) : (s.modDie d f).lg = s.lg := rfl
@[simp] theorem State.modDie_fu (d : Nat) (f : Die → Die) : (s.modDie d f).fu = s.fu := rfl
@[simp] theorem State.modDie_ev (d : Nat) (f : Die → Die) : (s.modDie d f).ev = s.ev := rfl
@[simp] theorem State.modDie_sys (d : Nat) (f : Die → Die) : (s.modDie d f).sys = s.sys := rfl
@[simp] theorem State.modDie_freeCtr (d : Nat) (f : Die → Die) : (s.modDie d f).freeCtr = s.freeCtr := rfl

/-! `State.modTile` -/
@[simp] theorem State.modTile_pending (t : Nat) (f : Tile → Tile) : (s.modTile t f).pending = s.pending := rfl
@[simp] theorem State.modTile_tb (t : Nat) (f : Tile → Tile) : (s.modTile t f).tb = s.tb := rfl
@[simp] theorem State.modTile_sp (t : Nat) (f : Tile → Tile) : (s.modTile t f).sp = s.sp := rfl
@[simp] theorem State.modTile_xp (t : Nat) (f : Tile → Tile) : (s.modTile t f).xp = s.xp := rfl
@[simp] theorem State.modTile_ce (t : Nat) (f : Tile → Tile) : (s.modTile t f).ce = s.ce := rfl
@[simp] theorem State.modTile_md (t : Nat) (f : Tile → Tile) : (s.modTile t f).md = s.md := rfl
@[simp] theorem State.modTile_rc (t : Nat) (f : Tile → Tile) : (s.modTile t f).rc = s.rc := rfl
@[simp] theorem State.modTile_z (t : Nat) (f : Tile → Tile) : (s.modTile t f).z = s.z := rfl
@[simp] theorem State.modTile_ld (t : Nat) (f : Tile → Tile) : (s.modTile t f).ld = s.ld := rfl
@[simp] theorem State.modTile_lk (t : Nat) (f : Tile → Tile) : (s.modTile t f).lk = s.lk := rfl
@[simp] theorem State.modTile_st (t : Nat) (f : Tile → Tile) : (s.modTile t f).st = s.st := rfl
@[simp] theorem State.modTile_ftg (t : Nat) (f : Tile → Tile) : (s.modTile t f).ftg = s.ftg := rfl
@[simp] theorem State.modTile_thm (t : Nat) (f : Tile → Tile) : (s.modTile t f).thm = s.thm := rfl
@[simp] theorem State.modTile_hs (t : Nat) (f : Tile → Tile) : (s.modTile t f).hs = s.hs := rfl
@[simp] theorem State.modTile_lg (t : Nat) (f : Tile → Tile) : (s.modTile t f).lg = s.lg := rfl
@[simp] theorem State.modTile_fu (t : Nat) (f : Tile → Tile) : (s.modTile t f).fu = s.fu := rfl
@[simp] theorem State.modTile_ev (t : Nat) (f : Tile → Tile) : (s.modTile t f).ev = s.ev := rfl
@[simp] theorem State.modTile_sys (t : Nat) (f : Tile → Tile) : (s.modTile t f).sys = s.sys := rfl
@[simp] theorem State.modTile_freeCtr (t : Nat) (f : Tile → Tile) : (s.modTile t f).freeCtr = s.freeCtr := rfl

/-! `State.modExport` -/
@[simp] theorem State.modExport_pending (i : Nat) (f : Export → Export) : (s.modExport i f).pending = s.pending := rfl
@[simp] theorem State.modExport_tb (i : Nat) (f : Export → Export) : (s.modExport i f).tb = s.tb := rfl
@[simp] theorem State.modExport_sp (i : Nat) (f : Export → Export) : (s.modExport i f).sp = s.sp := rfl
@[simp] theorem State.modExport_xp (i : Nat) (f : Export → Export) : (s.modExport i f).xp = s.xp := rfl
@[simp] theorem State.modExport_ce (i : Nat) (f : Export → Export) : (s.modExport i f).ce = s.ce := rfl
@[simp] theorem State.modExport_md (i : Nat) (f : Export → Export) : (s.modExport i f).md = s.md := rfl
@[simp] theorem State.modExport_rc (i : Nat) (f : Export → Export) : (s.modExport i f).rc = s.rc := rfl
@[simp] theorem State.modExport_z (i : Nat) (f : Export → Export) : (s.modExport i f).z = s.z := rfl
@[simp] theorem State.modExport_ld (i : Nat) (f : Export → Export) : (s.modExport i f).ld = s.ld := rfl
@[simp] theorem State.modExport_lk (i : Nat) (f : Export → Export) : (s.modExport i f).lk = s.lk := rfl
@[simp] theorem State.modExport_rd (i : Nat) (f : Export → Export) : (s.modExport i f).rd = s.rd := rfl
@[simp] theorem State.modExport_st (i : Nat) (f : Export → Export) : (s.modExport i f).st = s.st := rfl
@[simp] theorem State.modExport_ftg (i : Nat) (f : Export → Export) : (s.modExport i f).ftg = s.ftg := rfl
@[simp] theorem State.modExport_thm (i : Nat) (f : Export → Export) : (s.modExport i f).thm = s.thm := rfl
@[simp] theorem State.modExport_hs (i : Nat) (f : Export → Export) : (s.modExport i f).hs = s.hs := rfl
@[simp] theorem State.modExport_fu (i : Nat) (f : Export → Export) : (s.modExport i f).fu = s.fu := rfl
@[simp] theorem State.modExport_ev (i : Nat) (f : Export → Export) : (s.modExport i f).ev = s.ev := rfl
@[simp] theorem State.modExport_sys (i : Nat) (f : Export → Export) : (s.modExport i f).sys = s.sys := rfl
@[simp] theorem State.modExport_freeCtr (i : Nat) (f : Export → Export) : (s.modExport i f).freeCtr = s.freeCtr := rfl

/-! `State.startBay` -/
@[simp] theorem State.startBay_pending (b : Nat) (p : StartPhase) (r : Nat) : (s.startBay b p r).pending = s.pending := rfl
@[simp] theorem State.startBay_tb (b : Nat) (p : StartPhase) (r : Nat) : (s.startBay b p r).tb = s.tb := rfl
@[simp] theorem State.startBay_sp (b : Nat) (p : StartPhase) (r : Nat) : (s.startBay b p r).sp = s.sp := rfl
@[simp] theorem State.startBay_xp (b : Nat) (p : StartPhase) (r : Nat) : (s.startBay b p r).xp = s.xp := rfl
@[simp] theorem State.startBay_ce (b : Nat) (p : StartPhase) (r : Nat) : (s.startBay b p r).ce = s.ce := rfl
@[simp] theorem State.startBay_md (b : Nat) (p : StartPhase) (r : Nat) : (s.startBay b p r).md = s.md := rfl
@[simp] theorem State.startBay_rc (b : Nat) (p : StartPhase) (r : Nat) : (s.startBay b p r).rc = s.rc := rfl
@[simp] theorem State.startBay_z (b : Nat) (p : StartPhase) (r : Nat) : (s.startBay b p r).z = s.z := rfl
@[simp] theorem State.startBay_ld (b : Nat) (p : StartPhase) (r : Nat) : (s.startBay b p r).ld = s.ld := rfl
@[simp] theorem State.startBay_lk (b : Nat) (p : StartPhase) (r : Nat) : (s.startBay b p r).lk = s.lk := rfl
@[simp] theorem State.startBay_rd (b : Nat) (p : StartPhase) (r : Nat) : (s.startBay b p r).rd = s.rd := rfl
@[simp] theorem State.startBay_ftg (b : Nat) (p : StartPhase) (r : Nat) : (s.startBay b p r).ftg = s.ftg := rfl
@[simp] theorem State.startBay_thm (b : Nat) (p : StartPhase) (r : Nat) : (s.startBay b p r).thm = s.thm := rfl
@[simp] theorem State.startBay_hs (b : Nat) (p : StartPhase) (r : Nat) : (s.startBay b p r).hs = s.hs := rfl
@[simp] theorem State.startBay_lg (b : Nat) (p : StartPhase) (r : Nat) : (s.startBay b p r).lg = s.lg := rfl
@[simp] theorem State.startBay_fu (b : Nat) (p : StartPhase) (r : Nat) : (s.startBay b p r).fu = s.fu := rfl
@[simp] theorem State.startBay_ev (b : Nat) (p : StartPhase) (r : Nat) : (s.startBay b p r).ev = s.ev := rfl
@[simp] theorem State.startBay_sys (b : Nat) (p : StartPhase) (r : Nat) : (s.startBay b p r).sys = s.sys := rfl
@[simp] theorem State.startBay_freeCtr (b : Nat) (p : StartPhase) (r : Nat) : (s.startBay b p r).freeCtr = s.freeCtr := rfl

/-! `State.setCharger` -/
@[simp] theorem State.setCharger_pending (c : ChargerPhase) (mv : Nat) : (s.setCharger c mv).pending = s.pending := rfl
@[simp] theorem State.setCharger_tb (c : ChargerPhase) (mv : Nat) : (s.setCharger c mv).tb = s.tb := rfl
@[simp] theorem State.setCharger_sp (c : ChargerPhase) (mv : Nat) : (s.setCharger c mv).sp = s.sp := rfl
@[simp] theorem State.setCharger_xp (c : ChargerPhase) (mv : Nat) : (s.setCharger c mv).xp = s.xp := rfl
@[simp] theorem State.setCharger_ce (c : ChargerPhase) (mv : Nat) : (s.setCharger c mv).ce = s.ce := rfl
@[simp] theorem State.setCharger_md (c : ChargerPhase) (mv : Nat) : (s.setCharger c mv).md = s.md := rfl
@[simp] theorem State.setCharger_rc (c : ChargerPhase) (mv : Nat) : (s.setCharger c mv).rc = s.rc := rfl
@[simp] theorem State.setCharger_z (c : ChargerPhase) (mv : Nat) : (s.setCharger c mv).z = s.z := rfl
@[simp] theorem State.setCharger_ld (c : ChargerPhase) (mv : Nat) : (s.setCharger c mv).ld = s.ld := rfl
@[simp] theorem State.setCharger_lk (c : ChargerPhase) (mv : Nat) : (s.setCharger c mv).lk = s.lk := rfl
@[simp] theorem State.setCharger_rd (c : ChargerPhase) (mv : Nat) : (s.setCharger c mv).rd = s.rd := rfl
@[simp] theorem State.setCharger_st (c : ChargerPhase) (mv : Nat) : (s.setCharger c mv).st = s.st := rfl
@[simp] theorem State.setCharger_thm (c : ChargerPhase) (mv : Nat) : (s.setCharger c mv).thm = s.thm := rfl
@[simp] theorem State.setCharger_hs (c : ChargerPhase) (mv : Nat) : (s.setCharger c mv).hs = s.hs := rfl
@[simp] theorem State.setCharger_lg (c : ChargerPhase) (mv : Nat) : (s.setCharger c mv).lg = s.lg := rfl
@[simp] theorem State.setCharger_fu (c : ChargerPhase) (mv : Nat) : (s.setCharger c mv).fu = s.fu := rfl
@[simp] theorem State.setCharger_ev (c : ChargerPhase) (mv : Nat) : (s.setCharger c mv).ev = s.ev := rfl
@[simp] theorem State.setCharger_sys (c : ChargerPhase) (mv : Nat) : (s.setCharger c mv).sys = s.sys := rfl
@[simp] theorem State.setCharger_freeCtr (c : ChargerPhase) (mv : Nat) : (s.setCharger c mv).freeCtr = s.freeCtr := rfl

/-! `State.vector16` -/
@[simp] theorem State.vector16_pending (k : Nat) (w : Bool) : (s.vector16 k w).pending = s.pending := by unfold State.vector16; split <;> rfl
@[simp] theorem State.vector16_tb (k : Nat) (w : Bool) : (s.vector16 k w).tb = s.tb := by unfold State.vector16; split <;> rfl
@[simp] theorem State.vector16_sp (k : Nat) (w : Bool) : (s.vector16 k w).sp = s.sp := by unfold State.vector16; split <;> rfl
@[simp] theorem State.vector16_xp (k : Nat) (w : Bool) : (s.vector16 k w).xp = s.xp := by unfold State.vector16; split <;> rfl
@[simp] theorem State.vector16_ce (k : Nat) (w : Bool) : (s.vector16 k w).ce = s.ce := by unfold State.vector16; split <;> rfl
@[simp] theorem State.vector16_md (k : Nat) (w : Bool) : (s.vector16 k w).md = s.md := by unfold State.vector16; split <;> rfl
@[simp] theorem State.vector16_rc (k : Nat) (w : Bool) : (s.vector16 k w).rc = s.rc := by unfold State.vector16; split <;> rfl
@[simp] theorem State.vector16_z (k : Nat) (w : Bool) : (s.vector16 k w).z = s.z := by unfold State.vector16; split <;> rfl
@[simp] theorem State.vector16_ld (k : Nat) (w : Bool) : (s.vector16 k w).ld = s.ld := by unfold State.vector16; split <;> rfl
@[simp] theorem State.vector16_lk (k : Nat) (w : Bool) : (s.vector16 k w).lk = s.lk := by unfold State.vector16; split <;> rfl
@[simp] theorem State.vector16_rd (k : Nat) (w : Bool) : (s.vector16 k w).rd = s.rd := by unfold State.vector16; split <;> rfl
@[simp] theorem State.vector16_st (k : Nat) (w : Bool) : (s.vector16 k w).st = s.st := by unfold State.vector16; split <;> rfl
@[simp] theorem State.vector16_ftg (k : Nat) (w : Bool) : (s.vector16 k w).ftg = s.ftg := by unfold State.vector16; split <;> rfl
@[simp] theorem State.vector16_thm (k : Nat) (w : Bool) : (s.vector16 k w).thm = s.thm := by unfold State.vector16; split <;> rfl
@[simp] theorem State.vector16_lg (k : Nat) (w : Bool) : (s.vector16 k w).lg = s.lg := by unfold State.vector16; split <;> rfl
@[simp] theorem State.vector16_fu (k : Nat) (w : Bool) : (s.vector16 k w).fu = s.fu := by unfold State.vector16; split <;> rfl
@[simp] theorem State.vector16_ev (k : Nat) (w : Bool) : (s.vector16 k w).ev = s.ev := by unfold State.vector16; split <;> rfl
@[simp] theorem State.vector16_sys (k : Nat) (w : Bool) : (s.vector16 k w).sys = s.sys := by unfold State.vector16; split <;> rfl
@[simp] theorem State.vector16_freeCtr (k : Nat) (w : Bool) : (s.vector16 k w).freeCtr = s.freeCtr := by unfold State.vector16; split <;> rfl

/-! `State.writeReply` -/
@[simp] theorem State.writeReply_pending (h : Hdr) (op q : Nat) (a : Ans) (u : ReplyUse) : (s.writeReply h op q a u).pending = s.pending := by unfold State.writeReply State.writeReplyUnder; dsimp only; split <;> simp
@[simp] theorem State.writeReply_tb (h : Hdr) (op q : Nat) (a : Ans) (u : ReplyUse) : (s.writeReply h op q a u).tb = s.tb := by unfold State.writeReply State.writeReplyUnder; dsimp only; split <;> simp
@[simp] theorem State.writeReply_sp (h : Hdr) (op q : Nat) (a : Ans) (u : ReplyUse) : (s.writeReply h op q a u).sp = s.sp := by unfold State.writeReply State.writeReplyUnder; dsimp only; split <;> simp
@[simp] theorem State.writeReply_xp (h : Hdr) (op q : Nat) (a : Ans) (u : ReplyUse) : (s.writeReply h op q a u).xp = s.xp := by unfold State.writeReply State.writeReplyUnder; dsimp only; split <;> simp
@[simp] theorem State.writeReply_ce (h : Hdr) (op q : Nat) (a : Ans) (u : ReplyUse) : (s.writeReply h op q a u).ce = s.ce := by unfold State.writeReply State.writeReplyUnder; dsimp only; split <;> simp
@[simp] theorem State.writeReply_md (h : Hdr) (op q : Nat) (a : Ans) (u : ReplyUse) : (s.writeReply h op q a u).md = s.md := by unfold State.writeReply State.writeReplyUnder; dsimp only; split <;> simp
@[simp] theorem State.writeReply_rc (h : Hdr) (op q : Nat) (a : Ans) (u : ReplyUse) : (s.writeReply h op q a u).rc = s.rc := by unfold State.writeReply State.writeReplyUnder; dsimp only; split <;> simp
@[simp] theorem State.writeReply_z (h : Hdr) (op q : Nat) (a : Ans) (u : ReplyUse) : (s.writeReply h op q a u).z = s.z := by unfold State.writeReply State.writeReplyUnder; dsimp only; split <;> simp
@[simp] theorem State.writeReply_ld (h : Hdr) (op q : Nat) (a : Ans) (u : ReplyUse) : (s.writeReply h op q a u).ld = s.ld := by unfold State.writeReply State.writeReplyUnder; dsimp only; split <;> simp
@[simp] theorem State.writeReply_lk (h : Hdr) (op q : Nat) (a : Ans) (u : ReplyUse) : (s.writeReply h op q a u).lk = s.lk := by unfold State.writeReply State.writeReplyUnder; dsimp only; split <;> simp
@[simp] theorem State.writeReply_rd (h : Hdr) (op q : Nat) (a : Ans) (u : ReplyUse) : (s.writeReply h op q a u).rd = s.rd := by unfold State.writeReply State.writeReplyUnder; dsimp only; split <;> simp
@[simp] theorem State.writeReply_st (h : Hdr) (op q : Nat) (a : Ans) (u : ReplyUse) : (s.writeReply h op q a u).st = s.st := by unfold State.writeReply State.writeReplyUnder; dsimp only; split <;> simp
@[simp] theorem State.writeReply_ftg (h : Hdr) (op q : Nat) (a : Ans) (u : ReplyUse) : (s.writeReply h op q a u).ftg = s.ftg := by unfold State.writeReply State.writeReplyUnder; dsimp only; split <;> simp
@[simp] theorem State.writeReply_thm (h : Hdr) (op q : Nat) (a : Ans) (u : ReplyUse) : (s.writeReply h op q a u).thm = s.thm := by unfold State.writeReply State.writeReplyUnder; dsimp only; split <;> simp
@[simp] theorem State.writeReply_lg (h : Hdr) (op q : Nat) (a : Ans) (u : ReplyUse) : (s.writeReply h op q a u).lg = s.lg := by unfold State.writeReply State.writeReplyUnder; dsimp only; split <;> simp
@[simp] theorem State.writeReply_fu (h : Hdr) (op q : Nat) (a : Ans) (u : ReplyUse) : (s.writeReply h op q a u).fu = s.fu := by unfold State.writeReply State.writeReplyUnder; dsimp only; split <;> simp
@[simp] theorem State.writeReply_sys (h : Hdr) (op q : Nat) (a : Ans) (u : ReplyUse) : (s.writeReply h op q a u).sys = s.sys := by unfold State.writeReply State.writeReplyUnder; dsimp only; split <;> simp
@[simp] theorem State.writeReply_freeCtr (h : Hdr) (op q : Nat) (a : Ans) (u : ReplyUse) : (s.writeReply h op q a u).freeCtr = s.freeCtr := by unfold State.writeReply State.writeReplyUnder; dsimp only; split <;> simp

/-! `State.assertFault` -/
@[simp] theorem State.assertFault_pending : (s.assertFault).pending = s.pending := State.vector16_pending _ _ _
@[simp] theorem State.assertFault_tb : (s.assertFault).tb = s.tb := State.vector16_tb _ _ _
@[simp] theorem State.assertFault_sp : (s.assertFault).sp = s.sp := State.vector16_sp _ _ _
@[simp] theorem State.assertFault_xp : (s.assertFault).xp = s.xp := State.vector16_xp _ _ _
@[simp] theorem State.assertFault_ce : (s.assertFault).ce = s.ce := State.vector16_ce _ _ _
@[simp] theorem State.assertFault_md : (s.assertFault).md = s.md := State.vector16_md _ _ _
@[simp] theorem State.assertFault_rc : (s.assertFault).rc = s.rc := State.vector16_rc _ _ _
@[simp] theorem State.assertFault_z : (s.assertFault).z = s.z := State.vector16_z _ _ _
@[simp] theorem State.assertFault_ld : (s.assertFault).ld = s.ld := State.vector16_ld _ _ _
@[simp] theorem State.assertFault_lk : (s.assertFault).lk = s.lk := State.vector16_lk _ _ _
@[simp] theorem State.assertFault_rd : (s.assertFault).rd = s.rd := State.vector16_rd _ _ _
@[simp] theorem State.assertFault_st : (s.assertFault).st = s.st := State.vector16_st _ _ _
@[simp] theorem State.assertFault_ftg : (s.assertFault).ftg = s.ftg := State.vector16_ftg _ _ _
@[simp] theorem State.assertFault_thm : (s.assertFault).thm = s.thm := State.vector16_thm _ _ _
@[simp] theorem State.assertFault_lg : (s.assertFault).lg = s.lg := State.vector16_lg _ _ _
@[simp] theorem State.assertFault_fu : (s.assertFault).fu = s.fu := State.vector16_fu _ _ _
@[simp] theorem State.assertFault_sys : (s.assertFault).sys = s.sys := State.vector16_sys _ _ _
@[simp] theorem State.assertFault_freeCtr : (s.assertFault).freeCtr = s.freeCtr := State.vector16_freeCtr _ _ _

/-! Reading back what an update writes -/
theorem State.journal_rd (i : Instr) : (s.journal i).rd = { s.rd with journal := i :: s.rd.journal } := rfl
theorem State.free_freeCtr (w : Nat) : (s.free w).2.freeCtr = s.freeCtr + 1 := rfl
theorem State.stage_act (k : Nat) (b : Bank) (l : List Nat) : (s.stage k b l).xp.act = s.xp.act := rfl
theorem State.stage_shadow (k : Nat) (b : Bank) (l : List Nat) : (s.stage k b l).xp.shadow = b := rfl
end

end Sys2Proof.Machine
end

