-- ==== Sys2Proof/Laws/Units.lean ====
section
/-! SUPPORT. Unit IDs: the device takes the ID of every unit of the variant, and reads its fields back (R15). -/

namespace Sys2Proof.Machine
open Sys2Proof

theorem State.nBays_le (s : State) : s.nBays ≤ 144 := by unfold State.nBays; split <;> decide

/-- The fields of a well-formed unit ID read back. -/
theorem unitFields_uid {l b p c k : Nat} (hl : l < 8) (hb : b < 256) (hp : p < 4) (hc : c < 128) (hk : k < 128) :
    unitFields (uid l b p c k) = ⟨l, b, p, c, k⟩ := by
  simp only [unitFields, uid, bits, Unit4.mk.injEq]
  refine ⟨?_, ?_, ?_, ?_, ?_⟩ <;> omega

theorem checkUid_uid {nb l b p c k : Nat} (hn : nb ≤ 144) (hl : l < 5) (hb : b < nb) (hp : p < 3) (hc : c < 128) (hk : k < 96)
    (h1 : 1 ≤ l → k = 0) (h2 : 2 ≤ l → c = 0) (h3 : 3 ≤ l → p = 0) (h4 : 4 ≤ l → b = 0) : checkUid nb (uid l b p c k) = (0, ⟨l, b, p, c, k⟩) := by
  have hf : unitFields (uid l b p c k) = ⟨l, b, p, c, k⟩ := unitFields_uid (by omega) (by omega) (by omega) hc (by omega)
  have hz : uid l b p c k % 32 = 0 := by simp only [uid]; omega
  have hw : ¬ pow32 ≤ uid l b p c k := by simp only [uid, pow32]; omega
  simp only [checkUid, hf, hz]
  rw [if_neg, if_neg] <;> simp only [ne_eq, not_true_eq_false, false_or, hw, not_or] <;> omega

theorem checkLevel_bay {nb b : Nat} (hn : nb ≤ 144) (hb : b < nb) : checkLevel nb 3 (bayUid b) = (0, ⟨3, b, 0, 0, 0⟩) := by
  have h := checkUid_uid (nb := nb) (l := 3) (b := b) (p := 0) (c := 0) (k := 0) hn (by omega) hb (by omega) (by omega) (by omega) (by omega) (by omega) (by omega) (by omega)
  simp [checkLevel, bayUid, h]

theorem checkLevel_pier {nb b k : Nat} (hn : nb ≤ 144) (hb : b < nb) (hk : k < 3) : checkLevel nb 2 (pierUid (pierIx b k)) = (0, ⟨2, b, k, 0, 0⟩) := by
  have h1 : pierIx b k / 3 = b := by simp only [pierIx]; omega
  have h2 : pierIx b k % 3 = k := by simp only [pierIx]; omega
  have h := checkUid_uid (nb := nb) (l := 2) (b := b) (p := k) (c := 0) (k := 0) hn (by omega) hb hk (by omega) (by omega) (by omega) (by omega) (by omega) (by omega)
  simp [checkLevel, pierUid, h1, h2, h]

theorem checkUid_plant {nb : Nat} (hn : 0 < nb) : checkUid nb plantUid = (0, ⟨4, 0, 0, 0, 0⟩) := by
  have hf : unitFields plantUid = ⟨4, 0, 0, 0, 0⟩ := by decide
  have hz : plantUid % 32 = 0 := by decide
  have hw : ¬ pow32 ≤ plantUid := by decide
  simp only [checkUid, hf, hz, hw]
  rw [if_neg, if_neg] <;> simp [hn.ne']

theorem checkLevel_plant {nb : Nat} (hn : 0 < nb) : checkLevel nb 4 plantUid = (0, ⟨4, 0, 0, 0, 0⟩) := by
  simp [checkLevel, checkUid_plant hn]

theorem State.nBays_pos (s : State) : 0 < s.nBays := by unfold State.nBays; split <;> decide

end Sys2Proof.Machine
end

