-- ==== Sys2Proof/Tests/Slice0.lean ====
section
/-! SUPPORT. Tests: the well-formedness checks refuse an ill-formed command each, the spec's worked examples, and for
every statement with hypotheses a concrete state and operands that meet them. -/

set_option maxRecDepth 10000
set_option Elab.async false

namespace Sys2Proof.Tests
open Sys2Proof Sys2Proof.Machine

/-! ### Small states and operands -/

def h0 : Hdr := { slot := 0, tag := 1, gen := 0, udp := false, auth := false, peer := 0 }
def g0 : Stg := { target := 0, mask := 0, words := [] }
def S7 : State := { State.reset with st.devStep := 7, hs.slots := [(0, { phase := .pcie, rights := 255 })] }
def sh0 : Shadow := { ce := S7.ce, ld := S7.ld, xp := S7.xp, tb := S7.tb, lgSeq := 0, lgEpoch := 0, drive := [], slots := [], windows := [], courses := [] }
def tin0 : TickIn := { sense := [], grid := ⟨0, 0, 0, 0, false⟩, sv := ⟨0, 0, 0, 0, false⟩, clocks := [], setpoint := [], edges := [], gpio := 0, bank := none }
def frame0 : List Nat := [1, 0] ++ List.replicate 40750 0
def frameOf (b : List Nat) : List Nat := b ++ le 4 (crc32 b)

theorem crc32Bits_lt (n c : Nat) (h : c < 2 ^ 32) : crc32Bits n c < 2 ^ 32 := by
  induction n generalizing c with
  | zero => exact h
  | succ n ih => exact ih _ (by split <;> [exact Nat.xor_lt_two_pow (by omega) (by decide); omega])

theorem crc32_lt (bs : List Nat) : crc32 bs < 2 ^ 32 := by
  have h : ∀ (l : List Nat) (c : Nat), c < 2 ^ 32 → l.foldl (fun c b => crc32Bits 8 (Nat.xor c (b % 256))) c < 2 ^ 32 := by
    intro l
    induction l with
    | nil => exact fun _ h => h
    | cons b l ih => exact fun c hc => ih _ (crc32Bits_lt 8 _ (Nat.xor_lt_two_pow hc (by omega)))
  exact Nat.xor_lt_two_pow (h _ _ (by decide)) (by decide)

theorem ofLe_le4 (v : Nat) (h : v < 2 ^ 32) : ofLe (le 4 v) = v := by
  simp only [le, ofLe]; omega

theorem frameOf_crc (b : List Nat) : getLe (frameOf b) ((frameOf b).length - 4) 4 = crc32 ((frameOf b).take ((frameOf b).length - 4)) := by
  have hl : (frameOf b).length - 4 = b.length := by simp [frameOf, le]
  rw [hl]
  simp only [getLe, frameOf, List.drop_left, List.take_left]
  exact (congrArg ofLe (List.take_of_length_le (by simp [le]))).trans (ofLe_le4 _ (crc32_lt b))

theorem frameOf_len (n : Nat) : (frameOf ([1, 0] ++ List.replicate n 0)).length = n + 6 := by simp [frameOf, le]
theorem frame0_len : (frameOf frame0).length = 40756 := frameOf_len 40750
theorem frame0_ring : getLe (frameOf frame0) 12 2 = 0 := rfl
theorem frame0_tail : getLe (frameOf frame0) 14 2 = 0 := rfl
theorem frame0_kind : getLe (frameOf frame0) 0 1 = 1 := rfl
theorem frame0_lane : getLe (frameOf frame0) 1 1 = 0 := rfl
theorem frame0_tick : getLe (frameOf frame0) 4 8 = 0 := rfl
def frame1 : UpFrame := { lane := 0, inTime := true, bytes := frameOf frame0 }
theorem frame1_crc : getLe frame1.bytes (frame1.bytes.length - 4) 4 = crc32 (frame1.bytes.take (frame1.bytes.length - 4)) := by
  have h : frame1.bytes = frameOf frame0 := rfl
  rw [h]; exact frameOf_crc frame0
theorem frame1_len : frame1.bytes.length = 40756 + 6 * getLe frame1.bytes 12 2 + getLe frame1.bytes 14 2 := by
  have h : frame1.bytes = frameOf frame0 := rfl
  rw [h, frame0_len, frame0_ring, frame0_tail]
def frame2b : List Nat := [1, 12, 1, 0] ++ List.replicate 40748 0
theorem frame2_kind : getLe (frameOf frame2b) 0 1 = 1 := rfl
theorem frame2_bay : getLe (frameOf frame2b) 1 1 = 12 := rfl
theorem frame2_flags : getLe (frameOf frame2b) 2 2 = 1 := rfl
theorem frame2_tick : getLe (frameOf frame2b) 4 8 = 0 := rfl
theorem frame2_ring : getLe (frameOf frame2b) 12 2 = 0 := rfl
theorem frame2_tail : getLe (frameOf frame2b) 14 2 = 0 := rfl
def frame2 : UpFrame := { lane := 0, inTime := true, bytes := frameOf frame2b }
theorem frame2_crc : getLe frame2.bytes (frame2.bytes.length - 4) 4 = crc32 (frame2.bytes.take (frame2.bytes.length - 4)) := by
  have h : frame2.bytes = frameOf frame2b := rfl
  rw [h]; exact frameOf_crc frame2b
theorem frame2_len : frame2.bytes.length = 40756 + 6 * getLe frame2.bytes 12 2 + getLe frame2.bytes 14 2 := by
  have h : frame2.bytes = frameOf frame2b := rfl
  rw [h, frame2_ring, frame2_tail]
  exact (List.length_append (as := frame2b) (bs := le 4 (crc32 frame2b))).trans (congrArg (· + 4) (by rw [frame2b, List.length_append, List.length_replicate]; rfl))

/-! ### Each check of `Instr.wf` refuses an ill-formed command -/

theorem test_wf_header : (Instr.sysInfoRead { h0 with slot := 8 }).wf 144 12 = false ∧ (Instr.sysInfoRead { h0 with tag := 65536 }).wf 144 12 = false ∧
    (Instr.sysInfoRead { h0 with gen := 4294967296 }).wf 144 12 = false := by decide
theorem test_wf_row_form : (Instr.netConfig h0 { g0 with target := 4294967296 }).wf 144 12 = false ∧ (Instr.netConfig h0 { g0 with mask := 4294967296 }).wf 144 12 = false ∧
    (Instr.netConfig h0 { g0 with words := [4294967296] }).wf 144 12 = false := by decide
theorem test_wf_rings : (Instr.hsRplCons 8 0).wf 144 12 = false ∧ (Instr.hsRplCons 0 4294967296).wf 144 12 = false ∧ (Instr.slotLost 8).wf 144 12 = false ∧
    (Instr.grantExpiry 8).wf 144 12 = false ∧ (Instr.msiModerationEnd 17).wf 144 12 = false := by decide
theorem test_wf_registers : (Instr.hsCommit 4294967296).wf 144 12 = false ∧ (Instr.registerWrite 0 4294967296).wf 144 12 = false ∧ (Instr.spDmaInProd 4294967296).wf 144 12 = false := by decide
theorem test_wf_ports : (Instr.arp 2 0 0).wf 144 12 = false ∧ (Instr.sspRxFrame 2 []).wf 144 12 = false ∧ (Instr.svStreamTimeout 8).wf 144 12 = false ∧
    (Instr.channelLost 40).wf 144 12 = false ∧ (Instr.probeBurstEnd 8).wf 144 12 = false ∧ (Instr.gridSenseInvalid 8).wf 144 12 = false := by decide
theorem test_wf_piers : (Instr.plumbFloat 144 0).wf 144 12 = false ∧ (Instr.plumbFloat 0 3).wf 144 12 = false ∧ (Instr.zPassEnd 432).wf 144 12 = false ∧
    (Instr.diagWindowClose 432).wf 144 12 = false := by decide
theorem test_wf_deadlines : (Instr.stageDeadlineMiss 0 [0]).wf 144 12 = false ∧ (Instr.stageDeadlineMiss 7 [0]).wf 144 12 = false ∧
    (Instr.stageDeadlineMiss 2 [144 * 36864]).wf 144 12 = false := by decide
theorem test_wf_lanes : (Instr.laneTrained 144).wf 144 12 = false ∧ (Instr.laneTrained 72).wf 72 6 = false ∧ (Instr.courseDark (144 * 384)).wf 144 12 = false ∧
    (Instr.bayIdle 144).wf 144 12 = false := by decide
theorem test_wf_keystones_and_tiles : (Instr.signedBoot 2).wf 144 12 = false ∧ (Instr.tileTakeover 12).wf 144 12 = false ∧ (Instr.tileTakeover 6).wf 72 6 = false := by decide
theorem test_wf_pins_and_rails : (Instr.tripInputAssert 12).wf 144 12 = false ∧ (Instr.warningExcursion 23 true).wf 144 12 = false ∧ (Instr.retryOffEnd 14).wf 144 12 = false := by decide
theorem test_wf_dies_and_drives : (Instr.sensorBroken 14).wf 144 12 = false ∧ (Instr.driveTimeout 16).wf 144 12 = false ∧ (Instr.resilverComplete 8).wf 144 12 = false := by decide

/-! ### Published check values of the named standards -/

/-- CRC-32 of IEEE 802.3 (R274) and CRC-16 of R223 over the nine digits "123456789". -/
theorem test_crc_check_values : crc32 [0x31, 0x32, 0x33, 0x34, 0x35, 0x36, 0x37, 0x38, 0x39] = 0xCBF43926 ∧
    crc16 [0x31, 0x32, 0x33, 0x34, 0x35, 0x36, 0x37, 0x38, 0x39] = 0x29B1 := by decide +kernel
/-- SHA-256 of "abc", the example of FIPS 180-4 (R395). -/
theorem test_sha256_abc : (sha256 [0x61, 0x62, 0x63]).take 8 = [0xBA, 0x78, 0x16, 0xBF, 0x8F, 0x01, 0xCF, 0xEA] := by decide +kernel

/-- ECDSA over P-256, the published example of RFC 6979 A.2.5: its public key, and the signature of "sample" under the nonce given there (R450, R471, R479). -/
theorem test_p256_public : p256Public 0xC9AFA9D845BA75166B5C215767B1D6934E50C3DB36E89B127B8A622B120F6721 =
    some (toBe32 0x60FED4BA255A9D31C961EB74C6356D68C049B8923B61FA6CE669622E60F29FB6 ++ toBe32 0x7903FE1008B8BC99A41AE9E95628BC64F2F1B20C2D7E9F5177A3C294D4462299) := by
  decide +kernel
theorem test_p256_sign : ecdsaSign 0xC9AFA9D845BA75166B5C215767B1D6934E50C3DB36E89B127B8A622B120F6721
    0xA6E3C57DD01ABE90086538398355DD4C3B17AA873382B0F24D6129493D8AAD60 (sha256 [0x73, 0x61, 0x6D, 0x70, 0x6C, 0x65]) =
    toBe32 0xEFD48B2AACB6A8FD1140DD9CD45E81D69D2C877B56AAF991C34D0EA84EAF3716 ++ toBe32 0xF7CB1C942D657C41D436C7A1B6E29F65F3E900DBB9AFF4064DC4AB2F843ACDA8 := by
  decide +kernel
theorem test_p256_verify : ecdsaVerify
    (toBe32 0x60FED4BA255A9D31C961EB74C6356D68C049B8923B61FA6CE669622E60F29FB6 ++ toBe32 0x7903FE1008B8BC99A41AE9E95628BC64F2F1B20C2D7E9F5177A3C294D4462299)
    (sha256 [0x73, 0x61, 0x6D, 0x70, 0x6C, 0x65])
    (toBe32 0xEFD48B2AACB6A8FD1140DD9CD45E81D69D2C877B56AAF991C34D0EA84EAF3716 ++ toBe32 0xF7CB1C942D657C41D436C7A1B6E29F65F3E900DBB9AFF4064DC4AB2F843ACDA8) = true := by
  decide +kernel

/-! ### The spec's worked examples -/

/-- R16: brick 017.L3.045.063 and its pier. -/
theorem test_unit_ids : uid 0 17 2 45 63 = 0x0232D7E0 ∧ pierUid (3 * 17 + 2) = 0x42300000 ∧ bayUid 31 = 0x63E00000 := by decide
/-- 16 R459: the position with index 655,588 is brick 004 of course 017.L3.045.--. -/
theorem test_position_index : brickUid 655588 = 0x0232D080 ∧ brickUid 655647 = 0x0232D7E0 := by decide
/-- R41: the bricks a full pier needs at 33.0 kV for a = 0, 1/8 and 1/6, with *k*_ov 1.10 and *V*_min 2.80 V. -/
theorem test_required_bricks : requiredBricks 4613734 (kZs 0) 33000000 2800 = 10586 ∧ requiredBricks 4613734 (kZs 524288) 33000000 2800 = 9291 ∧
    requiredBricks 4613734 (kZs 699051) 33000000 2800 = 9168 := by decide +kernel
/-- R37: 19,800 bricks at 2.50 V do not block 34.5 kV, and at 2.80 V they do. -/
theorem test_float_margin : marginNegative (19800 * 32768) 34500000 = true ∧ marginNegative (19800 * 36700) 34500000 = false := by decide +kernel
/-- R121: one tick of the takeover of pier 088.L2: the nine newest samples 180 to 188 and g = 1 give g = 0.999970 in tick 189. -/
theorem test_coping_takeover :
    copeGain 1047317125 ((List.range 9).map (fun k => gTo 22 (sinTurn ((180 + k : Nat) : Int) 800 * 98 / 100))) 1073741824 16384 * 1000000 / 1073741824 = 999970 := by decide +kernel
/-- R199: five ticks of the trim dither of 103.L1 with d = 27,477 in sixteenths. -/
theorem test_trim_dither : (List.range 8).foldl (fun (a : Int × List Int) _ => let l := quantise (a.1 + 27477) 4166 20 4106; (a.1 + 27477 - l, a.2 ++ [l / 16])) (0, []) =
    (8, [1717, 1718, 1717, 1717, 1718, 1717, 1717, 1717]) ∧ trimStart 4166 1737 = 1214 := by decide
/-- R196 with R49's increments: 4,166 steps at 60.000 Hz and 5,000 at 50.000 Hz. -/
theorem test_trim_steps : ({ State.reset with tb.incr := 8444249301 } : State).trimSteps = 4166 ∧ ({ State.reset with tb.incr := 7036874418 } : State).trimSteps = 5000 := by decide +kernel
/-- R249, R252: the stored bins of brick 040.L2.093.017 and its OHMIC_EST. -/
theorem test_z_update : zExponent ([214235, 9055, 236100, -6350, 289460, -33700, 409700, -61455].map (· * 2 ^ 44)) = 4 ∧
    [214235, 9055, 236100, -6350, 289460, -33700, 409700, -61455].map (fun (v : Int) => shrRne (v * 2 ^ 44) 48) = [13390, 566, 14756, -397, 18091, -2106, 25606, -3841] ∧
    ohmicOf [13390] 4 = 214 := by decide +kernel
/-- R425: MD_BAY_CONFIG has 12 rows and 16 words. -/
theorem test_md_bay_words : mdBayRows.length = 12 ∧ stagedWords ⟨.bay, mdBayRows⟩ = 16 := by decide

/-! ### The queue -/

/-- With nothing waiting the block idles, and from reset the first command runs. -/
theorem test_idle : step State.reset = .next State.reset := rfl
theorem test_first_command : step { State.reset with pending := [.vinReturn] } = exec .vinReturn State.reset := rfl

/-! ### The hypotheses of every statement, met by a concrete state and operands -/

/-- The hypotheses of `StepRunsFrontCommand`, clause by clause. -/
theorem witness_StepRunsFrontCommand :
    (∃ (c : Instr) (rest : List Instr) (s : State), s.pending = c :: rest) ∧
    (∃ (s : State), s.pending = []) :=
  ⟨⟨.cycleBoundary, [], { S7 with pending := [.cycleBoundary] }, by decide +kernel⟩,
   ⟨S7, by decide +kernel⟩⟩

/-- The hypotheses of `WellFormedCommandsGo`, clause by clause. -/
theorem witness_WellFormedCommandsGo : ∃ (i : Instr) (s : State), i.wf s.nBays s.nTiles = true :=
  ⟨.cycleBoundary, S7, by decide +kernel⟩

/-- The hypotheses of `ExecLeavesQueue`, clause by clause. -/
theorem witness_ExecLeavesQueue : ∃ (i : Instr) (s t : State), exec i s = .next t :=
  ⟨.cycleBoundary, S7, _, rfl⟩

/-- The hypotheses of `TickInvariantKept`, clause by clause. -/
theorem witness_TickInvariantKept : ∃ s t : State, TickInv s ∧ step s = .next t :=
  ⟨{ S7 with pending := [.cycleBoundary] }, _, by decide +kernel, rfl⟩

/-- The hypotheses of `BankRowsInvariantKept`, clause by clause. -/
theorem witness_BankRowsInvariantKept : ∃ s t : State, RowsInv s ∧ step s = .next t :=
  ⟨{ S7 with pending := [.cycleBoundary] }, _, ⟨by decide +kernel, fun _ e => by cases e⟩, rfl⟩

/-- The hypotheses of `SlotTableInvariantKept`, clause by clause. -/
theorem witness_SlotTableInvariantKept : ∃ s t : State, SlotsInv s ∧ step s = .next t :=
  ⟨{ S7 with pending := [.cycleBoundary] }, _, by decide +kernel, rfl⟩

/-- The hypotheses of `StagedRowsEnterShadow`, clause by clause. -/
theorem witness_StagedRowsEnterShadow :
    (∃ c ∈ rowStagers, ∃ (h : Hdr) (g : Stg) (s : State) (sp : StagedSpec), HostReady h c.2 s ∧ RowsInv s ∧ takesRows sp c.2 g s) ∧
    (∃ (c : (Hdr → Stg → Instr) × Nat) (h : Hdr) (s : State), c ∈ rowStagers ∧ HostReady h c.2 s ∧ (s.xp.pend.isSome = true ∨ s.stopping = true)) ∧
    (∃ (c : (Hdr → Stg → Instr) × Nat) (h : Hdr) (g : Stg) (s : State) (sp : StagedSpec), c ∈ rowStagers ∧ HostReady h c.2 s ∧ stagedSpec c.2 = some sp ∧ s.stagingClosed = false ∧ g.words.length ≠ stagedWords sp) ∧
    (∃ (c : (Hdr → Stg → Instr) × Nat) (h : Hdr) (g : Stg) (s : State) (sp : StagedSpec), c ∈ rowStagers ∧ HostReady h c.2 s ∧ stagedSpec c.2 = some sp ∧ s.stagingClosed = false ∧ g.words.length = stagedWords sp ∧ (stageTargets s.nBays sp.target g.target).1 ≠ 0) ∧
    (∃ (c : (Hdr → Stg → Instr) × Nat) (h : Hdr) (g : Stg) (s : State) (sp : StagedSpec), c ∈ rowStagers ∧ HostReady h c.2 s ∧ stagedSpec c.2 = some sp ∧ s.stagingClosed = false ∧ g.words.length = stagedWords sp ∧ (stageTargets s.nBays sp.target g.target).1 = 0 ∧ 2 ^ sp.rows.length ≤ g.mask) ∧
    (∃ (c : (Hdr → Stg → Instr) × Nat) (h : Hdr) (g : Stg) (s : State) (sp : StagedSpec) (k : Nat), c ∈ rowStagers ∧ HostReady h c.2 s ∧ stagedSpec c.2 = some sp ∧ s.stagingClosed = false ∧ g.words.length = stagedWords sp ∧ (stageTargets s.nBays sp.target g.target).1 = 0 ∧ g.mask < 2 ^ sp.rows.length ∧ firstBad sp c.2 g s = some k) :=
  ⟨⟨(.xpIdleConfig, 0x0506), by simp [rowStagers], h0, { target := bayUid 0, mask := 1, words := 1 :: List.replicate (stagedWords ⟨.bay, xpIdleRows⟩ - 1) 0 }, S7, ⟨.bay, xpIdleRows⟩, by decide +kernel, ⟨by decide +kernel, fun _ e => by cases e⟩, by decide +kernel⟩,
   ⟨(.netConfig, 0x0102), h0, { S7 with st.stopPhase := 1 }, List.mem_cons_self .., by decide +kernel, by decide +kernel⟩,
   ⟨(.netConfig, 0x0102), h0, g0, S7, ⟨.index 2, netConfigRows⟩, List.mem_cons_self .., by decide +kernel⟩,
   ⟨(.netConfig, 0x0102), h0, { target := 2, mask := 0, words := List.replicate (stagedWords ⟨.index 2, netConfigRows⟩) 0 }, S7, ⟨.index 2, netConfigRows⟩, List.mem_cons_self .., by decide +kernel⟩,
   ⟨(.netConfig, 0x0102), h0, { target := 0, mask := 16, words := List.replicate (stagedWords ⟨.index 2, netConfigRows⟩) 0 }, S7, ⟨.index 2, netConfigRows⟩, List.mem_cons_self .., by decide +kernel⟩,
   ⟨(.netConfig, 0x0102), h0, { target := 0, mask := 15, words := List.replicate (stagedWords ⟨.index 2, netConfigRows⟩) 0 }, S7, ⟨.index 2, netConfigRows⟩, 1, List.mem_cons_self .., by decide +kernel⟩⟩

/-- The hypotheses of `StagedListsEnterShadow`, clause by clause. -/
theorem witness_StagedListsEnterShadow :
    (∃ (h : Hdr) (es : List GainEntry) (s : State), HostReady h 0x0501 s ∧ s.stagingClosed = false ∧ es ≠ [] ∧ es.length ≤ (if h.udp then 177 else 505) ∧ ((∀ e ∈ es, s.destOk e.dest = true ∧ e.src < 64 ∧ e.path < 2 ∧ -8388608 ≤ signedOf 32 e.gain ∧ signedOf 32 e.gain ≤ 8388607))) ∧
    (∃ (h : Hdr) (dest : Nat) (first : Nat) (count : Nat) (coefs : List Nat) (s : State), HostReady h 0x0502 s ∧ s.stagingClosed = false ∧ coefs.length = 5 * count ∧ s.destOk dest = true ∧ 1 ≤ count ∧ first + count ≤ 4) ∧
    (∃ (h : Hdr) (b : Nat) (law : Nat) (count : Nat) (shift : Nat) (coefs : List Nat) (s : State), HostReady h 0x0602 s ∧ s.stagingClosed = false ∧ coefs.length = 5 * count ∧ b < s.nBays ∧ law ≤ 10 ∧ count ≤ 8 ∧ -8 ≤ signedOf 8 shift ∧ signedOf 8 shift ≤ 8) ∧
    (∃ (h : Hdr) (g : Stg) (s : State) (sp : StagedSpec), HostReady h 0x0406 s ∧ takesRows sp 0x0406 g s ∧ ((∀ o, s.sp.dma.owner = some o → o = h.slot ∨ (s.slot o).live = false))) ∧
    (∃ (h : Hdr) (s : State), (s.slot h.slot).phase ≠ SlotPhase.closed ∧ s.opAllowed 0x0501 = true ∧ s.opAllowed 0x0502 = true ∧ s.opAllowed 0x0602 = true ∧ (s.xp.pend.isSome = true ∨ s.stopping = true)) ∧
    (∃ (h : Hdr) (es : List GainEntry) (s : State), HostReady h 0x0501 s ∧ s.stagingClosed = false ∧ (es = [] ∨ (if h.udp then 177 else 505) < es.length)) ∧
    (∃ (h : Hdr) (e : GainEntry) (es : List GainEntry) (s : State), HostReady h 0x0501 s ∧ s.stagingClosed = false ∧ (e :: es).length ≤ (if h.udp then 177 else 505) ∧ (s.destOk e.dest = false ∨ 64 ≤ e.src ∨ 2 ≤ e.path ∨ signedOf 32 e.gain < -8388608 ∨ 8388607 < signedOf 32 e.gain)) ∧
    (∃ (h : Hdr) (count : Nat) (coefs : List Nat) (s : State), HostReady h 0x0502 s ∧ s.stagingClosed = false ∧ coefs.length ≠ 5 * count) ∧
    (∃ (h : Hdr) (dest : Nat) (count : Nat) (coefs : List Nat) (s : State), HostReady h 0x0502 s ∧ s.stagingClosed = false ∧ coefs.length = 5 * count ∧ s.destOk dest = false) ∧
    (∃ (h : Hdr) (dest : Nat) (first : Nat) (count : Nat) (coefs : List Nat) (s : State), HostReady h 0x0502 s ∧ s.stagingClosed = false ∧ coefs.length = 5 * count ∧ s.destOk dest = true ∧ (count = 0 ∨ 4 < first + count)) ∧
    (∃ (h : Hdr) (count : Nat) (coefs : List Nat) (s : State), HostReady h 0x0602 s ∧ s.stagingClosed = false ∧ coefs.length ≠ 5 * count) ∧
    (∃ (h : Hdr) (b : Nat) (law : Nat) (count : Nat) (shift : Nat) (coefs : List Nat) (s : State), HostReady h 0x0602 s ∧ s.stagingClosed = false ∧ coefs.length = 5 * count ∧ b < s.nBays ∧ (11 ≤ law ∨ 8 < count ∨ signedOf 8 shift < -8 ∨ 8 < signedOf 8 shift)) ∧
    (∃ (h : Hdr) (s : State) (o : Nat), HostReady h 0x0406 s ∧ s.sp.dma.owner = some o ∧ o ≠ h.slot ∧ (s.slot o).live = true) ∧
    (∃ (h : Hdr) (s : State), HostReady h 0x0406 s ∧ s.sp.dma.owner = none ∧ (s.xp.pend.isSome = true ∨ s.stopping = true)) :=
  ⟨⟨h0, [{ dest := 0, src := 63, path := 1, gain := 0 }], S7, by decide +kernel⟩,
   ⟨h0, 0, 3, 1, [0, 0, 0, 0, 0], S7, by decide +kernel⟩,
   ⟨h0, 0, 0, 0, 0, [], S7, by decide +kernel⟩,
   ⟨h0, { target := plantUid, mask := 0, words := List.replicate (stagedWords ⟨.plant, streamDmaRows⟩) 0 }, S7, ⟨.plant, streamDmaRows⟩, by decide +kernel, by decide +kernel, fun _ e => by cases e⟩,
   ⟨h0, { S7 with st.stopPhase := 1 }, by decide +kernel⟩,
   ⟨h0, {}, S7, by decide +kernel⟩,
   ⟨h0, { dest := 0, src := 64, path := 0, gain := 0 }, {}, S7, by decide +kernel⟩,
   ⟨h0, 0, [0], S7, by decide +kernel⟩,
   ⟨h0, 100000, 0, [], S7, by decide +kernel⟩,
   ⟨h0, 0, 0, 0, [], S7, by decide +kernel⟩,
   ⟨h0, 0, [0], S7, by decide +kernel⟩,
   ⟨h0, 0, 11, 0, 0, [], S7, by decide +kernel⟩,
   ⟨h0, { S7 with sp.dma.owner := some 1, hs.slots := [(0, { phase := .pcie, rights := 255 }), (1, { phase := .pcie })] }, 1, by decide +kernel⟩,
   ⟨h0, { S7 with sp.dma.owner := none, st.stopPhase := 1 }, by decide +kernel⟩⟩

/-- The hypotheses of `ShadowBankCommands`, clause by clause. -/
theorem witness_ShadowBankCommands :
    (∃ (h : Hdr) (mode : Nat) (glide : Nat) (cycle : Nat) (s : State), HostReady h 0x0507 s ∧ mode ≤ 2 ∧ glide ≤ 800 ∧ s.stagingClosed = false ∧ ((mode = 0 → s.xp.tickSwaps < 3)) ∧ ((mode = 2 → s.tb.cycleNow < cycle)) ∧ s.checkShadow mode = none) ∧
    (∃ (h : Hdr) (s : State), HostReady h 0x0507 s ∧ s.xp.pend.isSome = true) ∧
    (∃ (h : Hdr) (s : State), HostReady h 0x0508 s) ∧
    (∃ (h : Hdr) (s : State), HostReady h 0x0509 s ∧ s.xp.pend = none) ∧
    (∃ (h : Hdr) (s : State), HostReady h 0x050A s) ∧
    (∃ (h : Hdr) (dest : Nat) (s : State), HostReady h 0x050B s ∧ s.destOk dest = true) ∧
    (∃ (h : Hdr) (s : State), HostReady h 0x0507 s ∧ s.xp.pend = none) ∧
    (∃ (h : Hdr) (mode : Nat) (s : State), HostReady h 0x0507 s ∧ mode ≠ 3 ∧ (s.xp.pend.isSome = true ∨ s.stopping = true)) ∧
    (∃ (h : Hdr) (mode : Nat) (glide : Nat) (cycle : Nat) (s : State), HostReady h 0x0507 s ∧ s.stagingClosed = false ∧ (3 < mode ∨ (mode ≠ 3 ∧ 800 < glide) ∨ (mode = 2 ∧ cycle ≤ s.tb.cycleNow))) ∧
    (∃ (h : Hdr) (glide : Nat) (s : State), HostReady h 0x0507 s ∧ s.stagingClosed = false ∧ glide ≤ 800 ∧ 3 ≤ s.xp.tickSwaps) ∧
    (∃ (h : Hdr) (mode : Nat) (glide : Nat) (cycle : Nat) (m : Miss) (s : State), HostReady h 0x0507 s ∧ mode ≤ 2 ∧ glide ≤ 800 ∧ s.stagingClosed = false ∧ ((mode = 0 → s.xp.tickSwaps < 3)) ∧ ((mode = 2 → s.tb.cycleNow < cycle)) ∧ s.checkShadow mode = some m) ∧
    (∃ (h : Hdr) (s : State), HostReady h 0x0509 s ∧ s.xp.pend.isSome = true) :=
  ⟨⟨h0, 0, 0, 0, S7, by decide +kernel⟩,
   ⟨h0, { S7 with xp.pend := some { mode := 1, glide := 0, cycle := 0, tick := 0, sets := 0 } }, by decide +kernel⟩,
   ⟨h0, S7, by decide +kernel⟩,
   ⟨h0, { S7 with xp.pend := none }, by decide +kernel⟩,
   ⟨h0, S7, by decide +kernel⟩,
   ⟨h0, 0, S7, by decide +kernel⟩,
   ⟨h0, { S7 with xp.pend := none }, by decide +kernel⟩,
   ⟨h0, 0, { S7 with st.stopPhase := 1 }, by decide +kernel⟩,
   ⟨h0, 4, 0, 0, S7, by decide +kernel⟩,
   ⟨h0, 0, { S7 with xp.tickSwaps := (3) }, by decide +kernel⟩,
   ⟨h0, 0, 0, 1, ⟨stBadParam, 0x0F01, 1, 0⟩, { S7 with xp.shadow.rows := [(rowKey 0x0F01 0 1, [0])] }, by decide +kernel⟩,
   ⟨h0, { S7 with xp.pend := some { mode := 1, glide := 0, cycle := 0, tick := 0, sets := 0 } }, by decide +kernel⟩⟩

/-- The hypotheses of `SwapLandsWhole`, clause by clause. -/
theorem witness_SwapLandsWhole :
    (∃ (s : State) (p : PendSwap), s.xp.pend = some p ∧ s.swapLands p = true) ∧
    (∃ (s : State) (p : PendSwap), s.xp.pend = some p ∧ s.swapLands p = false) ∧
    (∃ (s : State), s.xp.pend = none) :=
  ⟨⟨{ S7 with xp.pend := some { mode := 1, glide := 0, cycle := 0, tick := 0, sets := 0 }, rd.haveActive := true }, { mode := 1, glide := 0, cycle := 0, tick := 0, sets := 0 }, by decide +kernel⟩,
   ⟨{ S7 with xp.pend := some { mode := 1, glide := 0, cycle := 0, tick := 0, sets := 0 }, rd.haveActive := false }, { mode := 1, glide := 0, cycle := 0, tick := 0, sets := 0 }, by decide +kernel⟩,
   ⟨{ S7 with xp.pend := none }, by decide +kernel⟩⟩

/-- The hypotheses of `LookaheadHoldsLimit`, clause by clause. -/
theorem witness_LookaheadHoldsLimit : ∃ (g : Int) (u : Int), 0 ≤ g ∧ g ≤ 1073741824 ∧ 0 ≤ u :=
  ⟨0, 0, by decide +kernel⟩

/-- The hypotheses of `CrosspointStageRuns`, clause by clause. -/
theorem witness_CrosspointStageRuns :
    (∃ (s : State), s.ksRuns = true) ∧
    (∃ (s : State), s.ksRuns = false) ∧
    (∃ (s : State), s.lk.held = []) ∧
    (∃ (k : Nat) (s : State), k < 8 ∧ (tget {} s.xp.probes k).phase = .run ∧ (tget {} s.xp.probes k).words.getD 6 0 ≠ 0 ∧ (tget {} s.xp.probes k).words.getD 6 0 ≤ (tget {} s.xp.probes k).cycles ∧ s.tb.idx = 0) :=
  ⟨⟨{ S7 with rd.haveActive := true }, by decide +kernel⟩,
   ⟨S7, by decide +kernel⟩,
   ⟨{ S7 with lk.held := [] }, by decide +kernel⟩,
   ⟨0, { S7 with tb.idx := 0, xp.probes := [(0, { phase := .run, words := [0, 0, 0, 0, 0, 0, 1, 0], cycles := 1 })] }, by decide +kernel⟩⟩

/-- The hypotheses of `IdleAndStandby`, clause by clause. -/
theorem witness_IdleAndStandby :
    (∃ (b : Nat) (s : State), b < s.nBays ∧ s.prm 0x0506 b 0 0 = 1 ∧ s.md.bayLive b = true ∧ s.prm 0x0506 b 3 0 ≤ (tget {} s.xp.idle b).dwell ∧ (tget {} s.xp.idle b).idle = false ∧ s.inStandby b = false) ∧
    (∃ (b : Nat) (s : State), b < s.nBays ∧ (tget {} s.xp.idle b).idle = true ∧ s.inStandby b = false ∧ s.tb.idx = 0 ∧ (s.bayLink b).opened = true ∧ s.md.bayLive b = true ∧ s.rd.flywheel = false) ∧
    (∃ (b : Nat) (s : State), b < s.nBays ∧ s.inStandby b = true ∧ s.tb.idx = 0 ∧ (tget {} s.xp.idle b).wake = true ∧ s.rd.flywheel = false) ∧
    (∃ (b : Nat) (s : State), b < s.nBays ∧ s.rd.flywheel = true) ∧
    (∃ (h : Hdr) (b : Nat) (s : State), HostReady h 0x050C s ∧ b < s.nBays ∧ s.inStandby b = true) :=
  ⟨⟨0, { S7 with xp.act.rows := [(rowKey 0x0506 0 0, [1])], xp.idle := [(0, { dwell := 1000000 })], md.piers := [(0, { mode := .enabled })] }, by decide +kernel⟩,
   ⟨0, { S7 with tb.idx := 0, rd.flywheel := false, xp.idle := [(0, { idle := true })], lk.bays := [(0, { accepted := true, brkValid := true })], md.piers := [(0, { mode := .enabled })] }, by decide +kernel⟩,
   ⟨0, { S7 with tb.idx := 0, rd.flywheel := false, xp.idle := [(0, { standby := true, wake := true })] }, by decide +kernel⟩,
   ⟨0, { S7 with rd.flywheel := true }, by decide +kernel⟩,
   ⟨h0, 0, { S7 with xp.idle := [(0, { standby := true })] }, by decide +kernel⟩⟩

/-- The hypotheses of `SlotSessionCommands`, clause by clause. -/
theorem witness_SlotSessionCommands :
    (∃ (h : Hdr) (s : State), h.slot = 7 ∧ h.udp = false ∧ h.auth = false ∧ s.bootstrap = true ∧ (s.slot 7).rings.valid = true) ∧
    (∃ (h : Hdr) (grant : List Nat) (key : List Nat) (s : State), h.slot < 8 ∧ ((h.udp = true ∨ (s.slot h.slot).rings.valid = true)) ∧ grant ≠ [] ∧ s.grantOk h.slot h.udp grant = true ∧ s.rootKey = some key) ∧
    (∃ (h : Hdr) (s : State), SlotsInv s ∧ s.opAllowed 0x0E02 = true ∧ (s.slot h.slot).live = true) ∧
    (∃ (h : Hdr) (s : State), SlotsInv s ∧ HostReady h 0x0E03 s) ∧
    (∃ (h : Hdr) (s : State), SlotsInv s ∧ HostReady h 0x0E04 s) ∧
    (∃ (h : Hdr) (moderation : Nat) (s : State), SlotsInv s ∧ HostReady h 0x0E05 s ∧ moderation ≤ 1000) ∧
    (∃ (is : List Nat) (s : State), SlotsInv s ∧ twf none s.lg.exports = true ∧ ((∀ i ∈ is, i < 8))) :=
  ⟨⟨{ h0 with slot := 7 }, { S7 with hs.slots := [(7, { rings := { valid := true } })] }, by decide +kernel⟩,
   ⟨h0, (le 4 0x544E5247 ++ [0, 0, 3, 0] ++ List.replicate 40 0) ++ (hmac (wordBytes (List.replicate 8 0)) (le 4 0x544E5247 ++ [0, 0, 3, 0] ++ List.replicate 40 0)).take 16, wordBytes (List.replicate 8 0), { S7 with hs.slots := [(0, { rings := { valid := true } })], fu.root := 1 }, by decide +kernel⟩,
   ⟨h0, S7, by decide +kernel⟩,
   ⟨h0, S7, by decide +kernel⟩,
   ⟨h0, S7, by decide +kernel⟩,
   ⟨h0, 0, S7, by decide +kernel⟩,
   ⟨[], S7, by decide +kernel⟩⟩

/-- The hypotheses of `SlotReadsAndIndices`, clause by clause. -/
theorem witness_SlotReadsAndIndices :
    (∃ (h : Hdr) (resend : Nat) (tag : Nat) (s : State), HostReady h 0x0E07 s ∧ (resend = 0 ∨ tget none (s.slot h.slot).replies (tag % 65536) = none)) ∧
    (∃ (h : Hdr) (s : State), HostReady h 0x0E08 s) ∧
    (∃ (i : Nat) (index : Nat) (s : State), i < 8 ∧ index < 2 ^ 32 ∧ SlotsInv s ∧ backwards (s.slot i).rplCons index = false ∧ (s.slot i).held = []) ∧
    (∃ (i : Nat) (index : Nat) (c : HeldReply) (s : State), i < 8 ∧ index < 2 ^ 32 ∧ SlotsInv s ∧ backwards (s.slot i).rplCons index = false ∧ (s.slot i).held = [c] ∧ c.use = .answer ∧ ({ s.slot i with rplCons := index } : Slot).replyFull = false ∧ (s.slot i).rings.wb ≠ (s.slot i).replyAddr (s.slot i).rplProd) ∧
    (∃ (i : Nat) (index : Nat) (s : State), i < 8 ∧ index < 2 ^ 32 ∧ backwards (s.slot i).rplCons index = true) ∧
    (∃ (i : Nat) (index : Nat) (s : State), i < 8 ∧ index < 2 ^ 32 ∧ SlotsInv s ∧ backwards (s.slot i).evqCons index = false ∧ (s.slot i).dropped = 0) ∧
    (∃ (v : Nat) (s : State), v < 17 ∧ (tget {} s.hs.vectors v).pending = true ∧ (tget {} s.hs.vectors v).left = 0) ∧
    (∃ (h : Hdr) (resend : Nat) (tag : Nat) (r : Reply) (s : State), HostReady h 0x0E07 s ∧ resend ≠ 0 ∧ tget none (s.slot h.slot).replies (tag % 65536) = some r) ∧
    (∃ (i : Nat) (index : Nat) (s : State), i < 8 ∧ index < 2 ^ 32 ∧ SlotsInv s ∧ backwards (s.slot i).rplCons index = false ∧ (s.slot i).rings.rplOrder ≤ 8 ∧ (s.slot i).rplProd < 2 ^ 32) ∧
    (∃ (i : Nat) (index : Nat) (s : State), i < 8 ∧ index < 2 ^ 32 ∧ backwards (s.slot i).evqCons index = true) ∧
    (∃ (i : Nat) (index : Nat) (s : State), i < 8 ∧ index < 2 ^ 32 ∧ SlotsInv s ∧ backwards (s.slot i).evqCons index = false ∧ (s.slot i).phase = .pcie ∧ 0 < (s.slot i).dropped ∧ s.shedding = false ∧ ((s.slot i).evqProd + 2 ^ 32 - index) % 2 ^ 32 < 2 ^ (s.slot i).rings.evqOrder) ∧
    (∃ (i : Nat) (index : Nat) (s : State), i < 8 ∧ index < 2 ^ 32 ∧ SlotsInv s ∧ backwards (s.slot i).evqCons index = false ∧ 2 ^ (s.slot i).rings.evqOrder ≤ ((s.slot i).evqProd + 2 ^ 32 - index) % 2 ^ 32) :=
  ⟨⟨h0, 0, 0, S7, by decide +kernel⟩,
   ⟨h0, S7, by decide +kernel⟩,
   ⟨0, 0, S7, by decide +kernel⟩,
   ⟨0, 1, { reply := { opcode := 0, tag := 0, status := 0, seq := 0, gen := 0, qualifier := 0, retryAfter := 0, tick := 0, params := [], auth := false }, key := [], use := .answer }, { S7 with hs.slots := [(0, { phase := .pcie, rplProd := 1, held := [{ reply := { opcode := 0, tag := 0, status := 0, seq := 0, gen := 0, qualifier := 0, retryAfter := 0, tick := 0, params := [], auth := false }, key := [], use := .answer }], rings := { rplBase := 4096, wb := 64, valid := true } })] }, by decide +kernel⟩,
   ⟨0, 0, { S7 with hs.slots := [(0, { phase := .pcie, rplCons := 1 })] }, by decide +kernel⟩,
   ⟨0, 1, { S7 with hs.slots := [(0, { phase := .pcie, evqCons := 1 })] }, by decide +kernel⟩,
   ⟨0, { S7 with hs.vectors := [(0, { pending := true, left := 0 })] }, by decide +kernel⟩,
   ⟨h0, 1, 0, { opcode := 0, tag := 0, status := 0, seq := 0, gen := 0, qualifier := 0, retryAfter := 0, tick := 0, params := [], auth := false }, { S7 with hs.slots := [(0, { phase := .pcie, replies := [(0, some { opcode := 0, tag := 0, status := 0, seq := 0, gen := 0, qualifier := 0, retryAfter := 0, tick := 0, params := [], auth := false })] })] }, by decide +kernel⟩,
   ⟨0, 0, S7, by decide +kernel⟩,
   ⟨0, 0, { S7 with hs.slots := [(0, { phase := .pcie, evqCons := 1 })] }, by decide +kernel⟩,
   ⟨0, 0, { S7 with hs.slots := [(0, { phase := .pcie, dropped := (0 + 1) })] }, by decide +kernel⟩,
   ⟨0, 0, { S7 with hs.slots := [(0, { phase := .pcie, evqProd := 16 })] }, by decide +kernel⟩⟩

/-- The hypotheses of `SlotsLostAndPortAnswers`, clause by clause. -/
theorem witness_SlotsLostAndPortAnswers :
    (∃ (i : Nat) (s : State), i < 8 ∧ s.keepaliveOut i = true) ∧
    (∃ (i : Nat) (s : State), i < 8 ∧ s.grantOut i = true) ∧
    (∃ (port : Nat), port < 2) ∧
    (∃ (port : Nat), port < 2) :=
  ⟨⟨0, { S7 with hs.slots := [(0, { phase := .pcie, idle := 10 ^ 15 })] }, by decide +kernel⟩,
   ⟨0, { S7 with hs.slots := [(0, { phase := .pcie, granted := true, notAfter := 0 })], tb.pt.phase := .locked, tb.pt.atto := 10 ^ 18 }, by decide +kernel⟩,
   ⟨0, by decide +kernel⟩,
   ⟨0, by decide +kernel⟩⟩

/-- The hypotheses of `RepliesReachTheirSlot`, clause by clause. -/
theorem witness_RepliesReachTheirSlot : ∃ (s : State), SlotsInv s :=
  ⟨S7, by decide +kernel⟩

/-- The hypotheses of `EventsReachLiveSlots`, clause by clause. -/
theorem witness_EventsReachLiveSlots :
    (∃ (s : State), SlotsInv s ∧ s.shedding = false) ∧
    (∃ (s : State) (i : Nat), SlotsInv s ∧ s.shedding = false ∧ i < 8 ∧ (s.slot i).phase ≠ .closed) :=
  ⟨⟨S7, by decide +kernel⟩,
   ⟨S7, 0, by decide +kernel⟩⟩

/-- The hypotheses of `StartCommands`, clause by clause. -/
theorem witness_StartCommands :
    (∃ (h : Hdr) (s : State), HostReady h 0x0101 s) ∧
    (∃ (h : Hdr) (first : Nat) (count : Nat) (s : State), HostReady h 0x0104 s ∧ 1 ≤ count ∧ count ≤ 144 ∧ first + count ≤ s.nBays) ∧
    (∃ (h : Hdr) (b : Nat) (s : State), HostReady h 0x0105 s ∧ b < s.nBays ∧ (((s.bayStart b).phase = .restoring ∨ ((s.bayStart b).phase = .held ∧ (s.bayStart b).reason = 3)))) ∧
    (∃ (h : Hdr) (b : Nat) (s : State), HostReady h 0x0106 s ∧ b < s.nBays ∧ (((s.bayStart b).phase = .ready ∨ ((s.bayStart b).phase = .energised ∧ (s.bayStart b).opened = true))) ∧ s.st.sync = none ∧ ((∀ k < s.nBays, (s.bayStart k).syncDue = false)) ∧ s.enableOk b = true ∧ s.tb.target = .grid ∧ s.tb.slewing = false ∧ one22 / 2 ≤ s.vBar b) ∧
    (∃ (h : Hdr) (b : Nat) (s : State), HostReady h 0x0107 s ∧ b < s.nBays ∧ (s.bayStart b).phase ≠ .energised) :=
  ⟨⟨h0, S7, by decide +kernel⟩,
   ⟨h0, 0, (1), S7, by decide +kernel⟩,
   ⟨h0, 0, { S7 with st.bays := [(0, { phase := .restoring })] }, by decide +kernel⟩,
   ⟨h0, 0, { S7 with st.sync := none, tb.target := .grid, tb.slewing := false, lk.bays := [(0, { accepted := true, brkValid := true })], xp.act.rows := [(rowKey 0x0601 0 0, [1]), (rowKey 0x0801 0 4, List.replicate 130 1)], ftg.bankMv := 60000, st.bays := [(0, { phase := .ready })], tb.vbar := 100000000 }, by decide +kernel⟩,
   ⟨h0, 0, S7, by decide +kernel⟩⟩

/-- The hypotheses of `DeviceStepsComplete`, clause by clause. -/
theorem witness_DeviceStepsComplete :
    (∃ (k : Nat) (s : State), k < 2 ∧ s.st.devStep = 3 ∧ s.rd.ksFailed.testBit k = false ∧ s.rd.candidates.testBit k = false ∧ (s.chan (12 + k)).latched = false ∧ k = s.preferred) ∧
    (∃ (s : State), s.st.devStep = 3 ∧ s.rd.candidates.testBit s.preferred = false ∧ s.rd.candidates.testBit (1 - s.preferred) = true) ∧
    (∃ (k : Nat) (s : State), k < 2 ∧ k = s.rd.active ∧ s.rd.haveActive = true ∧ ((s.st.devStep = 4 ∨ s.st.devStep = 5)) ∧ s.st.step4 = false) ∧
    (∃ (slot : Nat) (data : List Nat) (s : State), s.st.uartOpen = true ∧ slot ≤ 1 ∧ data.length ≤ slotSize) ∧
    (∃ (k : Nat) (s : State), k < s.nTiles ∧ s.st.devStep = 7 ∧ (s.tile k).phase = .out ∧ (s.tile k).failed = false ∧ (s.chan k).latched = false) ∧
    (∃ (k : Nat) (s : State), k < s.nTiles ∧ ((s.st.devStep = 4 ∨ s.st.devStep = 5)) ∧ (s.tile k).tested = false ∧ (s.chan k).latched = false) ∧
    (∃ (s : State), s.st.devStep = 6 ∧ s.tb.running = false) :=
  ⟨⟨0, { S7 with st.devStep := 3, rd.ksFailed := 0, rd.candidates := 0, ftg.chans := [((12 + 0), { latched := false })] }, by decide +kernel⟩,
   ⟨{ S7 with st.devStep := 3, rd.candidates := 2 }, by decide +kernel⟩,
   ⟨0, { S7 with rd.haveActive := true, st.step4 := false, rd.active := 0, st.devStep := 4 }, by decide +kernel⟩,
   ⟨0, [], { S7 with st.uartOpen := true }, by decide +kernel⟩,
   ⟨0, { S7 with st.devStep := 7, rd.tiles := [(0, { phase := .out, failed := false })], ftg.chans := [(0, { latched := false })] }, by decide +kernel⟩,
   ⟨0, { S7 with rd.tiles := [(0, { tested := false })], ftg.chans := [(0, { latched := false })], st.devStep := 5 }, by decide +kernel⟩,
   ⟨{ S7 with st.devStep := 6, tb.running := false }, by decide +kernel⟩⟩

/-- The hypotheses of `SynchronisationRows`, clause by clause. -/
theorem witness_SynchronisationRows :
    (∃ (b : Nat) (s : State), b < s.nBays ∧ (s.bayStart b).phase = .admitting ∧ s.allAdmitted b = true) ∧
    (∃ (b : Nat) (s : State), b < s.nBays ∧ (s.bayStart b).phase = .admitting ∧ s.allAdmitted b = false ∧ s.prm 0x0103 0 7 0 * 1000000000 ≤ (s.bayStart b).age) ∧
    (∃ (b : Nat) (s : State), b < s.nBays ∧ (s.bayStart b).phase = .restoring ∧ (s.bayStart b).restored = false ∧ s.ledgerServes = true) ∧
    (∃ (b : Nat) (s : State), b < s.nBays ∧ (s.bayStart b).phase = .restoring ∧ (s.bayStart b).restored = false ∧ s.ledgerServes = false ∧ s.prm 0x0103 0 8 0 * 1000000000 ≤ (s.bayStart b).age) ∧
    (∃ (b : Nat) (s : State), s.tb.idx = 0 ∧ s.rd.flywheel = false ∧ s.allBays.find? (fun b => (s.bayStart b).syncDue) = some b ∧ ({ s with st := { s.st with bays := tmod {} s.st.bays b (fun x => { x with syncDue := false }) } } : State).enableOk b = true ∧ s.st.sync = none) ∧
    (∃ (y : Sync) (s : State), s.st.sync = some y ∧ y.closed = false ∧ y.passing = true ∧ s.prm 0x0103 0 4 0 ≤ y.dwell ∧ s.energizeIn y.bay = true ∧ s.st.syncPermit = false) ∧
    (∃ (y : Sync) (s : State), s.st.sync = some y ∧ y.closed = false ∧ y.permitted = false ∧ s.prm 0x0103 0 5 0 * 800 ≤ y.waited) ∧
    (∃ (x : Nat) (serial : Nat) (s : State), (tget {} s.rc.bricks x).state = .absent ∧ (tget 0 s.lk.bound x = 0 ∨ tget 0 s.lk.bound x = serial) ∧ serial ≠ 0 ∧ tget [] s.lg.images x = []) :=
  ⟨⟨0, { S7 with st.bays := [(0, { phase := .admitting })] }, by decide +kernel⟩,
   ⟨0, { S7 with st.bays := [(0, { phase := .admitting, age := 10 ^ 15 })], xp.act.rows := [(rowKey 0x0702 0 0, [1])] }, by decide +kernel⟩,
   ⟨0, { S7 with st.bays := [(0, { phase := .restoring, restored := false })], lg.mounted := true, lg.phase := 2 }, by decide +kernel⟩,
   ⟨0, { S7 with st.bays := [(0, { phase := .restoring, restored := false, age := (S7.prm 0x0103 0 8 0 * 1000000000) })] }, by decide +kernel⟩,
   ⟨0, { S7 with tb.idx := 0, rd.flywheel := false, st.sync := none, lk.bays := [(0, { accepted := true, brkValid := true })], xp.act.rows := [(rowKey 0x0601 0 0, [1]), (rowKey 0x0801 0 4, List.replicate 130 1)], ftg.bankMv := 60000, st.bays := [(0, { phase := .ready, syncDue := true })] }, by decide +kernel⟩,
   ⟨{ bay := 0, passing := true, dwell := 1000000 }, { S7 with st.sync := some { bay := 0, passing := true, dwell := 1000000 }, st.syncPermit := false, lk.bays := [(0, { accepted := true, energizeIn := true })] }, by decide +kernel⟩,
   ⟨{ bay := 0, waited := 10 ^ 9 }, { S7 with st.sync := some { bay := 0, waited := 10 ^ 9 } }, by decide +kernel⟩,
   ⟨0, 1, { S7 with rc.bricks := [(0, { state := .absent })] }, by decide +kernel⟩⟩

/-- The hypotheses of `SafeStopRuns`, clause by clause. -/
theorem witness_SafeStopRuns :
    (∃ (h : Hdr) (s : State), HostReady h 0x0108 s ∧ s.stopping = false ∧ s.st.sync = none) ∧
    (∃ (s : State), s.st.stopPhase = 1 ∧ s.st.rampLeft = 0) ∧
    (∃ (s : State), s.st.stopPhase = 2 ∧ s.st.flushDue = true ∧ s.tb.idx = 0) ∧
    (∃ (s : State), s.st.stopPhase = 2 ∧ s.st.flushDue = false) ∧
    (∃ (h : Hdr) (s : State), HostReady h 0x0109 s ∧ s.anyEnergised = true) ∧
    (∃ (h : Hdr) (force : Nat) (s : State), HostReady h 0x0109 s ∧ ((s.anyEnergised = true → force ≠ 0)) ∧ ((s.anyEnergised = true ∨ s.stopping = true))) ∧
    (∃ (h : Hdr) (s : State), HostReady h 0x0109 s ∧ s.anyEnergised = false ∧ s.stopping = false) ∧
    (∃ (s : State), s.stopping = false ∧ s.st.sync = none) ∧
    (∃ (y : Sync) (s : State), s.stopping = false ∧ s.st.sync = some y ∧ y.closed = false) ∧
    (∃ (s : State), s.stopping = true) ∧
    (∃ (b : Nat) (s : State), (s.bayStart b).phase = .energised ∧ (s.bayLink b).opened = true) :=
  ⟨⟨h0, { S7 with st.sync := none }, by decide +kernel⟩,
   ⟨{ S7 with st.stopPhase := 1, st.rampLeft := 0 }, by decide +kernel⟩,
   ⟨{ S7 with st.stopPhase := 2, st.flushDue := true, tb.idx := 0 }, by decide +kernel⟩,
   ⟨{ S7 with st.stopPhase := 2, st.flushDue := false }, by decide +kernel⟩,
   ⟨h0, { S7 with st.bays := [(0, { phase := .energised })] }, by decide +kernel⟩,
   ⟨h0, 1, { S7 with st.bays := [(0, { phase := .energised })] }, by decide +kernel⟩,
   ⟨h0, S7, by decide +kernel⟩,
   ⟨{ S7 with st.sync := none }, by decide +kernel⟩,
   ⟨{ bay := 0 }, { S7 with st.sync := some { bay := 0 } }, by decide +kernel⟩,
   ⟨{ S7 with st.stopPhase := 1 }, by decide +kernel⟩,
   ⟨0, { S7 with st.bays := [(0, { phase := .energised })], lk.bays := [(0, { accepted := true, brkValid := true })] }, by decide +kernel⟩⟩

/-- The hypotheses of `ResetsKeepWhatTheSpecKeeps`, clause by clause. -/
theorem witness_ResetsKeepWhatTheSpecKeeps :
    (∃ (s : State), s.unpowered = true) ∧
    (∃ (s : State), s.unpowered = false) :=
  ⟨⟨{ S7 with ftg.phase := .powerdown }, by decide +kernel⟩,
   ⟨S7, by decide +kernel⟩⟩

/-- The hypotheses of `RegisterAccesses`, clause by clause. -/
theorem witness_RegisterAccesses :
    (∃ (o : Nat), o % 4 = 0 ∧ o < 0x5000 ∧ o ≠ 0x0008 ∧ ((o < 0x2010 ∨ 0x2044 < o))) ∧
    (∃ (v : Nat), v < 2 ^ 32) ∧
    (∃ (v : Nat), v < 2 ^ 32) ∧
    (∃ (v : Nat), v < 2 ^ 32) ∧
    (∃ (o : Nat), o % 4 = 0 ∧ ((0x0010 ≤ o ∧ o ≤ 0x001C) ∨ (0x0040 ≤ o ∧ o < 0x1000) ∨ (0x2048 ≤ o ∧ o < 0x3000) ∨ (0x3028 ≤ o ∧ o < 0x4000) ∨ (0xF014 ≤ o ∧ o < 0x10000))) ∧
    (∃ (v : Nat) (s : State), v < 2 ^ 32 ∧ s.sys.gpioCommit = none) ∧
    (∃ (v : Nat), v < 2 ^ 32) ∧
    (∃ (i : Nat) (o : Nat) (v : Nat), i < 8 ∧ o ≤ 0x20 ∧ o % 4 = 0 ∧ v < 2 ^ 32) ∧
    (∃ (v : Nat), v < 2 ^ 32) ∧
    (∃ (o : Nat) (v : Nat), o % 4 = 0 ∧ o < 0x10000 ∧ v < 2 ^ 32) ∧
    (∃ (o : Nat), o % 4 = 0 ∧ o < 0x10000) ∧
    (∃ (i : Nat), i < 8) ∧
    (∃ (d : Nat), d < 14) :=
  ⟨⟨0, by decide +kernel⟩,
   ⟨0, by decide +kernel⟩,
   ⟨0, by decide +kernel⟩,
   ⟨0, by decide +kernel⟩,
   ⟨64, by decide +kernel⟩,
   ⟨0, { S7 with sys.gpioCommit := none }, by decide +kernel⟩,
   ⟨0, by decide +kernel⟩,
   ⟨0, 0, 0, by decide +kernel⟩,
   ⟨0, by decide +kernel⟩,
   ⟨0, 0, by decide +kernel⟩,
   ⟨0, by decide +kernel⟩,
   ⟨0, by decide +kernel⟩,
   ⟨0, by decide +kernel⟩⟩

/-- The hypotheses of `CommitsLandBetweenTicks`, clause by clause. -/
theorem witness_CommitsLandBetweenTicks :
    (∃ (v : Nat) (s : State), v % 2 = 1 ∧ s.sys.pend0 = true ∧ s.tb.running = true) ∧
    (∃ (n : Nat) (dir : Nat) (permit : Bool) (s : State), s.sys.gpioCommit = some (n, dir, permit) ∧ n ≠ s.absTick) ∧
    (∃ (v : Nat) (s : State), v % 2 = 1 ∧ s.hs.stagedSlots ≠ 0 ∧ s.tb.running = true) ∧
    (∃ (n : Nat) (set : Tab Rings) (s : State), SlotsInv s ∧ s.hs.commitSet = some (n, set) ∧ n ≠ s.absTick ∧ ((∀ i < 8, (s.slot i).ringsOk (tget {} set i) = true))) ∧
    (∃ (n : Nat) (i : Nat) (set : Tab Rings) (s : State), s.hs.commitSet = some (n, set) ∧ n ≠ s.absTick ∧ i < 8 ∧ (s.slot i).ringsOk (tget {} set i) = false) ∧
    (∃ (v : Nat) (s : State), v % 2 = 1 ∧ s.tb.running = true) ∧
    (∃ (n : Nat) (u : Nat) (c : Nat) (s : State), s.sys.urCommit = some (n, u, c) ∧ n ≠ s.absTick ∧ fillStatus s.nBays u c = 0) ∧
    (∃ (n : Nat) (u : Nat) (c : Nat) (s : State), s.sys.urCommit = some (n, u, c) ∧ n ≠ s.absTick ∧ fillStatus s.nBays u c ≠ 0) ∧
    (∃ (n : Nat) (bytes : List Nat) (s : State), s.sys.urFill = some n ∧ s.sys.urCopy = some bytes) :=
  ⟨⟨1, { S7 with sys.pend0 := true, tb.running := true }, by decide +kernel⟩,
   ⟨1, 0, false, { S7 with sys.gpioCommit := some (1, 0, false) }, by decide +kernel⟩,
   ⟨1, { S7 with hs.stagedSlots := 1, tb.running := true }, by decide +kernel⟩,
   ⟨1, [], { S7 with hs.commitSet := some (1, []) }, by decide +kernel⟩,
   ⟨1, 0, [(0, { cmdBase := 1 })], { S7 with hs.commitSet := some (1, [(0, { cmdBase := 1 })]) }, by decide +kernel⟩,
   ⟨1, { S7 with tb.running := true }, by decide +kernel⟩,
   ⟨1, 0, 0, { S7 with sys.urCommit := some (1, 0, 0) }, by decide +kernel⟩,
   ⟨1, 1, 0, { S7 with sys.urCommit := some (1, 1, 0) }, by decide +kernel⟩,
   ⟨0, [], { S7 with sys.urFill := some 0, sys.urCopy := some [] }, by decide +kernel⟩⟩

/-- The hypotheses of `DeadlineMissFallsBack`, clause by clause. -/
theorem witness_DeadlineMissFallsBack :
    (∃ (us : List Nat) (s : State), us ≠ [] ∧ s.tb.running = true) ∧
    (∃ (us : List Nat) (s : State), us ≠ [] ∧ s.tb.running = true) ∧
    (∃ (us : List Nat) (s : State), us ≠ [] ∧ s.tb.running = true ∧ ((∀ x ∈ us, posBay x < s.nBays))) ∧
    (∃ (k : Nat) (us : List Nat) (s : State), 1 ≤ k ∧ k ≤ 6 ∧ ((∀ b ∈ missBays k us, b < s.nBays))) :=
  ⟨⟨[0], { S7 with tb.running := true }, by decide +kernel⟩,
   ⟨[0], { S7 with tb.running := true }, by decide +kernel⟩,
   ⟨[0], { S7 with tb.running := true }, by decide +kernel⟩,
   ⟨(1), [], S7, by decide +kernel⟩⟩

/-- The hypotheses of `FlywheelAndTransfers`, clause by clause. -/
theorem witness_FlywheelAndTransfers :
    (∃ (s : State), s.rd.flywheel = true ∧ s.rd.ramp = false ∧ 3200 ≤ s.rd.flyTicks ∧ s.rd.rampTicks < 8000) ∧
    (∃ (s : State), s.rd.flywheel = true ∧ s.rd.ramp = true ∧ 8000 ≤ s.rd.rampTicks ∧ s.st.sync = none) ∧
    (∃ (h : Hdr) (k : Nat) (s : State), HostReady h 0x0B02 s ∧ k < s.nTiles ∧ s.ksLive = true ∧ s.rd.xfer = none ∧ (s.tile k).phase = .normal ∧ (s.tile (neighbour k)).phase = .normal ∧ (s.tile k).carryDue = false ∧ (s.tile (neighbour k)).carryDue = false) ∧
    (∃ (h : Hdr) (k : Nat) (s : State), HostReady h 0x0B03 s ∧ k < s.nTiles ∧ s.ksLive = true ∧ s.rd.xfer = none ∧ (s.tile k).phase = .out ∧ s.tileRecovered k = true ∧ (s.tile (neighbour k)).phase = .carrying) ∧
    (∃ (x : Transfer) (s : State), s.rd.xfer = some x ∧ x.running = false ∧ s.tb.idx = 0) ∧
    (∃ (x : Transfer) (s : State), s.rd.xfer = some x ∧ x.running = true ∧ s.tb.idx = 0 ∧ s.tb.cycleNow ≠ x.cycle) ∧
    (∃ (k : Nat) (s : State), k < s.nTiles ∧ (s.tile k).phase ≠ .out) ∧
    (∃ (k : Nat) (s : State), k < s.nTiles ∧ (s.tile k).phase = .normal ∧ (s.tile (neighbour k)).phase = .normal ∧ s.rd.xfer = none ∧ s.ksLive = true ∧ (s.tile k).carryDue = false) ∧
    (∃ (s : State), ((∀ u < s.nTiles, (s.tile u).carryDue = false))) ∧
    (∃ (k : Nat) (s : State), k < s.nTiles ∧ (s.tile k).phase = .normal ∧ (s.tile k).carryDue = false ∧ (s.tile (neighbour k)).phase = .out ∧ s.rd.xfer = none) ∧
    (∃ (k : Nat) (s : State), k < s.nTiles ∧ (s.tile k).phase = .out) ∧
    (∃ (y : Sync) (s : State), s.rd.flywheel = true ∧ s.rd.ramp = true ∧ 8000 ≤ s.rd.rampTicks ∧ s.st.sync = some y ∧ y.closed = false ∧ y.bay ∈ s.enabledBays) ∧
    (∃ (k : Nat) (s : State), neighbour k < s.nTiles ∧ (s.tile (neighbour k)).carryDue = true ∧ ((∀ u < s.nTiles, u ≠ neighbour k → (s.tile u).carryDue = false))) ∧
    (∃ (s : State), s.tb.running = true) :=
  ⟨⟨{ S7 with rd.flywheel := true, rd.ramp := false, rd.flyTicks := (3200) }, by decide +kernel⟩,
   ⟨{ S7 with rd.flywheel := true, rd.ramp := true, rd.rampTicks := (8000), st.sync := none }, by decide +kernel⟩,
   ⟨h0, 0, { S7 with rd.xfer := none, rd.tiles := [(0, { phase := .normal, carryDue := false }), ((neighbour 0), { phase := .normal, carryDue := false })], rd.haveActive := true }, by decide +kernel⟩,
   ⟨h0, 0, { S7 with rd.xfer := none, rd.tiles := [(0, { phase := .out, recovered := true }), (1, { phase := .carrying })], rd.haveActive := true }, by decide +kernel⟩,
   ⟨{ sender := 0, receiver := 1, back := false, running := false, cycle := 0 }, { S7 with rd.xfer := some { sender := 0, receiver := 1, back := false, running := false, cycle := 0 }, tb.idx := 0 }, by decide +kernel⟩,
   ⟨{ sender := 0, receiver := 1, back := false, running := true, cycle := 1 }, { S7 with rd.xfer := some { sender := 0, receiver := 1, back := false, running := true, cycle := 1 }, tb.idx := 0 }, by decide +kernel⟩,
   ⟨0, S7, by decide +kernel⟩,
   ⟨0, { S7 with rd.xfer := none, rd.tiles := [(0, { phase := .normal, carryDue := false }), ((neighbour 0), { phase := .normal })], rd.haveActive := true }, by decide +kernel⟩,
   ⟨S7, by decide +kernel⟩,
   ⟨0, { S7 with rd.xfer := none, rd.tiles := [(0, { phase := .normal, carryDue := false }), ((neighbour 0), { phase := .out })] }, by decide +kernel⟩,
   ⟨0, { S7 with rd.tiles := [(0, { phase := .out })] }, by decide +kernel⟩,
   ⟨{ bay := 0 }, { S7 with rd.flywheel := true, rd.ramp := true, rd.rampTicks := 8000, st.sync := some { bay := 0 }, md.piers := [(0, { mode := .enabled })] }, by decide +kernel⟩,
   ⟨0, { S7 with rd.tiles := [((neighbour 0), { carryDue := true })] }, by decide +kernel⟩,
   ⟨{ S7 with tb.running := true }, by decide +kernel⟩⟩

/-- The hypotheses of `FirmwareAndUpdates`, clause by clause. -/
theorem witness_FirmwareAndUpdates :
    (∃ (h : Hdr) (s : State), HostReady h 0x0B01 s) ∧
    (∃ (h : Hdr) (s : State), HostReady h 0x0B04 s ∧ s.rd.shadowValid = true) ∧
    (∃ (s : State), s.rd.switchDue = true ∧ s.tb.idx = 0 ∧ s.rd.shadowValid = true ∧ s.rd.haveActive = true ∧ s.rd.flywheel = false) ∧
    (∃ (h : Hdr) (slot : Nat) (off : Nat) (data : List Nat) (s : State), HostReady h 0x0B05 s ∧ slot ≤ 1 ∧ 4 ≤ data.length ∧ data.length ≤ (if h.udp then 1408 else 4032) ∧ data.length % 4 = 0 ∧ s.runsSlot slot = false ∧ ((off = 0 ∨ off = (s.image slot).bytes.length)) ∧ off + data.length ≤ slotSize) ∧
    (∃ (h : Hdr) (slot : Nat) (s : State), HostReady h 0x0B06 s ∧ slot ≤ 1 ∧ s.runsSlot slot = false) ∧
    (∃ (h : Hdr) (slot : Nat) (s : State), HostReady h 0x0B06 s ∧ slot ≤ 1 ∧ s.runsSlot slot = true) ∧
    (∃ (h : Hdr) (s : State), HostReady h 0x0B07 s ∧ s.rd.shadowValid = true ∧ (s.image s.rd.newSlot).verified = true ∧ s.rd.xfer = none ∧ s.rd.flywheel = false) ∧
    (∃ (s : State), s.rd.updatePhase = 1 ∧ s.rd.standby = .absent) ∧
    (∃ (h : Hdr) (slot : Nat) (off : Nat) (data : List Nat) (s : State), HostReady h 0x0B05 s ∧ slot ≤ 1 ∧ 4 ≤ data.length ∧ data.length ≤ (if h.udp then 1408 else 4032) ∧ data.length % 4 = 0 ∧ s.runsSlot slot = false ∧ off ≠ 0 ∧ off ≠ (s.image slot).bytes.length) :=
  ⟨⟨h0, S7, by decide +kernel⟩,
   ⟨h0, { S7 with rd.standby := .ready, rd.shadow := some sh0 }, by decide +kernel⟩,
   ⟨{ S7 with rd.switchDue := true, tb.idx := 0, rd.haveActive := true, rd.flywheel := false, rd.standby := .ready, rd.shadow := some sh0 }, by decide +kernel⟩,
   ⟨h0, 0, 0, [0, 0, 0, 0], S7, by decide +kernel⟩,
   ⟨h0, 0, S7, by decide +kernel⟩,
   ⟨h0, 0, { S7 with st.step4 := true }, by decide +kernel⟩,
   ⟨h0, { S7 with rd.xfer := none, rd.flywheel := false, rd.standby := .ready, rd.shadow := some sh0, rd.images := [(0, { bytes := [1], verified := true }), (1, { bytes := [1], verified := true })] }, by decide +kernel⟩,
   ⟨{ S7 with rd.updatePhase := 1, rd.standby := .absent }, by decide +kernel⟩,
   ⟨h0, 1, 4, [0, 0, 0, 0], S7, by decide +kernel⟩⟩

/-- The hypotheses of `KeystoneLossAndLive`, clause by clause. -/
theorem witness_KeystoneLossAndLive :
    (∃ (h : Shadow) (s : State), SlotsInv s ∧ twf none s.lg.exports = true ∧ s.rd.haveActive = true ∧ s.rd.shadowValid = true ∧ s.rd.shadow = some h ∧ s.st.onceEnergised = true) ∧
    (∃ (s : State), s.rd.tracking = true ∧ 400 ≤ s.rd.trackTicks ∧ s.tb.idx = 0) ∧
    (∃ (c : LossCause) (s : State), s.lossHolds c = false) :=
  ⟨⟨sh0, { S7 with rd.haveActive := true, rd.shadow := some sh0, st.onceEnergised := true, rd.standby := .ready, st.bays := [(0, { phase := .energised })] }, by decide +kernel⟩,
   ⟨{ S7 with rd.tracking := true, rd.trackTicks := (400), tb.idx := 0 }, by decide +kernel⟩,
   ⟨.heartbeat, S7, by decide +kernel⟩⟩

/-- The hypotheses of `TickAdvancesByOne`, clause by clause. -/
theorem witness_TickAdvancesByOne :
    (∃ (s : State), s.tb.running = true ∧ s.tb.bnd = false) ∧
    (∃ (s : State), s.tb.running = true ∧ s.tb.bnd = true) ∧
    (∃ (s : State), s.tb.running = true ∧ s.tb.bnd = true) :=
  ⟨⟨{ S7 with tb.running := true, tb.bnd := false }, by decide +kernel⟩,
   ⟨{ S7 with tb.running := true, tb.bnd := true }, by decide +kernel⟩,
   ⟨{ S7 with tb.running := true, tb.bnd := true }, by decide +kernel⟩⟩

/-- The hypotheses of `PllRows`, clause by clause. -/
theorem witness_PllRows :
    (∃ (s : State), s.tb.pll.canLock = true) ∧
    (∃ (s : State), s.tb.pll.mustUnlock (s.prm 0x0301 0 8 0) = true) ∧
    (∃ (s : State), s.tb.pll.low = true ∧ s.tb.pll.frozen = false) ∧
    (∃ (s : State), s.tb.pll.frozen = true ∧ 800 ≤ s.tb.pll.recoverTicks) ∧
    (∃ (s : State), 800 * s.prm 0x0301 0 3 0 ≤ s.tb.qGrid.ticks) ∧
    (∃ (s : State), 800 * s.prm 0x0301 0 3 0 ≤ s.tb.qSv.ticks) ∧
    (∃ (s : State), 800 * s.prm 0x0301 0 3 0 ≤ s.tb.qFormed.ticks) :=
  ⟨⟨{ S7 with tb.pll.locked := false, tb.pll.goodCycles := 4 }, by decide +kernel⟩,
   ⟨{ S7 with tb.pll.locked := true, tb.pll.errTicks := 16 }, by decide +kernel⟩,
   ⟨{ S7 with tb.pll.low := true, tb.pll.frozen := false }, by decide +kernel⟩,
   ⟨{ S7 with tb.pll.frozen := true, tb.pll.recoverTicks := (800) }, by decide +kernel⟩,
   ⟨{ S7 with tb.qGrid.ticks := (800 * S7.prm 0x0301 0 3 0) }, by decide +kernel⟩,
   ⟨{ S7 with tb.qSv.ticks := (800 * S7.prm 0x0301 0 3 0) }, by decide +kernel⟩,
   ⟨{ S7 with tb.qFormed.ticks := (800 * S7.prm 0x0301 0 3 0) }, by decide +kernel⟩⟩

/-- The hypotheses of `PlantTimeSources`, clause by clause. -/
theorem witness_PlantTimeSources :
    (∃ (s : State), s.usesPtp = true ∧ s.tb.pt.grandmaster = none) ∧
    (∃ (g : Nat × Nat) (off : Int) (s : State), s.usesPtp = true ∧ s.tb.pt.grandmaster = some g ∧ s.tb.pt.phase ≠ .unset ∧ s.tb.pt.onOscillator = false ∧ -1000000000 ≤ off ∧ off ≤ 1000000000) ∧
    (∃ (g : Nat × Nat) (s : State), s.tb.pt.grandmaster = some g ∧ 3000 * s.tb.pt.annInterval ≤ s.tb.pt.annAge ∧ s.tb.pt.inUse = false) ∧
    (∃ (after : Nat) (s : State), s.usesPps = false ∧ s.tb.pt.armed = none ∧ (s.tb.pt.atto + after * 625000000) % 10 ^ 18 = 0 ∧ s.tb.pt.outliers = 0 ∧ s.tb.pt.reacquire = false) ∧
    (∃ (s : State), s.tb.pt.ppsPresent = true ∧ 2000000000000 ≤ s.tb.pt.ppsAge ∧ s.tb.pt.discPps = false) ∧
    (∃ (s : State), s.tb.pt.phase = .acquiring ∧ 16000000000000 ≤ s.tb.pt.goodPs) ∧
    (∃ (after : Nat) (off : Int) (s : State), let now := s.tb.pt.atto + after * 625000000 ; off = (((now + 5 * 10 ^ 17) / 10 ^ 18 * 10 ^ 18 : Nat) : Int) - (now : Nat) ∧ s.ppsMay = true ∧ s.tb.pt.onOscillator = false ∧ s.tb.pt.phase ≠ .unset ∧ s.tb.pt.armed = none ∧ -(10 ^ 14) ≤ off ∧ off ≤ 10 ^ 14) ∧
    (∃ (after : Nat) (off : Int) (s : State), let now := s.tb.pt.atto + after * 625000000 ; off = (((now + 5 * 10 ^ 17) / 10 ^ 18 * 10 ^ 18 : Nat) : Int) - (now : Nat) ∧ s.tb.pt.armed = none ∧ ((10 ^ 14 < off ∨ off < -(10 ^ 14))) ∧ s.tb.pt.reacquire = false ∧ s.tb.pt.outliers + 1 ≠ 8) ∧
    (∃ (after : Nat) (time : Nat) (s : State), s.tb.pt.phase = .unset ∧ s.tb.pt.armed = some time ∧ s.tb.pt.atto + after * 625000000 < time * 10 ^ 9) :=
  ⟨⟨{ S7 with tb.pt.grandmaster := none, xp.act.rows := [(rowKey 0x0302 0 0, [1])] }, by decide +kernel⟩,
   ⟨(1, 2), 0, { S7 with tb.pt.grandmaster := some (1, 2), tb.pt.onOscillator := false, xp.act.rows := [(rowKey 0x0302 0 0, [1])], tb.pt.phase := .locked }, by decide +kernel⟩,
   ⟨(1, 2), { S7 with tb.pt.grandmaster := some (1, 2), tb.pt.annAge := 10 ^ 9, tb.pt.inUse := false }, by decide +kernel⟩,
   ⟨0, { S7 with tb.pt.armed := none, tb.pt.outliers := 0, tb.pt.reacquire := false }, by decide +kernel⟩,
   ⟨{ S7 with tb.pt.ppsPresent := true, tb.pt.ppsAge := (2000000000000), tb.pt.discPps := false }, by decide +kernel⟩,
   ⟨{ S7 with tb.pt.phase := .acquiring, tb.pt.goodPs := (16000000000000) }, by decide +kernel⟩,
   ⟨0, 0, { S7 with tb.pt.onOscillator := false, tb.pt.armed := none, xp.act.rows := [(rowKey 0x0302 0 0, [2])], tb.pt.phase := .locked, tb.pt.atto := 0 }, by decide +kernel⟩,
   ⟨320000, -200000000000000, { S7 with tb.pt.armed := none, tb.pt.reacquire := false, tb.pt.atto := 0 }, by decide +kernel⟩,
   ⟨0, 1, { S7 with tb.pt.phase := .unset, tb.pt.armed := some 1 }, by decide +kernel⟩⟩

/-- The hypotheses of `PpsOutOnlyWhenGood`, clause by clause. -/
theorem witness_PpsOutOnlyWhenGood :
    (∃ (s : State), s.tb.pt.good = true ∧ s.tb.pt.ppsOutAt < s.tb.pt.ns / 1000000000 * 1000000000) ∧
    (∃ (s : State), s.tb.pt.ppsOutAt + 100000000 ≤ s.tb.pt.ns) ∧
    (∃ (s : State), s.tb.pt.ns < s.tb.pt.ppsOutAt + 100000000) ∧
    (∃ (s : State), s.tb.pt.good = false) ∧
    (∃ (i : Instr) (s t : State), (s.tb.pt.ppsOut = true → s.tb.pt.good = true) ∧ exec i s = .next t ∧ t.tb.pt.ppsOut = true) :=
  ⟨⟨{ S7 with tb.pt.phase := .locked, tb.pt.atto := 2 * 10 ^ 18, tb.pt.ppsOutAt := 0 }, by decide +kernel⟩,
   ⟨{ S7 with tb.pt.atto := 10 ^ 17 }, by decide +kernel⟩,
   ⟨S7, by decide +kernel⟩,
   ⟨S7, by decide +kernel⟩,
   ⟨.cycleBoundary, { S7 with tb.pt.ppsOut := true, tb.pt.phase := .locked }, _, by decide +kernel, rfl, by decide +kernel⟩⟩

/-- The hypotheses of `PlantTimeCommands`, clause by clause. -/
theorem witness_PlantTimeCommands :
    (∃ (h : Hdr) (s : State), HostReady h 0x0303 s) ∧
    (∃ (h : Hdr) (time : Nat) (s : State), HostReady h 0x0303 s ∧ s.tb.pt.phase ≠ .unset ∧ ((time * 10 ^ 9 : Nat) : Int) - s.tb.pt.atto ≤ 10 ^ 15) ∧
    (∃ (time : Nat) (s : State), s.tb.pt.phase = .unset ∧ s.tb.pt.ns < time) ∧
    (∃ (h : Hdr) (time : Nat) (s : State), HostReady h 0x0303 s ∧ s.tb.pt.phase = .unset ∧ time ≤ s.tb.pt.ns) ∧
    (∃ (s : State), s.tb.pt.armed.isSome = true ∧ 2000000000000 ≤ s.tb.pt.armedAge) ∧
    (∃ (h : Hdr) (s : State), HostReady h 0x0304 s) ∧
    (∃ (after : Nat) (time : Nat) (s : State), let late := after * 625000000 ; s.tb.pt.phase ≠ .unset ∧ s.tb.pt.armed = some time ∧ ((time * 10 ^ 9 : Nat) : Int) - ((s.tb.pt.atto + late : Nat) : Int) ≤ 10 ^ 15) :=
  ⟨⟨h0, S7, by decide +kernel⟩,
   ⟨h0, 0, { S7 with tb.pt.phase := .locked }, by decide +kernel⟩,
   ⟨1, { S7 with tb.pt.phase := .unset }, by decide +kernel⟩,
   ⟨h0, 0, { S7 with tb.pt.phase := .unset }, by decide +kernel⟩,
   ⟨{ S7 with tb.pt.armedAge := (2000000000000), tb.pt.armed := some 0 }, by decide +kernel⟩,
   ⟨h0, S7, by decide +kernel⟩,
   ⟨0, 0, { S7 with tb.pt.armed := some 0, tb.pt.phase := .locked }, by decide +kernel⟩⟩

/-- The hypotheses of `WaveformSlotRows`, clause by clause. -/
theorem witness_WaveformSlotRows :
    (∃ (h : Hdr) (s : State), HostReady h 0x0402 s) ∧
    (∃ (h : Hdr) (s : State), HostReady h 0x0403 s) ∧
    (∃ (h : Hdr) (s : State), HostReady h 0x0409 s) ∧
    (∃ (i : Nat) (s : State), i < 40 ∧ (tget {} s.sp.slots i).phase = .waiting ∧ (tget {} s.sp.slots i).due.testBit 0 = true) ∧
    (∃ (i : Nat) (s : State), i < 40 ∧ (tget {} s.sp.slots i).phase = .live ∧ (tget {} s.sp.slots i).due.testBit 1 = true ∧ (tget {} s.sp.slots i).asked = 0) ∧
    (∃ (i : Nat) (s : State), i < 40 ∧ (tget {} s.sp.slots i).phase = .rampUp ∧ (tget {} s.sp.slots i).due.testBit 2 = true) ∧
    (∃ (i : Nat) (s : State), i < 40 ∧ (tget {} s.sp.slots i).phase = .rampDown ∧ (tget {} s.sp.slots i).due.testBit 2 = true ∧ (tget {} s.sp.slots i).started = false) :=
  ⟨⟨h0, S7, by decide +kernel⟩,
   ⟨h0, S7, by decide +kernel⟩,
   ⟨h0, S7, by decide +kernel⟩,
   ⟨0, { S7 with sp.slots := [(0, { phase := .waiting, due := 2 ^ 0 })] }, by decide +kernel⟩,
   ⟨0, { S7 with sp.slots := [(0, { phase := .live, due := 2 ^ 1, asked := 0 })] }, by decide +kernel⟩,
   ⟨0, { S7 with sp.slots := [(0, { phase := .rampUp, due := 2 ^ 2 })] }, by decide +kernel⟩,
   ⟨0, { S7 with sp.slots := [(0, { phase := .rampDown, due := 2 ^ 2, started := false })] }, by decide +kernel⟩⟩

/-- The hypotheses of `SerialAndSvRows`, clause by clause. -/
theorem witness_SerialAndSvRows :
    (∃ (port : Nat) (words : List Nat) (s : State), port < 2 ∧ s.prm 0x0404 port 0 0 ≠ 0 ∧ words.length = 4 * s.prm 0x0404 port 1 0 ∧ (tget {} s.sp.serial port).res.fifo.length < s.prm 0x0404 port 2 0) ∧
    (∃ (port : Nat) (words : List Nat) (s : State), port < 2 ∧ s.prm 0x0404 port 0 0 ≠ 0 ∧ words.length ≠ 4 * s.prm 0x0404 port 1 0) ∧
    (∃ (port : Nat) (full : Bool) (s : State), port < 2 ∧ s.prm 0x0404 port 0 0 ≠ 0 ∧ (if full then s.prm 0x0404 port 2 0 ≤ (tget {} s.sp.serial port).res.fifo.length else (tget {} s.sp.serial port).res.fifo = [])) ∧
    (∃ (a : Asdu) (s : State), ((∀ k < 8, s.svMatches k a = false))) ∧
    (∃ (k : Nat) (s : State), k < 8 ∧ 4 ≤ (tget {} s.sp.sv k).absent) ∧
    (∃ (port : Nat) (s : State), port < 2 ∧ s.prm 0x0404 port 0 0 = 0) :=
  ⟨⟨0, [], { S7 with xp.act.rows := [(rowKey 0x0404 0 0, [1]), (rowKey 0x0404 0 1, [0]), (rowKey 0x0404 0 2, [1])] }, by decide +kernel⟩,
   ⟨0, [], { S7 with xp.act.rows := [(rowKey 0x0404 0 0, [1])], sp.serial := [(0, { res.fifo := List.replicate 64 [0] })] }, by decide +kernel⟩,
   ⟨0, false, { S7 with xp.act.rows := [(rowKey 0x0404 0 0, [1])] }, by decide +kernel⟩,
   ⟨{ port := 0, dst := 0, appid := 0, svId := [], confRev := 0, count := 0, sync := 0, values := [] }, S7, by decide +kernel⟩,
   ⟨0, { S7 with sp.sv := [(0, { absent := (4) })] }, by decide +kernel⟩,
   ⟨0, { S7 with xp.act.rows := [(rowKey 0x0404 0 0, [0])] }, by decide +kernel⟩⟩

/-- The hypotheses of `DmaRingRows`, clause by clause. -/
theorem witness_DmaRingRows :
    (∃ (index : Nat) (s : State), s.dmaOn = true ∧ (index + 2 ^ 32 - s.sp.dma.inProd) % 2 ^ 32 < 2 ^ 31 ∧ (index + 2 ^ 32 - s.sp.dma.inCons) % 2 ^ 32 ≤ 2 ^ s.prm 0x0406 0 2 2) ∧
    (∃ (index : Nat) (s : State), s.dmaOn = true ∧ (index + 2 ^ 32 - s.sp.dma.outCons) % 2 ^ 32 < 2 ^ 31) ∧
    (∃ (index : Nat) (s : State), s.dmaOn = true ∧ 2 ^ 31 ≤ (index + 2 ^ 32 - s.sp.dma.outCons) % 2 ^ 32) ∧
    (∃ (block : List Nat) (o : Nat) (post : Nat) (rest : List Nat) (s : State), s.sp.dma.owner = some o ∧ (s.slot o).live = true ∧ s.sp.dma.posted = post :: rest ∧ (getLe block 8 6 * 800 + getLe block 14 2 % 1024) % 64 = 0 ∧ s.sp.dma.expect.getD 0 ≤ getLe block 8 6 * 800 + getLe block 14 2 % 1024) ∧
    (∃ (block : List Nat) (o : Nat) (post : Nat) (rest : List Nat) (s : State), s.sp.dma.owner = some o ∧ (s.slot o).live = true ∧ s.sp.dma.posted = post :: rest ∧ (((getLe block 8 6 * 800 + getLe block 14 2 % 1024) % 64 ≠ 0 ∨ getLe block 8 6 * 800 + getLe block 14 2 % 1024 < s.sp.dma.expect.getD 0))) ∧
    (∃ (o : Nat) (s : State), s.sp.dma.outDone ≠ [] ∧ s.sp.dma.owner = some o ∧ (s.sp.dma.outProd + 2 ^ 32 - s.sp.dma.outCons) % 2 ^ 32 < 2 ^ s.prm 0x0406 0 3 2 ∧ s.sp.dma.gapDue = false) ∧
    (∃ (s : State), s.sp.dma.outDone ≠ [] ∧ 2 ^ s.prm 0x0406 0 3 2 ≤ (s.sp.dma.outProd + 2 ^ 32 - s.sp.dma.outCons) % 2 ^ 32) ∧
    (∃ (s : State), s.dmaOn = false) ∧
    (∃ (index : Nat) (s : State), s.dmaOn = true ∧ ((2 ^ 31 ≤ (index + 2 ^ 32 - s.sp.dma.inProd) % 2 ^ 32 ∨ 2 ^ s.prm 0x0406 0 2 2 < (index + 2 ^ 32 - s.sp.dma.inCons) % 2 ^ 32))) :=
  ⟨⟨0, { S7 with xp.act.rows := [(rowKey 0x0406 0 0, [1])] }, by decide +kernel⟩,
   ⟨0, { S7 with xp.act.rows := [(rowKey 0x0406 0 0, [1])] }, by decide +kernel⟩,
   ⟨2 ^ 31, { S7 with xp.act.rows := [(rowKey 0x0406 0 0, [1])] }, by decide +kernel⟩,
   ⟨[], 0, 0, [], { S7 with sp.dma.owner := some 0, sp.dma.posted := [0] }, by decide +kernel⟩,
   ⟨List.replicate 14 0 ++ [1, 0], 0, 0, [], { S7 with sp.dma.owner := some 0, sp.dma.posted := [0] }, by decide +kernel⟩,
   ⟨0, { S7 with sp.dma.owner := some 0, sp.dma.gapDue := false, sp.dma.outDone := [0] }, by decide +kernel⟩,
   ⟨{ S7 with sp.dma.outDone := [0], sp.dma.outProd := 2 ^ 20 }, by decide +kernel⟩,
   ⟨S7, by decide +kernel⟩,
   ⟨2 ^ 31, { S7 with xp.act.rows := [(rowKey 0x0406 0 0, [1])] }, by decide +kernel⟩⟩

/-- The hypotheses of `SetpointAndSenseRows`, clause by clause. -/
theorem witness_SetpointAndSenseRows :
    (∃ (s : State), 800 ≤ s.sp.setp.goodRun ∧ s.sp.setp.qualified = false) ∧
    (∃ (s : State), 16 ≤ s.sp.setp.badRun ∧ s.sp.setp.lost = false) ∧
    (∃ (k : Nat), k < 8) :=
  ⟨⟨{ S7 with sp.setp.goodRun := (800), sp.setp.qualified := false }, by decide +kernel⟩,
   ⟨{ S7 with sp.setp.badRun := (16), sp.setp.lost := false }, by decide +kernel⟩,
   ⟨0, by decide +kernel⟩⟩

/-- The hypotheses of `ControlCommands`, clause by clause. -/
theorem witness_ControlCommands :
    (∃ (h : Hdr) (q : Nat) (v : Nat) (r : Nat) (s : State), HostReady h 0x0604 s ∧ q ≤ 1 ∧ signedOf 32 v = satQ22 (signedOf 32 v) ∧ r ≤ 8384414 ∧ s.prm 0x0603 0 0 q = 0) ∧
    (∃ (h : Hdr) (q : Nat) (v : Nat) (r : Nat) (s : State), HostReady h 0x0604 s ∧ q ≤ 1 ∧ signedOf 32 v = satQ22 (signedOf 32 v) ∧ r ≤ 8384414 ∧ s.prm 0x0603 0 0 q ≠ 0) ∧
    (∃ (h : Hdr) (b : Nat) (s : State), HostReady h 0x0605 s ∧ b < s.nBays) ∧
    (∃ (h : Hdr) (b : Nat) (s : State), HostReady h 0x0606 s ∧ b < s.nBays) ∧
    (∃ (h : Hdr) (s : State), HostReady h 0x0606 s) ∧
    (∃ (h : Hdr) (b : Nat) (s : State), HostReady h 0x0607 s ∧ b < s.nBays) ∧
    (∃ (h : Hdr) (b : Nat) (s : State), HostReady h 0x0608 s ∧ b < s.nBays) :=
  ⟨⟨h0, 0, 0, 0, S7, by decide +kernel⟩,
   ⟨h0, 0, 0, 0, { S7 with xp.act.rows := [(rowKey 0x0603 0 0, [1, 0])] }, by decide +kernel⟩,
   ⟨h0, 0, S7, by decide +kernel⟩,
   ⟨h0, 0, S7, by decide +kernel⟩,
   ⟨h0, S7, by decide +kernel⟩,
   ⟨h0, 0, S7, by decide +kernel⟩,
   ⟨h0, 0, S7, by decide +kernel⟩⟩

/-- The hypotheses of `ControlStageAndPlumb`, clause by clause. -/
theorem witness_ControlStageAndPlumb :
    (∃ (s : State), s.ksRuns = false) ∧
    (∃ (s : State), s.ksRuns = true) ∧
    (∃ (b : Nat) (k : Nat) (s : State), b < s.nBays ∧ k < 3 ∧ (s.pierCtl (pierIx b k)).model = true ∧ 4 ≤ (s.pierCtl (pierIx b k)).goodTicks ∧ (s.pierCtl (pierIx b k)).modelTicks ≤ 16) ∧
    (∃ (b : Nat) (k : Nat) (s : State), b < s.nBays ∧ k < 3 ∧ (s.pierCtl (pierIx b k)).model = true ∧ 16 ≤ (s.pierCtl (pierIx b k)).modelTicks ∧ (s.pierCtl (pierIx b k)).goodTicks < 4 ∧ s.syncingBay b = false) ∧
    (∃ (b : Nat) (k : Nat) (s : State), b < s.nBays ∧ k < 3 ∧ (s.pierCtl (pierIx b k)).model = false) ∧
    (∃ (b : Nat) (k : Nat) (y : Sync) (s : State), b < s.nBays ∧ k < 3 ∧ (s.pierCtl (pierIx b k)).model = true ∧ 16 ≤ (s.pierCtl (pierIx b k)).modelTicks ∧ (s.pierCtl (pierIx b k)).goodTicks < 4 ∧ s.st.sync = some y ∧ y.bay = b ∧ y.closed = false) :=
  ⟨⟨S7, by decide +kernel⟩,
   ⟨{ S7 with rd.haveActive := true }, by decide +kernel⟩,
   ⟨0, 0, { S7 with ce.piers := [((pierIx 0 0), { model := true, goodTicks := (4) })] }, by decide +kernel⟩,
   ⟨0, 0, { S7 with ce.piers := [((pierIx 0 0), { model := true, modelTicks := (16) })] }, by decide +kernel⟩,
   ⟨0, 0, { S7 with ce.piers := [((pierIx 0 0), { model := false })] }, by decide +kernel⟩,
   ⟨0, 0, { bay := 0 }, { S7 with st.sync := some { bay := 0 }, ce.piers := [(pierIx 0 0, { model := true, modelTicks := 16 })] }, by decide +kernel⟩⟩

/-- The hypotheses of `DisableCommands`, clause by clause. -/
theorem witness_DisableCommands :
    (∃ (h : Hdr) (b : Nat) (k : Nat) (mode : Nat) (s : State), HostReady h 0x0704 s ∧ b < s.nBays ∧ k < 3 ∧ mode ≤ 2 ∧ (s.bayLink b).closed = false ∧ s.st.sync = none ∧ (s.pierMod (pierIx b k)).mode = .enabled) ∧
    (∃ (h : Hdr) (b : Nat) (k : Nat) (mode : Nat) (s : State), HostReady h 0x0704 s ∧ b < s.nBays ∧ k < 3 ∧ 2 < mode) ∧
    (∃ (h : Hdr) (b : Nat) (s : State), HostReady h 0x0705 s ∧ b < s.nBays ∧ s.st.sync = none ∧ (s.pierMod (3 * b)).mode = .enabled) ∧
    (∃ (h : Hdr) (b : Nat) (mode : Nat) (s : State), HostReady h 0x0705 s ∧ b < s.nBays ∧ mode ≤ 2 ∧ s.st.sync = none) ∧
    (∃ (h : Hdr) (mode : Nat) (s : State), HostReady h 0x0706 s ∧ mode ≤ 2 ∧ s.st.sync = none) ∧
    (∃ (h : Hdr) (b : Nat) (k : Nat) (mode : Nat) (s : State), HostReady h 0x0704 s ∧ b < s.nBays ∧ k < 3 ∧ mode ≤ 2 ∧ (s.bayLink b).closed = true ∧ s.st.sync = none ∧ (s.pierMod (3 * b)).mode = .enabled) ∧
    (∃ (h : Hdr) (b : Nat) (k : Nat) (mode : Nat) (y : Sync) (s : State), HostReady h 0x0704 s ∧ b < s.nBays ∧ k < 3 ∧ mode ≤ 2 ∧ (s.bayLink b).closed = false ∧ s.st.sync = some y ∧ y.bay = b ∧ y.closed = false) ∧
    (∃ (b : Nat) (s : State), s.st.sync = none ∧ (s.pierMod (3 * b)).mode = .enabled) ∧
    (∃ (p : Nat) (m : PierMode) (s : State), s.st.sync = none ∧ (s.pierMod p).mode ≠ m) :=
  ⟨⟨h0, 0, 0, 0, { S7 with st.sync := none, lk.bays := [(0, { accepted := true, brkValid := true })], md.piers := [(0, { mode := .enabled })] }, by decide +kernel⟩,
   ⟨h0, 0, 0, (2 + 1), S7, by decide +kernel⟩,
   ⟨h0, 0, { S7 with st.sync := none, md.piers := [(0, { mode := .enabled })] }, by decide +kernel⟩,
   ⟨h0, 0, 0, { S7 with st.sync := none }, by decide +kernel⟩,
   ⟨h0, 0, { S7 with st.sync := none }, by decide +kernel⟩,
   ⟨h0, 0, 0, 0, { S7 with st.sync := none, md.piers := [(0, { mode := .enabled })] }, by decide +kernel⟩,
   ⟨h0, 0, 0, 0, { bay := 0 }, { S7 with st.sync := some { bay := 0 }, lk.bays := [(0, { accepted := true, brkValid := true })] }, by decide +kernel⟩,
   ⟨0, { S7 with st.sync := none, md.piers := [((3 * 0), { mode := .enabled })] }, by decide +kernel⟩,
   ⟨0, .floated, { S7 with st.sync := none, md.piers := [(0, { mode := .enabled })] }, by decide +kernel⟩⟩

/-- The hypotheses of `EnableCommands`, clause by clause. -/
theorem witness_EnableCommands :
    (∃ (h : Hdr) (b : Nat) (k : Nat) (s : State), HostReady h 0x0707 s ∧ b < s.nBays ∧ k < 3 ∧ s.enableOk b = true ∧ (s.bayStart b).excl = .none) ∧
    (∃ (h : Hdr) (b : Nat) (k : Nat) (s : State), HostReady h 0x0707 s ∧ b < s.nBays ∧ k < 3 ∧ (s.enableOk b = false ∨ (s.bayStart b).excl ≠ .none)) ∧
    (∃ (h : Hdr) (b : Nat) (s : State), HostReady h 0x0708 s ∧ b < s.nBays ∧ s.enableOk b = true ∧ (s.bayStart b).excl = .none) ∧
    (∃ (h : Hdr) (s : State), HostReady h 0x0709 s ∧ s.stopping = false ∧ s.fu.maint = false ∧ s.huReady = true) ∧
    (∃ (b : Nat) (k : Nat) (s : State), b < s.nBays ∧ k < 3 ∧ (s.pierMod (pierIx b k)).enabling = true ∧ s.tb.idx = 0 ∧ s.rd.flywheel = false ∧ s.enableOk b = true) ∧
    (∃ (b : Nat) (k : Nat) (s : State), b < s.nBays ∧ k < 3 ∧ (s.pierMod (pierIx b k)).enabling = true ∧ s.tb.idx = 0 ∧ s.rd.flywheel = false ∧ s.enableOk b = false) ∧
    (∃ (b : Nat) (k : Nat) (s : State), b < s.nBays ∧ k < 3 ∧ s.rd.flywheel = true) ∧
    (∃ (h : Hdr) (b : Nat) (s : State), HostReady h 0x0708 s ∧ b < s.nBays ∧ s.stopping = false ∧ s.fu.maint = false ∧ s.huReady = true ∧ (s.bayStart b).excl = .command) ∧
    (∃ (h : Hdr) (b : Nat) (s : State), HostReady h 0x0708 s ∧ HostReady h 0x0709 s ∧ b < s.nBays ∧ (s.stopping = true ∨ s.fu.maint = true ∨ s.huReady = false)) :=
  ⟨⟨h0, 0, 0, { S7 with st.bays := [(0, { excl := .none })], lk.bays := [(0, { accepted := true, brkValid := true })], xp.act.rows := [(rowKey 0x0601 0 0, [1]), (rowKey 0x0801 0 4, List.replicate 130 1)], ftg.bankMv := 60000 }, by decide +kernel⟩,
   ⟨h0, 0, 0, S7, by decide +kernel⟩,
   ⟨h0, 0, { S7 with st.bays := [(0, { excl := .none })], lk.bays := [(0, { accepted := true, brkValid := true })], xp.act.rows := [(rowKey 0x0601 0 0, [1]), (rowKey 0x0801 0 4, List.replicate 130 1)], ftg.bankMv := 60000 }, by decide +kernel⟩,
   ⟨h0, { S7 with fu.maint := false, ftg.bankMv := 60000 }, by decide +kernel⟩,
   ⟨0, 0, { S7 with tb.idx := 0, rd.flywheel := false, md.piers := [(0, { mode := .floated, enabling := true })], lk.bays := [(0, { accepted := true, brkValid := true })], xp.act.rows := [(rowKey 0x0601 0 0, [1]), (rowKey 0x0801 0 4, List.replicate 130 1)], ftg.bankMv := 60000 }, by decide +kernel⟩,
   ⟨0, 0, { S7 with tb.idx := 0, rd.flywheel := false, md.piers := [(0, { enabling := true })] }, by decide +kernel⟩,
   ⟨0, 0, { S7 with rd.flywheel := true }, by decide +kernel⟩,
   ⟨h0, 0, { S7 with fu.maint := false, st.bays := [(0, { excl := .command })], ftg.bankMv := 60000 }, by decide +kernel⟩,
   ⟨h0, 0, { S7 with fu.maint := true }, by decide +kernel⟩⟩

/-- The hypotheses of `TripPathRows`, clause by clause. -/
theorem witness_TripPathRows :
    (∃ (h : Hdr) (s : State), HostReady h 0x070A s ∧ SlotsInv s) ∧
    (∃ (i : Nat) (s : State), i < 12 ∧ s.tripEnabled i = true) ∧
    (∃ (i : Nat) (s : State), i < 8 ∧ s.tripEnabled i = false) ∧
    (∃ (i : Nat), i < 8) ∧
    (∃ (i : Nat), 8 ≤ i ∧ i < 12) ∧
    (∃ (i : Nat) (s : State), 8 ≤ i ∧ i < 12 ∧ s.tripEnabled i = false) ∧
    (∃ (s : State), s.anyGsTrip = true) ∧
    (∃ (s : State), s.anyGsTrip = false) ∧
    (∃ (h : Hdr) (s : State), HostReady h 0x070B s ∧ s.sp.isoFault = false ∧ ((∀ i < 12, s.tripEnabled i = true → (if i < 8 then s.md.gsIn.testBit i else s.md.gpioIn.testBit (i - 8)) = false))) ∧
    (∃ (h : Hdr) (i : Nat) (s : State), HostReady h 0x070B s ∧ i < 12 ∧ s.tripEnabled i = true ∧ (if i < 8 then s.md.gsIn.testBit i else s.md.gpioIn.testBit (i - 8)) = true) ∧
    (∃ (h : Hdr) (s : State), HostReady h 0x070B s ∧ s.sp.isoFault = true) ∧
    (∃ (m : Modulator), m.resetDue = true) :=
  ⟨⟨h0, S7, by decide +kernel⟩,
   ⟨0, S7, by decide +kernel⟩,
   ⟨0, { S7 with xp.act.rows := [(rowKey 0x0703 0 0, [0])] }, by decide +kernel⟩,
   ⟨0, by decide +kernel⟩,
   ⟨(8), by decide +kernel⟩,
   ⟨(8), S7, by decide +kernel⟩,
   ⟨S7, by decide +kernel⟩,
   ⟨{ S7 with xp.act.rows := (List.range 12).map (fun i => (rowKey 0x0703 i 0, [0])) }, by decide +kernel⟩,
   ⟨h0, { S7 with sp.isoFault := false, xp.act.rows := (List.range 12).map (fun i => (rowKey 0x0703 i 0, [0])) }, by decide +kernel⟩,
   ⟨h0, 0, { S7 with md.gsIn := 1 }, by decide +kernel⟩,
   ⟨h0, { S7 with sp.isoFault := true }, by decide +kernel⟩,
   ⟨{ resetDue := true }, by decide +kernel⟩⟩

/-- The hypotheses of `FreezeAndStageRows`, clause by clause. -/
theorem witness_FreezeAndStageRows :
    (∃ (s : State), s.production = true) ∧
    (∃ (s : State), s.production = false) ∧
    (∃ (s : State), s.md.halted = false ∧ s.md.frozen = false) ∧
    (∃ (s : State), s.md.halted = false ∧ s.md.frozen = true ∧ ((∀ b, (s.bayMod b).frozen = true → s.syncingBay b = false))) ∧
    (∃ (s : State), s.md.frozen = true ∧ s.md.freezeLimit * 800 ≤ s.md.freezeTicks) ∧
    (∃ (s : State), s.md.frozen = false) ∧
    (∃ (s : State), s.tb.running = false) ∧
    (∃ (s : State), s.tb.running = true) ∧
    (∃ (h : Hdr) (b : Nat) (k : Nat) (s : State), HostReady h 0x070C s ∧ b < s.nBays ∧ k < 3) ∧
    (∃ (s : State), s.md.halted = true) ∧
    (∃ (s : State), s.md.freezeReq = true) ∧
    (∃ (s : State), s.md.freezeReq = false ∧ s.md.frozen = false) ∧
    (∃ (s : State), s.md.freezeReq = false ∧ s.md.frozen = true) ∧
    (∃ (b : Nat) (y : Sync) (s : State), s.md.halted = false ∧ s.md.frozen = true ∧ s.st.sync = some y ∧ y.bay = b ∧ b < s.nBays ∧ y.closed = false ∧ (s.bayMod b).frozen = true) :=
  ⟨⟨S7, by decide +kernel⟩,
   ⟨{ S7 with fu.words := [] }, by decide +kernel⟩,
   ⟨{ S7 with md.halted := false, md.frozen := false }, by decide +kernel⟩,
   ⟨{ S7 with md.halted := false, md.frozen := true }, by decide +kernel, by decide +kernel, fun _ _ => rfl⟩,
   ⟨{ S7 with md.frozen := true, md.freezeTicks := (S7.md.freezeLimit * 800) }, by decide +kernel⟩,
   ⟨{ S7 with md.frozen := false }, by decide +kernel⟩,
   ⟨{ S7 with tb.running := false }, by decide +kernel⟩,
   ⟨{ S7 with tb.running := true }, by decide +kernel⟩,
   ⟨h0, 0, 0, S7, by decide +kernel⟩,
   ⟨{ S7 with md.halted := true }, by decide +kernel⟩,
   ⟨{ S7 with md.freezeReq := true }, by decide +kernel⟩,
   ⟨{ S7 with md.freezeReq := false, md.frozen := false }, by decide +kernel⟩,
   ⟨{ S7 with md.freezeReq := false, md.frozen := true }, by decide +kernel⟩,
   ⟨0, { bay := 0 }, { S7 with md.halted := false, md.frozen := true, st.sync := some { bay := 0 }, md.bays := [(0, { frozen := true })] }, by decide +kernel⟩⟩

/-- The hypotheses of `RecordRows`, clause by clause. -/
theorem witness_RecordRows :
    (∃ (h : Hdr) (unit : Nat) (max : Nat) (s : State), HostReady h 0x0802 s ∧ (checkUid s.nBays unit).1 = 0 ∧ 0 < max) ∧
    (∃ (h : Hdr) (unit : Nat) (scope : Nat) (s : State), HostReady h 0x0802 s ∧ (checkUid s.nBays unit).1 = 0 ∧ 1 < scope) ∧
    (∃ (h : Hdr) (unit : Nat) (start : Nat) (max : Nat) (s : State), HostReady h 0x0802 s ∧ (checkUid s.nBays unit).1 = 0 ∧ (checkUid s.nBays unit).2.level ≠ 0 ∧ 0 < max ∧ start < memberCount s.nBays (checkUid s.nBays unit).2) ∧
    (∃ (h : Hdr) (unit : Nat) (s : State), HostReady h 0x0802 s ∧ (checkUid s.nBays unit).1 = 0 ∧ (checkUid s.nBays unit).2.level = 0) ∧
    (∃ (h : Hdr) (unit : Nat) (s : State), HostReady h 0x0803 s ∧ (checkUid s.nBays unit).1 = 0) ∧
    (∃ (h : Hdr) (unit : Nat) (s : State), HostReady h 0x0804 s ∧ (checkUid s.nBays unit).1 = 0 ∧ (checkUid s.nBays unit).2.level ≠ 0) ∧
    (∃ (h : Hdr) (unit : Nat) (s : State), HostReady h 0x0804 s ∧ (checkUid s.nBays unit).1 = 0 ∧ (checkUid s.nBays unit).2.level = 0 ∧ ((∀ e ∈ s.bricksOf (checkUid s.nBays unit).2, e.2.state ≠ .quarantined))) ∧
    (∃ (h : Hdr) (unit : Nat) (e : Nat × Rec) (s : State), HostReady h 0x0804 s ∧ (checkUid s.nBays unit).1 = 0 ∧ (checkUid s.nBays unit).2.level = 0 ∧ s.bricksOf (checkUid s.nBays unit).2 = [e] ∧ e.2.state = .quarantined) :=
  ⟨⟨h0, 0, (0 + 1), S7, by decide +kernel⟩,
   ⟨h0, 0, (1 + 1), S7, by decide +kernel⟩,
   ⟨h0, bayUid 0, 0, 1, S7, by decide +kernel⟩,
   ⟨h0, 0, S7, by decide +kernel⟩,
   ⟨h0, 0, S7, by decide +kernel⟩,
   ⟨h0, plantUid, S7, by decide +kernel⟩,
   ⟨h0, 0, S7, by decide +kernel⟩,
   ⟨h0, 0, (0, { state := .quarantined }), { S7 with rc.bricks := [(0, { state := .quarantined })] }, by decide +kernel⟩⟩

/-- The hypotheses of `ImpedanceRows`, clause by clause. -/
theorem witness_ImpedanceRows :
    (∃ (h : Hdr) (b : Nat) (k : Nat) (s : State), HostReady h 0x0903 s ∧ b < s.nBays ∧ k < 3 ∧ s.zPrm 0 0 ≠ 0 ∧ s.halfRate (tileOf b) = false ∧ (s.tile (tileOf b)).phase ≠ .out ∧ (tget {} s.z.tiles (tileOf b)).requests.length < 4) ∧
    (∃ (h : Hdr) (unit : Nat) (s : State), HostReady h 0x0904 s ∧ (checkLevel s.nBays 0 unit).1 = 0) ∧
    (∃ (h : Hdr) (g : Nat) (pair : Nat) (cycles : Nat) (s : State), HostReady h 0x0905 s ∧ ((g = 6 ∨ g = 7)) ∧ pair ≤ 2 ∧ 8 ≤ cycles ∧ cycles ≤ 1024 ∧ s.prm 0x0504 g 0 0 = 1 ∧ s.prm 0x0504 g 1 0 ≠ 0 ∧ s.prm 0x0504 g 2 0 * 800 * cycles % 2 ^ 32 = 0 ∧ s.z.grid = none ∧ s.z.gridPend = none) ∧
    (∃ (h : Hdr) (s : State), HostReady h 0x0906 s) ∧
    (∃ (p : Nat) (q : Pass) (s : State), p < s.nBays * 3 ∧ s.tb.idx = 1 ∧ (tget {} s.z.slots (2 * tileOf (p / 3))).ending = some q ∧ q.pier = p) ∧
    (∃ (g : Nat) (pair : Nat) (cycles : Nat) (s : State), s.z.gridPend = some (g, pair, cycles) ∧ s.tb.idx = 0) ∧
    (∃ (g : GridZRun) (s : State), s.z.grid = some g ∧ g.cycles * 800 ≤ g.ticks) :=
  ⟨⟨h0, 0, 0, S7, by decide +kernel⟩,
   ⟨h0, 0, S7, by decide +kernel⟩,
   ⟨h0, 6, 0, 8, { S7 with z.grid := none, z.gridPend := none, xp.act.rows := [(rowKey 0x0504 6 0, [1]), (rowKey 0x0504 6 1, [1]), (rowKey 0x0504 6 2, [0])] }, by decide +kernel⟩,
   ⟨h0, S7, by decide +kernel⟩,
   ⟨0, { pier := 0, cycle := 0, len := 16, requested := false, periods := 0, parts := [] }, { S7 with tb.idx := 1, z.slots := [(0, { ending := some { pier := 0, cycle := 0, len := 16, requested := false, periods := 0, parts := [] } })] }, by decide +kernel⟩,
   ⟨6, 0, 8, { S7 with z.gridPend := some (6, 0, 8), tb.idx := 0 }, by decide +kernel⟩,
   ⟨{ gen := 6, pair := 0, cycles := 8, cycle := 0, freqWord := 0, generation := 0, vRe := 0, vIm := 0, iRe := 0, iIm := 0, ticks := 6400, invalid := false, frozen := false, slewing := false }, { S7 with z.grid := some { gen := 6, pair := 0, cycles := 8, cycle := 0, freqWord := 0, generation := 0, vRe := 0, vIm := 0, iRe := 0, iIm := 0, ticks := 6400, invalid := false, frozen := false, slewing := false } }, by decide +kernel⟩⟩

/-- The hypotheses of `LoadRows`, clause by clause. -/
theorem witness_LoadRows :
    (∃ (h : Hdr) (b : Nat) (temp : Nat) (s : State), HostReady h 0x0908 s ∧ b < s.nBays ∧ -6400 ≤ signedOf 16 temp ∧ signedOf 16 temp ≤ 7680) ∧
    (∃ (h : Hdr) (b : Nat) (temp : Nat) (s : State), HostReady h 0x0908 s ∧ b < s.nBays ∧ (signedOf 16 temp < -6400 ∨ 7680 < signedOf 16 temp)) ∧
    (∃ (h : Hdr) (b : Nat) (s : State), HostReady h 0x0909 s ∧ b < s.nBays) ∧
    (∃ (h : Hdr) (b : Nat) (k : Nat) (s : State), HostReady h 0x090A s ∧ b < s.nBays ∧ k < 3) ∧
    (∃ (h : Hdr) (b : Nat) (k : Nat) (s : State), HostReady h 0x090A s ∧ b < s.nBays ∧ k < 3 ∧ (tget {} s.ld.piers (pierIx b k)).lastGood = none) ∧
    (∃ (h : Hdr) (b : Nat) (s : State), HostReady h 0x090B s ∧ b < s.nBays) ∧
    (∃ (b : Nat) (s : State), b < s.nBays ∧ (tget {} s.ld.bays b).fallback = false ∧ s.prm 0x0907 b 12 1 * 1000000000 ≤ (tget {} s.ld.bays b).ambAge) ∧
    (∃ (p : Nat) (s : State), p < 3 * s.nBays ∧ (tget {} s.ld.piers p).cycles < s.prm 0x0907 (p / 3) 13 0) ∧
    (∃ (p : Nat) (s : State), p < 3 * s.nBays ∧ s.prm 0x0907 (p / 3) 13 0 ≤ (tget {} s.ld.piers p).cycles ∧ (tget {} s.ld.piers p).baseline = none) ∧
    (∃ (h : Hdr) (temp : Nat) (s : State), HostReady h 0x0908 s ∧ -6400 ≤ signedOf 16 temp ∧ signedOf 16 temp ≤ 7680) :=
  ⟨⟨h0, 0, 0, S7, by decide +kernel⟩,
   ⟨h0, 0, 0x7FFF, S7, by decide +kernel⟩,
   ⟨h0, 0, S7, by decide +kernel⟩,
   ⟨h0, 0, 0, S7, by decide +kernel⟩,
   ⟨h0, 0, 0, { S7 with ld.piers := [((pierIx 0 0), { lastGood := none })] }, by decide +kernel⟩,
   ⟨h0, 0, S7, by decide +kernel⟩,
   ⟨0, { S7 with ld.bays := [(0, { fallback := false, ambAge := (S7.prm 0x0907 0 12 1 * 1000000000) })] }, by decide +kernel⟩,
   ⟨0, { S7 with xp.act.rows := [(rowKey 0x0907 (0 / 3) 13, [((tget {} S7.ld.piers 0).cycles + 1)])] }, by decide +kernel⟩,
   ⟨0, { S7 with ld.piers := [(0, { cycles := (S7.prm 0x0907 (0 / 3) 13 0), baseline := none })] }, by decide +kernel⟩,
   ⟨h0, 0, S7, by decide +kernel⟩⟩

/-- The hypotheses of `LaneRows`, clause by clause. -/
theorem witness_LaneRows :
    (∃ (b : Nat) (s : State), b < s.nBays ∧ (s.tile (tileOf b)).failed = false) ∧
    (∃ (b : Nat) (s : State), b < s.nBays) ∧
    (∃ (b : Nat) (s : State), b < s.nBays ∧ (s.bayLink b).trained = true) ∧
    (∃ (b : Nat) (s : State), b < s.nBays ∧ (s.bayLink b).trained = false) ∧
    (∃ (b : Nat) (m : HelloMsg) (s : State), b < s.nBays ∧ (s.bayLink b).trained = true ∧ (s.tile (tileOf b)).failed = false ∧ m.serial ≠ 0 ∧ m.bay = b ∧ (s.bayLink b).trips ≠ [] ∧ (s.bayLink b).delay m.turnaround ≤ 1600) ∧
    (∃ (b : Nat) (m : HelloMsg) (s : State), b < s.nBays ∧ (s.bayLink b).trained = true ∧ (s.tile (tileOf b)).failed = false ∧ m.serial = 0) ∧
    (∃ (b : Nat) (s : State), b < s.nBays ∧ ((s.bayLink b).trained = false ∨ (s.tile (tileOf b)).failed = true)) ∧
    (∃ (b : Nat) (m : RingMsg) (s : State), b < s.nBays ∧ m.pos < 384) ∧
    (∃ (b : Nat) (s : State), b < s.nBays ∧ (s.bayStart b).phase = .lane ∧ 1000000000000 ≤ (s.bayStart b).age) ∧
    (∃ (b : Nat) (s : State), b < s.nBays ∧ (s.bayStart b).age < 1000000000000) ∧
    (∃ (b : Nat) (s : State), b < s.nBays ∧ (s.tile (tileOf b)).failed = true) :=
  ⟨⟨0, { S7 with rd.tiles := [((tileOf 0), { failed := false })] }, by decide +kernel⟩,
   ⟨0, S7, by decide +kernel⟩,
   ⟨0, { S7 with lk.bays := [(0, { trained := true })] }, by decide +kernel⟩,
   ⟨0, { S7 with lk.bays := [(0, { trained := false })] }, by decide +kernel⟩,
   ⟨0, { serial := 1, bay := 0, fw := 0, twin := 0, turnaround := 0 }, { S7 with lk.bays := [(0, { trained := true, trips := [2] })], rd.tiles := [((tileOf 0), { failed := false })] }, by decide +kernel⟩,
   ⟨0, { serial := 0, bay := 0, fw := 0, twin := 0, turnaround := 0 }, { S7 with lk.bays := [(0, { trained := true })], rd.tiles := [((tileOf 0), { failed := false })] }, by decide +kernel⟩,
   ⟨0, S7, by decide +kernel⟩,
   ⟨0, { pos := 383, fromA := 0, fromB := 0 }, S7, by decide +kernel⟩,
   ⟨0, { S7 with st.bays := [(0, { phase := .lane, age := (1000000000000) })] }, by decide +kernel⟩,
   ⟨0, S7, by decide +kernel⟩,
   ⟨0, { S7 with rd.tiles := [((tileOf 0), { failed := true })] }, by decide +kernel⟩⟩

/-- The hypotheses of `CourseRows`, clause by clause. -/
theorem witness_CourseRows :
    (∃ (c : Nat) (s : State), c < s.nBays * 384 ∧ (s.course c).serves = true ∧ (s.course c).dark = false ∧ 2 ≤ (s.course c).missing ∧ s.frameHere (c / 384) = true) ∧
    (∃ (c : Nat) (s : State), c < s.nBays * 384 ∧ (s.course c).dark = true) ∧
    (∃ (c : Nat) (s : State), c < s.nBays * 384 ∧ (s.course c).serves = true ∧ (s.course c).dark = true ∧ s.prm 0x0A01 0 1 0 * 800 ≤ (s.course c).darkTicks) ∧
    (∃ (c : Nat) (s : State), c < s.nBays * 384 ∧ (s.course c).dark = false) ∧
    (∃ (c : Nat) (s : State), c < s.nBays * 384 ∧ (s.course c).phase = .withdrawn ∧ 2 ≤ (s.course c).withdrawCycles) ∧
    (∃ (c : Nat) (s : State), c < s.nBays * 384 ∧ (s.course c).withdrawCycles < 2) ∧
    (∃ (b : Nat) (m : JoinMsg) (s : State) (typed : Bool), b < s.nBays ∧ m.pos < 384 ∧ s.isFitted (b * 384 + m.pos) = true ∧ m.serial ≠ 0 ∧ (s.course (b * 384 + m.pos)).phase = .out ∧ typed = ((s.course (b * 384 + m.pos)).reason == 2 && (s.course (b * 384 + m.pos)).offer == m.serial) ∧ (if typed then (s.bayLink b).maint.isSome else s.windowCovers (b * 384 + m.pos)) = true ∧ m.ctype = s.pierType (b * 384 + m.pos) ∧ s.serialElsewhere (b * 384 + m.pos) m.serial = false ∧ m.ordered = true ∧ s.badCal (b * 384 + m.pos) m.serial m.cal = false ∧ (s.bayLink b).accepts < s.prm 0x0A01 0 0 0) ∧
    (∃ (b : Nat) (m : JoinMsg) (s : State), b < s.nBays ∧ 384 ≤ m.pos) ∧
    (∃ (b : Nat) (m : SerialsMsg) (s : State), b < s.nBays ∧ m.pos < 384 ∧ m.part ≤ 3 ∧ m.serials.length = 24 ∧ (s.course (b * 384 + m.pos)).hand = true ∧ m.part ≠ (s.course (b * 384 + m.pos)).parts.length) ∧
    (∃ (b : Nat) (m : SerialsMsg) (s : State), b < s.nBays ∧ m.pos < 384 ∧ m.part < 3 ∧ m.serials.length = 24 ∧ (s.course (b * 384 + m.pos)).hand = true ∧ m.part = (s.course (b * 384 + m.pos)).parts.length ∧ ((m.part = 0 ∨ s.absTick = (s.course (b * 384 + m.pos)).partTick + 1))) ∧
    (∃ (f : UpFrame) (s : State), f.lane < s.nBays ∧ (s.bayLink f.lane).trained = true ∧ (s.tile (tileOf f.lane)).phase ≠ .out ∧ ((f.inTime = false ∨ f.bytes.length ≠ 40756 + 6 * getLe f.bytes 12 2 + getLe f.bytes 14 2 ∨ getLe f.bytes (f.bytes.length - 4) 4 ≠ crc32 (f.bytes.take (f.bytes.length - 4)) ∨ getLe f.bytes 0 1 ≠ 1))) ∧
    (∃ (f : UpFrame) (s : State), f.lane < s.nBays ∧ (s.bayLink f.lane).trained = true ∧ (s.tile (tileOf f.lane)).phase ≠ .out ∧ f.inTime = true ∧ f.bytes.length = 40756 + 6 * getLe f.bytes 12 2 + getLe f.bytes 14 2 ∧ getLe f.bytes (f.bytes.length - 4) 4 = crc32 (f.bytes.take (f.bytes.length - 4)) ∧ getLe f.bytes 0 1 = 1 ∧ getLe f.bytes 1 1 = f.lane ∧ getLe f.bytes 4 8 % 2 ^ 58 + 1 = s.absTick ∧ ¬ ((s.bayLink f.lane).accepted = true ∧ (s.bayLink f.lane).upTick + 1 = s.absTick)) ∧
    (∃ (b : Nat) (s : State), b < s.nBays ∧ (s.bayLink b).lost = false ∧ ((10 ≤ (s.bayLink b).missed ∨ ((s.bayLink b).accepted = true ∧ (s.bayLink b).hubFloated = true ∧ (s.bayLink b).release = false))) ∧ s.st.sync = none) ∧
    (∃ (b : Nat) (s : State), b < s.nBays ∧ (s.bayLink b).lost = true) ∧
    (∃ (b : Nat) (m : SerialsMsg) (all : List Nat) (s : State), b < s.nBays ∧ m.pos < 384 ∧ m.part = 3 ∧ m.serials.length = 24 ∧ (s.course (b * 384 + m.pos)).hand = true ∧ (s.course (b * 384 + m.pos)).parts.length = 3 ∧ s.absTick = (s.course (b * 384 + m.pos)).partTick + 1 ∧ all = (s.course (b * 384 + m.pos)).parts.flatten ++ m.serials ∧ 0 ∉ all ∧ s.isFitted (b * 384 + m.pos) = true ∧ (s.course (b * 384 + m.pos)).ctype = s.pierType (b * 384 + m.pos) ∧ s.badCal (b * 384 + m.pos) (s.course (b * 384 + m.pos)).serial (s.course (b * 384 + m.pos)).cal = false ∧ s.serialClash (b * 384 + m.pos) all = false ∧ s.voltageFails (b * 384 + m.pos) all ((s.course (b * 384 + m.pos)).codes ++ (List.range 24).map (fun i => m.codes.getD i none)) = false) ∧
    (∃ (b : Nat) (m : SerialsMsg) (s : State), b < s.nBays ∧ m.pos < 384 ∧ m.part = 3 ∧ m.serials.length = 24 ∧ (s.course (b * 384 + m.pos)).hand = true ∧ (s.course (b * 384 + m.pos)).parts.length = 3 ∧ s.absTick = (s.course (b * 384 + m.pos)).partTick + 1) ∧
    (∃ (f : UpFrame) (b : Nat) (s : State), f.lane < s.nBays ∧ (s.bayLink f.lane).trained = true ∧ (s.tile (tileOf f.lane)).phase ≠ .out ∧ f.inTime = true ∧ f.bytes.length = 40756 + 6 * getLe f.bytes 12 2 + getLe f.bytes 14 2 ∧ getLe f.bytes (f.bytes.length - 4) 4 = crc32 (f.bytes.take (f.bytes.length - 4)) ∧ getLe f.bytes 0 1 = 1 ∧ b = getLe f.bytes 1 1 ∧ b = twin f.lane ∧ b ≠ f.lane ∧ (getLe f.bytes 2 2).testBit 0 = true ∧ getLe f.bytes 4 8 % 2 ^ 58 + 1 = s.absTick ∧ s.frameHere b = false) ∧
    (∃ (f : UpFrame) (s : State), f.lane < s.nBays ∧ (s.bayLink f.lane).trained = true ∧ (s.tile (tileOf f.lane)).phase ≠ .out ∧ f.inTime = true ∧ f.bytes.length = 40756 + 6 * getLe f.bytes 12 2 + getLe f.bytes 14 2 ∧ getLe f.bytes (f.bytes.length - 4) 4 = crc32 (f.bytes.take (f.bytes.length - 4)) ∧ getLe f.bytes 0 1 = 1) ∧
    (∃ (f : UpFrame) (s : State), f.lane < s.nBays ∧ ((s.bayLink f.lane).trained = false ∨ (s.tile (tileOf f.lane)).phase = .out)) ∧
    (∃ (s : State), twf {} s.rc.bricks = true) ∧
    (∃ (s : State), twf 0 s.lk.bound = true) ∧
    (∃ (b : Nat) (y : Sync) (s : State), b < s.nBays ∧ (s.bayLink b).lost = false ∧ 10 ≤ (s.bayLink b).missed ∧ s.st.sync = some y ∧ y.bay = b ∧ y.closed = false) :=
  ⟨⟨0, { S7 with lk.courses := [(0, { phase := .service, missing := 2 })], lk.bays := [(0, { accepted := true, upTick := 0 })], tb.idx := 1 }, by decide +kernel⟩,
   ⟨0, { S7 with lk.courses := [(0, { dark := true })] }, by decide +kernel⟩,
   ⟨0, { S7 with lk.courses := [(0, { phase := .service, dark := true, darkTicks := 10 ^ 9 })] }, by decide +kernel⟩,
   ⟨0, { S7 with lk.courses := [(0, { dark := false })] }, by decide +kernel⟩,
   ⟨0, { S7 with lk.courses := [(0, { phase := .withdrawn, withdrawCycles := (2) })] }, by decide +kernel⟩,
   ⟨0, S7, by decide +kernel⟩,
   ⟨0, { pos := 0, serial := 1, ctype := S7.pierType 0, fw := 0, cal := 0, ordered := true }, { S7 with xp.act.rows := [(rowKey 0x0702 0 0, [1])], lk.bays := [(0, { startup := true })] }, false, by decide +kernel⟩,
   ⟨0, { pos := 384, serial := 1, ctype := S7.pierType 0, fw := 0, cal := 0, ordered := true }, S7, by decide +kernel⟩,
   ⟨0, { pos := 0, part := 1, serials := List.replicate 24 0, codes := [] }, { S7 with lk.courses := [(0, { hand := true })] }, by decide +kernel⟩,
   ⟨0, { pos := 0, part := 0, serials := List.replicate 24 0, codes := [] }, { S7 with lk.courses := [(0, { hand := true })] }, by decide +kernel⟩,
   ⟨{ lane := 0, inTime := false, bytes := [] }, { S7 with lk.bays := [(0, { trained := true })] }, by decide +kernel⟩,
   ⟨frame1, { S7 with tb.idx := 1, lk.bays := [(0, { trained := true })] }, by decide +kernel, by decide +kernel, by decide +kernel, rfl, frame1_len, frame1_crc, frame0_kind, frame0_lane, by decide +kernel, by decide +kernel⟩,
   ⟨0, { S7 with st.sync := none, lk.bays := [(0, { missed := 10 })] }, by decide +kernel⟩,
   ⟨0, { S7 with lk.bays := [(0, { lost := true })] }, by decide +kernel⟩,
   ⟨0, { pos := 0, part := 3, serials := (List.range 24).map (· + 73), codes := [] }, (List.range 96).map (· + 1), { S7 with tb.idx := 1, xp.act.rows := [(rowKey 0x0702 0 0, [1])], lk.courses := [(0, { hand := true, ctype := S7.pierType 0, parts := (List.range 3).map (fun k => (List.range 24).map (· + (24 * k + 1))) })] }, by decide +kernel⟩,
   ⟨0, { pos := 0, part := 3, serials := (List.range 24).map (· + 73), codes := [] }, { S7 with tb.idx := 1, lk.courses := [(0, { hand := true, ctype := S7.pierType 0, parts := (List.range 3).map (fun k => (List.range 24).map (· + (24 * k + 1))) })] }, by decide +kernel⟩,
   ⟨frame2, 12, { S7 with tb.idx := 1, lk.bays := [(0, { trained := true })] }, by decide +kernel, by decide +kernel, by decide +kernel, rfl, frame2_len, frame2_crc, frame2_kind, rfl, by decide +kernel, by decide +kernel, by decide +kernel, by decide +kernel, by decide +kernel⟩,
   ⟨frame1, { S7 with lk.bays := [(0, { trained := true })] }, by decide +kernel, by decide +kernel, by decide +kernel, rfl, frame1_len, frame1_crc, frame0_kind⟩,
   ⟨{ lane := 0, inTime := false, bytes := [] }, S7, by decide +kernel⟩,
   ⟨S7, by decide +kernel⟩,
   ⟨S7, by decide +kernel⟩,
   ⟨0, { bay := 0 }, { S7 with st.sync := some { bay := 0 }, lk.bays := [(0, { missed := 10 })] }, by decide +kernel⟩⟩

/-- The hypotheses of `LinkCommands`, clause by clause. -/
theorem witness_LinkCommands :
    (∃ (h : Hdr) (b : Nat) (kind : Nat) (n : Nat) (s : State), HostReady h 0x0A02 s ∧ b < s.nBays ∧ kind ≤ 1 ∧ n ≠ 0 ∧ (s.bayLink b).closed = false) ∧
    (∃ (h : Hdr) (b : Nat) (n : Nat) (s : State), HostReady h 0x0A02 s ∧ b < s.nBays ∧ n ≠ 0 ∧ (s.bayLink b).closed = true) ∧
    (∃ (h : Hdr) (b : Nat) (s : State), HostReady h 0x0A03 s ∧ b < s.nBays) ∧
    (∃ (b : Nat) (n : Nat) (s : State), b < s.nBays ∧ s.tb.idx = 0 ∧ (s.bayLink b).openTest = some n) ∧
    (∃ (b : Nat) (n : Nat) (s : State), b < s.nBays ∧ s.tb.idx = 0 ∧ (s.bayLink b).openMaint = some n) ∧
    (∃ (b : Nat) (s : State), b < s.nBays ∧ s.tb.idx = 0 ∧ (s.bayLink b).maint = some 0) ∧
    (∃ (b : Nat) (s : State), b < s.nBays ∧ s.tb.idx ≠ 0) ∧
    (∃ (h : Hdr) (unit : Nat) (s : State), HostReady h 0x0A04 s ∧ (checkLevel s.nBays 1 unit).1 = 0 ∧ (s.course (courseIx (checkLevel s.nBays 1 unit).2.bay (checkLevel s.nBays 1 unit).2.pier (checkLevel s.nBays 1 unit).2.course)).phase = .service) ∧
    (∃ (h : Hdr) (unit : Nat) (s : State), HostReady h 0x0A04 s ∧ (checkLevel s.nBays 1 unit).1 = 0 ∧ (s.course (courseIx (checkLevel s.nBays 1 unit).2.bay (checkLevel s.nBays 1 unit).2.pier (checkLevel s.nBays 1 unit).2.course)).phase = .out) ∧
    (∃ (h : Hdr) (b : Nat) (kind : Nat) (s : State), HostReady h 0x0A02 s ∧ b < s.nBays ∧ 1 < kind) ∧
    (∃ (h : Hdr) (b : Nat) (s : State), HostReady h 0x0A05 s ∧ b < s.nBays) ∧
    (∃ (h : Hdr) (s : State), HostReady h 0x0A06 s) ∧
    (∃ (b : Nat) (s : State), b < s.nBays ∧ s.tb.idx = 0 ∧ (s.bayStart b).phase = .admitting) ∧
    (∃ (b : Nat) (s : State), b < s.nBays ∧ s.tb.idx = 0 ∧ (s.bayStart b).phase = .energised) :=
  ⟨⟨h0, 0, 0, 1, { S7 with lk.bays := [(0, { accepted := true, brkValid := true })] }, by decide +kernel⟩,
   ⟨h0, 0, 1, S7, by decide +kernel⟩,
   ⟨h0, 0, S7, by decide +kernel⟩,
   ⟨0, 0, { S7 with tb.idx := 0, lk.bays := [(0, { openTest := some 0 })] }, by decide +kernel⟩,
   ⟨0, 0, { S7 with tb.idx := 0, lk.bays := [(0, { openMaint := some 0 })] }, by decide +kernel⟩,
   ⟨0, { S7 with tb.idx := 0, lk.bays := [(0, { maint := some 0 })] }, by decide +kernel⟩,
   ⟨0, { S7 with tb.idx := 1 }, by decide +kernel⟩,
   ⟨h0, courseUid 0, { S7 with lk.courses := [(0, { phase := .service })] }, by decide +kernel⟩,
   ⟨h0, courseUid 0, S7, by decide +kernel⟩,
   ⟨h0, 0, (1 + 1), S7, by decide +kernel⟩,
   ⟨h0, 0, S7, by decide +kernel⟩,
   ⟨h0, S7, by decide +kernel⟩,
   ⟨0, { S7 with tb.idx := 0, st.bays := [(0, { phase := .admitting })] }, by decide +kernel⟩,
   ⟨0, { S7 with tb.idx := 0, st.bays := [(0, { phase := .energised })] }, by decide +kernel⟩⟩

/-- The hypotheses of `LedgerCommands`, clause by clause. -/
theorem witness_LedgerCommands :
    (∃ (h : Hdr) (s : State), HostReady h 0x0C02 s) ∧
    (∃ (h : Hdr) (base : Nat) (order : Nat) (s : State), HostReady h 0x0C03 s ∧ h.udp = false ∧ tget none s.lg.exports h.slot = none ∧ s.saving = false ∧ base % 4096 = 0 ∧ 2 ≤ order ∧ order ≤ 12) ∧
    (∃ (h : Hdr) (s : State), HostReady h 0x0C03 s ∧ h.udp = true) ∧
    (∃ (h : Hdr) (s : State), HostReady h 0x0C04 s ∧ tget none s.lg.exports h.slot = none) ∧
    (∃ (h : Hdr) (cons : Nat) (e : Export) (s : State), HostReady h 0x0C04 s ∧ tget none s.lg.exports h.slot = some e ∧ (tget 0 s.lg.prod h.slot + pow32 - e.cons) % pow32 < (cons + pow32 - e.cons) % pow32) ∧
    (∃ (h : Hdr) (cons : Nat) (e : Export) (s : State), HostReady h 0x0C04 s ∧ tget none s.lg.exports h.slot = some e ∧ (cons + pow32 - e.cons) % pow32 ≤ (tget 0 s.lg.prod h.slot + pow32 - e.cons) % pow32) ∧
    (∃ (h : Hdr) (s : State), HostReady h 0x0C05 s ∧ tget none s.lg.exports h.slot = none) ∧
    (∃ (h : Hdr) (e : Export) (s : State), HostReady h 0x0C05 s ∧ SlotsInv s ∧ tget none s.lg.exports h.slot = some e) ∧
    (∃ (h : Hdr) (p : Nat) (s : State), HostReady h 0x0C06 s ∧ 8 ≤ p) ∧
    (∃ (h : Hdr) (p : Nat) (s : State), HostReady h 0x0C06 s ∧ p < 8 ∧ s.fu.plantId.isSome = true ∧ s.lg.phase ≠ 0 ∧ ((∀ d : Nat, (d = 2 * p ∨ d = 2 * p + 1) → (s.drive d).present = true ∧ (s.drive d).supported = true ∧ (s.drive d).failed = false ∧ s.foreignDrive (s.drive d) = false))) ∧
    (∃ (h : Hdr) (p : Nat) (s : State), HostReady h 0x0C06 s ∧ p < 8 ∧ s.fu.plantId.isSome = true ∧ s.ownDrive (s.drive (2 * p)) = true ∧ s.ownDrive (s.drive (2 * p + 1)) = true) ∧
    (∃ (h : Hdr) (p : Nat) (s : State), HostReady h 0x0C06 s ∧ p < 8 ∧ ((s.fu.plantId = none ∨ s.foreignDrive (s.drive (2 * p)) = true ∨ s.foreignDrive (s.drive (2 * p + 1)) = true))) ∧
    (∃ (s : State), s.rd.haveActive = false) ∧
    (∃ (s : State), s.rd.haveActive = true ∧ s.st.step4 = true ∧ s.lg.mounted = false) ∧
    (∃ (s : State), s.rd.haveActive = true ∧ s.st.step4 = true ∧ s.lg.mounted = false ∧ s.fu.plantId.isNone = true) ∧
    (∃ (h : Hdr) (p : Nat) (s : State), HostReady h 0x0C06 s ∧ SlotsInv s ∧ p < 8 ∧ s.fu.plantId.isSome = true ∧ s.lg.phase = 0 ∧ s.ownDrive (s.drive (2 * p)) = false ∧ ((∀ d : Nat, (d = 2 * p ∨ d = 2 * p + 1) → (s.drive d).present = true ∧ (s.drive d).supported = true ∧ (s.drive d).failed = false ∧ s.foreignDrive (s.drive d) = false))) :=
  ⟨⟨h0, S7, by decide +kernel⟩,
   ⟨h0, 0, (2), { S7 with lg.exports := [(h0.slot, none)] }, by decide +kernel⟩,
   ⟨{ h0 with udp := true }, S7, by decide +kernel⟩,
   ⟨h0, { S7 with lg.exports := [(h0.slot, none)] }, by decide +kernel⟩,
   ⟨h0, 1, { base := 0, order := 2, live := false, next := 0, cons := 0, gap := none, ring := [], markers := [], delivered := 0 }, { S7 with lg.exports := [(0, some { base := 0, order := 2, live := false, next := 0, cons := 0, gap := none, ring := [], markers := [], delivered := 0 })] }, by decide +kernel⟩,
   ⟨h0, 0, { base := 0, order := 2, live := false, next := 0, cons := 0, gap := none, ring := [], markers := [], delivered := 0 }, { S7 with lg.exports := [(0, some { base := 0, order := 2, live := false, next := 0, cons := 0, gap := none, ring := [], markers := [], delivered := 0 })] }, by decide +kernel⟩,
   ⟨h0, { S7 with lg.exports := [(h0.slot, none)] }, by decide +kernel⟩,
   ⟨h0, { base := 0, order := 2, live := false, next := 0, cons := 0, gap := none, ring := [], markers := [], delivered := 0 }, { S7 with lg.exports := [(0, some { base := 0, order := 2, live := false, next := 0, cons := 0, gap := none, ring := [], markers := [], delivered := 0 })] }, by decide +kernel⟩,
   ⟨h0, (8), S7, by decide +kernel⟩,
   ⟨h0, 0, { S7 with lg.phase := 2, fu.words := [(512, 1)], lg.drives := [(0, { present := true, block := some { plant := [1] ++ List.replicate 15 0, serial := [], pair := 0 } }), (1, { present := true, block := some { plant := [1] ++ List.replicate 15 0, serial := [], pair := 0 } })] }, by decide +kernel, by decide +kernel, by decide +kernel, by decide +kernel, by rintro d (rfl | rfl) <;> decide +kernel⟩,
   ⟨h0, 0, { S7 with fu.words := [(512, 1)], lg.drives := [(0, { present := true, block := some { plant := [1] ++ List.replicate 15 0, serial := [], pair := 0 } }), (1, { present := true, block := some { plant := [1] ++ List.replicate 15 0, serial := [], pair := 0 } })] }, by decide +kernel⟩,
   ⟨h0, 0, S7, by decide +kernel⟩,
   ⟨{ S7 with rd.haveActive := false }, by decide +kernel⟩,
   ⟨{ S7 with rd.haveActive := true, st.step4 := true, lg.mounted := false }, by decide +kernel⟩,
   ⟨{ S7 with rd.haveActive := true, st.step4 := true, lg.mounted := false }, by decide +kernel⟩,
   ⟨h0, 0, { S7 with lg.phase := 0, fu.words := [(512, 1)], lg.drives := [(0, { present := true }), (1, { present := true })] }, by decide +kernel, by decide +kernel, by decide +kernel, by decide +kernel, by decide +kernel, by decide +kernel, by rintro d (rfl | rfl) <;> decide +kernel⟩⟩

/-- The hypotheses of `LedgerRows`, clause by clause. -/
theorem witness_LedgerRows :
    (∃ (s : State), s.cadence ≠ 0 ∧ s.lg.lastDue < s.tb.pt.ns / 1000000 / s.cadence * s.cadence ∧ s.lg.phase = 2 ∧ s.lg.busy = false) ∧
    (∃ (s : State), s.tb.pt.ns / 1000000 / s.cadence * s.cadence ≤ s.lg.lastDue) ∧
    (∃ (s : State), s.cadence ≠ 0 ∧ s.lg.lastDue < s.tb.pt.ns / 1000000 / s.cadence * s.cadence ∧ (s.lg.phase = 3 ∨ (s.lg.phase = 2 ∧ s.lg.busy = true))) ∧
    (∃ (s : State), s.lg.due = true ∧ s.tb.idx = 0 ∧ s.lg.phase = 2) ∧
    (∃ (s : State), s.lg.due = false) ∧
    (∃ (s : State), s.lg.phase ≠ 2 ∧ s.lg.phase ≠ 4) ∧
    (∃ (s : State), s.lg.phase = 2 ∧ s.lg.slots ≠ [] ∧ 124 ≤ s.lg.heldSlots ∧ s.lg.seq + 1 < 2 ^ 48) ∧
    (∃ (d : Nat) (s : State), d < 16 ∧ s.lg.ops = []) ∧
    (∃ (ident : Nat) (d : Nat) (o : NvmeOp) (s : State), d < 16 ∧ s.lg.ops.find? (fun x => x.ident == ident && x.pair == d / 2 && x.waiting.testBit (d % 2)) = some o ∧ setBit o.waiting (d % 2) false ≠ 0) ∧
    (∃ (d : Nat) (s : State), d < 16 ∧ s.lg.ops.any (fun o => o.pair == d / 2 && o.waiting.testBit (d % 2)) = true ∧ (s.drive d).retrying = false) ∧
    (∃ (d : Nat) (s : State), d < 16 ∧ s.lg.ops.any (fun o => o.pair == d / 2 && o.waiting.testBit (d % 2)) = true ∧ (s.drive d).retrying = true ∧ (s.drive d).failed = false) ∧
    (∃ (d : Nat) (w : Nat) (s : State), d < 16 ∧ s.driveOk d = true ∧ (w.testBit 2 || w.testBit 3) = true) ∧
    (∃ (d : Nat) (s : State), d < 16 ∧ s.driveOk d = true) ∧
    (∃ (d : Nat) (s : State), d < 16 ∧ s.driveOk d = true) ∧
    (∃ (p : Nat) (s : State), p < 8 ∧ ((s.drive (2 * p)).copying || (s.drive (2 * p + 1)).copying) = true) ∧
    (∃ (p : Nat) (s : State), p < 8 ∧ ((s.drive (2 * p)).copying || (s.drive (2 * p + 1)).copying) = false) ∧
    (∃ (d : Nat) (s : State), (s.drive d).failed = false ∧ s.ownDrive (s.drive d) = false ∧ s.lg.ops = []) ∧
    (∃ (ident : Nat) (d : Nat) (o : NvmeOp) (s : State), d < 16 ∧ s.lg.ops.find? (fun x => x.ident == ident && x.pair == d / 2 && x.waiting.testBit (d % 2)) = some o ∧ setBit o.waiting (d % 2) false = 0 ∧ s.driveWhole d = true) ∧
    (∃ (ident : Nat) (d : Nat) (o : NvmeOp) (s : State), d < 16 ∧ s.lg.ops.find? (fun x => x.ident == ident && x.pair == d / 2 && x.waiting.testBit (d % 2)) = some o) ∧
    (∃ (s : State), s.lg.due = true ∧ s.tb.idx = 0 ∧ s.lg.phase ≠ 2) ∧
    (∃ (s : State), twf none s.lg.pages = true ∧ s.lg.exports = [] ∧ s.lg.queue = []) :=
  ⟨⟨{ S7 with lg.phase := 2, tb.pt.atto := 10 ^ 24, lg.lastDue := 0 }, by decide +kernel⟩,
   ⟨{ S7 with lg.lastDue := (S7.tb.pt.ns / 1000000 / S7.cadence * S7.cadence) }, by decide +kernel⟩,
   ⟨{ S7 with lg.phase := 3, tb.pt.atto := 10 ^ 24, lg.lastDue := 0 }, by decide +kernel⟩,
   ⟨{ S7 with lg.due := true, tb.idx := 0, lg.phase := 2 }, by decide +kernel⟩,
   ⟨{ S7 with lg.due := false }, by decide +kernel⟩,
   ⟨S7, by decide +kernel⟩,
   ⟨{ S7 with lg.phase := 2, lg.slots := [{ age := 0, slots := List.replicate 124 [] }] }, by decide +kernel⟩,
   ⟨0, { S7 with lg.ops := [] }, by decide +kernel⟩,
   ⟨0, 0, { ident := 0, pair := 0, pages := [], flush := false, index := false, waiting := 3 }, { S7 with lg.ops := [{ ident := 0, pair := 0, pages := [], flush := false, index := false, waiting := 3 }] }, by decide +kernel⟩,
   ⟨0, { S7 with lg.drives := [(0, { retrying := false })], lg.ops := [{ ident := 0, pair := 0, pages := [], flush := false, index := false, waiting := 1 }] }, by decide +kernel⟩,
   ⟨0, { S7 with lg.drives := [(0, { retrying := true })], lg.ops := [{ ident := 0, pair := 0, pages := [], flush := false, index := false, waiting := 1 }] }, by decide +kernel⟩,
   ⟨0, 4, { S7 with lg.drives := [(0, { present := true, block := some { plant := [1] ++ List.replicate 15 0, serial := [], pair := 0 } })], fu.words := [(512, 1)] }, by decide +kernel⟩,
   ⟨0, { S7 with lg.drives := [(0, { present := true, block := some { plant := [1] ++ List.replicate 15 0, serial := [], pair := 0 } })], fu.words := [(512, 1)] }, by decide +kernel⟩,
   ⟨0, { S7 with lg.drives := [(0, { present := true, block := some { plant := [1] ++ List.replicate 15 0, serial := [], pair := 0 } })], fu.words := [(512, 1)] }, by decide +kernel⟩,
   ⟨0, { S7 with lg.drives := [(0, { copying := true })] }, by decide +kernel⟩,
   ⟨0, S7, by decide +kernel⟩,
   ⟨0, { S7 with lg.ops := [], lg.drives := [(0, { failed := false })] }, by decide +kernel⟩,
   ⟨0, 0, { ident := 0, pair := 0, pages := [], flush := false, index := false, waiting := 1 }, { S7 with lg.ops := [{ ident := 0, pair := 0, pages := [], flush := false, index := false, waiting := 1 }], lg.drives := [(0, { present := true, block := some { plant := [1] ++ List.replicate 15 0, serial := [], pair := 0 } })], fu.words := [(512, 1)] }, by decide +kernel⟩,
   ⟨0, 0, { ident := 0, pair := 0, pages := [], flush := false, index := false, waiting := 1 }, { S7 with lg.ops := [{ ident := 0, pair := 0, pages := [], flush := false, index := false, waiting := 1 }] }, by decide +kernel⟩,
   ⟨{ S7 with lg.due := true, tb.idx := 0 }, by decide +kernel⟩,
   ⟨{ S7 with lg.exports := [], lg.queue := [] }, by decide +kernel⟩⟩

/-- The hypotheses of `FootingSupplyRows`, clause by clause. -/
theorem witness_FootingSupplyRows :
    (∃ (s : State), s.ftg.vinPresent = false) ∧
    (∃ (s : State), s.ftg.vinPresent = true ∧ s.ftg.phase ≠ .powerdown ∧ s.ftg.bankMv < 2000) ∧
    (∃ (s : State), s.ftg.vinPresent = true ∧ 2000 ≤ s.ftg.bankMv ∧ s.ftg.phase ≠ .powerdown) ∧
    (∃ (s : State), s.ftg.vinPresent = false ∧ s.ftg.phase = .holdup ∧ s.st.devStep ≠ 15) ∧
    (∃ (s : State), s.ftg.vinPresent = false ∧ s.ftg.phase = .holdup ∧ s.st.devStep = 15 ∧ s.ftg.enabled = 0) ∧
    (∃ (s : State), s.ftg.vinPresent = true ∧ s.ftg.phase = .powerdown) ∧
    (∃ (s : State), s.ftg.vinPresent = true) ∧
    (∃ (s : State), s.ftg.onBank = true ∧ s.ftg.vinPresent = false) ∧
    (∃ (s : State), s.ftg.onBank = false) ∧
    (∃ (s : State), s.huReady = true ∧ s.anyEnergised = false) ∧
    (∃ (s : State), s.huReady = true ∧ s.anyEnergised = true ∧ s.ftg.vinPresent = true) ∧
    (∃ (s : State), s.huReady = false) ∧
    (∃ (s : State), s.ftg.charger = .off ∧ s.chargerMay = true) ∧
    (∃ (s : State), s.ftg.charger = .off ∧ 2000 ≤ s.ftg.bankMv ∧ s.chargerMay = true) ∧
    (∃ (s : State), s.ftg.charger = .done) ∧
    (∃ (s : State), s.ftg.charger = .precharge ∧ s.chargerMay = true) ∧
    (∃ (s : State), s.ftg.charger = .cc) ∧
    (∃ (s : State), s.ftg.charger = .cv) ∧
    (∃ (s : State), s.ftg.charger = .cc) ∧
    (∃ (s : State), s.ftg.charger = .off) ∧
    (∃ (s : State), s.ftg.charger = .cc) ∧
    (∃ (s : State), s.ftg.charger ≠ .cc) :=
  ⟨⟨{ S7 with ftg.vinPresent := false }, by decide +kernel⟩,
   ⟨{ S7 with ftg.vinPresent := true }, by decide +kernel⟩,
   ⟨{ S7 with ftg.vinPresent := true, ftg.bankMv := (2000) }, by decide +kernel⟩,
   ⟨{ S7 with ftg.vinPresent := false, ftg.phase := .holdup }, by decide +kernel⟩,
   ⟨{ S7 with ftg.vinPresent := false, ftg.phase := .holdup, st.devStep := 15, ftg.enabled := 0 }, by decide +kernel⟩,
   ⟨{ S7 with ftg.vinPresent := true, ftg.phase := .powerdown }, by decide +kernel⟩,
   ⟨{ S7 with ftg.vinPresent := true }, by decide +kernel⟩,
   ⟨{ S7 with ftg.onBank := true, ftg.vinPresent := false }, by decide +kernel⟩,
   ⟨{ S7 with ftg.onBank := false }, by decide +kernel⟩,
   ⟨{ S7 with ftg.bankMv := 60000 }, by decide +kernel⟩,
   ⟨{ S7 with ftg.vinPresent := true, ftg.bankMv := 60000, st.bays := [(0, { phase := .energised })] }, by decide +kernel⟩,
   ⟨S7, by decide +kernel⟩,
   ⟨{ S7 with ftg.charger := .off, ftg.vinPresent := true, ftg.inPath := true, ftg.phase := .running }, by decide +kernel⟩,
   ⟨{ S7 with ftg.charger := .off, ftg.bankMv := (2000), ftg.vinPresent := true, ftg.inPath := true, ftg.phase := .running }, by decide +kernel⟩,
   ⟨{ S7 with ftg.charger := .done }, by decide +kernel⟩,
   ⟨{ S7 with ftg.charger := .precharge, ftg.vinPresent := true, ftg.inPath := true, ftg.phase := .running }, by decide +kernel⟩,
   ⟨{ S7 with ftg.charger := .cc }, by decide +kernel⟩,
   ⟨{ S7 with ftg.charger := .cv }, by decide +kernel⟩,
   ⟨{ S7 with ftg.charger := .cc }, by decide +kernel⟩,
   ⟨{ S7 with ftg.charger := .off }, by decide +kernel⟩,
   ⟨{ S7 with ftg.charger := .cc }, by decide +kernel⟩,
   ⟨S7, by decide +kernel⟩⟩

/-- The hypotheses of `FootingRailRows`, clause by clause. -/
theorem witness_FootingRailRows :
    (∃ (s : State), s.sequencing = true ∧ s.ftg.waiting = false ∧ s.ftg.position = 9 ∧ s.ftg.enabled.testBit 9 = true) ∧
    (∃ (s : State), s.sequencing = true ∧ s.ftg.waiting = false ∧ s.ftg.position < 9 ∧ s.ftg.enabled.testBit s.ftg.position = true) ∧
    (∃ (s : State), s.sequencing = true ∧ s.ftg.waiting = false ∧ tget 0 s.ftg.posRetries s.ftg.position < 3) ∧
    (∃ (s : State), s.sequencing = true ∧ s.ftg.waiting = false ∧ 3 ≤ tget 0 s.ftg.posRetries s.ftg.position) ∧
    (∃ (s : State), s.sequencing = true ∧ s.ftg.waiting = true) ∧
    (∃ (s : State), s.ftg.phase = .running) ∧
    (∃ (c : Nat) (s : State), c < 22 ∧ s.watched c = true ∧ (s.chan c).rail = .inBand) ∧
    (∃ (s : State), s.ftg.vinPresent = true ∧ (s.chan 22).rail = .inBand) ∧
    (∃ (s : State), s.ftg.vinPresent = false) ∧
    (∃ (c : Nat) (k : Nat) (s : State), (s.chan c).counter k ≠ 0xFFFF) ∧
    (∃ (c : Nat) (s : State), c < 22 ∧ s.watched c = false) ∧
    (∃ (c : Nat) (s : State), c < 22 ∧ (s.chan c).rail = .low) ∧
    (∃ (c : Nat) (s : State), c < 22 ∧ (s.chan c).rail = .high) ∧
    (∃ (s : State), (s.chan 22).rail = .low ∧ s.ftg.vinPresent = true) ∧
    (∃ (c : Nat) (s : State), c < 22 ∧ (s.chan c).rail = .inBand) ∧
    (∃ (cs : List Nat) (s : State), ((∀ c ∈ cs, s.watched c = false))) ∧
    (∃ (c : Nat) (s : State), c < 22 ∧ s.watched c = true ∧ (s.ftg.phase = .running ∨ s.ftg.phase = .holdup) ∧ s.st.devStep ≠ 1 ∧ s.reactionCode c = 1) ∧
    (∃ (c : Nat) (s : State), c < 14 ∧ s.watched c = true ∧ (s.ftg.phase = .running ∨ s.ftg.phase = .holdup) ∧ s.st.devStep ≠ 1 ∧ (s.reactionCode c = 2 ∨ s.reactionCode c = 3)) ∧
    (∃ (c : Nat) (s : State), c < 22 ∧ s.watched c = true ∧ (s.ftg.phase = .running ∨ s.ftg.phase = .holdup) ∧ s.st.devStep ≠ 1 ∧ 4 ≤ s.reactionCode c) ∧
    (∃ (c : Nat), 14 ≤ c) ∧
    (∃ (c : Nat), c < 14) ∧
    (∃ (c : Nat) (s : State), c < 14 ∧ (s.chan c).offTime = true) ∧
    (∃ (c : Nat) (s : State), c < 14 ∧ (s.chan c).offTime = false) ∧
    (∃ (c : Nat) (s : State), c < 14 ∧ (s.chan c).checking = true) ∧
    (∃ (c : Nat) (s : State), c < 12 ∧ (s.chan c).checking = true) ∧
    (∃ (c : Nat) (s : State), (c = 12 ∨ c = 13) ∧ (s.chan c).checking = true) ∧
    (∃ (k : Nat) (s : State), s.rd.haveActive = true ∧ s.rd.active ≠ k ∧ s.st.step4 = true) ∧
    (∃ (s : State), s.ftg.resetDue = true ∧ ((2 ≤ s.st.stopPhase ∨ 16 ≤ s.ftg.resetAge)) ∧ s.ftg.vinPresent = true) ∧
    (∃ (s : State), s.ftg.resetDue = true ∧ ((2 ≤ s.st.stopPhase ∨ 16 ≤ s.ftg.resetAge)) ∧ s.ftg.vinPresent = false) ∧
    (∃ (s : State), s.st.stopPhase < 2 ∧ s.ftg.resetAge < 16) ∧
    (∃ (s : State), s.ftg.resetDue = false) ∧
    (∃ (h : Hdr) (s : State), HostReady h 0x0202 s) ∧
    (∃ (h : Hdr) (s : State), HostReady h 0x0203 s) ∧
    (∃ (h : Hdr) (c : Nat) (s : State), HostReady h 0x0204 s ∧ c < 14 ∧ ((c < 12 → c < s.nTiles ∧ (s.tile (neighbour c)).phase = .carrying)) ∧ (s.chan c).latched = true ∧ (s.chan c).thermal = false) ∧
    (∃ (h : Hdr) (c : Nat) (s : State), HostReady h 0x0204 s ∧ c < 14 ∧ ((c < 12 → c < s.nTiles)) ∧ ((s.chan c).latched = false ∨ (s.chan c).thermal = true ∨ (c < 12 ∧ (s.tile (neighbour c)).phase ≠ .carrying))) ∧
    (∃ (h : Hdr) (c : Nat) (s : State), HostReady h 0x0204 s ∧ (14 ≤ c ∨ (c < 12 ∧ s.nTiles ≤ c))) ∧
    (∃ (cs : List Nat) (s : State), cs ≠ [] ∧ cs.Nodup ∧ ((∀ c ∈ cs, c < 22 ∧ s.watched c = true)) ∧ (s.ftg.phase = .running ∨ s.ftg.phase = .holdup) ∧ s.st.devStep ≠ 1) :=
  ⟨⟨{ S7 with ftg.waiting := false, ftg.position := 9, ftg.enabled := 2 ^ 9, ftg.phase := .sequencing, st.devStep := 1 }, by decide +kernel⟩,
   ⟨{ S7 with ftg.waiting := false, ftg.position := 0, ftg.enabled := 1, ftg.phase := .sequencing, st.devStep := 1 }, by decide +kernel⟩,
   ⟨{ S7 with ftg.waiting := false, ftg.phase := .sequencing, st.devStep := 1 }, by decide +kernel⟩,
   ⟨{ S7 with ftg.waiting := false, ftg.posRetries := [(S7.ftg.position, (3))], ftg.phase := .sequencing, st.devStep := 1 }, by decide +kernel⟩,
   ⟨{ S7 with ftg.waiting := true, ftg.phase := .sequencing, st.devStep := 1 }, by decide +kernel⟩,
   ⟨{ S7 with ftg.phase := .running }, by decide +kernel⟩,
   ⟨0, { S7 with ftg.chans := [(0, { good := true, gate := true })], ftg.enabled := 1023 }, by decide +kernel⟩,
   ⟨{ S7 with ftg.vinPresent := true, ftg.chans := [(22, { rail := .inBand })] }, by decide +kernel⟩,
   ⟨{ S7 with ftg.vinPresent := false }, by decide +kernel⟩,
   ⟨0, 0, S7, by decide +kernel⟩,
   ⟨0, S7, by decide +kernel⟩,
   ⟨0, { S7 with ftg.chans := [(0, { rail := .low })] }, by decide +kernel⟩,
   ⟨0, { S7 with ftg.chans := [(0, { rail := .high })] }, by decide +kernel⟩,
   ⟨{ S7 with ftg.vinPresent := true, ftg.chans := [(22, { rail := .low })] }, by decide +kernel⟩,
   ⟨0, { S7 with ftg.chans := [(0, { rail := .inBand })] }, by decide +kernel⟩,
   ⟨[], S7, by decide +kernel⟩,
   ⟨0, { S7 with ftg.enabled := 1023, ftg.chans := [(0, { good := true, gate := true })], ftg.config := [(2 * 64, 0)], ftg.phase := .running }, by decide +kernel⟩,
   ⟨0, { S7 with ftg.enabled := 1023, ftg.chans := [(0, { good := true, gate := true })], ftg.config := [(2 * 64, 2)], ftg.phase := .running }, by decide +kernel⟩,
   ⟨0, { S7 with ftg.enabled := 1023, ftg.chans := [(0, { good := true, gate := true })], ftg.config := [(2 * 64, 3)], ftg.phase := .running }, by decide +kernel⟩,
   ⟨(14), by decide +kernel⟩,
   ⟨0, by decide +kernel⟩,
   ⟨0, { S7 with ftg.chans := [(0, { offTime := true })] }, by decide +kernel⟩,
   ⟨0, { S7 with ftg.chans := [(0, { offTime := false })] }, by decide +kernel⟩,
   ⟨0, { S7 with ftg.chans := [(0, { checking := true })] }, by decide +kernel⟩,
   ⟨0, { S7 with ftg.chans := [(0, { checking := true })] }, by decide +kernel⟩,
   ⟨12, { S7 with ftg.chans := [(12, { checking := true })] }, by decide +kernel⟩,
   ⟨1, { S7 with rd.haveActive := true, st.step4 := true, rd.active := 0 }, by decide +kernel⟩,
   ⟨{ S7 with ftg.resetDue := true, ftg.vinPresent := true, ftg.resetAge := 16 }, by decide +kernel⟩,
   ⟨{ S7 with ftg.resetDue := true, ftg.vinPresent := false, ftg.resetAge := 16 }, by decide +kernel⟩,
   ⟨S7, by decide +kernel⟩,
   ⟨{ S7 with ftg.resetDue := false }, by decide +kernel⟩,
   ⟨h0, S7, by decide +kernel⟩,
   ⟨h0, S7, by decide +kernel⟩,
   ⟨h0, 12, { S7 with ftg.chans := [(12, { latched := true })] }, by decide +kernel⟩,
   ⟨h0, 0, S7, by decide +kernel⟩,
   ⟨h0, 14, S7, by decide +kernel⟩,
   ⟨[14], { S7 with ftg.phase := .running, ftg.enabled := 2 ^ 32 - 1, ftg.chans := [(14, { good := true })] }, by decide +kernel⟩⟩

/-- The hypotheses of `FuseRows`, clause by clause. -/
theorem witness_FuseRows :
    (∃ (s : State), s.st.devStep ≠ 2) ∧
    (∃ (s : State), s.st.devStep = 2) ∧
    (∃ (n : Nat), n ≠ 0) ∧
    (∃ (jt : JournalTest) (r : Nat) (e : Nat) (s : State), (s.fu.entry r e).start = true ∧ (s.fu.entry r e).fin = false ∧ (s.fu.entry r e).copy = none ∧ r * 16 + e ∉ jt.stuck) ∧
    (∃ (h : Hdr) (s : State), HostReady h 0x0D01 s) ∧
    (∃ (h : Hdr) (s : State), HostReady h 0x0D02 s) ∧
    (∃ (h : Hdr) (s : State), HostReady h 0x0D03 s ∧ ((∀ b < s.nBays, (s.bayStart b).phase ≠ .syncing ∧ (s.bayStart b).phase ≠ .energised)) ∧ s.stopping = false ∧ s.rd.xfer = none ∧ s.fu.maint = false) ∧
    (∃ (h : Hdr) (s : State), HostReady h 0x0D03 s ∧ ((s.stopping = true ∨ s.rd.xfer.isSome = true ∨ (s.fu.maint = true ∧ s.fu.owner ≠ h.slot) ∨ (∃ b < s.nBays, (s.bayStart b).phase = .syncing ∨ (s.bayStart b).phase = .energised)))) ∧
    (∃ (h : Hdr) (s : State), HostReady h 0x0D04 s ∧ s.fu.prog = none) ∧
    (∃ (h : Hdr) (s : State), HostReady h 0x0D04 s ∧ s.fu.prog.isSome = true) ∧
    (∃ (h : Hdr) (r : Nat) (w : Nat) (n : Nat) (s : State), HostReady h 0x0D05 s ∧ r < 6 ∧ 0 < n ∧ n ≤ 64 ∧ w + n ≤ fuseSize r ∧ s.fu.lock r 1 = false) ∧
    (∃ (h : Hdr) (r : Nat) (s : State), HostReady h 0x0D05 s ∧ 6 ≤ r) ∧
    (∃ (h : Hdr) (r : Nat) (w : Nat) (n : Nat) (s : State), HostReady h 0x0D05 s ∧ r < 6 ∧ 0 < n ∧ n ≤ 64 ∧ w + n ≤ fuseSize r ∧ s.fu.lock r 1 = true) ∧
    (∃ (h : Hdr) (r : Nat) (w : Nat) (n : Nat) (s : State), HostReady h 0x0D06 s ∧ r < 6 ∧ 0 < n ∧ n ≤ 16 ∧ w + n ≤ fuseSize r ∧ ((s.fu.maint = false ∨ s.fu.owner ≠ h.slot ∨ s.fu.prog.isSome = true))) ∧
    (∃ (h : Hdr) (r : Nat) (w : Nat) (n : Nat) (data : List Nat) (s : State), r < 6 ∧ 0 < n ∧ n ≤ 16 ∧ w + n ≤ fuseSize r ∧ s.fu.maint = true ∧ s.fu.owner = h.slot ∧ s.fu.prog = none ∧ (s.fu.refuses r w (data.take n)).1 = 0) ∧
    (∃ (h : Hdr) (r : Nat) (w : Nat) (n : Nat) (data : List Nat) (s : State), HostReady h 0x0D06 s ∧ r < 6 ∧ 0 < n ∧ n ≤ 16 ∧ w + n ≤ fuseSize r ∧ s.fu.maint = true ∧ s.fu.owner = h.slot ∧ s.fu.prog = none ∧ (s.fu.refuses r w (data.take n)).1 ≠ 0) ∧
    (∃ (s : State), s.fu.prog = none) ∧
    (∃ (p : Prog) (s : State), s.fu.prog = some p) ∧
    (∃ (p : Prog) (s : State), s.fu.prog = some p ∧ p.slot ≠ 8 ∧ HostReady p.hdr 0x0D06 s ∧ SlotsInv s ∧ s.fu.leaveDue = false) ∧
    (∃ (h : Hdr) (r : Nat) (k : Nat) (s : State), HostReady h 0x0D07 s ∧ r < 6 ∧ k < 2 ∧ ((s.fu.maint = false ∨ s.fu.owner ≠ h.slot ∨ s.fu.prog.isSome = true))) ∧
    (∃ (h : Hdr) (r : Nat) (s : State), HostReady h 0x0D07 s ∧ SlotsInv s ∧ r < 6 ∧ s.fu.maint = true ∧ s.fu.owner = h.slot ∧ s.fu.prog = none ∧ s.fu.lock r 0 = false) ∧
    (∃ (h : Hdr) (r : Nat) (s : State), HostReady h 0x0D07 s ∧ SlotsInv s ∧ ((r = 2 ∨ r = 4 ∨ r = 5)) ∧ s.fu.maint = true ∧ s.fu.owner = h.slot ∧ s.fu.prog = none ∧ s.fu.lock r 1 = false) ∧
    (∃ (h : Hdr) (r : Nat) (s : State), HostReady h 0x0D07 s ∧ r < 6 ∧ s.fu.maint = true ∧ s.fu.owner = h.slot ∧ s.fu.prog = none ∧ s.fu.lock r 0 = true) ∧
    (∃ (h : Hdr) (r : Nat) (s : State), HostReady h 0x0D07 s ∧ ((r = 0 ∨ r = 1 ∨ r = 3)) ∧ s.fu.maint = true ∧ s.fu.owner = h.slot ∧ s.fu.prog = none) ∧
    (∃ (f : Fuses), twf 0 f.words = true) :=
  ⟨⟨S7, by decide +kernel⟩,
   ⟨{ S7 with st.devStep := 2 }, by decide +kernel⟩,
   ⟨1, by decide +kernel⟩,
   ⟨{ weak := [], stuck := [] }, 0, 0, { S7 with fu.journal := [(0, { start := true })] }, by decide +kernel⟩,
   ⟨h0, S7, by decide +kernel⟩,
   ⟨h0, S7, by decide +kernel⟩,
   ⟨h0, { S7 with rd.xfer := none, fu.maint := false }, by decide +kernel⟩,
   ⟨h0, { S7 with st.stopPhase := 1 }, by decide +kernel⟩,
   ⟨h0, { S7 with fu.prog := none }, by decide +kernel⟩,
   ⟨h0, { S7 with fu.prog := some { region := 0, entry := 0, off := 0, data := [], slot := 0, hdr := h0 } }, by decide +kernel⟩,
   ⟨h0, 0, 0, (0 + 1), S7, by decide +kernel⟩,
   ⟨h0, (6), S7, by decide +kernel⟩,
   ⟨h0, 2, 0, 1, { S7 with fu.locks := [(5, 7)] }, by decide +kernel⟩,
   ⟨h0, 0, 0, (0 + 1), S7, by decide +kernel⟩,
   ⟨h0, 5, 0, 1, [1], { S7 with fu.maint := true, fu.owner := h0.slot, fu.prog := none }, by decide +kernel⟩,
   ⟨h0, 5, 0, 1, [1], { S7 with fu.maint := true, fu.owner := h0.slot, fu.prog := none, fu.locks := [(10, 7)] }, by decide +kernel⟩,
   ⟨{ S7 with fu.prog := none }, by decide +kernel⟩,
   ⟨{ region := 0, entry := 0, off := 0, data := [], slot := 0, hdr := h0 }, { S7 with fu.prog := some { region := 0, entry := 0, off := 0, data := [], slot := 0, hdr := h0 } }, by decide +kernel⟩,
   ⟨{ region := 0, entry := 0, off := 0, data := [], slot := 0, hdr := h0 }, { S7 with fu.prog := some { region := 0, entry := 0, off := 0, data := [], slot := 0, hdr := h0 }, fu.leaveDue := false }, by decide +kernel⟩,
   ⟨h0, 0, 0, S7, by decide +kernel⟩,
   ⟨h0, 5, { S7 with fu.maint := true, fu.owner := h0.slot, fu.prog := none }, by decide +kernel⟩,
   ⟨h0, 5, { S7 with fu.maint := true, fu.owner := h0.slot, fu.prog := none }, by decide +kernel⟩,
   ⟨h0, 0, { S7 with fu.maint := true, fu.owner := h0.slot, fu.prog := none, fu.locks := [(0, 7)] }, by decide +kernel⟩,
   ⟨h0, 0, { S7 with fu.maint := true, fu.owner := h0.slot, fu.prog := none }, by decide +kernel⟩,
   ⟨{}, by decide +kernel⟩⟩

/-- The hypotheses of `ThermalRows`, clause by clause. -/
theorem witness_ThermalRows :
    (∃ (c : DieCode) (s : State), s.dieFitted c.die = false) ∧
    (∃ (c : DieCode) (s : State), s.dieFitted c.die = true) ∧
    (∃ (x : Die) (c : DieCode), x.bad = false ∧ c.broken = false) ∧
    (∃ (x : Die) (c : DieCode), x.bad = false ∧ c.broken = true) ∧
    (∃ (d : Nat) (s : State), d < 14 ∧ (s.die d).bad = false ∧ s.dieFitted d = true ∧ ((4 ≤ (s.die d).outRange ∨ 16000 ≤ (s.die d).stuck))) ∧
    (∃ (d : Nat) (s : State), d < 14 ∧ (s.die d).bad = true) ∧
    (∃ (d : Nat) (s : State), d < 14 ∧ (s.die d).bad = true ∧ 4000 ≤ (s.die d).goodRun ∧ (s.die d).varied = true) ∧
    (∃ (d : Nat) (s : State), d < 14 ∧ s.levelDue d = (s.die d).level) ∧
    (∃ (d : Nat) (s : State), d < 14 ∧ (s.die d).level = .normal ∧ s.levelDue d = .warning) ∧
    (∃ (d : Nat) (s : State), (s.die d).level = .shutdown) ∧
    (∃ (d : Nat) (s : State), d < 14 ∧ (s.die d).level ≠ .throttle ∧ s.levelDue d = .throttle) ∧
    (∃ (d : Nat) (s : State), d < 14 ∧ (s.die d).level ≠ .shutdown ∧ s.levelDue d = .shutdown) ∧
    (∃ (d : Nat) (s : State), d < 14 ∧ (s.die d).level = .throttle ∧ (s.die d).request = true ∧ (s.die d).grace = some 0 ∧ (s.die d).bad = false) ∧
    (∃ (d : Nat) (s : State), d < 14 ∧ (s.die d).enforceDue = true ∧ s.tb.idx = 0 ∧ (s.die d).bad = false) ∧
    (∃ (d : Nat) (s : State), d < 14 ∧ (s.die d).releaseDue = true ∧ s.tb.idx = 0 ∧ (s.die d).bad = false) ∧
    (∃ (d : Nat) (s : State), d < 14 ∧ s.tb.idx ≠ 0) ∧
    (∃ (h : Hdr) (s : State), HostReady h 0x0F02 s) ∧
    (∃ (d : Nat), d < 14) :=
  ⟨⟨{ die := 14, code := 0, broken := false }, S7, by decide +kernel⟩,
   ⟨{ die := 0, code := 0, broken := false }, S7, by decide +kernel⟩,
   ⟨{}, { die := 0, code := 0, broken := false }, by decide +kernel⟩,
   ⟨{}, { die := 0, code := -7681, broken := true }, by decide +kernel⟩,
   ⟨0, { S7 with thm.dies := [(0, { outRange := 4 })] }, by decide +kernel⟩,
   ⟨0, { S7 with thm.dies := [(0, { bad := true })] }, by decide +kernel⟩,
   ⟨0, { S7 with thm.dies := [(0, { bad := true, goodRun := (4000), varied := true })] }, by decide +kernel⟩,
   ⟨0, S7, by decide +kernel⟩,
   ⟨0, { S7 with thm.dies := [(0, { above := [10 ^ 9, 0, 0] })] }, by decide +kernel⟩,
   ⟨0, { S7 with thm.dies := [(0, { level := .shutdown })] }, by decide +kernel⟩,
   ⟨0, { S7 with thm.dies := [(0, { above := [0, 10 ^ 9, 0] })] }, by decide +kernel⟩,
   ⟨0, { S7 with thm.dies := [(0, { above := [0, 0, 10 ^ 9] })] }, by decide +kernel⟩,
   ⟨0, { S7 with thm.dies := [(0, { level := .throttle, request := true, grace := some 0, bad := false })] }, by decide +kernel⟩,
   ⟨0, { S7 with tb.idx := 0, thm.dies := [(0, { enforceDue := true, bad := false })] }, by decide +kernel⟩,
   ⟨0, { S7 with tb.idx := 0, thm.dies := [(0, { releaseDue := true, bad := false })] }, by decide +kernel⟩,
   ⟨0, { S7 with tb.idx := 1 }, by decide +kernel⟩,
   ⟨h0, S7, by decide +kernel⟩,
   ⟨0, by decide +kernel⟩⟩

/-- The hypotheses of `ArrivalRows`, clause by clause. -/
theorem witness_ArrivalRows :
    (∃ (i : Nat) (index : Nat) (s : State), i < 8 ∧ backwards (s.slot i).cmdProd (index % pow32) = true) ∧
    (∃ (i : Nat) (index : Nat) (s : State), i < 8 ∧ backwards (s.slot i).cmdProd (index % pow32) = false ∧ s.answers = false) ∧
    (∃ (i : Nat) (index : Nat) (s : State), i < 8 ∧ SlotsInv s ∧ backwards (s.slot i).cmdProd (index % pow32) = false ∧ (s.slot i).ringWait = []) ∧
    (∃ (i : Nat) (index : Nat) (s : State), i < 8 ∧ backwards (s.slot i).cmdProd (index % pow32) = false ∧ s.answers = true) ∧
    (∃ (port : Nat) (dst : Nat) (vlan : Nat) (frag : Bool) (bytes : List Nat) (s : State), port < 2 ∧ ((s.portIs port dst vlan = false ∨ frag = true ∨ 1472 < bytes.length ∨ s.answers = false))) ∧
    (∃ (port : Nat) (dst : Nat) (vlan : Nat) (bytes : List Nat) (s : State), port < 2 ∧ s.portIs port dst vlan = true ∧ bytes.length ≤ 1472 ∧ s.answers = true ∧ bytes.length < 32) ∧
    (∃ (port : Nat) (dst : Nat) (vlan : Nat) (bytes : List Nat) (s : State), port < 2 ∧ s.portIs port dst vlan = true ∧ bytes.length ≤ 1472 ∧ s.answers = true) ∧
    (∃ (i : Nat) (cost : Nat) (h : Hdr) (s : State), h.slot = i ∧ cost ≠ 0 ∧ cost * 10 ^ 12 ≤ (s.slot i).bucket ∧ (s.slot i).queue.length < 64) ∧
    (∃ (bs : List Nat), (bs.length < 32 ∨ (Pkt.parse bs).magic ≠ 0x4F48 ∨ (Pkt.parse bs).kind ≠ 1)) ∧
    (∃ (bs : List Nat), 32 ≤ bs.length ∧ (Pkt.parse bs).magic = 0x4F48 ∧ (Pkt.parse bs).kind = 1) :=
  ⟨⟨0, 0, { S7 with hs.slots := [(0, { phase := .pcie, cmdProd := 1 })] }, by decide +kernel⟩,
   ⟨0, 0, S7, by decide +kernel⟩,
   ⟨0, 0, S7, by decide +kernel⟩,
   ⟨0, 0, { S7 with rd.haveActive := true, st.step4 := true }, by decide +kernel⟩,
   ⟨0, 0, 0, false, [], S7, by decide +kernel⟩,
   ⟨0, 5, S7.prm 0x0102 0 3 0, [], { S7 with rd.haveActive := true, st.step4 := true, xp.act.rows := [(rowKey 0x0102 0 0, [5])] }, by decide +kernel⟩,
   ⟨0, 5, S7.prm 0x0102 0 3 0, [], { S7 with rd.haveActive := true, st.step4 := true, xp.act.rows := [(rowKey 0x0102 0 0, [5])] }, by decide +kernel⟩,
   ⟨0, 1, h0, { S7 with hs.slots := [(0, { bucket := (1 * 10 ^ 12) })] }, by decide +kernel⟩,
   ⟨[], by decide +kernel⟩,
   ⟨[0x48, 0x4F, 1, 0, 1] ++ List.replicate 27 0, by decide +kernel⟩⟩

end Sys2Proof.Tests
end

section
/-! SUPPORT. How a command can end: with a next state, or with the one fault where it names a unit the variant does not have (R4, R15). -/

namespace Sys2Proof.Machine
open Sys2Proof

/-- An outcome is a next state, or the fault of a missing unit under operands that fail the check `wf`. -/
def GoesWhere (wf : Bool) (o : Host.Outcome State Fault Refusal) : Prop :=
  Goes o ∨ (o = .fault .noSuchUnit ∧ wf = false)

theorem GoesWhere.goes {o : Host.Outcome State Fault Refusal} (h : GoesWhere true o) : Goes o := by
  rcases h with hgo | ⟨-, hwf⟩
  · exact hgo
  · cases hwf

theorem GoesWhere.not_refused {wf : Bool} {o : Host.Outcome State Fault Refusal} (h : GoesWhere wf o) (r : Refusal) : o ≠ .refused r := by
  rcases h with ⟨t, rfl⟩ | ⟨rfl, -⟩ <;> nofun

theorem goesWhere_next (wf : Bool) (t : State) : GoesWhere wf (.next t) := .inl ⟨t, rfl⟩

/-- A guard that faults only on operands the check refuses. -/
theorem goesWhere_guard {missing : Prop} [Decidable missing] {wf : Bool} (t : State) (h : missing → wf = false) :
    GoesWhere wf (if missing then .fault .noSuchUnit else .next t) := by
  split
  · exact .inr ⟨rfl, h ‹_›⟩
  · exact goesWhere_next wf t

/-- The guard of a unit number below `n`. -/
theorem goesWhere_below (x n : Nat) (t : State) : GoesWhere (decide (x < n)) (if n ≤ x then .fault .noSuchUnit else .next t) :=
  goesWhere_guard t (by simp)

/-- The guard of a unit number up to `n`. -/
theorem goesWhere_upTo (x n : Nat) (t : State) : GoesWhere (decide (x ≤ n)) (if n < x then .fault .noSuchUnit else .next t) :=
  goesWhere_guard t (by simp)

/-- The guard of a unit number, where the check bounds a register word too. -/
theorem goesWhere_belowWord (x n v : Nat) (t : State) : GoesWhere (decide (x < n) && decide (v < pow32)) (if n ≤ x then .fault .noSuchUnit else .next t) :=
  goesWhere_guard t (by simp +contextual [Nat.not_lt_of_le])

/-- The guard of a bay and one of its piers. -/
theorem goesWhere_pier (bay pier nb : Nat) (t : State) :
    GoesWhere (decide (bay < nb) && decide (pier < 3)) (if nb ≤ bay ∨ 3 ≤ pier then .fault .noSuchUnit else .next t) :=
  goesWhere_guard t (by simp; omega)

/-- A missed stage's guard and its check speak of the same bays, listed once or each time. -/
theorem mem_missBays {stage b : Nat} {units : List Nat} : b ∈ missBays stage units ↔ b ∈ missedBays stage units := by
  simp only [missBays, List.mem_eraseDups]; rfl

theorem goesWhere_stage (stage nb : Nat) (units : List Nat) (t : State) :
    GoesWhere (decide (1 ≤ stage) && decide (stage ≤ 6) && (missedBays stage units).all (fun b => decide (b < nb)))
      (if stage = 0 ∨ 6 < stage ∨ (missBays stage units).any (fun b => decide (nb ≤ b)) then .fault .noSuchUnit else .next t) := by
  refine goesWhere_guard t fun hmissing => ?_
  rcases hmissing with hzero | hlarge | hbay
  · simp [hzero]
  · simp [Nat.not_le_of_lt hlarge]
  · obtain ⟨b, hmem, hb⟩ := List.any_eq_true.mp hbay
    refine Bool.and_eq_false_imp.mpr fun _ => List.all_eq_false.mpr ⟨b, mem_missBays.mp hmem, ?_⟩
    simpa using hb

/-- Every command goes on, but for an event row that names a missing unit: the alternatives are the kinds of unit such rows name. -/
theorem exec_goesWhere (i : Instr) (s : State) : GoesWhere (i.wf s.nBays s.nTiles) (exec i s) := by
  cases i with
  | hsCmdProd slot index | hsRplCons slot index | hsEvqCons slot index => exact goesWhere_belowWord slot 8 index _
  | slotLost slot | grantExpiry slot => exact goesWhere_below slot 8 _
  | msiModerationEnd vector => exact goesWhere_below vector 17 _
  | udpDatagram port | arp port | icmpEcho port | sspRxFrame port | sspRxSlip port => exact goesWhere_below port 2 _
  | channelQualify slot | channelLost slot | slotRampEnd slot => exact goesWhere_below slot 40 _
  | svStreamTimeout k | gridSenseInvalid k | probeBurstEnd k | resilverComplete k => exact goesWhere_below k 8 _
  | tripInputAssert input | tripInputRelease input => exact goesWhere_below input 12 _
  | nvmeCompletion _ drive | driveTimeout drive | smartPoll drive => exact goesWhere_below drive 16 _
  | keystoneSelfTest keystone | signedBoot keystone => exact goesWhere_below keystone 2 _
  | tileTakeover tile | tileSelfTest tile => exact goesWhere_below tile s.nTiles _
  | retryOffEnd n | retryRailCheck n | thermalLevelChange n | sensorBroken n | sensorRecovered n | throttleGraceEnd n | throttleEnforce n | throttleRelease n =>
    exact goesWhere_below n 14 _
  | warningExcursion channel | railReturn channel => exact goesWhere_upTo channel 22 _
  | tickMarkerEcho bay | bayLinkLost bay | hello bay | join bay | serials bay | ring bay | laneDown bay | laneTrained bay | laneRetry bay | windowOpen bay
  | windowClose bay | bayIdle bay | standbyEntry bay | standbyExit bay | ambientTimeout bay | admissionEnd bay | restore bay =>
    exact goesWhere_below bay s.nBays _
  | upstreamFrame frame => exact goesWhere_below frame.lane s.nBays _
  | courseDark course | courseLeaveService course | withdraw course => exact goesWhere_below course (s.nBays * 384) _
  | zPassEnd pier => exact goesWhere_below pier (s.nBays * 3) _
  | diagWindowClose pier => exact goesWhere_below pier (3 * s.nBays) _
  | plumbRecovery bay pier | plumbFloat bay pier | enableLanding bay pier => exact goesWhere_pier bay pier s.nBays _
  | stageDeadlineMiss stage units => exact goesWhere_stage stage s.nBays units _
  | _ => exact goesWhere_next _ _

/-- Settles O2: the one fault needs a unit that the check refuses, and no arm refuses. -/
theorem wellFormedCommandsGo : Obligations.WellFormedCommandsGo := by
  refine ⟨fun i s hwf => ?_, fun i s r => (exec_goesWhere i s).not_refused r⟩
  have hgoes := exec_goesWhere i s
  rw [hwf] at hgoes
  exact hgoes.goes

end Sys2Proof.Machine
end

section
/-! SUPPORT. Tables written in a row, and tables outside their canonical form. -/

namespace Sys2Proof.Machine
open Sys2Proof

theorem iter_succ {α : Type} (n : Nat) (f : Nat → α → α) (a : α) : iter (n + 1) f a = f n (iter n f a) := by
  simp [iter, List.range_succ]

section
variable {α : Type} [DecidableEq α] {d : α}

theorem twf_iter_tmod {t : Tab α} (w : twf d t = true) (f : Nat → α → α) (n : Nat) :
    twf d (iter n (fun k (t : Tab α) => tmod d t k (f k)) t) = true := by
  induction n with
  | zero => exact w
  | succ n ih => rw [iter_succ]; exact twf_tmod n (f n) ih

/-- Changing the keys `0` to `n - 1` in a row changes each of them once, and no other. -/
theorem tget_iter_tmod {t : Tab α} (w : twf d t = true) (f : Nat → α → α) (n i : Nat) :
    tget d (iter n (fun k (t : Tab α) => tmod d t k (f k)) t) i = if i < n then f i (tget d t i) else tget d t i := by
  induction n with
  | zero => rfl
  | succ n ih =>
    have hw := twf_iter_tmod w f n
    rw [iter_succ]
    by_cases hi : i = n
    · subst hi
      rw [tget_tmod_self hw, ih]
      simp
    · rw [tget_tmod_ne hi hw, ih]
      simp only [show i < n + 1 ↔ i < n by omega]

/-- Filling an empty table row by row: each written key reads its value. -/
theorem tget_iter_tset (f : Nat → α) {n i : Nat} (hi : i < n) : tget d (iter n (fun k (t : Tab α) => tset d t k (f k)) []) i = f i :=
  (tget_iter_tmod (t := []) rfl (fun k _ => f k) n i).trans (if_pos hi)

/-- A write of a value that is listed reads back, and leaves other keys alone, in a table that need not be canonical. -/
theorem tget_tset_listed (t : Tab α) {k : Nat} {v : α} (hv : v ≠ d) (j : Nat) : tget d (tset d t k v) j = if j = k then v else tget d t j := by
  induction t with
  | nil => simp [tset, tget, hv]
  | cons e r ih =>
    simp only [tset, hv, if_false]
    split_ifs <;> simp only [tget, ih] <;> grind

end

end Sys2Proof.Machine
end

section
/-! SUPPORT. An event leaves every slot's rings and the page-12 commit alone (R403, R415). -/

namespace Sys2Proof.Machine
open Sys2Proof

/-- `g` has the rings of every slot and the page-12 commit's fields as `h` has them. -/
structure HostIf.SameRings (h g : HostIf) : Prop where
  rings : ∀ j, (tget {} g.slots j).rings = (tget {} h.slots j).rings
  commitErr : g.commitErr = h.commitErr
  commitSet : g.commitSet = h.commitSet

theorem HostIf.SameRings.refl (h : HostIf) : h.SameRings h := ⟨fun _ => rfl, rfl, rfl⟩

theorem HostIf.SameRings.trans {f g h : HostIf} (hfg : f.SameRings g) (hgh : g.SameRings h) : f.SameRings h :=
  ⟨fun j => (hgh.rings j).trans (hfg.rings j), hgh.commitErr.trans hfg.commitErr, hgh.commitSet.trans hfg.commitSet⟩

theorem HostIf.put_sameRings (h : HostIf) (a : Nat) (bs : List Nat) : h.SameRings (h.put a bs) := ⟨fun _ => rfl, rfl, rfl⟩
theorem HostIf.announce_sameRings (h : HostIf) (i : Nat) : h.SameRings (h.announce i) := ⟨fun _ => rfl, rfl, rfl⟩
theorem HostIf.signal_sameRings (h : HostIf) (v : Nat) : h.SameRings (h.signal v) := ⟨fun _ => rfl, rfl, rfl⟩

/-- A write to a slot that stays open with its rings. -/
theorem HostIf.set_sameRings (h : HostIf) {i : Nat} {x : Slot} (hx : x.phase ≠ .closed) (hr : x.rings = (tget {} h.slots i).rings) (o : Bool) :
    h.SameRings { h with slots := tset {} h.slots i x, evqOverflow := o } := by
  refine ⟨fun j => ?_, rfl, rfl⟩
  have hlisted : x ≠ {} := fun hempty => hx (hempty ▸ rfl)
  rw [tget_tset_listed _ hlisted]
  split
  · next hj => rw [hj, hr]
  · rfl

theorem Slot.deliver_phase (x : Slot) (i : Nat) (r : EvRec) : (x.deliver i r).1.phase = x.phase := by
  cases hp : x.phase <;> simp only [Slot.deliver, hp]
  split_ifs <;> rfl

theorem Slot.deliver_rings (x : Slot) (i : Nat) (r : EvRec) : (x.deliver i r).1.rings = x.rings := by
  cases hp : x.phase <;> simp only [Slot.deliver, hp]
  split_ifs <;> rfl

theorem HostIf.deliver_sameRings (h : HostIf) (i : Nat) (force : Bool) (r : EvRec) : h.SameRings (h.deliver i force r) := by
  have hset (o : Bool) (hopen : (tget {} h.slots i).phase ≠ .closed) :=
    h.set_sameRings (i := i) (x := ((tget {} h.slots i).deliver i r).1) (by rwa [Slot.deliver_phase]) (Slot.deliver_rings _ i r) o
  simp only [HostIf.deliver]
  split_ifs with htold hring
  · exact (hset _ htold.1).trans ((HostIf.put_sameRings _ _ _).trans ((HostIf.announce_sameRings _ _).trans (HostIf.signal_sameRings _ _)))
  · exact hset _ htold.1
  · exact .refl h

theorem HostIf.merge_sameRings (h : HostIf) (i : Nat) (force : Bool) (m : Nat) (r : EvRec) : h.SameRings (h.merge i force m r) := by
  simp only [HostIf.merge]
  split_ifs with htold hrepeat
  · refine h.set_sameRings ?_ ?_ h.evqOverflow
    · exact htold.1
    · rfl
  · exact h.deliver_sameRings i force r
  · exact .refl h

theorem State.publish_sameRings (s : State) (e : Evt) (force : Nat → Bool) : s.hs.SameRings (s.publish e force).hs := by
  have hfold (slots : List Nat) (h : HostIf) :
      h.SameRings (slots.foldl (fun (h : HostIf) i => if s.shedding then h.merge i (force i) (evSources e.kind) (s.stampEvt e) else h.deliver i (force i) (s.stampEvt e)) h) := by
    induction slots generalizing h with
    | nil => exact .refl h
    | cons i slots ih =>
      refine HostIf.SameRings.trans ?_ (ih _)
      split_ifs
      · exact h.merge_sameRings _ _ _ _
      · exact h.deliver_sameRings _ _ _
  exact hfold _ s.hs

theorem State.vector16_sameRings (s : State) (k : Nat) (was : Bool) : s.hs.SameRings (s.vector16 k was).hs := by
  simp only [State.vector16]
  split_ifs
  · exact s.hs.signal_sameRings 16
  · exact .refl s.hs

end Sys2Proof.Machine
end

section
/-! SUPPORT. Commits of the staged register fields: what each captures, and what its landing leaves (R22, R403, R519 to R535). -/

namespace Sys2Proof.Machine
open Sys2Proof

/-! ### The meanings of the commit rows -/

section
variable (s : State)

theorem exec_sysCommit (v : Nat) : exec (.sysCommit v) s = .next (doSysCommit v s) := rfl
theorem exec_sysCommitLanding : exec .sysCommitLanding s = .next (doSysCommitLanding s) := rfl
theorem exec_hsCommit (v : Nat) : exec (.hsCommit v) s = .next (doHsCommit v s) := rfl
theorem exec_hsCommitLanding : exec .hsCommitLanding s = .next (doHsCommitLanding s) := rfl
theorem exec_urCommit (v : Nat) : exec (.urCommit v) s = .next (doUrCommit v s) := rfl
theorem exec_urCommitLanding : exec .urCommitLanding s = .next (doUrCommitLanding s) := rfl
theorem exec_urFillPublish : exec .urFillPublish s = .next (doUrFillPublish s) := rfl

end

/-! ### Page 0 (R519, R525) -/

theorem exec_sysCommit_running {v : Nat} {s : State} (hv : v % 2 = 1) (hstaged : s.sys.pend0 = true) (hrun : s.tb.running = true) :
    exec (.sysCommit v) s = .next { s with sys := { s.sys with gpioCommit := some (s.absTick, s.sys.gpioDirStg, s.sys.permitEnStg), late0 := false } } := by
  simp [exec_sysCommit, doSysCommit, hv, hstaged, hrun]

theorem exec_sysCommitLanding_due {n dir : Nat} {permit : Bool} {s : State} (hc : s.sys.gpioCommit = some (n, dir, permit)) (hn : n ≠ s.absTick) :
    exec .sysCommitLanding s = .next { s with sys := { s.sys with gpioDir := dir, permitEn := permit, permitLow := (if permit = s.sys.permitEn then s.sys.permitLow else 1), gpioFresh := false, pend0 := s.sys.late0, late0 := false, gpioCommit := none } } := by
  simp [exec_sysCommitLanding, doSysCommitLanding, State.landPage0, hc, hn]

/-! ### Page 12 (R403, R519, R520) -/

theorem exec_hsCommit_running {v : Nat} {s : State} (hv : v % 2 = 1) (hstaged : s.hs.stagedSlots ≠ 0) (hrun : s.tb.running = true) :
    ∃ set, exec (.hsCommit v) s = .next { s with hs := { s.hs with commitSet := some (s.absTick, set), lateSlots := 0 } } ∧ ∀ i < 8, tget {} set i = (s.slot i).staged := by
  refine ⟨iter 8 (fun i (t : Tab Rings) => tset {} t i (s.slot i).staged) [], ?_, fun i hi => tget_iter_tset _ hi⟩
  simp [exec_hsCommit, doHsCommit, hv, hstaged, hrun]

theorem exec_hsCommitLanding_due {n : Nat} {set : Tab Rings} {s : State} (hc : s.hs.commitSet = some (n, set)) (hn : n ≠ s.absTick) :
    exec .hsCommitLanding s = .next s.landPage12 := by
  simp [exec_hsCommitLanding, doHsCommitLanding, hc, hn]

/-- Each slot's committed rings in force, all in one update. -/
def withRings (slots : Tab Slot) (set : Tab Rings) : Tab Slot :=
  iter 8 (fun i (t : Tab Slot) => tmod {} t i (fun x => { x with rings := tget {} set i })) slots

theorem tget_withRings {slots : Tab Slot} (w : twf {} slots = true) (set : Tab Rings) {i : Nat} (hi : i < 8) :
    tget {} (withRings slots set) i = { tget {} slots i with rings := tget {} set i } :=
  (tget_iter_tmod w (fun i (x : Slot) => { x with rings := tget {} set i }) 8 i).trans (if_pos hi)

/-- The commit takes effect where every slot passes its checks. -/
theorem State.landPage12_of_ringsOk {n : Nat} {set : Tab Rings} {s : State} (hc : s.hs.commitSet = some (n, set))
    (hok : ∀ i < 8, (s.slot i).ringsOk (tget {} set i) = true) :
    s.landPage12 = { s with hs := { s.hs with slots := withRings s.hs.slots set, stagedSlots := s.hs.lateSlots, lateSlots := 0, commitSet := none } } := by
  have hpass : (List.range 8).filter (fun i => !(s.slot i).ringsOk (tget {} set i)) = [] := by
    simpa using hok
  simp [State.landPage12, hc, hpass, withRings]

/-- The commit is refused on account of a failing slot where there is one. -/
theorem State.landPage12_of_not_ringsOk {n i : Nat} {set : Tab Rings} {s : State} (hc : s.hs.commitSet = some (n, set)) (hi : i < 8)
    (hbad : (s.slot i).ringsOk (tget {} set i) = false) : ∃ k, s.landPage12 = s.refuseCommit k := by
  have hmem : i ∈ (List.range 8).filter (fun i => !(s.slot i).ringsOk (tget {} set i)) := by simp [hi, hbad]
  obtain ⟨k, rest, hfails⟩ := List.exists_cons_of_ne_nil (List.ne_nil_of_mem hmem)
  exact ⟨k, by simp [State.landPage12, hc, hfails]⟩

/-- A refused commit leaves its mark and every slot's rings as they were: the interrupt and the event touch neither. -/
theorem State.refuseCommit_spec (s : State) (k : Nat) :
    (s.refuseCommit k).hs.commitErr = true ∧ (s.refuseCommit k).hs.commitSet = none ∧ ∀ j, ((s.refuseCommit k).slot j).rings = (s.slot j).rings := by
  have hsame := (State.vector16_sameRings { s with hs := { s.hs with commitErr := true, commitSet := none, lateSlots := 0 } } 3 s.hs.commitErr).trans
    (State.publish_sameRings _ { kind := .commitError, unit := noUnit, detail := k } (fun j => decide (j = k)))
  exact ⟨hsame.commitErr, hsame.commitSet, hsame.rings⟩

/-! ### Page 8 (R532 to R535) -/

theorem exec_urCommit_running {v : Nat} {s : State} (hv : v % 2 = 1) (hrun : s.tb.running = true) :
    exec (.urCommit v) s = .next { s with sys := { s.sys with urCommit := some (s.absTick, s.sys.urUnitStg, s.sys.urScopeStg), late8 := false } } := by
  simp [exec_urCommit, doUrCommit, hv, hrun]

theorem exec_urCommitLanding_due {n u c : Nat} {s : State} (hc : s.sys.urCommit = some (n, u, c)) (hn : n ≠ s.absTick) :
    exec .urCommitLanding s = .next s.landPage8 := by
  simp [exec_urCommitLanding, doUrCommitLanding, hc, hn]

theorem State.landPage8_starts {n u c : Nat} {s : State} (hc : s.sys.urCommit = some (n, u, c)) (hst : fillStatus s.nBays u c = 0) :
    s.landPage8 = { s with sys := { s.sys with urCommit := none, urCopy := none, late8 := false, urUnit := u, urScope := c, pend8 := s.sys.late8, urState := 1, urFill := some s.absTick } } := by
  simp [State.landPage8, hc, hst]

theorem State.landPage8_refuses {n u c : Nat} {s : State} (hc : s.sys.urCommit = some (n, u, c)) (hst : fillStatus s.nBays u c ≠ 0) :
    s.landPage8 = { s with sys := { s.sys with urCommit := none, urFill := none, urCopy := none, late8 := false, urState := 3, urErr := fillStatus s.nBays u c } } := by
  simp [State.landPage8, hc, hst]

/-- The words of the window after a fill of `f` records. -/
def windowWords (f : Nat) (bytes : List Nat) : Tab Nat := iter (16 * f) (fun k (d : Tab Nat) => tset 0 d k (getLe bytes (4 * k) 4)) []

theorem exec_urFillPublish_copied {n : Nat} {bytes : List Nat} {s : State} (hf : s.sys.urFill = some n) (hb : s.sys.urCopy = some bytes) :
    let u := (checkUid s.nBays s.sys.urUnit).2
    let f := s.sys.fillSize s.nBays u
    let past := s.sys.urScope / 2 ^ 16 % 2 ^ 16 + f
    exec .urFillPublish s = .next { s with sys := { s.sys with urState := 2, urFilled := f, urErr := 0, urSnap := n, urSeq := (s.sys.urSeq + 1) % 2 ^ 32, urFill := none, urNext := if s.sys.urScope.testBit 0 = true ∧ past < memberCount s.nBays u then past else 0xFFFF, urCopy := none, urData := windowWords f bytes } } := by
  simp [exec_urFillPublish, doUrFillPublish, hf, hb, incWrap, bits, windowWords]

/-- Settles O28, page by page. -/
theorem commitsLandBetweenTicks : Obligations.CommitsLandBetweenTicks := by
  unfold Obligations.CommitsLandBetweenTicks
  refine ⟨fun _ _ => exec_sysCommit_running, fun _ _ _ _ => exec_sysCommitLanding_due, fun _ _ => exec_hsCommit_running,
    fun n set s w hc hn hok => ?applied, fun n i set s hc hn hi hbad => ?refused, fun _ _ => exec_urCommit_running,
    fun n u c s hc hn hst => ?fillStarts, fun n u c s hc hn hst => ?fillRefused, fun n bytes s hf hb => ?published⟩
  case applied =>
    refine ⟨s.landPage12, exec_hsCommitLanding_due hc hn, ?_⟩
    rw [State.landPage12_of_ringsOk hc hok]
    exact ⟨rfl, fun i hi => tget_withRings w.1 set hi⟩
  case refused =>
    obtain ⟨k, hk⟩ := State.landPage12_of_not_ringsOk hc hi hbad
    obtain ⟨herr, hnone, hrings⟩ := s.refuseCommit_spec k
    exact ⟨_, (exec_hsCommitLanding_due hc hn).trans (congrArg _ hk), herr, hnone, fun j _ => hrings j⟩
  case fillStarts => exact (exec_urCommitLanding_due hc hn).trans (congrArg _ (State.landPage8_starts hc hst))
  case fillRefused => exact (exec_urCommitLanding_due hc hn).trans (congrArg _ (State.landPage8_refuses hc hst))
  case published => exact ⟨_, exec_urFillPublish_copied hf hb, rfl, fun k hk => tget_iter_tset _ hk⟩

end Sys2Proof.Machine
end

section
/-! SUPPORT. Tables written entry by entry, and what a write reads back as in any table. -/

namespace Sys2Proof.Machine
open Sys2Proof

/-- A key that does not read the default is listed. -/
theorem mem_of_tget_ne {α : Type} {d : α} {t : Tab α} {k : Nat} (hne : tget d t k ≠ d) : (k, tget d t k) ∈ t := by
  induction t with
  | nil => exact absurd rfl hne
  | cons e r ih =>
    simp only [tget] at hne ⊢
    split_ifs with heq hlt
    · simp [heq]
    · simp [heq, hlt] at hne
    · simp only [heq, hlt, if_false] at hne
      exact List.mem_cons_of_mem _ (ih hne)

section
variable {α : Type} [DecidableEq α] {d : α}

theorem tget_tmod_listed (t : Tab α) {k : Nat} {f : α → α} (hv : f (tget d t k) ≠ d) (j : Nat) :
    tget d (tmod d t k f) j = if j = k then f (tget d t k) else tget d t j := tget_tset_listed t hv j

/-- The keys `ks` written one after another, each with the value `v` has for it. -/
theorem tget_foldl_tset (v : Nat → α) (ks : List Nat) {t : Tab α} (w : twf d t = true) (x : Nat) :
    tget d (ks.foldl (fun t k => tset d t k (v k)) t) x = if x ∈ ks then v x else tget d t x := by
  induction ks generalizing t with
  | nil => simp
  | cons k ks ih =>
    rw [List.foldl_cons, ih (twf_tset k (v k) w)]
    by_cases hx : x = k
    · subst hx; simp [tget_tset_self w]
    · simp [hx, tget_tset_ne hx w]

/-- In canonical form a listed entry is the one its key reads. -/
theorem tget_of_mem {t : Tab α} {k : Nat} {v : α} (w : twf d t = true) (hmem : (k, v) ∈ t) : tget d t k = v := by
  have hfrom : ∀ (t : Tab α) (a : Nat), twfFrom d a t = true → (k, v) ∈ t → a ≤ k ∧ tget d t k = v := by
    intro t
    induction t with
    | nil => simp
    | cons e r ih =>
      intro a w hmem
      simp only [twfFrom, Bool.and_eq_true, decide_eq_true_eq] at w
      obtain ⟨⟨hle, -⟩, hr⟩ := w
      rcases List.mem_cons.mp hmem with rfl | htail
      · exact ⟨hle, by simp [tget]⟩
      · obtain ⟨hlt, hget⟩ := ih _ hr htail
        have hne : k ≠ e.1 := by omega
        have hnlt : ¬ k < e.1 := by omega
        exact ⟨by omega, by simp [tget, hne, hnlt, hget]⟩
  exact (hfrom t 0 w hmem).2

end

end Sys2Proof.Machine
end

section
/-! SUPPORT. Bay links, courses and records: what each shared operation leaves alone (R33, R276 to R279, R289 to R296, R335 to R337). -/

namespace Sys2Proof.Machine
open Sys2Proof

/-! ### Links read back -/

theorem State.bayLink_modLink (s : State) {b : Nat} {f : BayLink → BayLink} (hf : f (s.bayLink b) ≠ {}) (j : Nat) :
    (s.modLink b f).bayLink j = if j = b then f (s.bayLink b) else s.bayLink j := tget_tmod_listed _ hf j

theorem State.sendMsg_outQ (s : State) (b kind pos : Nat) (payload : List Nat) :
    ((s.sendMsg b kind pos payload).bayLink b).outQ = (s.bayLink b).outQ ++ [{ kind := kind, pos := pos, payload := payload }] := by
  refine congrArg BayLink.outQ ((s.bayLink_modLink (fun hdefault => ?_) b).trans (if_pos rfl))
  simpa using congrArg BayLink.outQ hdefault

/-! ### The frame of the bay links -/

/-- `t` has the bays' links, and the blocks that no course or record belongs to, as `s` has them. -/
structure State.SameLinks (s t : State) : Prop where
  tb : t.tb = s.tb
  xp : t.xp = s.xp
  ce : t.ce = s.ce
  rd : t.rd = s.rd
  fu : t.fu = s.fu
  ftg : t.ftg = s.ftg
  bays : t.lk.bays = s.lk.bays

theorem State.SameLinks.refl (s : State) : s.SameLinks s := ⟨rfl, rfl, rfl, rfl, rfl, rfl, rfl⟩

theorem State.SameLinks.trans {s t u : State} (hst : s.SameLinks t) (htu : t.SameLinks u) : s.SameLinks u :=
  ⟨htu.tb.trans hst.tb, htu.xp.trans hst.xp, htu.ce.trans hst.ce, htu.rd.trans hst.rd, htu.fu.trans hst.fu, htu.ftg.trans hst.ftg, htu.bays.trans hst.bays⟩

section
variable (s : State)

theorem State.modCourse_sameLinks (c : Nat) (f : Course → Course) : s.SameLinks (s.modCourse c f) := ⟨rfl, rfl, rfl, rfl, rfl, rfl, rfl⟩
theorem State.raiseX_sameLinks (e : Evt) (x : List (List Nat)) : s.SameLinks (s.raiseX e x) := ⟨rfl, rfl, rfl, rfl, rfl, rfl, rfl⟩
theorem State.raise_sameLinks (e : Evt) : s.SameLinks (s.raise e) := s.raiseX_sameLinks e []
theorem State.startBay_sameLinks (b : Nat) (p : StartPhase) (reason : Nat) : s.SameLinks (s.startBay b p reason) := ⟨rfl, rfl, rfl, rfl, rfl, rfl, rfl⟩

theorem State.endSync_sameLinks (reason : Nat) : s.SameLinks (s.endSync reason) := by
  cases hsync : s.st.sync <;> simp only [State.endSync, hsync]
  · exact .refl s
  · split_ifs <;> exact ⟨rfl, rfl, rfl, rfl, rfl, rfl, rfl⟩

end

/-! ### Records of a position -/

/-- `t` differs from `s` in records alone: the courses are the same, and `bound` are the serials in place. -/
structure State.Binds (bound : Tab Nat) (s t : State) : Prop extends s.SameLinks t where
  courses : t.lk.courses = s.lk.courses
  bound : t.lk.bound = bound

theorem State.Binds.refl (s : State) : State.Binds s.lk.bound s s := ⟨.refl s, rfl, rfl⟩

theorem State.Binds.trans {s t u : State} {p q : Tab Nat} (hst : State.Binds p s t) (htu : State.Binds q t u) : State.Binds q s u :=
  ⟨hst.toSameLinks.trans htu.toSameLinks, htu.courses.trans hst.courses, htu.bound⟩

/-- A step that binds nothing keeps what is bound. -/
theorem State.Binds.keep {s t u : State} {p : Tab Nat} (hst : State.Binds p s t) (htu : State.Binds t.lk.bound t u) : State.Binds p s u :=
  hst.bound ▸ hst.trans htu

/-- A step that binds nothing, before one that binds a position. -/
theorem State.Binds.bind {s t u : State} {x v : Nat} (hst : State.Binds s.lk.bound s t) (htu : State.Binds (tset 0 t.lk.bound x v) t u) :
    State.Binds (tset 0 s.lk.bound x v) s u := hst.bound ▸ hst.trans htu

section
variable (s : State)

theorem State.raiseX_binds (e : Evt) (x : List (List Nat)) : State.Binds s.lk.bound s (s.raiseX e x) := ⟨s.raiseX_sameLinks e x, rfl, rfl⟩
theorem State.raise_binds (e : Evt) : State.Binds s.lk.bound s (s.raise e) := s.raiseX_binds e []
theorem State.bindEvent_binds (unit kind brick course hub : Nat) : State.Binds s.lk.bound s (s.bindEvent unit kind brick course hub) := s.raiseX_binds _ _

theorem State.departBrick_binds (x : Nat) (r : Rec) : State.Binds s.lk.bound s (s.departBrick x r) := ⟨⟨rfl, rfl, rfl, rfl, rfl, rfl, rfl⟩, rfl, rfl⟩

theorem State.closeRecord_binds (x : Nat) (image : List Nat) : State.Binds s.lk.bound s (s.closeRecord x image) :=
  ⟨⟨rfl, rfl, rfl, rfl, rfl, rfl, rfl⟩, rfl, rfl⟩

theorem State.closeBound_binds (x : Nat) : State.Binds s.lk.bound s (s.closeBound x) := by
  unfold State.closeBound
  split
  · exact s.closeRecord_binds x _
  · exact .refl s

theorem State.putRecord_binds (x serial : Nat) (r : Rec) (e : Ext) : State.Binds (tset 0 s.lk.bound x serial) s (s.putRecord x serial r e) :=
  ⟨⟨rfl, rfl, rfl, rfl, rfl, rfl, rfl⟩, rfl, rfl⟩

/-- Whatever record is restored or opened, the position is bound to the serial. -/
theorem State.openRecord_binds (x serial : Nat) (marked : Bool) : State.Binds (tset 0 s.lk.bound x serial) s (s.openRecord x serial marked) := by
  simp only [State.openRecord]
  split_ifs
  · exact s.putRecord_binds x serial _ _
  · exact s.putRecord_binds x serial _ _
  · exact (s.closeRecord_binds x _).bind (State.putRecord_binds _ x serial _ _)
  · exact (s.closeBound_binds x).bind (State.putRecord_binds _ x serial _ _)
  · split
    · exact s.putRecord_binds x serial _ _
    · split
      · exact (s.closeRecord_binds x _).bind (State.putRecord_binds _ x serial _ _)
      · exact (s.putRecord_binds x serial _ _).keep (State.raise_binds _ _)

end

/-- Steps that each bind one position, one after another. -/
theorem State.Binds.foldl {op : State → Nat → State} {key val : Nat → Nat} {s t : State} {p : Tab Nat} (hst : State.Binds p s t)
    (hop : ∀ u j, State.Binds (tset 0 u.lk.bound (key j) (val j)) u (op u j)) (js : List Nat) :
    State.Binds (js.foldl (fun q j => tset 0 q (key j) (val j)) p) s (js.foldl op t) := by
  induction js generalizing t p with
  | nil => exact hst
  | cons j js ih => exact ih (hst.trans (hst.bound ▸ hop t j))

/-! ### A course that leaves service (R289, R296) -/

/-- The course's records that leave with it. -/
def State.departing (s : State) (c : Nat) : Tab Rec := (trange s.rc.bricks (c * 96) 96).filter (fun e => e.2.state != .absent)

theorem State.mem_departing {s : State} (w : twf {} s.rc.bricks = true) (c x : Nat) :
    x ∈ (s.departing c).map Prod.fst ↔ x / 96 = c ∧ (tget {} s.rc.bricks x).state ≠ .absent := by
  have hrange : (c * 96 ≤ x ∧ x < c * 96 + 96) ↔ x / 96 = c := by omega
  simp only [State.departing, trange, List.mem_map, List.mem_filter, Bool.and_eq_true, decide_eq_true_eq, bne_iff_ne, ne_eq, ← hrange]
  constructor
  · rintro ⟨⟨k, r⟩, ⟨⟨hmem, hin⟩, hpresent⟩, rfl⟩
    exact ⟨hin, by rwa [tget_of_mem w hmem]⟩
  · rintro ⟨hin, hpresent⟩
    exact ⟨(x, _), ⟨⟨mem_of_tget_ne fun hdefault => hpresent (by rw [hdefault]), hin⟩, hpresent⟩, rfl⟩

theorem State.foldl_departBrick_binds (l : Tab Rec) (s : State) : State.Binds s.lk.bound s (l.foldl (fun t e => t.departBrick e.1 e.2) s) := by
  induction l generalizing s with
  | nil => exact .refl s
  | cons e l ih => exact (s.departBrick_binds e.1 e.2).keep (ih _)

theorem State.foldl_departBrick_bricks (l : Tab Rec) (s : State) :
    (l.foldl (fun t e => t.departBrick e.1 e.2) s).rc.bricks = (l.map Prod.fst).foldl (fun t x => tset {} t x {}) s.rc.bricks := by
  induction l generalizing s with
  | nil => rfl
  | cons e l ih => exact ih _

section
variable (s : State) (c : Nat)

theorem State.leaveService_sameLinks : s.SameLinks (s.leaveService c) :=
  (State.foldl_departBrick_binds (s.departing c) s).toSameLinks.trans ⟨rfl, rfl, rfl, rfl, rfl, rfl, rfl⟩

/-- A course's state once it has left service. -/
def Course.left (k : Course) : Course :=
  { k with phase := .out, hand := false, parts := [], codes := [], missing := 0, dark := false, darkTicks := 0, withdrawTick := 0, withdrawCycles := 0,
           typeRaised := false, fallback := false, recoveryDue := true }

theorem State.leaveService_course (j : Nat) : (s.leaveService c).course j = if j = c then (s.course c).left else s.course j := by
  have hcourses : (s.leaveService c).lk.courses = tmod {} s.lk.courses c Course.left :=
    congrArg (fun t : Tab Course => tmod ({} : Course) t c Course.left) (State.foldl_departBrick_binds (s.departing c) s).courses
  have hlisted : (s.course c).left ≠ {} := fun hdefault => Bool.noConfusion (congrArg Course.recoveryDue hdefault)
  exact (congrArg (fun t : Tab Course => tget {} t j) hcourses).trans (tget_tmod_listed _ hlisted j)

/-- The course's records are closed, and every other record is as it was. -/
theorem State.leaveService_bricks (w : twf {} s.rc.bricks = true) (x : Nat) :
    tget {} (s.leaveService c).rc.bricks x = if x / 96 = c ∧ (tget {} s.rc.bricks x).state ≠ .absent then {} else tget {} s.rc.bricks x := by
  have hbricks : (s.leaveService c).rc.bricks = ((s.departing c).map Prod.fst).foldl (fun t x => tset {} t x {}) s.rc.bricks :=
    State.foldl_departBrick_bricks (s.departing c) s
  rw [hbricks, tget_foldl_tset (fun _ => ({} : Rec)) _ w]
  simp only [State.mem_departing w]

end

/-! ### A course that is admitted (R292, R294) -/

/-- A course's state once it is admitted; `differs`: its calibration is not the recorded one. -/
def Course.admitted (differs : Bool) (k : Course) : Course :=
  { k with phase := .service, hand := false, parts := [], codes := [], pending := false, reason := 0, slot := none, missing := 0, dark := false, darkTicks := 0,
           withdrawTick := 0, withdrawCycles := 0, typeRaised := false, known := (k.serial, k.cal) :: k.known.filter (fun e => e.1 != k.serial), marked := differs,
           slowKey := 0, recovery := k.recovery.map (fun _ => 0), recoveryDue := false }

/-- The serial bound to place `j` of a course that names `serials`; 0 where the place is empty. -/
def placeSerial (serials : List Nat) (j : Nat) : Nat := if serials.getD j emptySerial = emptySerial then 0 else serials.getD j emptySerial

section
variable (s : State) (c : Nat) (serials : List Nat)

/-- The course is admitted and told the bay's times; the rest of ADMIT binds its places. -/
theorem State.admitHub_binds :
    State.Binds ((List.range 96).foldl (fun t j => tset 0 t (c * 96 + j) (placeSerial serials j)) s.lk.bound)
      ((s.modCourse c (Course.admitted (s.badCal c (s.course c).serial (s.course c).cal))).sendMsg (c / 384) 0x23 (c % 384)
        (le 2 (s.prm 0x0701 (c / 384) 8 0 / 5) ++ le 2 (s.prm 0x0701 (c / 384) 9 0 / 5))) (s.admitHub c serials) := by
  simp only [State.admitHub]
  refine State.Binds.foldl (key := (c * 96 + ·)) (val := placeSerial serials) ?_ (fun u j => ?_) (List.range 96)
  · exact ⟨⟨rfl, rfl, rfl, rfl, rfl, rfl, rfl⟩, rfl, rfl⟩
  by_cases hempty : serials.getD j emptySerial = emptySerial
  · simp only [placeSerial, hempty, if_true]
    exact ⟨⟨rfl, rfl, rfl, rfl, rfl, rfl, rfl⟩, rfl, rfl⟩
  · simp only [placeSerial, hempty, if_false]
    split_ifs
    · exact ⟨⟨rfl, rfl, rfl, rfl, rfl, rfl, rfl⟩, rfl, rfl⟩
    · exact (u.bindEvent_binds _ _ _ _ _).bind (State.openRecord_binds _ _ _ _)

theorem State.admitHub_course (j : Nat) :
    (s.admitHub c serials).course j = if j = c then (s.course c).admitted (s.badCal c (s.course c).serial (s.course c).cal) else s.course j := by
  have hlisted : (s.course c).admitted (s.badCal c (s.course c).serial (s.course c).cal) ≠ {} := fun hdefault => CoursePhase.noConfusion (congrArg Course.phase hdefault)
  exact (congrArg (fun t : Tab Course => tget {} t j) (s.admitHub_binds c serials).courses).trans (tget_tmod_listed _ hlisted j)

theorem State.admitHub_outQ : ((s.admitHub c serials).bayLink (c / 384)).outQ = (s.bayLink (c / 384)).outQ ++
    [{ kind := 0x23, pos := c % 384, payload := le 2 (s.prm 0x0701 (c / 384) 8 0 / 5) ++ le 2 (s.prm 0x0701 (c / 384) 9 0 / 5) }] :=
  (congrArg (fun t : Tab BayLink => (tget {} t (c / 384)).outQ) (s.admitHub_binds c serials).bays).trans (State.sendMsg_outQ _ _ _ _ _)

theorem State.admitHub_bound (w : twf 0 s.lk.bound = true) {j : Nat} (hj : j < 96) :
    tget 0 (s.admitHub c serials).lk.bound (c * 96 + j) = placeSerial serials j := by
  have hkeys : (List.range 96).foldl (fun t j => tset 0 t (c * 96 + j) (placeSerial serials j)) s.lk.bound =
      ((List.range 96).map (c * 96 + ·)).foldl (fun t x => tset 0 t x (placeSerial serials (x - c * 96))) s.lk.bound := by
    simp [List.foldl_map]
  rw [(s.admitHub_binds c serials).bound, hkeys, tget_foldl_tset _ _ w, if_pos (by simpa using hj), Nat.add_sub_cancel_left]

end

end Sys2Proof.Machine
end

section
/-! SUPPORT. What an accepted upstream frame leaves of the bay's link: its report stands, and no other bay's link changes (R274 to R279, R291). -/

namespace Sys2Proof.Machine
open Sys2Proof

/-! ### The report of a frame -/

/-- What a bay's link holds of the latest accepted frame: its tick and lane, its flags and the hub's temperature. -/
def BayLink.report (l : BayLink) : BayLink :=
  { accepted := l.accepted, own := l.own, upTick := l.upTick, missed := l.missed, brkClosed := l.brkClosed, brkValid := l.brkValid,
    energizeIn := l.energizeIn, hubFloated := l.hubFloated, hubTemp := l.hubTemp }

/-- From `s` to `t` the report of an accepted frame of bay `b` stands, every other bay's link does, and so do the blocks that no frame reaches. -/
structure State.KeepsReport (b : Nat) (s t : State) : Prop where
  tb : t.tb = s.tb
  xp : t.xp = s.xp
  rd : t.rd = s.rd
  fu : t.fu = s.fu
  ftg : t.ftg = s.ftg
  links : (s.bayLink b).accepted = true → (t.bayLink b).report = (s.bayLink b).report ∧ ∀ j, j ≠ b → t.bayLink j = s.bayLink j

namespace State.KeepsReport
variable {b : Nat} {s t u : State}

theorem trans (hst : KeepsReport b s t) (htu : KeepsReport b t u) : KeepsReport b s u := by
  refine ⟨htu.tb.trans hst.tb, htu.xp.trans hst.xp, htu.rd.trans hst.rd, htu.fu.trans hst.fu, htu.ftg.trans hst.ftg, fun haccepted => ?_⟩
  obtain ⟨hreport, hothers⟩ := hst.links haccepted
  obtain ⟨hreport', hothers'⟩ := htu.links ((congrArg BayLink.accepted hreport).trans haccepted)
  exact ⟨hreport'.trans hreport, fun j hj => (hothers' j hj).trans (hothers j hj)⟩

theorem of_sameLinks (h : s.SameLinks t) : KeepsReport b s t := by
  have hlink (j : Nat) : t.bayLink j = s.bayLink j := congrArg (fun q : Tab BayLink => tget ({} : BayLink) q j) h.bays
  exact ⟨h.tb, h.xp, h.rd, h.fu, h.ftg, fun _ => ⟨congrArg BayLink.report (hlink b), fun j _ => hlink j⟩⟩

theorem refl (s : State) : KeepsReport b s s := of_sameLinks (.refl s)

theorem modLink (s : State) {f : BayLink → BayLink} (hf : ∀ l, (f l).report = l.report := by intro; rfl) : KeepsReport b s (s.modLink b f) := by
  refine ⟨rfl, rfl, rfl, rfl, rfl, fun haccepted => ?_⟩
  have hlisted : f (s.bayLink b) ≠ {} := fun hdefault => by
    have hcleared := congrArg BayLink.accepted ((hf (s.bayLink b)).symm.trans (congrArg BayLink.report hdefault))
    exact Bool.noConfusion (haccepted.symm.trans hcleared)
  exact ⟨by rw [s.bayLink_modLink hlisted, if_pos rfl, hf], fun j hj => by rw [s.bayLink_modLink hlisted, if_neg hj]⟩

theorem sendMsg (s : State) (kind pos : Nat) (payload : List Nat) : KeepsReport b s (s.sendMsg b kind pos payload) := modLink s

theorem misroute (s : State) (n : Nat) : KeepsReport b s (s.misroute b n) := by
  unfold State.misroute
  split_ifs
  · exact refl s
  · exact (modLink s (f := fun l => { l with nMisrouted := satU 32 (l.nMisrouted + n) })).trans (of_sameLinks ⟨rfl, rfl, rfl, rfl, rfl, rfl, rfl⟩)

theorem ite {p : Prop} [Decidable p] (ht : KeepsReport b s t) (hu : KeepsReport b s u) : KeepsReport b s (if p then t else u) := by
  split_ifs
  · exact ht
  · exact hu

/-- Steps that each keep the report, one after another. -/
theorem foldl {α : Type} {op : State → α → State} (hop : ∀ u a, KeepsReport b u (op u a)) (l : List α) (s : State) : KeepsReport b s (l.foldl op s) := by
  induction l generalizing s with
  | nil => exact refl s
  | cons a l ih => exact (hop s a).trans (ih _)

end State.KeepsReport

/-! ### Messages (R271, R286, R291 to R294) -/

section
variable (s : State)

theorem State.refuseHub_keepsReport (b reason : Nat) : KeepsReport b s (s.refuseHub b reason) :=
  ((KeepsReport.modLink s).trans (.sendMsg _ _ _ _)).trans (.of_sameLinks (raise_sameLinks _ _))

theorem doHello_keepsReport (b : Nat) (m : HelloMsg) : s.KeepsReport b (doHello b m s) := by
  simp only [doHello]
  split_ifs
  · exact .refl s
  · exact s.refuseHub_keepsReport b 7
  · exact s.refuseHub_keepsReport b 6
  · exact s.refuseHub_keepsReport b 9
  · exact (State.KeepsReport.modLink s).trans (.of_sameLinks ((State.raiseX_sameLinks _ _ _).trans (State.startBay_sameLinks _ _ _ _)))
  · exact (State.KeepsReport.modLink s).trans (.of_sameLinks (State.raiseX_sameLinks _ _ _))

theorem doRing_keepsReport (b : Nat) (m : RingMsg) : s.KeepsReport b (doRing b m s) := by
  simp only [doRing]
  split
  · exact .modLink s
  · exact (State.KeepsReport.modLink s).trans (.of_sameLinks (State.raise_sameLinks _ _))

section
variable {b c : Nat} (hb : c / 384 = b)
include hb

theorem State.refuseCourse_keepsReport (reason : Nat) : KeepsReport b s (s.refuseCourse c reason) := by
  subst hb
  exact ((KeepsReport.of_sameLinks (s.modCourse_sameLinks c _)).trans (.sendMsg _ _ _ _)).trans (.modLink _)

theorem State.refuseUnfitted_keepsReport (serial : Nat) : KeepsReport b s (s.refuseUnfitted c serial) :=
  (s.refuseCourse_keepsReport hb 1).trans (.of_sameLinks (raise_sameLinks _ _))

theorem State.refuseType_keepsReport (ctype : Nat) : KeepsReport b s (s.refuseType c ctype) :=
  (s.refuseCourse_keepsReport hb 2).trans (.of_sameLinks ((modCourse_sameLinks _ c _).trans (raise_sameLinks _ _)))

theorem State.admitHub_keepsReport (serials : List Nat) : KeepsReport b s (s.admitHub c serials) := by
  subst hb
  exact ((KeepsReport.of_sameLinks (s.modCourse_sameLinks c _)).trans (.sendMsg _ _ _ _)).trans (.of_sameLinks (s.admitHub_binds c serials).toSameLinks)

end

theorem doSerials_keepsReport (b : Nat) (m : SerialsMsg) : s.KeepsReport b (doSerials b m s) := by
  unfold doSerials
  lift_lets
  extract_lets c k parts codes all
  by_cases hpos : 384 ≤ m.pos
  · rw [if_pos hpos]
    exact .misroute s 1
  have hb : c / 384 = b := by omega
  have hended : s.KeepsReport b (s.modCourse c fun k => { k with hand := false, parts := [], codes := [] }) := .of_sameLinks (s.modCourse_sameLinks c _)
  have hstored : s.KeepsReport b (s.modCourse c fun k => { k with parts := parts, codes := codes, partTick := s.absTick }) := .of_sameLinks (s.modCourse_sameLinks c _)
  have hchecked (reason : Nat) := s.refuseCourse_keepsReport hb reason
  rw [if_neg hpos]
  exact .ite (.modLink s) <| .ite (.refl s) <| .ite hended <| .ite hstored <| .ite (s.refuseUnfitted_keepsReport hb _) <| .ite (s.refuseType_keepsReport hb _) <|
    .ite (hchecked 7) <| .ite (hchecked 4) <| .ite (hchecked 3) <| .ite (hchecked 5) (s.admitHub_keepsReport hb all)

theorem doJoin_keepsReport (b : Nat) (m : JoinMsg) : s.KeepsReport b (doJoin b m s) := by
  unfold doJoin
  lift_lets
  extract_lets c k typed foreign s0 s1 s2
  by_cases hpos : 384 ≤ m.pos
  · rw [if_pos hpos]
    exact .misroute s 1
  have hb : c / 384 = b := by omega
  have hoffer : s.KeepsReport b s0 := .of_sameLinks (s.modCourse_sameLinks c _)
  have hnamed : s.KeepsReport b s1 := .ite hoffer (hoffer.trans (.of_sameLinks (s0.modCourse_sameLinks c _)))
  have hpending : s.KeepsReport b s2 := hnamed.trans ((State.KeepsReport.of_sameLinks (s1.modCourse_sameLinks c _)).trans (.sendMsg _ _ _ _))
  have hrefused (reason : Nat) := hnamed.trans (s1.refuseCourse_keepsReport hb reason)
  have haccepted := ((State.KeepsReport.of_sameLinks (s1.modCourse_sameLinks c
    fun k => { k with hand := true, parts := [], codes := [], partTick := s.absTick, slot := none })).trans (.modLink (b := b) (f := fun l => { l with accepts := l.accepts + 1 }) _)).trans
    (.sendMsg _ 0x20 m.pos [])
  have hwaits := (State.KeepsReport.of_sameLinks (s1.modCourse_sameLinks c fun k => { k with slot := some (waitSlot m.serial) })).trans
    (.sendMsg (b := b) _ 0x21 m.pos [waitSlot m.serial, 0])
  rw [if_neg hpos]
  exact .ite (hoffer.trans (s0.refuseUnfitted_keepsReport hb _)) <| .ite (.ite hpending (hpending.trans (.of_sameLinks (State.raise_sameLinks _ _)))) <|
    .ite (hrefused 7) <| .ite (hrefused 3) <| .ite (hnamed.trans (s1.refuseType_keepsReport hb _)) <| .ite (hrefused 3) <| .ite (hrefused 8) <| .ite (hrefused 4) <|
    .ite (hnamed.trans haccepted) (hnamed.trans hwaits)

theorem State.takeMgmt_keepsReport (b lane t : Nat) (bs : List Nat) (pool : List PoolEntry) (ms : List Mgmt) :
    KeepsReport b s (s.takeMgmt b lane t bs pool ms) := by
  refine (KeepsReport.foldl (fun u m => ?_) _ s).trans (KeepsReport.foldl (fun u m => doJoin_keepsReport u b _) _ _)
  split
  · split_ifs
    · exact doHello_keepsReport u b _
    · exact .refl u
  · exact doRing_keepsReport u b _
  · exact doSerials_keepsReport u b _

/-! ### Sections and currents (R274 to R279, R295) -/

theorem State.SameLinks.ite {p : Prop} [Decidable p] {s t u : State} (ht : s.SameLinks t) (hu : s.SameLinks u) : s.SameLinks (if p then t else u) := by
  split_ifs
  · exact ht
  · exact hu

theorem State.SameLinks.foldl {α : Type} {op : State → α → State} (hop : ∀ u a, SameLinks u (op u a)) (l : List α) (s : State) : s.SameLinks (l.foldl op s) := by
  induction l generalizing s with
  | nil => exact .refl s
  | cons a l ih => exact (hop s a).trans (ih _)

theorem State.takeSlow_sameLinks (c t v : Nat) : s.SameLinks (s.takeSlow c t v) := by
  unfold State.takeSlow
  lift_lets
  extract_lets item key s1 records
  exact .ite (.refl s) (.ite ⟨rfl, rfl, rfl, rfl, rfl, rfl, rfl⟩ (s.modCourse_sameLinks c _))

theorem State.blockReports_sameLinks (c st : Nat) : s.SameLinks (s.blockReports c st) := by
  simp only [State.blockReports]
  split_ifs
  · exact .refl s
  · exact ⟨rfl, rfl, rfl, rfl, rfl, rfl, rfl⟩

theorem State.courseSignals_sameLinks (c st ctype : Nat) : s.SameLinks (s.courseSignals c st ctype) := by
  unfold State.courseSignals
  lift_lets
  extract_lets k inside acts s1
  have htyped : s.SameLinks s1 := by
    simp only [s1]
    split_ifs
    · exact .refl s
    · exact s.modCourse_sameLinks c _
    · exact .refl s
    · exact .refl s
    · exact (s.modCourse_sameLinks c _).trans (raise_sameLinks _ _)
  split_ifs
  · exact htyped
  · exact htyped.trans (s1.modCourse_sameLinks c _)
  · exact htyped
  · exact htyped.trans (s1.raise_sameLinks _)

theorem State.liveSection_sameLinks (c t : Nat) (sec : List Nat) (pool : List PoolEntry) : s.SameLinks (s.liveSection c t sec pool) := by
  unfold State.liveSection
  lift_lets
  extract_lets st tag mine xs s1 records s2 s3
  have hsamples : s.SameLinks s3 := by
    refine SameLinks.trans (t := s2) ⟨rfl, rfl, rfl, rfl, rfl, rfl, rfl⟩ (.foldl (fun u x => ?_) xs s2)
    exact ⟨rfl, rfl, rfl, rfl, rfl, rfl, rfl⟩
  exact ((hsamples.trans (s3.blockReports_sameLinks c st)).trans (courseSignals_sameLinks _ c st _)).trans (takeSlow_sameLinks _ c t _)

theorem State.takeSections_sameLinks (b t : Nat) (bs : List Nat) (pool : List PoolEntry) : s.SameLinks (s.takeSections b t bs pool) := by
  refine .foldl (fun u c => ?_) _ s
  dsimp only
  split_ifs
  · exact u.liveSection_sameLinks c t _ pool
  · exact u.modCourse_sameLinks c _

theorem State.takeCurrents_keepsReport (b : Nat) (bs : List Nat) : KeepsReport b s (s.takeCurrents b bs) := by
  simp only [State.takeCurrents]
  split_ifs
  · exact .refl s
  · refine .foldl (fun u k => ?_) _ s
    split_ifs
    · exact ⟨rfl, rfl, rfl, rfl, rfl, fun _ => ⟨rfl, fun _ _ => rfl⟩⟩
    · exact .refl u

/-! ### The breaker's report (R211, R335, R337, R344) -/

theorem State.openReport_sameLinks (b : Nat) : s.SameLinks (s.openReport b) := by
  unfold State.openReport
  split_ifs
  · exact ⟨rfl, rfl, rfl, rfl, rfl, rfl, rfl⟩
  · exact .refl s

theorem State.breakerReport_sameLinks (b : Nat) : s.SameLinks (s.breakerReport b) := by
  simp only [State.breakerReport]
  split
  · split_ifs
    · exact ⟨rfl, rfl, rfl, rfl, rfl, rfl, rfl⟩
    · exact (s.endSync_sameLinks 5).trans (raise_sameLinks _ _)
    · exact s.openReport_sameLinks b
  · exact s.openReport_sameLinks b

theorem State.releaseTrip_sameLinks (b : Nat) : s.SameLinks (s.releaseTrip b) := by
  unfold State.releaseTrip
  split_ifs
  · exact ⟨rfl, rfl, rfl, rfl, rfl, rfl, rfl⟩
  · exact .refl s

/-! ### The frame (R274 to R282) -/

/-- What a frame with the bytes `bs` of sample tick `tick`, come by `lane`, reports of bay `b`. -/
def frameReport (b lane tick : Nat) (bs : List Nat) : BayLink :=
  { accepted := true, own := lane == b, upTick := tick, missed := 0, brkClosed := (getLe bs 2 2).testBit 1, brkValid := (getLe bs 2 2).testBit 2,
    energizeIn := (getLe bs 2 2).testBit 3, hubFloated := (getLe bs 2 2).testBit 7, hubTemp := getLeS bs 18 2 }

/-- An accepted frame writes its report to the bay's link; all that follows keeps it. -/
theorem State.acceptFrame_keepsReport (b lane tick e m : Nat) (bs : List Nat) : ∃ f : BayLink → BayLink,
    (∀ l, (f l).report = frameReport b lane tick bs) ∧ KeepsReport b (s.modLink b f) (s.acceptFrame b lane tick e m bs) := by
  unfold State.acceptFrame
  lift_lets
  extract_lets fl all live pool old det msgs s1 links s2 s3 s4
  have hraised : KeepsReport b s1 s3 := .ite (.of_sameLinks ⟨rfl, rfl, rfl, rfl, rfl, rfl, rfl⟩) (.of_sameLinks ⟨rfl, rfl, rfl, rfl, rfl, rfl, rfl⟩)
  have hcurrents : KeepsReport b s1 s4 := (hraised.trans (.misroute s3 _)).trans (takeCurrents_keepsReport _ b bs)
  refine ⟨_, fun l => ?_, (hcurrents.trans (((KeepsReport.of_sameLinks (s4.takeSections_sameLinks b tick bs pool)).trans
    (takeMgmt_keepsReport _ b lane tick bs pool _)).trans (.of_sameLinks ((breakerReport_sameLinks _ b).trans (releaseTrip_sameLinks _ b)))))⟩
  rfl

/-- The frame's report is in the bay's link, every other bay's link is as it was, and so are the blocks that no frame reaches. -/
theorem State.acceptFrame_report (b lane tick e m : Nat) (bs : List Nat) :
    let t := s.acceptFrame b lane tick e m bs
    (t.bayLink b).report = frameReport b lane tick bs ∧ (∀ j, j ≠ b → t.bayLink j = s.bayLink j) ∧ t.tb = s.tb ∧ t.xp = s.xp ∧ t.rd = s.rd ∧ t.fu = s.fu ∧ t.ftg = s.ftg := by
  obtain ⟨f, hf, hkeeps⟩ := s.acceptFrame_keepsReport b lane tick e m bs
  have haccepted : (f (s.bayLink b)).accepted = true := congrArg BayLink.accepted (hf (s.bayLink b))
  have hread := s.bayLink_modLink (b := b) (f := f) fun hdefault => Bool.noConfusion (haccepted.symm.trans (congrArg BayLink.accepted hdefault))
  have hself : (s.modLink b f).bayLink b = f (s.bayLink b) := (hread b).trans (if_pos rfl)
  obtain ⟨hreport, hothers⟩ := hkeeps.links (hself ▸ haccepted)
  refine ⟨hreport.trans (hself ▸ hf _), fun j hj => ?_, hkeeps.tb, hkeeps.xp, hkeeps.rd, hkeeps.fu, hkeeps.ftg⟩
  exact (hothers j hj).trans ((hread j).trans (if_neg hj))

end

end Sys2Proof.Machine
end

section
/-! SUPPORT. The rows of courses, handshakes, upstream frames and lost bays, case by case (R47, R48, R279, R284, R287 to R294, R314). -/

namespace Sys2Proof.Machine
open Sys2Proof

/-! ### The meanings of the rows, on units the variant has -/

section
variable {s : State}

theorem exec_courseDark {c : Nat} (hc : c < s.nBays * 384) : exec (.courseDark c) s = .next (doCourseDark c s) := if_neg (Nat.not_le.mpr hc)
theorem exec_courseLeaveService {c : Nat} (hc : c < s.nBays * 384) : exec (.courseLeaveService c) s = .next (doCourseLeaveService c s) := if_neg (Nat.not_le.mpr hc)
theorem exec_withdraw {c : Nat} (hc : c < s.nBays * 384) : exec (.withdraw c) s = .next (doWithdraw c s) := if_neg (Nat.not_le.mpr hc)
theorem exec_join {b : Nat} (hb : b < s.nBays) (m : JoinMsg) : exec (.join b m) s = .next (doJoin b m s) := if_neg (Nat.not_le.mpr hb)
theorem exec_serials {b : Nat} (hb : b < s.nBays) (m : SerialsMsg) : exec (.serials b m) s = .next (doSerials b m s) := if_neg (Nat.not_le.mpr hb)
theorem exec_bayLinkLost {b : Nat} (hb : b < s.nBays) : exec (.bayLinkLost b) s = .next (doBayLinkLost b s) := if_neg (Nat.not_le.mpr hb)
theorem exec_upstreamFrame {f : UpFrame} (hlane : f.lane < s.nBays) : exec (.upstreamFrame f) s = .next (doUpstreamFrame f s) := if_neg (Nat.not_le.mpr hlane)

end

/-! ### Dark, leaving and withdrawn courses (R287, R289, R296) -/

section
variable {c : Nat} {s : State}

theorem doCourseDark_missing (hserves : (s.course c).serves = true) (hlit : (s.course c).dark = false) (hmissing : 2 ≤ (s.course c).missing)
    (hframe : s.frameHere (c / 384) = true) :
    doCourseDark c s = (s.modCourse c (fun k => { k with dark := true, darkTicks := 0 })).modLink (c / 384) (fun l => { l with nDark := incSat 32 l.nDark }) := by
  simp [doCourseDark, hserves, hlit, hframe, Nat.not_lt.mpr hmissing]

theorem doCourseDark_dark (hdark : (s.course c).dark = true) : doCourseDark c s = s := by simp [doCourseDark, hdark]

theorem doCourseLeaveService_due (hserves : (s.course c).serves = true) (hdark : (s.course c).dark = true)
    (hlimit : s.prm 0x0A01 0 1 0 * 800 ≤ (s.course c).darkTicks) : doCourseLeaveService c s = s.leaveService c := by
  simp [doCourseLeaveService, hserves, hdark, Nat.not_lt.mpr hlimit]

theorem doCourseLeaveService_lit (hlit : (s.course c).dark = false) : doCourseLeaveService c s = s := by simp [doCourseLeaveService, hlit]

theorem doWithdraw_due (hphase : (s.course c).phase = .withdrawn) (hcycles : 2 ≤ (s.course c).withdrawCycles) :
    doWithdraw c s = (s.sendMsg (c / 384) 0x24 (c % 384) []).leaveService c := by
  simp [doWithdraw, hphase, Nat.not_lt.mpr hcycles]

theorem doWithdraw_early (hcycles : (s.course c).withdrawCycles < 2) : doWithdraw c s = s := by simp [doWithdraw, hcycles]

end

/-! ### JOIN and SERIALS (R48, R291 to R294) -/

theorem doJoin_outside {m : JoinMsg} (hpos : 384 ≤ m.pos) (b : Nat) (s : State) : doJoin b m s = s.misroute b 1 := by simp [doJoin, hpos]

/-- A JOIN that passes every check, while the cycle has room. -/
theorem doJoin_accepted {b c : Nat} {m : JoinMsg} {s : State} {typed : Bool} (hc : b * 384 + m.pos = c) (hpos : m.pos < 384) (hfitted : s.isFitted c = true)
    (hserial : m.serial ≠ 0) (hphase : (s.course c).phase = .out) (htyped : typed = ((s.course c).reason == 2 && (s.course c).offer == m.serial))
    (hwindow : (if typed then (s.bayLink b).maint.isSome else s.windowCovers c) = true) (hctype : m.ctype = s.pierType c)
    (helsewhere : s.serialElsewhere c m.serial = false) (hordered : m.ordered = true) (hcal : s.badCal c m.serial m.cal = false)
    (hroom : (s.bayLink b).accepts < s.prm 0x0A01 0 0 0) :
    doJoin b m s = ((((s.modCourse c (fun k => { k with offer := m.serial })).modCourse c
      (fun k => { k with serial := m.serial, ctype := if k.phase = .out then m.ctype else k.ctype, fw := m.fw, cal := m.cal, reason := if typed then 2 else 0 })).modCourse c
      (fun k => { k with hand := true, parts := [], codes := [], partTick := s.absTick, slot := none })).modLink b (fun l => { l with accepts := l.accepts + 1 })).sendMsg b 0x20 m.pos [] := by
  have hhome : (s.course c).serves = false := by simp [Course.serves, hphase]
  have hmaint : (if ((s.course c).reason == 2 && (s.course c).offer == m.serial) = true then (s.bayLink b).maint.isSome else s.windowCovers c) = true := htyped ▸ hwindow
  simp only [doJoin, hc, Nat.not_le.mpr hpos, hhome, hfitted, hmaint, hserial, ← hctype, helsewhere, hordered, hcal, hroom, htyped, Bool.false_and, Bool.not_true, Bool.false_eq_true,
    false_and, ne_eq, not_true_eq_false, if_true, if_false]

section
variable {b c : Nat} {m : SerialsMsg} {s : State} (hc : b * 384 + m.pos = c) (hpos : m.pos < 384) (hlen : m.serials.length = 24) (hhand : (s.course c).hand = true)
include hc hpos hlen hhand

/-- A part out of its sequence ends the handshake. -/
theorem doSerials_outOfSequence (hpart : m.part ≤ 3) (hseq : m.part ≠ (s.course c).parts.length) :
    doSerials b m s = s.modCourse c (fun k => { k with hand := false, parts := [], codes := [] }) := by
  simp [doSerials, hc, Nat.not_le.mpr hpos, Nat.not_lt.mpr hpart, hlen, hhand, hseq]

/-- A part in its sequence that is not the last is kept. -/
theorem doSerials_stored (hpart : m.part < 3) (hseq : m.part = (s.course c).parts.length) (htick : m.part = 0 ∨ s.absTick = (s.course c).partTick + 1) :
    doSerials b m s = s.modCourse c (fun k => { k with parts := (s.course c).parts ++ [m.serials], codes := (s.course c).codes ++ (List.range 24).map (fun i => m.codes.getD i none), partTick := s.absTick }) := by
  have hinSequence : ¬ (m.part ≠ (s.course c).parts.length ∨ (m.part ≠ 0 ∧ s.absTick ≠ (s.course c).partTick + 1)) := by tauto
  simp only [doSerials, hc, Nat.not_le.mpr hpos, Nat.not_lt.mpr hpart.le, hlen, hhand, hinSequence, hpart, ne_eq, not_true_eq_false, or_self, Bool.not_true, Bool.false_eq_true, if_true, if_false]

section
variable (hlast : m.part = 3) (hparts : (s.course c).parts.length = 3) (htick : s.absTick = (s.course c).partTick + 1)
include hlast hparts htick

/-- What the last part of a handshake answers: the first check that fails, or the admission. -/
theorem doSerials_last :
    doSerials b m s = if !s.isFitted c then s.refuseUnfitted c (s.course c).serial
      else if (s.course c).ctype ≠ s.pierType c then s.refuseType c (s.course c).ctype
      else if ((s.course c).parts ++ [m.serials]).flatten.any (fun v => v == 0) then s.refuseCourse c 7
      else if s.badCal c (s.course c).serial (s.course c).cal ∧ (s.bayLink b).maint = none then s.refuseCourse c 4
      else if s.serialClash c ((s.course c).parts ++ [m.serials]).flatten then s.refuseCourse c 3
      else if s.voltageFails c ((s.course c).parts ++ [m.serials]).flatten ((s.course c).codes ++ (List.range 24).map (fun i => m.codes.getD i none)) then s.refuseCourse c 5
      else s.admitHub c ((s.course c).parts ++ [m.serials]).flatten := by
  simp only [doSerials, hc, Nat.not_le.mpr hpos, hlast, hlen, hhand, hparts, htick, lt_irrefl, ne_eq, not_true_eq_false, and_false, or_self, Bool.not_true, Bool.false_eq_true, if_false]

theorem doSerials_unfitted (hfitted : s.isFitted c = false) : doSerials b m s = s.refuseUnfitted c (s.course c).serial := by
  simp [doSerials_last hc hpos hlen hhand hlast hparts htick, hfitted]

theorem doSerials_otherType (hfitted : s.isFitted c = true) (hctype : (s.course c).ctype ≠ s.pierType c) : doSerials b m s = s.refuseType c (s.course c).ctype := by
  simp [doSerials_last hc hpos hlen hhand hlast hparts htick, hfitted, hctype]

theorem doSerials_admitted {all : List Nat} (hall : all = (s.course c).parts.flatten ++ m.serials) (hpresent : 0 ∉ all) (hfitted : s.isFitted c = true)
    (hctype : (s.course c).ctype = s.pierType c) (hcal : s.badCal c (s.course c).serial (s.course c).cal = false) (hclash : s.serialClash c all = false)
    (hvolts : s.voltageFails c all ((s.course c).codes ++ (List.range 24).map (fun i => m.codes.getD i none)) = false) : doSerials b m s = s.admitHub c all := by
  have hflatten : ((s.course c).parts ++ [m.serials]).flatten = all := by simp [hall]
  have hnonzero : all.any (fun v => v == 0) = false := by simpa using fun v hv (hzero : v = 0) => hpresent (hzero ▸ hv)
  rw [doSerials_last hc hpos hlen hhand hlast hparts htick, hflatten, hvolts]
  simp [hnonzero, hfitted, hctype, hcal, hclash]

end
end

/-! ### Upstream frames (R274, R279, R282) -/

/-- The frame came in its time and is whole: its length, its check and its type are right. -/
structure SoundFrame (f : UpFrame) : Prop where
  inTime : f.inTime = true
  length : f.bytes.length = 40756 + 6 * getLe f.bytes 12 2 + getLe f.bytes 14 2
  check : getLe f.bytes (f.bytes.length - 4) 4 = crc32 (f.bytes.take (f.bytes.length - 4))
  kind : getLe f.bytes 0 1 = 1

/-- The device's test of a frame is that it is sound. -/
theorem soundFrame_iff (f : UpFrame) :
    (f.inTime && f.bytes.length == 40756 + 6 * getLe f.bytes 12 2 + getLe f.bytes 14 2 && decide (40756 ≤ f.bytes.length) &&
      getLe f.bytes (40756 + 6 * getLe f.bytes 12 2 + getLe f.bytes 14 2 - 4) 4 ==
        crc32 (f.bytes.take (40756 + 6 * getLe f.bytes 12 2 + getLe f.bytes 14 2 - 4)) && getLe f.bytes 0 1 == 1) = true ↔ SoundFrame f := by
  simp only [Bool.and_eq_true, beq_iff_eq, decide_eq_true_eq]
  constructor
  · rintro ⟨⟨⟨⟨hinTime, hlength⟩, -⟩, hcheck⟩, hkind⟩
    exact ⟨hinTime, hlength, by rwa [hlength], hkind⟩
  · rintro ⟨hinTime, hlength, hcheck, hkind⟩
    exact ⟨⟨⟨⟨hinTime, hlength⟩, by omega⟩, by rwa [hlength] at hcheck⟩, hkind⟩

/-- The frame is counted as discarded on its lane. -/
def State.discardFrame (s : State) (lane : Nat) : State := s.modLink lane (fun l => { l with nDiscarded := incSat 32 l.nDiscarded })

theorem doUpstreamFrame_deaf {f : UpFrame} {s : State} (hdeaf : (s.bayLink f.lane).trained = false ∨ (s.tile (tileOf f.lane)).phase = .out) : doUpstreamFrame f s = s := by
  rcases hdeaf with h | h <;> simp [doUpstreamFrame, h]

section
variable {f : UpFrame} {s : State} (htrained : (s.bayLink f.lane).trained = true) (htile : (s.tile (tileOf f.lane)).phase ≠ .out)
include htrained htile

/-- The guard of a lane that is down or of a tile that is out lets the frame through. -/
theorem lane_open : (!(s.bayLink f.lane).trained || (s.tile (tileOf f.lane)).phase == .out) = false := by simp [htrained, htile]

theorem doUpstreamFrame_unsound (hunsound : ¬ SoundFrame f) : doUpstreamFrame f s = s.discardFrame f.lane := by
  have hopen := lane_open htrained htile
  have hfails := Bool.eq_false_iff.mpr (mt (soundFrame_iff f).mp hunsound)
  simp only [doUpstreamFrame, hfails, hopen, Bool.not_false, Bool.false_eq_true, if_true, if_false, State.discardFrame]

/-- Where a sound frame goes: by the bay it names, its tick and what has come before it. -/
theorem doUpstreamFrame_sound (hsound : SoundFrame f) : doUpstreamFrame f s =
    if getLe f.bytes 1 1 ≠ f.lane ∧ getLe f.bytes 1 1 ≠ twin f.lane then (s.misroute f.lane 1).discardFrame f.lane
    else if getLe f.bytes 1 1 ≠ f.lane ∧ !(getLe f.bytes 2 2).testBit 0 then s.discardFrame f.lane
    else if getLe f.bytes 4 8 % 2 ^ 58 + 1 ≠ s.absTick then s.discardFrame f.lane
    else if s.frameHere (getLe f.bytes 1 1) then s
    else if getLe f.bytes 1 1 = f.lane then s.takeFrame (getLe f.bytes 1 1) f.lane f.bytes
    else { s with lk := { s.lk with held := tset [] s.lk.held (getLe f.bytes 1 1) f.bytes } } := by
  have hopen := lane_open htrained htile
  have hpasses := (soundFrame_iff f).mpr hsound
  simp only [doUpstreamFrame, hpasses, hopen, Bool.not_true, Bool.false_eq_true, if_false, State.discardFrame]

theorem doUpstreamFrame_misrouted (hsound : SoundFrame f) (hown : getLe f.bytes 1 1 ≠ f.lane) (htwin : getLe f.bytes 1 1 ≠ twin f.lane) :
    doUpstreamFrame f s = (s.misroute f.lane 1).discardFrame f.lane := by
  simp only [doUpstreamFrame_sound htrained htile hsound, if_pos (And.intro hown htwin)]

theorem doUpstreamFrame_otherTick (hsound : SoundFrame f) (hown : getLe f.bytes 1 1 = f.lane) (htick : getLe f.bytes 4 8 % 2 ^ 58 + 1 ≠ s.absTick) :
    doUpstreamFrame f s = s.discardFrame f.lane := by
  simp only [doUpstreamFrame_sound htrained htile hsound, hown, ne_eq, not_true_eq_false, false_and, if_false, if_pos htick]

theorem doUpstreamFrame_repeated (hsound : SoundFrame f) (hown : getLe f.bytes 1 1 = f.lane) (htick : getLe f.bytes 4 8 % 2 ^ 58 + 1 = s.absTick)
    (hhere : s.frameHere f.lane = true) : doUpstreamFrame f s = s := by
  simp only [doUpstreamFrame_sound htrained htile hsound, hown, htick, hhere, ne_eq, not_true_eq_false, false_and, if_false, if_true]

theorem doUpstreamFrame_accepted (hsound : SoundFrame f) (hown : getLe f.bytes 1 1 = f.lane) (htick : getLe f.bytes 4 8 % 2 ^ 58 + 1 = s.absTick)
    (hfirst : s.frameHere f.lane = false) :
    doUpstreamFrame f s = s.acceptFrame f.lane f.lane (s.absTick - 1) (getLe f.bytes 12 2) (getLe f.bytes 14 2) f.bytes := by
  have hsample : s.absTick - 1 = getLe f.bytes 4 8 % 2 ^ 58 := by omega
  simp only [doUpstreamFrame_sound htrained htile hsound, hown, htick, hfirst, hsample, State.takeFrame, ne_eq, not_true_eq_false, false_and, if_false, if_true, Bool.false_eq_true]

theorem doUpstreamFrame_held (hsound : SoundFrame f) (hother : getLe f.bytes 1 1 ≠ f.lane) (htwin : getLe f.bytes 1 1 = twin f.lane)
    (hdetour : (getLe f.bytes 2 2).testBit 0 = true) (htick : getLe f.bytes 4 8 % 2 ^ 58 + 1 = s.absTick) (hfirst : s.frameHere (getLe f.bytes 1 1) = false) :
    doUpstreamFrame f s = { s with lk := { s.lk with held := tset [] s.lk.held (getLe f.bytes 1 1) f.bytes } } := by
  have hroute : ¬ (getLe f.bytes 1 1 ≠ f.lane ∧ getLe f.bytes 1 1 ≠ twin f.lane) := fun h => h.2 htwin
  simp only [doUpstreamFrame_sound htrained htile hsound, if_neg hroute, hdetour, htick, hfirst, if_neg hother, ne_eq, not_true_eq_false, Bool.not_true, Bool.false_eq_true, and_false, if_false]

end

/-! ### Lost bays (R211, R284, R314) -/

/-- The lost bay is floated and a synchronisation of it ends; the state in which its event is raised. -/
def State.floatLost (s : State) (b : Nat) : State :=
  { s.endSyncOf [b] with
    md := if s.served b then (s.endSyncOf [b]).md.floatBay b else ((s.endSyncOf [b]).md.floatBay b).tripBay b
    lk := { (s.endSyncOf [b]).lk with bays := tmod {} (s.endSyncOf [b]).lk.bays b (fun l => { l with lost := true, release := false }), linkFloat := true } }

section
variable {b : Nat} {s : State}

theorem doBayLinkLost_due (hlost : (s.bayLink b).lost = false)
    (hdue : 10 ≤ (s.bayLink b).missed ∨ ((s.bayLink b).accepted = true ∧ (s.bayLink b).hubFloated = true ∧ (s.bayLink b).release = false)) :
    doBayLinkLost b s = (s.floatLost b).raise { kind := .bayLost, unit := bayUid b } := by
  have hacts : ¬ ((s.bayLink b).lost = true ∨ ¬ (10 ≤ (s.bayLink b).missed ∨
      ((s.bayLink b).accepted = true ∧ (s.bayLink b).hubFloated = true ∧ ¬ (s.bayLink b).release = true))) := by
    rw [Bool.not_eq_true, not_or, not_not]
    exact ⟨by simp [hlost], hdue⟩
  exact if_neg hacts

theorem doBayLinkLost_again (hlost : (s.bayLink b).lost = true) : doBayLinkLost b s = s := if_pos (.inl hlost)

theorem State.endSyncOf_none (hsync : s.st.sync = none) (bs : List Nat) : s.endSyncOf bs = s := by simp [State.endSyncOf, State.endSync, hsync]

/-- A synchronisation of the bay whose close has not been reported ends. -/
theorem State.endSyncOf_open {y : Sync} (hsync : s.st.sync = some y) (hbay : y.bay = b) (hopen : y.closed = false) :
    (s.endSyncOf [b]).st.sync = none ∧ (s.endSyncOf [b]).st.syncPermit = false := by
  have hends : s.endSyncOf [b] = s.endSync 0 := by simp [State.endSyncOf, State.syncingBay, hsync, hbay]
  rw [hends]
  simp [State.endSync, hsync, hopen]

theorem State.floatLost_lost : ((s.floatLost b).bayLink b).lost = true := by
  have hread := (s.endSyncOf [b]).bayLink_modLink (b := b) (f := fun l => { l with lost := true, release := false })
    (fun hdefault => Bool.noConfusion (congrArg BayLink.lost hdefault)) b
  exact congrArg BayLink.lost (hread.trans (if_pos rfl))

end

/-- Settles O52, row by row: each row's cases, the frame of an accepted one, and what leaving and admission write. -/
theorem courseRows : Obligations.CourseRows := by
  unfold Obligations.CourseRows
  refine ⟨fun c s hc hserves hlit hmissing hframe => ?dark, fun c s hc hdark => ?darkAlready, fun c s hc hserves hdark hlimit => ?leaves, fun c s hc hlit => ?stays,
    fun c s hc hphase hcycles => ?withdrawn, fun c s hc hcycles => ?withdrawnEarly,
    fun b m s typed hb hpos hfitted hserial hphase htyped hwindow hctype helsewhere hordered hcal hroom => ?joinAccepted, fun b m s hb hpos => ?joinMisrouted,
    fun b m s hb hpos hpart hlen hhand hseq => ?outOfSequence, fun b m s hb hpos hpart hlen hhand hseq htick => ?stored,
    fun f s hlane htrained htile hfault => ?discarded, fun f s hlane htrained htile htime hlen hcrc hkind hown htick hfirst => ?accepted,
    fun b s hb hlost hdue hsync => ?lost, fun b s hb hlost => ?lostAlready,
    fun b m all s hb hpos hpart hlen hhand hparts htick hall hpresent hfitted hctype hcal hclash hvolts => ?admitted,
    fun b m s hb hpos hpart hlen hhand hparts htick => ⟨fun hfitted => ?unfitted, fun hfitted hctype => ?otherType⟩,
    fun f b s hlane htrained htile htime hlen hcrc hkind hbay htwin hother hdetour htick hfirst => ?held,
    fun f s hlane htrained htile htime hlen hcrc hkind => ⟨fun hown htick => ?otherTick, fun hown htick hhere => ?repeated, fun hown htwin => ?misrouted⟩,
    fun f s hlane hdeaf => ?deaf, fun b lane tick e m bs s => ?report, fun c s w => ?left, fun c serials s w => ?serves,
    fun b y s hb hlost hmissed hsync hbay hopen => ?lostSync⟩
  case dark => exact (exec_courseDark hc).trans (congrArg _ (doCourseDark_missing hserves hlit hmissing hframe))
  case darkAlready => exact (exec_courseDark hc).trans (congrArg _ (doCourseDark_dark hdark))
  case leaves =>
    have hframe := s.leaveService_sameLinks c
    exact ⟨_, (exec_courseLeaveService hc).trans (congrArg _ (doCourseLeaveService_due hserves hdark hlimit)), rfl, hframe.xp, hframe.tb, hframe.ce, hframe.bays⟩
  case stays => exact (exec_courseLeaveService hc).trans (congrArg _ (doCourseLeaveService_lit hlit))
  case withdrawn =>
    have hframe := (s.sendMsg (c / 384) 0x24 (c % 384) []).leaveService_sameLinks c
    exact ⟨_, (exec_withdraw hc).trans (congrArg _ (doWithdraw_due hphase hcycles)), rfl, hframe.xp, hframe.tb, hframe.ce⟩
  case withdrawnEarly => exact (exec_withdraw hc).trans (congrArg _ (doWithdraw_early hcycles))
  case joinAccepted =>
    exact (exec_join hb m).trans (congrArg _ (doJoin_accepted rfl hpos hfitted hserial hphase htyped hwindow hctype helsewhere hordered hcal hroom))
  case joinMisrouted => exact (exec_join hb m).trans (congrArg _ (doJoin_outside hpos b s))
  case outOfSequence => exact (exec_serials hb m).trans (congrArg _ (doSerials_outOfSequence rfl hpos hlen hhand hpart hseq))
  case stored => exact (exec_serials hb m).trans (congrArg _ (doSerials_stored rfl hpos hlen hhand hpart hseq htick))
  case discarded =>
    have hunsound : ¬ SoundFrame f := fun ⟨htime, hlen, hcrc, hkind⟩ => by simp [htime, ← hlen, hcrc, hkind] at hfault
    exact (exec_upstreamFrame hlane).trans (congrArg _ (doUpstreamFrame_unsound htrained htile hunsound))
  case accepted =>
    have hfresh : s.frameHere f.lane = false := by simpa [State.frameHere] using hfirst
    exact (exec_upstreamFrame hlane).trans (congrArg _ (doUpstreamFrame_accepted htrained htile ⟨htime, hlen, hcrc, hkind⟩ hown htick hfresh))
  case lost =>
    refine ⟨s.floatLost b, (exec_bayLinkLost hb).trans (congrArg _ (doBayLinkLost_due hlost hdue)), ?_⟩
    rw [State.floatLost, State.endSyncOf_none hsync]
  case lostAlready => exact (exec_bayLinkLost hb).trans (congrArg _ (doBayLinkLost_again hlost))
  case admitted =>
    exact (exec_serials hb m).trans (congrArg _ (doSerials_admitted rfl hpos hlen hhand hpart hparts htick hall hpresent hfitted hctype hcal hclash hvolts))
  case unfitted => exact (exec_serials hb m).trans (congrArg _ (doSerials_unfitted rfl hpos hlen hhand hpart hparts htick hfitted))
  case otherType => exact (exec_serials hb m).trans (congrArg _ (doSerials_otherType rfl hpos hlen hhand hpart hparts htick hfitted hctype))
  case held =>
    subst hbay
    exact (exec_upstreamFrame hlane).trans (congrArg _ (doUpstreamFrame_held htrained htile ⟨htime, hlen, hcrc, hkind⟩ hother htwin hdetour htick hfirst))
  case otherTick => exact (exec_upstreamFrame hlane).trans (congrArg _ (doUpstreamFrame_otherTick htrained htile ⟨htime, hlen, hcrc, hkind⟩ hown htick))
  case repeated => exact (exec_upstreamFrame hlane).trans (congrArg _ (doUpstreamFrame_repeated htrained htile ⟨htime, hlen, hcrc, hkind⟩ hown htick hhere))
  case misrouted => exact (exec_upstreamFrame hlane).trans (congrArg _ (doUpstreamFrame_misrouted htrained htile ⟨htime, hlen, hcrc, hkind⟩ hown htwin))
  case deaf => exact (exec_upstreamFrame hlane).trans (congrArg _ (doUpstreamFrame_deaf hdeaf))
  case report =>
    obtain ⟨hreport, hothers, hblocks⟩ := s.acceptFrame_report b lane tick e m bs
    exact ⟨congrArg BayLink.accepted hreport, congrArg BayLink.own hreport, congrArg BayLink.upTick hreport, congrArg BayLink.missed hreport,
      congrArg BayLink.brkClosed hreport, congrArg BayLink.brkValid hreport, congrArg BayLink.energizeIn hreport, congrArg BayLink.hubFloated hreport,
      congrArg BayLink.hubTemp hreport, hothers, hblocks⟩
  case left =>
    have hself := (s.leaveService_course c c).trans (if_pos rfl)
    exact ⟨congrArg Course.phase hself, congrArg Course.hand hself, congrArg Course.dark hself, congrArg Course.recoveryDue hself,
      fun j hj => (s.leaveService_course c j).trans (if_neg hj), s.leaveService_bricks c w⟩
  case serves =>
    have hself := (s.admitHub_course c serials c).trans (if_pos rfl)
    exact ⟨congrArg Course.phase hself, congrArg Course.hand hself, congrArg Course.pending hself, congrArg Course.reason hself, congrArg Course.missing hself,
      congrArg Course.dark hself, fun j hj => (s.admitHub_course c serials j).trans (if_neg hj), fun j hj => s.admitHub_bound c serials w hj, s.admitHub_outQ c serials⟩
  case lostSync =>
    obtain ⟨hended, hpermit⟩ := State.endSyncOf_open hsync hbay hopen
    exact ⟨s.floatLost b, (exec_bayLinkLost hb).trans (congrArg _ (doBayLinkLost_due hlost (.inl hmissed))), hended, hpermit, rfl, State.floatLost_lost⟩

end Sys2Proof.Machine
end

section
/-! SUPPORT. What leaves the timebase alone: each operation of the other chapters, and the rows and commands made of them (R49 to R74). -/

namespace Sys2Proof.Machine
open Sys2Proof

/-! ### Operations in a row -/

/-- An operation that leaves the timebase alone. -/
def Untimed {α : Type} (op : State → α → State) : Prop := ∀ s a, (op s a).tb = s.tb

@[simp] theorem untimed_iff {α : Type} {op : State → α → State} : Untimed op ↔ ∀ s a, (op s a).tb = s.tb := Iff.rfl

/-- An operation on a state and a result beside it, which leaves the timebase alone. -/
def UntimedFst {α β : Type} (op : State × β → α → State × β) : Prop := ∀ x a, (op x a).1.tb = x.1.tb

@[simp] theorem untimedFst_iff {α β : Type} {op : State × β → α → State × β} : UntimedFst op ↔ ∀ x a, (op x a).1.tb = x.1.tb := Iff.rfl

@[simp] theorem State.ite_tb (p : Prop) [Decidable p] (s t : State) : (if p then s else t).tb = if p then s.tb else t.tb := apply_ite State.tb p s t

@[simp] theorem ite_fst_tb {α : Type} (p : Prop) [Decidable p] (x y : State × α) : (if p then x else y).1.tb = if p then x.1.tb else y.1.tb := by split_ifs <;> rfl

@[simp] theorem foldl_tb {α : Type} {op : State → α → State} (hop : Untimed op) (l : List α) (s : State) : (l.foldl op s).tb = s.tb := by
  induction l generalizing s with
  | nil => rfl
  | cons a l ih => exact (ih _).trans (hop s a)

@[simp] theorem foldl_fst_tb {α β : Type} {op : State × β → α → State × β} (hop : UntimedFst op) (l : List α) (x : State × β) : (l.foldl op x).1.tb = x.1.tb := by
  induction l generalizing x with
  | nil => rfl
  | cons a l ih => exact (ih _).trans (hop x a)

@[simp] theorem iter_tb {op : Nat → State → State} (hop : Untimed (fun s k => op k s)) (n : Nat) (s : State) : (iter n op s).tb = s.tb := by
  induction n with
  | zero => rfl
  | succ n ih => exact (congrArg State.tb (iter_succ n op s)).trans ((hop _ n).trans ih)

section
variable (s : State)

/-! ### Events, staging and replies -/

@[simp] theorem State.raiseAll_tb (es : List Evt) : (s.raiseAll es).tb = s.tb := by simp [State.raiseAll]
@[simp] theorem State.writeReplyUnder_tb (key : List Nat) (h : Hdr) (op qualifier : Nat) (a : Ans) (use : ReplyUse) : (s.writeReplyUnder key h op qualifier a use).tb = s.tb := by simp [State.writeReplyUnder]
@[simp] theorem State.endSync_tb (reason : Nat) : (s.endSync reason).tb = s.tb := by
  simp only [State.endSync]
  split <;> simp
@[simp] theorem State.startStop_tb (cause : Nat) (immediate reset noFlush : Bool) : (s.startStop cause immediate reset noFlush).tb = s.tb := by simp [State.startStop]
@[simp] theorem State.setLatch_tb (mark : Modulator → Modulator) : (s.setLatch mark).tb = s.tb := by simp [State.setLatch]
@[simp] theorem stageRows_tb (slot op : Nat) (g : Stg) : (stageRows slot op g s).1.tb = s.tb := by
  simp only [stageRows]
  (repeat' split) <;> simp
@[simp] theorem stageDma_tb (slot : Nat) (g : Stg) : (stageDma slot g s).1.tb = s.tb := by simp [stageDma]
@[simp] theorem gainSet_tb (h : Hdr) (es : List GainEntry) : (gainSet h es s).1.tb = s.tb := by
  simp only [gainSet]
  (repeat' split) <;> simp
@[simp] theorem shapeSet_tb (h : Hdr) (dest first count : Nat) (coefs : List Nat) : (shapeSet h dest first count coefs s).1.tb = s.tb := by simp [shapeSet]
@[simp] theorem lawSet_tb (h : Hdr) (bay law count shift : Nat) (coefs : List Nat) : (lawSet h bay law count shift coefs s).1.tb = s.tb := by simp [lawSet]
@[simp] theorem shadowDiscard_tb : (shadowDiscard s).1.tb = s.tb := by simp [shadowDiscard]

/-! ### Ports and waveform slots -/

@[simp] theorem doChannelQualify_tb (i : Nat) : (doChannelQualify i s).tb = s.tb := by simp [doChannelQualify]
@[simp] theorem doChannelLost_tb (i : Nat) : (doChannelLost i s).tb = s.tb := by simp [doChannelLost]
@[simp] theorem doSlotRampEnd_tb (i : Nat) : (doSlotRampEnd i s).tb = s.tb := by simp [doSlotRampEnd]
@[simp] theorem State.rebindSlots_tb : s.rebindSlots.tb = s.tb := by simp [State.rebindSlots]
@[simp] theorem streamAsk_tb (bitNo slots : Nat) : (streamAsk bitNo slots s).1.tb = s.tb := rfl
@[simp] theorem doSspRxFrame_tb (port : Nat) (words : List Nat) : (doSspRxFrame port words s).tb = s.tb := by simp [doSspRxFrame]
@[simp] theorem doSspRxSlip_tb (port : Nat) (full : Bool) : (doSspRxSlip port full s).tb = s.tb := by simp [doSspRxSlip]
@[simp] theorem State.txPort_tb (port : Nat) : (s.txPort port).tb = s.tb := by simp [State.txPort]
@[simp] theorem doSpDmaInProd_tb (index : Nat) : (doSpDmaInProd index s).tb = s.tb := by simp [doSpDmaInProd]
@[simp] theorem doSpDmaOutCons_tb (index : Nat) : (doSpDmaOutCons index s).tb = s.tb := by simp [doSpDmaOutCons]
@[simp] theorem doDmaInputBlock_tb (block : List Nat) : (doDmaInputBlock block s).tb = s.tb := by
  simp only [doDmaInputBlock]
  (repeat' split) <;> simp
@[simp] theorem State.dmaRow_tb : s.dmaRow.tb = s.tb := by simp [State.dmaRow]
@[simp] theorem doDmaOutputBlock_tb : (doDmaOutputBlock s).tb = s.tb := by
  simp only [doDmaOutputBlock]
  (repeat' split) <;> simp
@[simp] theorem doSetpointQualify_tb : (doSetpointQualify s).tb = s.tb := by simp [doSetpointQualify]
@[simp] theorem doSetpointLost_tb : (doSetpointLost s).tb = s.tb := by simp [doSetpointLost]
@[simp] theorem State.latchSense_tb (xs : List SenseIn) : (s.latchSense xs).tb = s.tb := by simp [State.latchSense]
@[simp] theorem State.latchPorts_tb (clocks : List RxClk) (currents edges : List Nat) : (s.latchPorts clocks currents edges).tb = s.tb := rfl
@[simp] theorem State.latchSlots_tb : s.latchSlots.tb = s.tb := by simp [State.latchSlots]
@[simp] theorem State.stage3_tb (inp : TickIn) : (s.stage3 inp).tb = s.tb := by simp [State.stage3]

/-! ### The crosspoint -/

@[simp] theorem State.destStage_tb (d : Nat) : (s.destStage d).tb = s.tb := rfl
@[simp] theorem doProbeBurstEnd_tb (k : Nat) : (doProbeBurstEnd k s).tb = s.tb := by simp [doProbeBurstEnd]
@[simp] theorem State.dampStage_tb (k : Nat) : (s.dampStage k).tb = s.tb := rfl
@[simp] theorem State.idleTick_tb (b : Nat) : (s.idleTick b).tb = s.tb := rfl
@[simp] theorem doBayIdle_tb (b : Nat) : (doBayIdle b s).tb = s.tb := by simp [doBayIdle]
@[simp] theorem doStandbyEntry_tb (b : Nat) : (doStandbyEntry b s).tb = s.tb := by simp [doStandbyEntry]
@[simp] theorem doStandbyExit_tb (b : Nat) : (doStandbyExit b s).tb = s.tb := by simp [doStandbyExit]
@[simp] theorem bayWake_tb (unit : Nat) : (bayWake unit s).1.tb = s.tb := by simp [bayWake]
@[simp] theorem doCrosspointStage_tb : (doCrosspointStage s).tb = s.tb := by simp [doCrosspointStage]
@[simp] theorem xpStats_tb (h : Hdr) (dest start max : Nat) : (xpStats h dest start max s).1.tb = s.tb := by simp [xpStats]

/-! ### Bases, loads and the control engine -/

@[simp] theorem State.endSyncOf_tb (bs : List Nat) : (s.endSyncOf bs).tb = s.tb := by simp [State.endSyncOf]
@[simp] theorem ambientSet_tb (unit temp : Nat) : (ambientSet unit temp s).1.tb = s.tb := by simp [ambientSet]
@[simp] theorem doAmbientTimeout_tb (b : Nat) : (doAmbientTimeout b s).tb = s.tb := by simp [doAmbientTimeout]
@[simp] theorem State.heatCycle_tb (tc : Int) : (s.heatCycle tc).tb = s.tb := by simp [State.heatCycle]
@[simp] theorem State.fluxStage_tb : s.fluxStage.tb = s.tb := rfl
@[simp] theorem doDiagWindowClose_tb (p : Nat) : (doDiagWindowClose p s).tb = s.tb := by
  simp only [doDiagWindowClose]
  (repeat' split) <;> simp
@[simp] theorem baselineSet_tb (pier source l r : Nat) : (baselineSet pier source l r s).1.tb = s.tb := by
  simp only [baselineSet]
  (repeat' split) <;> simp
@[simp] theorem doPlumbRecovery_tb (p : Nat) : (doPlumbRecovery p s).tb = s.tb := by simp [doPlumbRecovery]
@[simp] theorem doPlumbFloat_tb (p : Nat) : (doPlumbFloat p s).tb = s.tb := by simp [doPlumbFloat]
@[simp] theorem State.plantLoops_tb : s.plantLoops.tb = s.tb := by simp [State.plantLoops]
@[simp] theorem State.measure_tb : s.measure.tb = s.tb := rfl
@[simp] theorem State.putBay_tb (b : Nat) (x : BayCtl) (c0 c1 c2 : PierCtl) : (s.putBay b x c0 c1 c2).tb = s.tb := rfl
@[simp] theorem State.controlBay_tb (b : Nat) : (s.controlBay b).tb = s.tb := by simp [State.controlBay]
@[simp] theorem State.driveTick_tb : s.driveTick.tb = s.tb := rfl
@[simp] theorem State.trackTick_tb : s.trackTick.tb = s.tb := rfl
@[simp] theorem State.publishCe_tb : s.publishCe.tb = s.tb := rfl
@[simp] theorem State.diagStage_tb : s.diagStage.tb = s.tb := rfl
@[simp] theorem doControlStage_tb : (doControlStage s).tb = s.tb := by simp [doControlStage]
@[simp] theorem ceSetpointSet_tb (quantity value rate : Nat) : (ceSetpointSet quantity value rate s).1.tb = s.tb := by simp [ceSetpointSet]
@[simp] theorem ceFlagsRead_tb (unit : Nat) : (ceFlagsRead unit s).1.tb = s.tb := by simp [ceFlagsRead]
@[simp] theorem ceFlagsClear_tb (unit : Nat) : (ceFlagsClear unit s).1.tb = s.tb := by simp [ceFlagsClear]
@[simp] theorem State.clearBayFlags_tb (b : Nat) : (s.clearBayFlags b).tb = s.tb := rfl
@[simp] theorem State.clearCeFlags_tb : s.clearCeFlags.tb = s.tb := by simp [State.clearCeFlags]
@[simp] theorem ceWinnerStats_tb (h : Hdr) (unit start max : Nat) : (ceWinnerStats h unit start max s).1.tb = s.tb := by simp [ceWinnerStats]
@[simp] theorem cePlumbStatus_tb (unit : Nat) : (cePlumbStatus unit s).1.tb = s.tb := by simp [cePlumbStatus]
@[simp] theorem State.turnWin_tb (b : Nat) (cycle window generation first : Nat) (split : Bool) : (s.turnWin b cycle window generation first split).tb = s.tb := rfl
@[simp] theorem State.limitEvent_tb : s.limitEvent.tb = s.tb := by simp [State.limitEvent]

/-! ### Missed work, records and impedance passes -/

@[simp] theorem State.dropWork_tb (stage : Nat) (units : List Nat) : (s.dropWork stage units).tb = s.tb := by
  simp only [State.dropWork]
  split <;> simp
@[simp] theorem State.rekey_tb (x : Nat) : (s.rekey x).tb = s.tb := by simp [State.rekey]
@[simp] theorem State.repair_tb (x : Nat) (code : Option Nat) : (s.repair x code).tb = s.tb := by simp [State.repair]
@[simp] theorem State.passTick_tb (facts : Tab PairFact) : (s.passTick facts).tb = s.tb := rfl
@[simp] theorem State.coreTemp_tb (x : Nat) (est : Nat → Option (Int × Int)) (len periods : Nat) (r : Rec) : (s.coreTemp x est len periods r).1.tb = s.tb := by
  simp only [State.coreTemp]
  split <;> simp
@[simp] theorem State.voidPass_tb (x : Nat) : (s.voidPass x).tb = s.tb := rfl
@[simp] theorem State.evalPass_tb (x : Nat) (p : BrickPass) (len periods : Nat) : (s.evalPass x p len periods).tb = s.tb := by simp [State.evalPass]
@[simp] theorem State.latePasses_tb : s.latePasses.tb = s.tb := by
  refine foldl_tb (fun t e => ?_) _ s
  cases e.2 <;> simp
@[simp] theorem doZPassEnd_tb (p : Nat) : (doZPassEnd p s).tb = s.tb := by
  simp only [doZPassEnd]
  split <;> simp
@[simp] theorem State.takeRequest_tb (t slot : Nat) (ps : List Nat) : (s.takeRequest t slot ps).1.tb = s.tb := by
  induction ps generalizing s with
  | nil => rfl
  | cons p ps ih => simp [State.takeRequest, ih]

@[simp] theorem State.takeSlot_tb (t slot : Nat) : (s.takeSlot t slot).tb = s.tb := by
  simp only [State.takeSlot]
  (repeat' split) <;> simp
@[simp] theorem State.passCycle_tb : s.passCycle.tb = s.tb := by simp [State.passCycle]
@[simp] theorem State.medians_tb : s.medians.tb = s.tb := rfl
@[simp] theorem zPassRequest_tb (unit : Nat) : (zPassRequest unit s).1.tb = s.tb := by simp [zPassRequest]
@[simp] theorem State.binPhases_tb (r : Rec) : (s.binPhases r).1.tb = s.tb := by simp [State.binPhases]
@[simp] theorem zRead_tb (unit : Nat) : (zRead unit s).1.tb = s.tb := by simp [zRead]
@[simp] theorem gridZMeasure_tb (gen pair cycles : Nat) : (gridZMeasure gen pair cycles s).1.tb = s.tb := by simp [gridZMeasure]
@[simp] theorem doGridZStart_tb : (doGridZStart s).tb = s.tb := by
  simp only [doGridZStart]
  split <;> simp
@[simp] theorem State.gridZTick_tb : s.gridZTick.tb = s.tb := by
  simp only [State.gridZTick]
  split <;> simp
@[simp] theorem doGridZResult_tb : (doGridZResult s).tb = s.tb := by
  simp only [doGridZResult]
  split <;> simp

/-! ### Modulation -/

@[simp] theorem State.commitPlan_tb (p : Nat) (pl0 : Plan) (hold missed : Bool) : (s.commitPlan p pl0 hold missed).tb = s.tb := rfl
@[simp] theorem State.modulatePier_tb (p : Nat) : (s.modulatePier p).tb = s.tb := by
  simp only [State.modulatePier]
  (repeat' split) <;> simp
@[simp] theorem State.flyFloat_tb (bs : List Nat) : (s.flyFloat bs).tb = s.tb := by simp [State.flyFloat]
@[simp] theorem State.flyTick_tb : s.flyTick.tb = s.tb := by simp [State.flyTick]
@[simp] theorem State.freezeTick_tb : s.freezeTick.tb = s.tb := by simp [State.freezeTick]
@[simp] theorem State.heartbeat_tb : s.heartbeat.tb = s.tb := rfl
@[simp] theorem doModulationStage_tb : (doModulationStage s).tb = s.tb := by simp [doModulationStage]
@[simp] theorem State.disablePier_tb (p : Nat) (mode : PierMode) : (s.disablePier p mode).tb = s.tb := by simp [State.disablePier]
@[simp] theorem State.disableFloat_tb (b : Nat) : (s.disableFloat b).tb = s.tb := by simp [State.disableFloat]
@[simp] theorem State.disableBay_tb (b mode : Nat) : (s.disableBay b mode).1.tb = s.tb := by simp [State.disableBay]
@[simp] theorem pierDisable_tb (unit mode : Nat) : (pierDisable unit mode s).1.tb = s.tb := by simp [pierDisable]
@[simp] theorem bayDisable_tb (unit mode : Nat) : (bayDisable unit mode s).1.tb = s.tb := by simp [bayDisable]
@[simp] theorem plantDisable_tb (unit mode : Nat) : (plantDisable unit mode s).1.tb = s.tb := by simp [plantDisable]
@[simp] theorem pierEnable_tb (unit : Nat) : (pierEnable unit s).1.tb = s.tb := by simp [pierEnable]
@[simp] theorem State.clearExclusion_tb (b : Nat) : (s.clearExclusion b).tb = s.tb := by simp [State.clearExclusion]
@[simp] theorem bayEnable_tb (unit : Nat) : (bayEnable unit s).1.tb = s.tb := by simp [bayEnable]
@[simp] theorem plantEnable_tb (unit : Nat) : (plantEnable unit s).1.tb = s.tb := by simp [plantEnable]
@[simp] theorem State.landEnable_tb (p : Nat) : (s.landEnable p).tb = s.tb := rfl
@[simp] theorem doEnableLanding_tb (bay pier : Nat) : (doEnableLanding bay pier s).tb = s.tb := by simp [doEnableLanding]
@[simp] theorem State.trackBall_tb (i : Nat) (v : Bool) : (s.trackBall i v).tb = s.tb := by simp [State.trackBall]
@[simp] theorem doTripInputAssert_tb (i : Nat) : (doTripInputAssert i s).tb = s.tb := by simp [doTripInputAssert]
@[simp] theorem doTripInputRelease_tb (i : Nat) : (doTripInputRelease i s).tb = s.tb := by simp [doTripInputRelease]
@[simp] theorem doIsoSupplyLoss_tb : (doIsoSupplyLoss s).tb = s.tb := by simp [doIsoSupplyLoss]
@[simp] theorem tripAssert_tb : (tripAssert s).1.tb = s.tb := by simp [tripAssert]
@[simp] theorem tripReset_tb : (tripReset s).1.tb = s.tb := by simp [tripReset]
@[simp] theorem doFreezeReq_tb (halt : Bool) : (doFreezeReq halt s).tb = s.tb := by simp [doFreezeReq]
@[simp] theorem State.endFreeze_tb : s.endFreeze.tb = s.tb := by simp [State.endFreeze]
@[simp] theorem doFreezeEnd_tb (halt : Bool) : (doFreezeEnd halt s).tb = s.tb := by simp [doFreezeEnd]
@[simp] theorem doFreezeLimit_tb : (doFreezeLimit s).tb = s.tb := by simp [doFreezeLimit]
@[simp] theorem mdStatsRead_tb (h : Hdr) (pier start max : Nat) : (mdStatsRead h pier start max s).1.tb = s.tb := by simp [mdStatsRead]

/-! ### Stage 2 -/

@[simp] theorem State.missedFrames_tb : s.missedFrames.tb = s.tb := rfl
@[simp] theorem State.formBay_tb (b : Nat) : (s.formBay b).tb = s.tb := rfl
@[simp] theorem State.formPlant_tb : s.formPlant.tb = s.tb := by simp [State.formPlant]
@[simp] theorem State.putItems_tb (its : List PassItem) : (s.putItems its).tb = s.tb := by simp [State.putItems]
@[simp] theorem State.rekeyAll_tb (its : List PassItem) : (s.rekeyAll its).tb = s.tb := by simp [State.rekeyAll]
@[simp] theorem State.countEstimated_tb (its : List PassItem) : (s.countEstimated its).tb = s.tb := rfl
@[simp] theorem State.sweepTile_tb (t : Nat) : (s.sweepTile t).tb = s.tb := by simp [State.sweepTile]
@[simp] theorem State.sweepTick_tb : s.sweepTick.tb = s.tb := by simp [State.sweepTick]
@[simp] theorem doRecordPass_tb : (doRecordPass s).tb = s.tb := by simp [doRecordPass]
@[simp] theorem State.freezeRank_tb : s.freezeRank.tb = s.tb := rfl
@[simp] theorem State.copyFill_tb : s.copyFill.tb = s.tb := by
  simp only [State.copyFill]
  split <;> simp
@[simp] theorem doRankSnapshot_tb : (doRankSnapshot s).tb = s.tb := by simp [doRankSnapshot]
@[simp] theorem unitRead_tb (udp : Bool) (unit scope start max : Nat) : (unitRead udp unit scope start max s).1.tb = s.tb := by simp [unitRead]
@[simp] theorem unitRecal_tb (unit : Nat) : (unitRecal unit s).1.tb = s.tb := by simp [unitRecal]
@[simp] theorem unitRelease_tb (unit : Nat) : (unitRelease unit s).1.tb = s.tb := by simp [unitRelease]

/-! ### Links -/

@[simp] theorem State.sendMsg_tb (b kind pos : Nat) (payload : List Nat) : (s.sendMsg b kind pos payload).tb = s.tb := rfl
@[simp] theorem State.misroute_tb (b n : Nat) : (s.misroute b n).tb = s.tb := by simp [State.misroute]
@[simp] theorem doLaneTrained_tb (b : Nat) : (doLaneTrained b s).tb = s.tb := by simp [doLaneTrained]
@[simp] theorem doTickMarkerEcho_tb (b delay : Nat) : (doTickMarkerEcho b delay s).tb = s.tb := by simp [doTickMarkerEcho]
@[simp] theorem State.refuseHub_tb (b reason : Nat) : (s.refuseHub b reason).tb = s.tb := rfl
@[simp] theorem State.bindEvent_tb (unit kind brick course hub : Nat) : (s.bindEvent unit kind brick course hub).tb = s.tb := rfl
@[simp] theorem doHello_tb (b : Nat) (m : HelloMsg) : (doHello b m s).tb = s.tb := by simp [doHello]
@[simp] theorem doRing_tb (b : Nat) (m : RingMsg) : (doRing b m s).tb = s.tb := by simp [doRing]
@[simp] theorem doWindowOpen_tb (b kind : Nat) : (doWindowOpen b kind s).tb = s.tb := by
  simp only [doWindowOpen]
  (repeat' split) <;> simp
@[simp] theorem doWindowClose_tb (b kind : Nat) : (doWindowClose b kind s).tb = s.tb := by
  simp only [doWindowClose]
  (repeat' split) <;> simp
@[simp] theorem State.keepImage_tb (x : Nat) (image : List Nat) : (s.keepImage x image).tb = s.tb := rfl
@[simp] theorem State.closeRecord_tb (x : Nat) (image : List Nat) : (s.closeRecord x image).tb = s.tb := rfl
@[simp] theorem State.closeBound_tb (x : Nat) : (s.closeBound x).tb = s.tb := by
  simp only [State.closeBound]
  split <;> simp
@[simp] theorem State.putRecord_tb (x serial : Nat) (r : Rec) (e : Ext) : (s.putRecord x serial r e).tb = s.tb := rfl
@[simp] theorem State.openRecord_tb (x serial : Nat) (marked : Bool) : (s.openRecord x serial marked).tb = s.tb := by
  simp only [State.openRecord]
  (repeat' split) <;> simp
@[simp] theorem State.clearRecord_tb (x : Nat) : (s.clearRecord x).tb = s.tb := rfl
@[simp] theorem State.departBrick_tb (x : Nat) (r : Rec) : (s.departBrick x r).tb = s.tb := rfl
@[simp] theorem State.leaveService_tb (c : Nat) : (s.leaveService c).tb = s.tb := by simp [State.leaveService]
@[simp] theorem doCourseDark_tb (c : Nat) : (doCourseDark c s).tb = s.tb := by simp [doCourseDark]
@[simp] theorem doCourseLeaveService_tb (c : Nat) : (doCourseLeaveService c s).tb = s.tb := by simp [doCourseLeaveService]
@[simp] theorem doWithdraw_tb (c : Nat) : (doWithdraw c s).tb = s.tb := by simp [doWithdraw]
@[simp] theorem doBayLinkLost_tb (b : Nat) : (doBayLinkLost b s).tb = s.tb := by simp [doBayLinkLost]
@[simp] theorem State.refuseCourse_tb (c reason : Nat) : (s.refuseCourse c reason).tb = s.tb := rfl
@[simp] theorem State.refuseUnfitted_tb (c serial : Nat) : (s.refuseUnfitted c serial).tb = s.tb := rfl
@[simp] theorem State.refuseType_tb (c ctype : Nat) : (s.refuseType c ctype).tb = s.tb := by simp [State.refuseType]
@[simp] theorem doJoin_tb (b : Nat) (m : JoinMsg) : (doJoin b m s).tb = s.tb := by simp [doJoin]
@[simp] theorem State.admitHub_tb (c : Nat) (serials : List Nat) : (s.admitHub c serials).tb = s.tb := by simp [State.admitHub]
@[simp] theorem doSerials_tb (b : Nat) (m : SerialsMsg) : (doSerials b m s).tb = s.tb := by simp [doSerials]
@[simp] theorem State.takeSlow_tb (c t v : Nat) : (s.takeSlow c t v).tb = s.tb := by simp [State.takeSlow]
@[simp] theorem State.blockReports_tb (c st : Nat) : (s.blockReports c st).tb = s.tb := by simp [State.blockReports]
@[simp] theorem State.withdrawNow_tb (c : Nat) : (s.withdrawNow c).tb = s.tb := rfl
@[simp] theorem State.courseSignals_tb (c st ctype : Nat) : (s.courseSignals c st ctype).tb = s.tb := by simp [State.courseSignals]
@[simp] theorem State.liveSection_tb (c t : Nat) (sec : List Nat) (pool : List PoolEntry) : (s.liveSection c t sec pool).tb = s.tb := by simp [State.liveSection]
@[simp] theorem State.takeSections_tb (b t : Nat) (bs : List Nat) (pool : List PoolEntry) : (s.takeSections b t bs pool).tb = s.tb := by simp [State.takeSections]
@[simp] theorem State.takeCurrents_tb (b : Nat) (bs : List Nat) : (s.takeCurrents b bs).tb = s.tb := by simp [State.takeCurrents]
@[simp] theorem State.takeMgmt_tb (b lane t : Nat) (bs : List Nat) (pool : List PoolEntry) (ms : List Mgmt) : (s.takeMgmt b lane t bs pool ms).tb = s.tb := by
  refine (foldl_tb (fun u m => doJoin_tb u b _) _ _).trans (foldl_tb (fun u m => ?_) _ s)
  split <;> simp
@[simp] theorem State.openReport_tb (b : Nat) : (s.openReport b).tb = s.tb := by simp [State.openReport]
@[simp] theorem State.releaseTrip_tb (b : Nat) : (s.releaseTrip b).tb = s.tb := by simp [State.releaseTrip]
@[simp] theorem State.breakerReport_tb (b : Nat) : (s.breakerReport b).tb = s.tb := by
  simp only [State.breakerReport]
  split <;> simp
@[simp] theorem State.acceptFrame_tb (b lane t e m : Nat) (bs : List Nat) : (s.acceptFrame b lane t e m bs).tb = s.tb := by simp [State.acceptFrame]
@[simp] theorem State.takeFrame_tb (b lane : Nat) (bs : List Nat) : (s.takeFrame b lane bs).tb = s.tb := by simp [State.takeFrame]
@[simp] theorem State.closeStage1_tb : s.closeStage1.tb = s.tb := by simp [State.closeStage1]
@[simp] theorem State.composeDown_tb (b : Nat) : (s.composeDown b).tb = s.tb := by simp [State.composeDown]
@[simp] theorem State.sendLane_tb (b : Nat) : (s.sendLane b).tb = s.tb := rfl
@[simp] theorem doModulationFrames_tb : (doModulationFrames s).tb = s.tb := by simp [doModulationFrames]
@[simp] theorem doUpstreamFrame_tb (f : UpFrame) : (doUpstreamFrame f s).tb = s.tb := by simp [doUpstreamFrame]
@[simp] theorem doLaneRetry_tb (b : Nat) : (doLaneRetry b s).tb = s.tb := by simp [doLaneRetry]
@[simp] theorem linkWindowOpen_tb (unit kind seconds : Nat) : (linkWindowOpen unit kind seconds s).1.tb = s.tb := by simp [linkWindowOpen]
@[simp] theorem linkWindowClose_tb (unit : Nat) : (linkWindowClose unit s).1.tb = s.tb := by simp [linkWindowClose]
@[simp] theorem courseWithdraw_tb (unit : Nat) : (courseWithdraw unit s).1.tb = s.tb := by simp [courseWithdraw]
@[simp] theorem linkStatusRead_tb (unit : Nat) : (linkStatusRead unit s).1.tb = s.tb := by simp [linkStatusRead]

/-! ### Redundancy -/

@[simp] theorem doFlywheelRampStart_tb : (doFlywheelRampStart s).tb = s.tb := by simp [doFlywheelRampStart]
@[simp] theorem State.dropBanks_tb : s.dropBanks.tb = s.tb := by simp [State.dropBanks]
@[simp] theorem doFlywheelFloat_tb : (doFlywheelFloat s).tb = s.tb := by simp [doFlywheelFloat]
@[simp] theorem State.abandonTransfer_tb : s.abandonTransfer.tb = s.tb := by
  simp only [State.abandonTransfer]
  split <;> simp
@[simp] theorem tileHandover_tb (t : Nat) : (tileHandover t s).1.tb = s.tb := by simp [tileHandover]
@[simp] theorem tileHandback_tb (t : Nat) : (tileHandback t s).1.tb = s.tb := by simp [tileHandback]
@[simp] theorem doTransferCycleStart_tb : (doTransferCycleStart s).tb = s.tb := by
  simp only [doTransferCycleStart]
  split <;> simp
@[simp] theorem State.moveSlots_tb (t : Nat) : (s.moveSlots t).tb = s.tb := rfl
@[simp] theorem State.gateOff_tb (c : Nat) : (s.gateOff c).tb = s.tb := rfl
@[simp] theorem doTransferComplete_tb : (doTransferComplete s).tb = s.tb := by
  simp only [doTransferComplete]
  split <;> simp
@[simp] theorem State.endTransferOf_tb (t : Nat) : (s.endTransferOf t).tb = s.tb := by
  simp only [State.endTransferOf]
  split <;> simp
@[simp] theorem State.tileOut_tb (t : Nat) : (s.tileOut t).tb = s.tb := by simp [State.tileOut]
@[simp] theorem State.excludeTile_tb (t : Nat) : (s.excludeTile t).tb = s.tb := by simp [State.excludeTile]
@[simp] theorem State.carry_tb (t u : Nat) : (s.carry t u).tb = s.tb := by simp [State.carry]
@[simp] theorem State.takeCarries_tb : s.takeCarries.tb = s.tb := by simp [State.takeCarries]
@[simp] theorem State.declareTakeover_tb (u : Nat) : (s.declareTakeover u).tb = s.tb := rfl
@[simp] theorem State.loseTile_tb (t : Nat) : (s.loseTile t).tb = s.tb := by simp [State.loseTile]
@[simp] theorem keystoneSwitch_tb : (keystoneSwitch s).1.tb = s.tb := by simp [keystoneSwitch]
@[simp] theorem State.writeChunk_tb (slot offset : Nat) (data : List Nat) : (s.writeChunk slot offset data).tb = s.tb := rfl
@[simp] theorem fwImageWrite_tb (udp : Bool) (slot offset : Nat) (data : List Nat) : (fwImageWrite udp slot offset data s).1.tb = s.tb := by simp [fwImageWrite]
@[simp] theorem fwImageVerify_tb (slot : Nat) : (fwImageVerify slot s).1.tb = s.tb := by simp [fwImageVerify]
@[simp] theorem fwUpdate_tb : (fwUpdate s).1.tb = s.tb := by simp [fwUpdate]
@[simp] theorem doFwUpdateAbort_tb : (doFwUpdateAbort s).tb = s.tb := by simp [doFwUpdateAbort]

/-! ### The start and the safe stop -/

@[simp] theorem State.setFault_tb (code : Nat) : (s.setFault code).tb = s.tb := rfl
@[simp] theorem State.stopFault_tb (code : Nat) : (s.stopFault code).tb = s.tb := by simp [State.stopFault]
@[simp] theorem State.elect_tb (k : Nat) : (s.elect k).tb = s.tb := rfl
@[simp] theorem doKeystoneSelfTest_tb (k : Nat) (pass : Bool) : (doKeystoneSelfTest k pass s).tb = s.tb := by simp [doKeystoneSelfTest]
@[simp] theorem doElectionTimeout_tb (limit : Bool) : (doElectionTimeout limit s).tb = s.tb := by simp [doElectionTimeout]
@[simp] theorem State.stepSix_tb : s.stepSix.tb = s.tb := rfl
@[simp] theorem State.bootActive_tb (slot : Nat) (second : Bool) : (s.bootActive slot second).tb = s.tb := by simp [State.bootActive]
@[simp] theorem State.bootStandby_tb : s.bootStandby.tb = s.tb := by simp [State.bootStandby]
@[simp] theorem doSignedBoot_tb (k : Nat) : (doSignedBoot k s).tb = s.tb := by simp [doSignedBoot]
@[simp] theorem doServiceUartWrite_tb (slot offset : Nat) (data : List Nat) : (doServiceUartWrite slot offset data s).tb = s.tb := by simp [doServiceUartWrite]
@[simp] theorem State.endStepFive_tb : s.endStepFive.tb = s.tb := by simp [State.endStepFive]
@[simp] theorem doTileSelfTest_tb (t : Nat) (pass : Bool) : (doTileSelfTest t pass s).tb = s.tb := by simp [doTileSelfTest]
@[simp] theorem State.startLane_tb (b : Nat) : (s.startLane b).tb = s.tb := by simp [State.startLane]
@[simp] theorem doAdmissionEnd_tb (b : Nat) : (doAdmissionEnd b s).tb = s.tb := by simp [doAdmissionEnd]
@[simp] theorem State.markRestored_tb (b : Nat) : (s.markRestored b).tb = s.tb := rfl
@[simp] theorem doRestore_tb (b : Nat) : (doRestore b s).tb = s.tb := by simp [doRestore]
@[simp] theorem State.openNew_tb (x serial : Nat) : (s.openNew x serial).tb = s.tb := rfl
@[simp] theorem State.skipBay_tb (b : Nat) : (s.skipBay b).tb = s.tb := by simp [State.skipBay]
@[simp] theorem State.startTick_tb (ps : Nat) : (s.startTick ps).tb = s.tb := rfl
@[simp] theorem State.syncTick_tb (ps : Nat) : (s.syncTick ps).tb = s.tb := by
  simp only [State.syncTick]
  split <;> simp
@[simp] theorem State.syncRest_tb (ps : Nat) : (s.syncRest ps).tb = s.tb := by
  simp only [State.syncRest]
  split <;> simp
@[simp] theorem baySync_tb (unit : Nat) : (baySync unit s).1.tb = s.tb := by simp [baySync]
@[simp] theorem State.beginSync_tb (b : Nat) : (s.beginSync b).tb = s.tb := by simp [State.beginSync]
@[simp] theorem doSyncStart_tb : (doSyncStart s).tb = s.tb := by
  simp only [doSyncStart]
  (repeat' split) <;> simp
@[simp] theorem doSyncPermitAssert_tb : (doSyncPermitAssert s).tb = s.tb := by
  simp only [doSyncPermitAssert]
  split <;> simp
@[simp] theorem doSyncTimeout_tb : (doSyncTimeout s).tb = s.tb := by
  simp only [doSyncTimeout]
  split <;> simp
@[simp] theorem bayExclude_tb (unit : Nat) : (bayExclude unit s).1.tb = s.tb := by simp [bayExclude]
@[simp] theorem State.excludeCycle_tb : s.excludeCycle.tb = s.tb := by simp [State.excludeCycle]
@[simp] theorem startStatusRead_tb (first count : Nat) : (startStatusRead first count s).1.tb = s.tb := by simp [startStatusRead]
@[simp] theorem startRestoreSkip_tb (unit : Nat) : (startRestoreSkip unit s).1.tb = s.tb := by simp [startRestoreSkip]
@[simp] theorem safeStop_tb : (safeStop s).1.tb = s.tb := by simp [safeStop]
@[simp] theorem doSafeStopFloat_tb : (doSafeStopFloat s).tb = s.tb := by simp [doSafeStopFloat]

/-! ### The ledger -/

@[simp] theorem State.newEpoch_tb (detail : Nat) : (s.newEpoch detail).tb = s.tb := rfl
@[simp] theorem State.sealPage_tb (p : Page) : (s.sealPage p).1.tb = s.tb := by simp [State.sealPage]
@[simp] theorem State.putRing_tb (i : Nat) (key : Option Nat) (marker : List Nat) : (s.putRing i key marker).tb = s.tb := rfl
@[simp] theorem State.countUnreadable_tb (k : Nat) (q : Stored) : (s.countUnreadable k q).tb = s.tb := by simp [State.countUnreadable]
@[simp] theorem State.pumpStep_tb (i : Nat) : (State.pumpStep i s).tb = s.tb := by
  simp only [State.pumpStep]
  (repeat' split) <;> simp
@[simp] theorem State.pump_tb (i : Nat) : (s.pump i).tb = s.tb := by simp [State.pump]
@[simp] theorem State.offerTo_tb (k i : Nat) : (s.offerTo k i).tb = s.tb := by
  simp only [State.offerTo]
  split <;> simp
@[simp] theorem State.offer_tb (k : Nat) : (s.offer k).tb = s.tb := by simp [State.offer]
@[simp] theorem State.endExport_tb (i : Nat) : (s.endExport i).tb = s.tb := by
  simp only [State.endExport]
  split <;> simp
@[simp] theorem State.endExports_tb : s.endExports.tb = s.tb := by simp [State.endExports]
@[simp] theorem ledgerExport_tb (udp : Bool) (i base order start seq : Nat) : (ledgerExport udp i base order start seq s).1.tb = s.tb := by simp [ledgerExport]
@[simp] theorem ledgerExportAck_tb (i cons : Nat) : (ledgerExportAck i cons s).1.tb = s.tb := by
  simp only [ledgerExportAck]
  split <;> simp
@[simp] theorem ledgerExportStop_tb (i : Nat) : (ledgerExportStop i s).1.tb = s.tb := by
  simp only [ledgerExportStop]
  split <;> simp
@[simp] theorem State.ledgerPhase_tb : s.ledgerPhase.tb = s.tb := by simp [State.ledgerPhase]
@[simp] theorem State.trimLog_tb : s.trimLog.tb = s.tb := rfl
@[simp] theorem State.issueOne_tb : s.issueOne.tb = s.tb := by
  simp only [State.issueOne]
  split <;> simp
@[simp] theorem State.issue_tb : s.issue.tb = s.tb := by simp [State.issue]
@[simp] theorem State.issueFlush_tb (p : Nat) : (s.issueFlush p).tb = s.tb := rfl
@[simp] theorem State.finishOp_tb (o : NvmeOp) : (s.finishOp o).tb = s.tb := by simp [State.finishOp]
@[simp] theorem State.loseOp_tb (o : NvmeOp) : (s.loseOp o).tb = s.tb := rfl
@[simp] theorem State.clearOp_tb (d : Nat) (o : NvmeOp) : (State.clearOp d s o).tb = s.tb := by simp [State.clearOp]
@[simp] theorem State.failDrive_tb (d extra : Nat) : (s.failDrive d extra).tb = s.tb := by simp [State.failDrive]
@[simp] theorem doNvmeCompletion_tb (ident d : Nat) (ok : Bool) : (doNvmeCompletion ident d ok s).tb = s.tb := by
  simp only [doNvmeCompletion]
  split <;> simp
@[simp] theorem doDriveTimeout_tb (d : Nat) : (doDriveTimeout d s).tb = s.tb := by simp [doDriveTimeout]
@[simp] theorem doSmartPoll_tb (d warning : Nat) : (doSmartPoll d warning s).tb = s.tb := by simp [doSmartPoll]
@[simp] theorem doResilverComplete_tb (p : Nat) : (doResilverComplete p s).tb = s.tb := by simp [doResilverComplete]
@[simp] theorem ledgerDriveBind_tb (p : Nat) : (ledgerDriveBind p s).1.tb = s.tb := by simp [ledgerDriveBind]
@[simp] theorem doEventPageSeal_tb : (doEventPageSeal s).tb = s.tb := by simp [doEventPageSeal]
@[simp] theorem State.skipSnapshot_tb : s.skipSnapshot.tb = s.tb := rfl
@[simp] theorem doSnapshotDue_tb : (doSnapshotDue s).tb = s.tb := by simp [doSnapshotDue]
@[simp] theorem State.beginCapture_tb (flags : Nat) : (s.beginCapture flags).tb = s.tb := rfl
@[simp] theorem doSnapshotCapture_tb : (doSnapshotCapture s).tb = s.tb := by simp [doSnapshotCapture]
@[simp] theorem State.sealSnap_tb (p : Page) : (s.sealSnap p).tb = s.tb := by simp [State.sealSnap]
@[simp] theorem State.sealFrame_tb (c : Capture) : (s.sealFrame c).tb = s.tb := by simp [State.sealFrame]
@[simp] theorem State.captureTick_tb : s.captureTick.tb = s.tb := by
  simp only [State.captureTick]
  split <;> simp
@[simp] theorem doStageTwo_tb : (doStageTwo s).tb = s.tb := by simp [doStageTwo]
@[simp] theorem State.closeFrame_tb (h status : Nat) : (s.closeFrame h status).tb = s.tb := by
  simp only [State.closeFrame]
  split <;> simp
@[simp] theorem State.withdrawPages_tb (ks : List Nat) : (s.withdrawPages ks).tb = s.tb := by simp [State.withdrawPages]
@[simp] theorem State.abandonFrame_tb : s.abandonFrame.tb = s.tb := by
  simp only [State.abandonFrame]
  split <;> simp
@[simp] theorem doSafeStopFlush_tb : (doSafeStopFlush s).tb = s.tb := by simp [doSafeStopFlush]
@[simp] theorem State.resumeChain_tb (p : Page) (ps : List Page) : (s.resumeChain p ps).tb = s.tb := rfl
@[simp] theorem State.mountStart_tb (ps : List Page) : (s.mountStart ps).tb = s.tb := by
  simp only [State.mountStart]
  split <;> simp
@[simp] theorem State.mountTakeover_tb (ps : List Page) : (s.mountTakeover ps).tb = s.tb := by
  simp only [State.mountTakeover]
  (repeat' split) <;> simp
@[simp] theorem doLedgerMount_tb (m : MountIn) : (doLedgerMount m s).tb = s.tb := by simp [doLedgerMount]
@[simp] theorem State.ledgerTick_tb (ps : Nat) : (s.ledgerTick ps).tb = s.tb := by simp [State.ledgerTick]

/-! ### Takeovers -/

@[simp] theorem State.dropQueue_tb (i : Nat) : (s.dropQueue i).tb = s.tb := by simp [State.dropQueue]
@[simp] theorem State.endRunningTransfer_tb : s.endRunningTransfer.tb = s.tb := by
  simp only [State.endRunningTransfer]
  split <;> simp
@[simp] theorem State.leaveActive_tb : s.leaveActive.tb = s.tb := by simp [State.leaveActive]
@[simp] theorem State.replay_tb (i : Instr) : (s.replay i).tb = s.tb := by
  simp only [State.replay]
  split <;> simp
@[simp] theorem State.takeOver_tb (h : Shadow) (j : List Instr) : (s.takeOver h j).tb = s.tb := by simp [State.takeOver]
@[simp] theorem State.restartOther_tb : s.restartOther.tb = s.tb := by simp [State.restartOther]
@[simp] theorem State.loseStandby_tb : s.loseStandby.tb = s.tb := rfl
@[simp] theorem doKeystoneLive_tb : (doKeystoneLive s).tb = s.tb := by simp [doKeystoneLive]
@[simp] theorem doPlannedSwitch_tb : (doPlannedSwitch s).tb = s.tb := by simp [doPlannedSwitch]

/-! ### The footing -/

@[simp] theorem State.disablePosition_tb (p : Nat) : (s.disablePosition p).tb = s.tb := by simp [State.disablePosition]
@[simp] theorem State.countChan_tb (c k : Nat) : (s.countChan c k).tb = s.tb := by simp [State.countChan]
@[simp] theorem State.footingTick_tb (ps : Nat) : (s.footingTick ps).tb = s.tb := rfl
@[simp] theorem State.enablePosition_tb (p : Nat) : (s.enablePosition p).tb = s.tb := by simp [State.enablePosition]
@[simp] theorem State.footingHold_tb (code : Nat) : (s.footingHold code).tb = s.tb := by simp [State.footingHold, -List.foldl_reverse]
@[simp] theorem doPositionReady_tb : (doPositionReady s).tb = s.tb := by simp [doPositionReady]
@[simp] theorem doPositionTimeout_tb (off : Bool) : (doPositionTimeout off s).tb = s.tb := by simp [doPositionTimeout]
@[simp] theorem doPositionRetry_tb : (doPositionRetry s).tb = s.tb := by simp [doPositionRetry]
@[simp] theorem State.sequenceBack_tb (cs : List Nat) : (s.sequenceBack cs).tb = s.tb := by simp [State.sequenceBack, -List.foldl_reverse]
@[simp] theorem doWarningExcursion_tb (c : Nat) (high : Bool) : (doWarningExcursion c high s).tb = s.tb := by simp [doWarningExcursion]
@[simp] theorem doRailReturn_tb (c : Nat) : (doRailReturn c s).tb = s.tb := by
  simp only [doRailReturn]
  split <;> simp
@[simp] theorem State.countTrip_tb (c : Nat) (high : Bool) : (s.countTrip c high).tb = s.tb := by simp [State.countTrip]
@[simp] theorem State.footingStop_tb : s.footingStop.tb = s.tb := by simp [State.footingStop]
@[simp] theorem doRetryOffEnd_tb (c : Nat) : (doRetryOffEnd c s).tb = s.tb := by simp [doRetryOffEnd]
@[simp] theorem State.keystoneBack_tb (k : Nat) : (s.keystoneBack k).tb = s.tb := by simp [State.keystoneBack]
@[simp] theorem doRetryRailCheck_tb (c : Nat) (held : Bool) : (doRetryRailCheck c held s).tb = s.tb := by simp [doRetryRailCheck]
@[simp] theorem State.bankLow_tb : s.bankLow.tb = s.tb := by simp [State.bankLow]
@[simp] theorem State.measureBank_tb (mv : Option Nat) : (s.measureBank mv).tb = s.tb := by
  simp only [State.measureBank]
  split <;> simp
@[simp] theorem doBankBelowReady_tb : (doBankBelowReady s).tb = s.tb := by simp [doBankBelowReady]
@[simp] theorem doChargerPrecharge_tb : (doChargerPrecharge s).tb = s.tb := by simp [doChargerPrecharge]
@[simp] theorem doChargerCc_tb : (doChargerCc s).tb = s.tb := by simp [doChargerCc]
@[simp] theorem doChargerCv_tb : (doChargerCv s).tb = s.tb := by simp [doChargerCv]
@[simp] theorem doChargerDone_tb : (doChargerDone s).tb = s.tb := by simp [doChargerDone]
@[simp] theorem doChargerFault_tb : (doChargerFault s).tb = s.tb := by simp [doChargerFault]
@[simp] theorem doCapEstimate_tb (ms : Nat) : (doCapEstimate ms s).tb = s.tb := by simp [doCapEstimate]
@[simp] theorem footingCountersClear_tb (channels : Nat) : (footingCountersClear channels s).1.tb = s.tb := by simp [footingCountersClear]
@[simp] theorem footingRailRestore_tb (c : Nat) : (footingRailRestore c s).1.tb = s.tb := by simp [footingRailRestore]

/-! ### Fuses -/

@[simp] theorem State.markEntry_tb (r e : Nat) : (s.markEntry r e).tb = s.tb := rfl
@[simp] theorem State.settleEntry_tb (jt : JournalTest) (r e : Nat) : (s.settleEntry jt r e).tb = s.tb := by
  simp only [State.settleEntry]
  (repeat' split) <;> simp
@[simp] theorem State.settleJournal_tb (jt : JournalTest) : (s.settleJournal jt).tb = s.tb := by simp [State.settleJournal]
@[simp] theorem State.countMarginal_tb (r n : Nat) : (s.countMarginal r n).tb = s.tb := by simp [State.countMarginal]
@[simp] theorem doFuseLoad_tb (marginal : List Nat) (ids : List (Nat × Nat)) (jt : JournalTest) : (doFuseLoad marginal ids jt s).tb = s.tb := by
  simp only [doFuseLoad]
  (repeat' split) <;> simp
@[simp] theorem maintEnter_tb (slot : Nat) : (maintEnter slot s).1.tb = s.tb := by simp [maintEnter]
@[simp] theorem fuseRead_tb (region offset words : Nat) : (fuseRead region offset words s).1.tb = s.tb := by simp [fuseRead]
@[simp] theorem State.openEntry_tb (h : Hdr) (region off : Nat) (data : List Nat) : (s.openEntry h region off data).tb = s.tb := rfl
@[simp] theorem State.takeRoot_tb : s.takeRoot.tb = s.tb := by simp [State.takeRoot]
@[simp] theorem fuseLock_tb (slot r kind : Nat) : (fuseLock slot r kind s).1.tb = s.tb := by simp [fuseLock]

/-! ### Registers -/

@[simp] theorem doBadAccess_tb (write : Bool) : (doBadAccess write s).tb = s.tb := rfl
@[simp] theorem State.clearRc_tb (o : Nat) : (s.clearRc o).tb = s.tb := by simp [State.clearRc]
@[simp] theorem doRcRead_tb (offset : Nat) : (doRcRead offset s).tb = s.tb := by simp [doRcRead]
@[simp] theorem doStagedRegisterWrite_tb (offset value : Nat) : (doStagedRegisterWrite offset value s).tb = s.tb := by simp [doStagedRegisterWrite]
@[simp] theorem State.landPage0_tb : s.landPage0.tb = s.tb := by
  simp only [State.landPage0]
  split <;> simp
@[simp] theorem doSysCommit_tb (value : Nat) : (doSysCommit value s).tb = s.tb := by simp [doSysCommit]
@[simp] theorem doSysCommitLanding_tb : (doSysCommitLanding s).tb = s.tb := by
  simp only [doSysCommitLanding]
  split <;> simp
@[simp] theorem State.refuseCommit_tb (i : Nat) : (s.refuseCommit i).tb = s.tb := by simp [State.refuseCommit]
@[simp] theorem State.landPage12_tb : s.landPage12.tb = s.tb := by
  simp only [State.landPage12]
  (repeat' split) <;> simp
@[simp] theorem doHsCommit_tb (value : Nat) : (doHsCommit value s).tb = s.tb := by simp [doHsCommit]
@[simp] theorem doHsCommitLanding_tb : (doHsCommitLanding s).tb = s.tb := by
  simp only [doHsCommitLanding]
  split <;> simp
@[simp] theorem State.landPage8_tb : s.landPage8.tb = s.tb := by
  simp only [State.landPage8]
  split <;> simp
@[simp] theorem doUrCommit_tb (value : Nat) : (doUrCommit value s).tb = s.tb := by simp [doUrCommit]
@[simp] theorem doUrCommitLanding_tb : (doUrCommitLanding s).tb = s.tb := by
  simp only [doUrCommitLanding]
  split <;> simp
@[simp] theorem doUrFillPublish_tb : (doUrFillPublish s).tb = s.tb := by
  simp only [doUrFillPublish]
  split <;> simp
@[simp] theorem State.writeFreeze_tb (v : Nat) : (s.writeFreeze v).tb = s.tb := by simp [State.writeFreeze]

/-! ### Dies -/

@[simp] theorem doThermalConversion_tb (codes : List DieCode) : (doThermalConversion codes s).tb = s.tb := by simp [doThermalConversion]
@[simp] theorem doSensorBroken_tb (d : Nat) : (doSensorBroken d s).tb = s.tb := by simp [doSensorBroken]
@[simp] theorem doSensorRecovered_tb (d : Nat) : (doSensorRecovered d s).tb = s.tb := by simp [doSensorRecovered]
@[simp] theorem State.enterThrottle_tb (d : Nat) : (s.enterThrottle d).tb = s.tb := rfl
@[simp] theorem doThrottleGraceEnd_tb (d : Nat) : (doThrottleGraceEnd d s).tb = s.tb := by simp [doThrottleGraceEnd]
@[simp] theorem doThrottleEnforce_tb (d : Nat) : (doThrottleEnforce d s).tb = s.tb := by simp [doThrottleEnforce]
@[simp] theorem doThrottleRelease_tb (d : Nat) : (doThrottleRelease d s).tb = s.tb := by simp [doThrottleRelease]
@[simp] theorem State.thermalTick_tb (ps : Nat) : (s.thermalTick ps).tb = s.tb := rfl
@[simp] theorem thermalStatusRead_tb : (thermalStatusRead s).1.tb = s.tb := rfl

/-! ### Host slots -/

@[simp] theorem State.shutSlot_tb (i : Nat) : (s.shutSlot i).tb = s.tb := by simp [State.shutSlot]
@[simp] theorem State.tellGone_tb (i : Nat) (lost : Bool) : (s.tellGone i lost).tb = s.tb := rfl
@[simp] theorem State.shutSlots_tb (is : List Nat) (lost : Bool) : (s.shutSlots is lost).tb = s.tb := by simp [State.shutSlots]
@[simp] theorem doSlotLost_tb (i : Nat) : (doSlotLost i s).tb = s.tb := by simp [doSlotLost]
@[simp] theorem doPcieLinkDown_tb : (doPcieLinkDown s).tb = s.tb := by simp [doPcieLinkDown]
@[simp] theorem State.rotate_tb : s.rotate.tb = s.tb := by simp [State.rotate]
@[simp] theorem slotOpen_tb (h : Hdr) (grant : List Nat) : (slotOpen h grant s).1.tb = s.tb := by simp [slotOpen]
@[simp] theorem slotRightsDrop_tb (slot mask : Nat) : (slotRightsDrop slot mask s).1.tb = s.tb := by simp [slotRightsDrop]
@[simp] theorem doGrantExpiry_tb (i : Nat) : (doGrantExpiry i s).tb = s.tb := by simp [doGrantExpiry]
@[simp] theorem slotEventsSet_tb (slot mask moderation : Nat) : (slotEventsSet slot mask moderation s).1.tb = s.tb := by simp [slotEventsSet]
@[simp] theorem slotStatusRead_tb (slot : Nat) (udp : Bool) (resend tag : Nat) : (slotStatusRead slot udp resend tag s).1.tb = s.tb := rfl
@[simp] theorem eventFetch_tb (slot : Nat) (udp : Bool) (start max : Nat) : (eventFetch slot udp start max s).1.tb = s.tb := rfl
@[simp] theorem doHsRplCons_tb (i index : Nat) : (doHsRplCons i index s).tb = s.tb := by simp [doHsRplCons]
@[simp] theorem State.overflowEvent_tb (i : Nat) : (s.overflowEvent i).tb = s.tb := by simp [State.overflowEvent]
@[simp] theorem doHsEvqCons_tb (i index : Nat) : (doHsEvqCons i index s).tb = s.tb := by simp [doHsEvqCons]
@[simp] theorem doMsiModerationEnd_tb (v : Nat) : (doMsiModerationEnd v s).tb = s.tb := by simp [doMsiModerationEnd]
@[simp] theorem doArp_tb (port target vlan : Nat) : (doArp port target vlan s).tb = s.tb := by simp [doArp]
@[simp] theorem doIcmpEcho_tb (port dst vlan ident seq : Nat) : (doIcmpEcho port dst vlan ident seq s).tb = s.tb := by simp [doIcmpEcho]

/-! ### Swaps -/

@[simp] theorem xpSwap_tb (mode glide cycle : Nat) : (xpSwap mode glide cycle s).1.tb = s.tb := by
  simp only [xpSwap]
  (repeat' split) <;> simp
@[simp] theorem State.splitWindows_tb : s.splitWindows.tb = s.tb := by simp [State.splitWindows]
@[simp] theorem State.changeMode_tb (b : Nat) : (s.changeMode b).tb = s.tb := rfl
@[simp] theorem State.dropUnfitted_tb : s.dropUnfitted.tb = s.tb := by simp [State.dropUnfitted]
@[simp] theorem State.swapEvent_tb : s.swapEvent.tb = s.tb := by
  simp only [State.swapEvent]
  split <;> simp

/-! ### Margins, packets and the boundary -/

@[simp] theorem State.floatMargin_tb (b : Nat) : (s.floatMargin b).tb = s.tb := by simp [State.floatMargin]
@[simp] theorem State.headroom_tb (p : Nat) : (s.headroom p).tb = s.tb := by simp [State.headroom]
@[simp] theorem State.marginsCycle_tb : s.marginsCycle.tb = s.tb := by simp [State.marginsCycle]
@[simp] theorem State.countStep_tb (i k : Nat) (udp : Bool) : (s.countStep i k udp).tb = s.tb := rfl
@[simp] theorem State.refuseStep_tb (h : Hdr) (op k : Nat) (a : Ans) : (s.refuseStep h op k a).tb = s.tb := by simp [State.refuseStep]
@[simp] theorem State.tileCycle_tb : s.tileCycle.tb = s.tb := by simp [State.tileCycle]
@[simp] theorem State.turnPiers_tb : s.turnPiers.tb = s.tb := rfl
@[simp] theorem State.turnWindows_tb : s.turnWindows.tb = s.tb := by simp [State.turnWindows]
@[simp] theorem State.crosspointCycle_tb : s.crosspointCycle.tb = s.tb := rfl
@[simp] theorem State.engineCycle_tb : s.engineCycle.tb = s.tb := by simp [State.engineCycle]
@[simp] theorem State.copyStandby_tb : s.copyStandby.tb = s.tb := by simp [State.copyStandby]
@[simp] theorem State.ageCurrents_tb : s.ageCurrents.tb = s.tb := rfl
@[simp] theorem State.referTick_tb : s.referTick.tb = s.tb := rfl
@[simp] theorem State.countTick_tb (ps : Nat) : (s.countTick ps).tb = s.tb := rfl
@[simp] theorem State.hostTick_tb (ps : Nat) : (s.hostTick ps).tb = s.tb := rfl
@[simp] theorem State.sampleBalls_tb (inp : TickIn) : (s.sampleBalls inp).tb = s.tb := by simp [State.sampleBalls]
@[simp] theorem State.freshSwaps_tb : s.freshSwaps.tb = s.tb := by simp [State.freshSwaps]

end

end Sys2Proof.Machine
end

section
/-! SUPPORT. Frequency, sources, missed deadlines and lost keystones: they touch neither the clock nor plant time (R49, R55 to R64, R81, R302 to R305). -/

namespace Sys2Proof.Machine
open Sys2Proof

/-- The clock: whether the tick runs, its index, the cycle counter, and whether a cycle's work is due (R51, R62). -/
def Timebase.clock (t : Timebase) : Bool × Nat × Nat × Bool := (t.running, t.idx, t.cycle, t.bnd)

/-- The clock and plant time. -/
def Timebase.time (t : Timebase) : (Bool × Nat × Nat × Bool) × PlantTime := (t.clock, t.pt)

@[simp] theorem Timebase.ite_time (p : Prop) [Decidable p] (t u : Timebase) : (if p then t else u).time = if p then t.time else u.time := apply_ite Timebase.time p t u

theorem foldl_time {α : Type} {op : State → α → State} (hop : ∀ s a, (op s a).tb.time = s.tb.time) (l : List α) (s : State) : (l.foldl op s).tb.time = s.tb.time := by
  induction l generalizing s with
  | nil => rfl
  | cons a l ih => exact (ih _).trans (hop s a)

section
variable (s : State)

/-! ### The frequency and its sources (R49, R55 to R64, R540) -/

@[simp] theorem State.setFreq_time : s.setFreq.tb.time = s.tb.time := rfl

@[simp] theorem State.followFreq_time : s.followFreq.tb.time = s.tb.time := by simp [State.followFreq]

@[simp] theorem State.requalify_time : s.requalify.tb.time = s.tb.time := rfl

@[simp] theorem State.selectTick_time : s.selectTick.tb.time = s.tb.time := by
  simp only [State.selectTick]
  split_ifs <;> rfl

/-- The target, the slew and the correction: their four cases write nothing else. -/
@[simp] theorem State.selectCycle_time : s.selectCycle.tb.time = s.tb.time := by
  simp only [State.selectCycle, State.setFreq_time, State.ite_tb, State.raise_tb, ite_self, Timebase.ite_time]
  split_ifs <;> rfl

@[simp] theorem State.pllTick_time (g v : PllIn) : (s.pllTick g v).tb.time = s.tb.time := rfl

@[simp] theorem State.meanVolts_time : s.meanVolts.tb.time = s.tb.time := rfl

@[simp] theorem State.recordCycle_time : s.recordCycle.tb.time = s.tb.time := rfl

@[simp] theorem doGridPllLock_time : (doGridPllLock s).tb.time = s.tb.time := by unfold doGridPllLock; split_ifs <;> rfl

@[simp] theorem doGridPllLockLoss_time : (doGridPllLockLoss s).tb.time = s.tb.time := by unfold doGridPllLockLoss; split_ifs <;> rfl

@[simp] theorem doPllFreeze_time : (doPllFreeze s).tb.time = s.tb.time := by unfold doPllFreeze; split_ifs <;> rfl

@[simp] theorem doPllFreezeExit_time : (doPllFreezeExit s).tb.time = s.tb.time := by unfold doPllFreezeExit; split_ifs <;> rfl

@[simp] theorem doSourceEligible_time (k : SrcName) : (doSourceEligible k s).tb.time = s.tb.time := by
  cases k <;> simp only [doSourceEligible] <;> split_ifs <;> rfl

@[simp] theorem doSvStreamTimeout_time (k : Nat) : (doSvStreamTimeout k s).tb.time = s.tb.time := by simp [doSvStreamTimeout]

/-! ### Missed deadlines (R79, R81) -/

theorem foldl_countMiss_time (stage : Nat) (us : List Nat) (t : Timebase) : (us.foldl (fun t u => t.countMiss stage u) t).time = t.time := by
  induction us generalizing t with
  | nil => rfl
  | cons u us ih => exact ih _

theorem foldl_countMissBay_time (stage : Nat) (bs : List Nat) (t : Timebase) : (bs.foldl (fun t b => t.countMissBay stage b) t).time = t.time := by
  induction bs generalizing t with
  | nil => rfl
  | cons b bs ih => exact ih _

@[simp] theorem State.countMisses_time (stage : Nat) (us : List Nat) : (s.countMisses stage us).tb.time = s.tb.time := by
  have htiles := foldl_countMiss_time stage (s.missUnits stage us) s.tb
  have hbays := (foldl_countMissBay_time stage (missBays stage us) _).trans htiles
  simp only [State.countMisses, Timebase.ite_time]
  split_ifs
  · exact hbays
  · exact htiles
  · exact hbays
  · exact htiles

@[simp] theorem doStageDeadlineMiss_time (stage : Nat) (us : List Nat) : (doStageDeadlineMiss stage us s).tb.time = s.tb.time := by simp [doStageDeadlineMiss]

@[simp] theorem State.missEvent_time : s.missEvent.tb.time = s.tb.time := by
  simp only [State.missEvent]
  split
  · rfl
  · split
    · split_ifs <;> rfl
    · rfl

@[simp] theorem State.endTick_time (ps : Nat) : (s.endTick ps).tb.time = s.tb.time := by simp [State.endTick]

/-! ### A keystone that is lost, and one that tracks (R302 to R305) -/

@[simp] theorem State.loadCopy_time (h : Shadow) : (s.loadCopy h).tb.time = s.tb.time := rfl

@[simp] theorem State.loadShadow_time (h : Shadow) (j : List Instr) : (s.loadShadow h j).tb.time = s.tb.time := by simp [State.loadShadow, -List.foldl_reverse]

@[simp] theorem State.beginTracking_time : s.beginTracking.tb.time = s.tb.time := by
  simp only [State.beginTracking]
  cases s.rd.shadow <;> simp

@[simp] theorem State.trackCount_time : s.trackCount.tb.time = s.tb.time := by simp [State.trackCount]

@[simp] theorem State.freshKeystone_time : s.freshKeystone.tb.time = s.tb.time := rfl

@[simp] theorem State.loseActive_time : s.loseActive.tb.time = s.tb.time := by
  simp only [State.loseActive]
  split <;> simp

@[simp] theorem State.loseKeystone_time (k : Nat) : (s.loseKeystone k).tb.time = s.tb.time := by simp [State.loseKeystone]

@[simp] theorem doKeystoneLost_time (c : LossCause) : (doKeystoneLost c s).tb.time = s.tb.time := by simp [doKeystoneLost]

/-! ### Dies that are switched off (R361, R384, R389) -/

@[simp] theorem State.stopDie_time (c : Nat) : (s.stopDie c).tb.time = s.tb.time := by simp [State.stopDie]

@[simp] theorem State.openGate_time (latch : Bool) (c : Nat) : (s.openGate latch c).tb.time = s.tb.time := by simp [State.openGate]

@[simp] theorem State.enterShutdown_time (d : Nat) : (s.enterShutdown d).tb.time = s.tb.time := by simp [State.enterShutdown]

@[simp] theorem doThermalLevelChange_time (d : Nat) : (doThermalLevelChange d s).tb.time = s.tb.time := by
  simp only [doThermalLevelChange]
  split
  · rfl
  · split <;> simp

@[simp] theorem doSupervisorTrip_time (channels : List Nat) (high : Bool) : (doSupervisorTrip channels high s).tb.time = s.tb.time := by
  have hopened (act : Nat) (cs : List Nat) (u : State) : (cs.foldl (State.openGate · (act == 3)) u).tb.time = u.tb.time := foldl_time (by simp) cs u
  simp [doSupervisorTrip, hopened]

end

end Sys2Proof.Machine
end

section
/-! SUPPORT. Plant time, and what else may write the timebase between two ticks: each holds the clock or a reset stops it, and none raises PPS_OUT outside LOCKED and HOLDOVER (R51, R65 to R72, R339). -/

namespace Sys2Proof.Machine
open Sys2Proof

/-! ### PPS_OUT (R71) -/

/-- PPS_OUT is low outside LOCKED and HOLDOVER (R71). -/
def PlantTime.PpsLow (p : PlantTime) : Prop := p.ppsOut = true → p.good = true

namespace PlantTime
variable {p : PlantTime}

theorem ppsLow_of_out_eq {q : PlantTime} (hp : p.PpsLow) (hout : q.ppsOut = p.ppsOut) (hphase : q.phase = p.phase) : q.PpsLow := by
  simpa [PpsLow, good, hout, hphase] using hp

theorem enter_ppsLow (p : PlantTime) (ph : PtPhase) : (p.enter ph).PpsLow := by
  cases ph <;> simp [PpsLow, enter, good]

theorem correct_ppsLow (hp : p.PpsLow) (offset : Int) : (p.correct offset).1.PpsLow := by
  unfold correct
  split <;> exact hp

/-- An UNSET plant time holds PPS_OUT low, and what leaves its level alone leaves it low. -/
theorem ppsLow_of_unset {q : PlantTime} (hp : p.PpsLow) (hunset : p.phase = .unset) (hout : q.ppsOut = p.ppsOut) : q.PpsLow := by
  intro hhigh
  have hgood := hp (hout ▸ hhigh)
  simp [good, hunset] at hgood

theorem PpsLow.ite {c : Prop} [Decidable c] {q : PlantTime} (hp : p.PpsLow) (hq : q.PpsLow) : PpsLow (if c then p else q) := by
  split
  · exact hp
  · exact hq

theorem PpsLow.lose (hp : p.PpsLow) : p.lose.PpsLow :=
  .ite (ppsLow_of_out_eq (enter_ppsLow _ .holdover) rfl rfl) hp

end PlantTime

/-! ### The clock held -/

/-- `t` holds the clock of `s`, or a reset has stopped it in tick 0 of cycle 0; and PPS_OUT is low outside LOCKED and HOLDOVER if it was. -/
structure State.HoldsClock (s t : State) : Prop where
  clock : t.tb.clock = s.tb.clock ∨ t.tb.clock = Timebase.clock {}
  pps : s.tb.pt.PpsLow → t.tb.pt.PpsLow

namespace State.HoldsClock
variable {s t u : State}

theorem of_time (h : t.tb.time = s.tb.time) : s.HoldsClock t := by
  obtain ⟨hclock, hpt⟩ := Prod.mk.inj h
  exact ⟨.inl hclock, fun hlow => hpt ▸ hlow⟩

theorem of_tb (h : t.tb = s.tb) : s.HoldsClock t := of_time (congrArg Timebase.time h)

theorem of_pt (hclock : t.tb.clock = s.tb.clock) (hpps : s.tb.pt.PpsLow → t.tb.pt.PpsLow) : s.HoldsClock t := ⟨.inl hclock, hpps⟩

theorem of_reset (h : t.tb = {}) : s.HoldsClock t := ⟨.inr (congrArg Timebase.clock h), fun _ => h ▸ (fun hout => by cases hout)⟩

theorem refl (s : State) : s.HoldsClock s := of_tb rfl

theorem trans (hst : s.HoldsClock t) (htu : t.HoldsClock u) : s.HoldsClock u := by
  refine ⟨?_, fun hlow => htu.pps (hst.pps hlow)⟩
  rcases htu.clock with hheld | hstopped
  · rw [hheld]; exact hst.clock
  · exact .inr hstopped

theorem before (h : u.tb = t.tb) (hst : s.HoldsClock t) : s.HoldsClock u := hst.trans (of_tb h)

theorem after (htu : t.HoldsClock u) (h : t.tb = s.tb) : s.HoldsClock u := (of_tb h).trans htu

theorem ite {p : Prop} [Decidable p] (ht : s.HoldsClock t) (hu : s.HoldsClock u) : s.HoldsClock (if p then t else u) := by
  split
  · exact ht
  · exact hu

theorem requalify (h : s.HoldsClock t) : s.HoldsClock t.requalify := h.trans (of_time t.requalify_time)

theorem foldl {α : Type} {op : State → α → State} (hop : ∀ u a, HoldsClock u (op u a)) (l : List α) (s : State) : s.HoldsClock (l.foldl op s) := by
  induction l generalizing s with
  | nil => exact .refl s
  | cons a l ih => exact (hop s a).trans (ih _)

/-- Where the tick still runs, the clock is the one it was. -/
theorem clock_of_running (h : s.HoldsClock t) (hrun : t.tb.running = true) : t.tb.clock = s.tb.clock := by
  refine h.clock.resolve_right fun hstopped => ?_
  have : t.tb.running = false := congrArg Prod.fst hstopped
  simp [hrun] at this

theorem tickInv (h : s.HoldsClock t) (hs : TickInv s) : TickInv t := by
  rcases h.clock with hheld | hstopped
  · simp only [Timebase.clock, Prod.mk.injEq] at hheld
    obtain ⟨-, hidx, hcycle, -⟩ := hheld
    simpa [TickInv, hidx, hcycle] using hs
  · simp only [Timebase.clock, Prod.mk.injEq] at hstopped
    obtain ⟨-, hidx, hcycle, -⟩ := hstopped
    simp [TickInv, hidx, hcycle]

/-- A host command's effect, and its reply. -/
theorem host {h : Hdr} {op : Nat} {f : State → State × Ans} (hf : s.HoldsClock (f s).1) : s.HoldsClock (s.host h op f) := by
  have hans : s.HoldsClock (if s.opAllowed op then f s else (s, refuseAns stState op 255 0)).1 := by
    split
    · exact hf
    · exact .refl s
  exact .ite hans (hans.before (State.writeReply_tb _ _ _ _ _ _))

theorem hostJ {i : Instr} {h : Hdr} {op : Nat} {f : State → State × Ans} (hf : s.HoldsClock (f s).1) : s.HoldsClock (s.hostJ i h op f) := by
  refine host ?_
  dsimp only
  split
  · exact hf.before (State.journal_tb _ _)
  · exact hf

end State.HoldsClock

section
variable (s : State)

/-- Another plant time, after which the sources qualify anew where its state has changed. -/
theorem State.holdsClock_setPt {p : Prop} [Decidable p] {q : PlantTime} (hq : s.tb.pt.PpsLow → q.PpsLow) :
    s.HoldsClock (if p then { s with tb := { s.tb with pt := q } } else State.requalify { s with tb := { s.tb with pt := q } }) := by
  have hset : s.HoldsClock { s with tb := { s.tb with pt := q } } := .of_pt rfl hq
  exact .ite hset hset.requalify

/-! ### The discipline sources (R65 to R69) -/

theorem State.discipline_holdsClock (pps : Bool) (offset : Int) : s.HoldsClock (s.discipline pps offset) := by
  simp only [State.discipline, State.free_tb]
  refine .ite (.refl s) ?_
  have hraise (p : Prop) [Decidable p] (u : State) (e : Evt) : (if p then u.raise e else u).tb = u.tb := by split <;> rfl
  refine .before (hraise _ _ _) (.of_pt rfl fun hlow => ?_)
  dsimp only
  by_cases hunset : s.tb.pt.phase = .unset
  · simp only [hunset, ↓reduceIte]
    split <;> exact PlantTime.ppsLow_of_unset hlow hunset rfl
  · simp only [hunset, ↓reduceIte]
    exact PlantTime.enter_ppsLow _ _

theorem State.HoldsClock.discipline {s t : State} (h : s.HoldsClock t) (pps : Bool) (offset : Int) : s.HoldsClock (t.discipline pps offset) :=
  h.trans (t.discipline_holdsClock pps offset)

theorem State.dropDiscipline_holdsClock : s.HoldsClock s.dropDiscipline := by
  refine .of_pt rfl fun hlow => ?_
  have hforgot : PlantTime.PpsLow (if s.usesPtp then s.tb.pt else { s.tb.pt with grandmaster := none, syncInterval := 0 }) := .ite hlow hlow
  exact .ite hforgot.lose hforgot

theorem doPtpSync_holdsClock (offset interval : Int) : s.HoldsClock (doPtpSync offset interval s) := by
  simp only [doPtpSync]
  refine .ite (.discipline ?_ _ _) (.refl s)
  exact .of_pt rfl id

theorem doPtpAnnounce_holdsClock (identity rank interval : Nat) : s.HoldsClock (doPtpAnnounce identity rank interval s) :=
  .ite (.refl s) (.ite (.of_pt rfl id) (.refl s))

theorem doPtpLost_holdsClock : s.HoldsClock (doPtpLost s) := by
  simp only [doPtpLost]
  refine .ite ?_ (.refl s)
  refine s.holdsClock_setPt fun hlow => ?_
  split_ifs
  · exact hlow
  · exact PlantTime.PpsLow.lose hlow
  · exact hlow

theorem doPpsEdge_holdsClock (after : Nat) : s.HoldsClock (doPpsEdge after s) := by
  simp only [doPpsEdge]
  split
  · split_ifs with hunset hpast
    · have hset : s.HoldsClock { s with tb := { s.tb with pt := { s.tb.pt with ppsAge := 0, ppsPresent := true, armed := none } } } := .of_pt rfl id
      exact .before (State.raise_tb _ _) hset
    · have hset (atto : Nat) : s.HoldsClock { s with tb := { s.tb with pt := { ({ s.tb.pt with ppsAge := 0, ppsPresent := true } : PlantTime).firstSet atto with armed := none } } } :=
        .of_pt rfl fun hlow => PlantTime.ppsLow_of_unset hlow hunset rfl
      exact .before (State.raise_tb _ _) (hset _)
    all_goals
      have hset (offset : Int) : s.HoldsClock { s with tb := { s.tb with pt := (({ s.tb.pt with ppsAge := 0, ppsPresent := true, armed := none } : PlantTime).correct offset).1 } } :=
        .of_pt rfl fun hlow => PlantTime.correct_ppsLow (p := { s.tb.pt with ppsAge := 0, ppsPresent := true, armed := none }) hlow _
      exact .before (State.raise_tb _ _) (hset _)
  · refine .ite ?_ ?_
    · refine s.holdsClock_setPt fun hlow => ?_
      split
      · exact PlantTime.enter_ppsLow _ _
      · exact hlow
    · refine .ite (.discipline ?_ _ _) ?_ <;> exact .of_pt rfl id

theorem doPpsLost_holdsClock : s.HoldsClock (doPpsLost s) := by
  simp only [doPpsLost]
  refine .ite (.ite (.requalify (.of_pt rfl fun hlow => ?_)) (.of_pt rfl id)) (.refl s)
  exact PlantTime.PpsLow.lose hlow

/-! ### Plant time set, locked and lost (R67, R68, R71, R72, R432) -/

theorem doPlantTimeSetLapse_holdsClock : s.HoldsClock (doPlantTimeSetLapse s) := .ite (.of_pt rfl id) (.refl s)

theorem doPlantTimeLocked_holdsClock : s.HoldsClock (doPlantTimeLocked s) := .ite (.of_pt rfl fun _ => PlantTime.enter_ppsLow _ _) (.refl s)

theorem doPpsOutPulse_holdsClock (rise : Bool) : s.HoldsClock (doPpsOutPulse rise s) := by
  simp only [doPpsOutPulse]
  split
  · next hrise => exact .of_pt rfl fun _ _ => hrise.2.1
  · exact .ite (.of_pt rfl fun _ hout => by cases hout) (.refl s)

theorem doRefclkFault_holdsClock : s.HoldsClock (doRefclkFault s) :=
  .before (State.startStop_tb _ _ _ _ _) (.of_pt rfl fun _ _ => rfl)

theorem plantTimeSet_holdsClock (time atPps : Nat) : s.HoldsClock (plantTimeSet time atPps s).1 := by
  simp only [plantTimeSet]
  split_ifs with hrange harmed hunset hearly hstepped
  · exact .refl s
  · exact .of_pt rfl id
  · exact .refl s
  · have hset (atto : Nat) : s.HoldsClock { s with tb := { s.tb with pt := ({ s.tb.pt with armed := none, armedAge := 0 } : PlantTime).firstSet atto } } :=
      .of_pt rfl fun hlow => PlantTime.ppsLow_of_unset hlow hunset rfl
    exact .before (State.raise_tb _ _) (hset _)
  all_goals exact .of_pt rfl fun hlow => PlantTime.correct_ppsLow (p := { s.tb.pt with armed := none, armedAge := 0 }) hlow _

/-! ### Registers and swaps (R65, R128, R521) -/

theorem State.writeLow_holdsClock (o v : Nat) : s.HoldsClock (s.writeLow o v) := by
  simp only [State.writeLow]
  split <;> exact .of_pt rfl id

theorem State.takeUp_holdsClock (o : State) (p : PendSwap) : s.HoldsClock (s.takeUp o p) := by
  refine .before (State.dropUnfitted_tb _) (.ite (.requalify (.trans (.of_tb ?_) (State.dropDiscipline_holdsClock _))) (.of_tb ?_))
  all_goals simp [State.ite_tb, foldl_tb]

/-! ### Resets (R339, R344, R356) -/

theorem State.powerDown_tb : s.powerDown.tb = {} := rfl
end

end Sys2Proof.Machine
end

section
/-! SUPPORT. Every command but the three that move the clock holds it (R49, R51, R71, R330). -/

namespace Sys2Proof.Machine
open Sys2Proof

/-! ### Host commands -/

section
variable (s : State)

theorem doDeviceReset_holdsClock (h : Hdr) (force : Nat) : s.HoldsClock (doDeviceReset h force s) := by
  simp only [doDeviceReset]
  refine .ite (.host (.refl s)) (.ite (.host (.refl s)) (.ite (.hostJ (.of_tb ?_)) (.of_reset rfl)))
  exact State.startStop_tb _ _ _ _ _

theorem doXpSwap_holdsClock (h : Hdr) (mode glide cycle : Nat) : s.HoldsClock (doXpSwap h mode glide cycle s) :=
  .ite (.hostJ (.of_tb (xpSwap_tb _ _ _ _))) (.host (.of_tb (xpSwap_tb _ _ _ _)))

theorem doFuseProgram_holdsClock (h : Hdr) (region offset words : Nat) (data : List Nat) : s.HoldsClock (doFuseProgram h region offset words data s) :=
  .ite (.host (.refl s)) (.of_tb (State.journal_tb _ _))

theorem doSlotOpen_holdsClock (h : Hdr) (grant : List Nat) : s.HoldsClock (doSlotOpen h grant s) := .of_tb (by simp [doSlotOpen])

theorem runCommand_holdsClock (i : Instr) : s.HoldsClock (runCommand i s) := by
  cases i with
  | plantTimeSet h time atPps => exact .hostJ (plantTimeSet_holdsClock s time atPps)
  | deviceReset h force => exact doDeviceReset_holdsClock s h force
  | xpSwap h mode glide cycle => exact doXpSwap_holdsClock s h mode glide cycle
  | fuseProgram h region offset words data => exact doFuseProgram_holdsClock s h region offset words data
  | slotOpen h grant => exact doSlotOpen_holdsClock s h grant
  | netConfig h g | startConfig h g | footingConfig h g | tickSourceSet h g | plantTimeConfig h g | streamRoute h g | streamPortConfig h g | svSubscribe h g
  | setpointInputConfig h g | gridSenseConfig h g | xpDestConfig h g | xpProbeSet h g | xpDampSet h g | xpIdleConfig h g | ceBayConfig h g | cePlantConfig h g
  | mdBayConfig h g | bayProfileSet h g | tripConfig h g | unitProfileSet h g | zConfig h g | zTempTableSet h g | loadModelConfig h g | linkConfig h g
  | ledgerConfig h g | slotLimitsSet h g | thermalConfig h g => exact .host (.of_tb (stageRows_tb s _ _ g))
  | sysInfoRead | footingStatusRead | timebaseStatus | streamStatusRead | xpStatus | gridZRead | linkPendingRead | rdStatusRead | ledgerStatusRead
  | identityRead | fuseStatusRead =>
    simp only [runCommand, doSysInfoRead, doFootingStatusRead, doTimebaseStatus, doStreamStatusRead, doXpStatus, doGridZRead, doLinkPendingRead,
      doRdStatusRead, doLedgerStatusRead, doIdentityRead, doFuseStatusRead]
    refine .host ?_
    exact .refl s
  | streamDmaConfig | xpGainSet | xpShapeSet | ceLawSet | startStatusRead | xpStatsRead | ceFlagsRead | ceWinnerStats | cePlumbStatus | mdStatsRead | unitRead
  | zRead | linkStatusRead | fuseRead | slotStatusRead | eventFetch | thermalStatusRead =>
    exact .host (.of_tb (by simp))
  | startRestoreSkip | baySync | bayExclude | safeStop | footingCountersClear | footingRailRestore | streamStart | streamStop | xpShadowDiscard
  | bayWake | ceSetpointSet | ceFlagsClear | pierDisable | bayDisable | plantDisable | pierEnable | bayEnable | plantEnable | tripAssert
  | tripReset | unitRecal | unitRelease | zPassRequest | gridZMeasure | loadAmbientSet | loadBaselineSet | linkWindowOpen | linkWindowClose
  | courseWithdraw | tileHandover | tileHandback | keystoneSwitch | fwImageWrite | fwImageVerify | fwUpdate | ledgerExport | ledgerExportAck
  | ledgerExportStop | ledgerDriveBind | fuseMaintEnter | fuseLock | slotRightsDrop | slotEventsSet =>
    exact .hostJ (.of_tb (by simp))
  | loadModelRead | loadDiagRead | slotKeepalive =>
    simp only [runCommand, doLoadModelRead, doLoadDiagRead, doSlotKeepalive]
    exact .host (.of_tb (by simp))
  | xpFlagsClear | fuseMaintExit | slotClose =>
    simp only [runCommand, doXpFlagsClear, doFuseMaintExit, doSlotClose]
    exact .hostJ (.of_tb (by simp))
  | _ => exact .refl s

/-! ### Commands that arrive, and the command window (R402, R406, R407, R411, R413) -/

theorem State.admitCmd_holdsClock (h : Hdr) (op cost : Nat) (c : Instr) : s.HoldsClock (s.admitCmd h op cost c) := by
  simp only [State.admitCmd]
  exact .ite ((runCommand_holdsClock _ c).after (State.modSlot_tb _ _ _)) (.ite (.of_tb (State.refuseStep_tb _ _ _ _ _)) (.ite (.of_tb (State.refuseStep_tb _ _ _ _ _)) (.of_tb (State.modSlot_tb _ _ _))))

theorem State.checkCmd_holdsClock (h : Hdr) (p : Pkt) (boot : Bool) : s.HoldsClock (s.checkCmd h p boot) := by
  have hrefused (k : Nat) (a : Ans) : s.HoldsClock (s.refuseStep h p.opcode k a) := .of_tb (State.refuseStep_tb _ _ _ _ _)
  simp only [State.checkCmd]
  refine .ite (hrefused _ _) (.ite (hrefused _ _) ?_)
  split
  · exact hrefused _ _
  · refine .ite (hrefused _ _) ?_
    split
    · exact hrefused _ _
    · exact .ite (.ite (.of_tb rfl) (hrefused _ _)) (s.admitCmd_holdsClock _ _ _ _)

theorem State.takePacket_holdsClock (udp : Bool) (ring peer : Nat) (bs : List Nat) : s.HoldsClock (s.takePacket udp ring peer bs) := by
  have hrefused (h : Hdr) (op k : Nat) (a : Ans) : s.HoldsClock (s.refuseStep h op k a) := .of_tb (State.refuseStep_tb _ _ _ _ _)
  have hcounted (i k : Nat) (u : Bool) : s.HoldsClock (s.countStep i k u) := .of_tb (State.countStep_tb _ _ _ _)
  simp only [State.takePacket]
  refine .ite (.ite (.of_tb rfl) (.of_tb rfl)) (.ite (.ite (hcounted _ _ _) (hrefused _ _ _ _)) (.ite (.ite (hcounted _ _ _) (hrefused _ _ _ _)) (.ite (.ite (hcounted _ _ _) (hrefused _ _ _ _)) (.ite (hcounted _ _ _) ?_))))
  exact (State.checkCmd_holdsClock _ _ _ _).after (State.modSlot_tb _ _ _)

theorem State.pumpRing_holdsClock (i : Nat) : s.HoldsClock (s.pumpRing i) := by
  simp only [State.pumpRing]
  exact (State.HoldsClock.foldl (fun u e => u.takePacket_holdsClock false i 0 e) _ _).after rfl

theorem doHsCmdProd_holdsClock (i index : Nat) (entries : List (List Nat)) : s.HoldsClock (doHsCmdProd i index entries s) := by
  simp only [doHsCmdProd]
  exact .ite (.of_tb rfl) (.ite ((State.pumpRing_holdsClock _ i).after rfl) (.of_tb rfl))

theorem doUdpDatagram_holdsClock (port peer dst vlan : Nat) (fragment : Bool) (bytes : List Nat) : s.HoldsClock (doUdpDatagram port peer dst vlan fragment bytes s) :=
  .ite (.refl s) (s.takePacket_holdsClock _ _ _ _)

theorem WindowRun.charge_holdsClock (x : WindowRun) (i : Nat) (q : Queued) : x.state.HoldsClock (x.charge i q).state := by
  simp only [WindowRun.charge]
  split
  · exact (runCommand_holdsClock _ q.cmd).after (State.modSlot_tb _ _ _)
  · exact .of_tb (State.modSlot_tb _ _ _)

theorem serveSlot_holdsClock (i n : Nat) (x : WindowRun) : x.state.HoldsClock (serveSlot i n x).state := by
  induction n generalizing x with
  | zero => exact .refl _
  | succ n ih =>
    simp only [serveSlot]
    split
    · split
      · exact .of_tb (State.modSlot_tb _ _ _)
      · exact .refl _
    · split
      · exact (x.charge_holdsClock i _).trans (ih _)
      · exact .refl _

theorem windowRound_holdsClock (x : WindowRun) (i : Nat) : x.state.HoldsClock (windowRound x i).state := by
  simp only [windowRound]
  split
  · exact .refl _
  · exact (serveSlot_holdsClock i 17 _).after (State.modSlot_tb _ _ _)

theorem foldl_windowRound_holdsClock (order : List Nat) (x : WindowRun) : x.state.HoldsClock (order.foldl windowRound x).state := by
  induction order generalizing x with
  | nil => exact .refl _
  | cons i order ih => exact (windowRound_holdsClock x i).trans (ih _)

theorem windowRounds_holdsClock (order : List Nat) (n : Nat) (x : WindowRun) : x.state.HoldsClock (windowRounds order n x) := by
  induction n generalizing x with
  | zero => exact .refl _
  | succ n ih => exact .ite ((foldl_windowRound_holdsClock order x).trans (ih _)) (.refl _)

theorem State.commandWindow_holdsClock : s.HoldsClock s.commandWindow := (windowRounds_holdsClock _ _ _).after rfl

theorem State.serveHosts_holdsClock : s.HoldsClock s.serveHosts := by
  refine .ite (.refl s) (.trans ?_ (State.commandWindow_holdsClock _))
  exact .foldl (fun u i => .ite (.refl u) (u.pumpRing_holdsClock i)) _ s

theorem State.idleTime_holdsClock : s.HoldsClock s.idleTime := (State.serveHosts_holdsClock _).after (by simp)

/-! ### Other rows -/

theorem doXpSwapLanding_holdsClock : s.HoldsClock (doXpSwapLanding s) := by
  simp only [doXpSwapLanding]
  split
  · exact .refl s
  · exact .ite (.refl s) (.before (State.splitWindows_tb _) ((State.takeUp_holdsClock _ s _).after rfl))

theorem doRegisterWrite_holdsClock (offset value : Nat) : s.HoldsClock (doRegisterWrite offset value s) := by
  simp only [doRegisterWrite]
  refine .ite (.of_tb rfl) (.ite (s.writeLow_holdsClock _ _) (.of_tb ?_))
  simp only [State.writeHigh]
  split <;> simp

theorem doFuseProgramComplete_holdsClock (bad weak : List Nat) : s.HoldsClock (doFuseProgramComplete bad weak s) := by
  simp only [doFuseProgramComplete]
  split
  · exact .refl s
  · have hraised (u : State) (p : Prop) [Decidable p] (e f : Evt) : s.HoldsClock u → s.HoldsClock (if p then u.raise e else u.raise f) :=
      fun hu => .ite (.before (State.raise_tb _ _) hu) (.before (State.raise_tb _ _) hu)
    refine .ite (hraised _ _ _ _ ?_) (.trans (hraised _ _ _ _ ?_) (.host (.refl _)))
    all_goals exact .ite (.before (State.raise_tb _ _) (.of_tb rfl)) (.of_tb rfl)

theorem doPowerOn_holdsClock : s.HoldsClock (doPowerOn s) := .ite (.of_reset rfl) (.refl s)

theorem doSysResetN_holdsClock : s.HoldsClock (doSysResetN s) := .ite (.refl s) (.of_reset rfl)

theorem doSafeStopComplete_holdsClock (flushed : Bool) : s.HoldsClock (doSafeStopComplete flushed s) :=
  .ite (.refl s) (.ite (.ite (.of_reset rfl) (.of_reset rfl)) (.of_tb rfl))

theorem doVinLoss_holdsClock : s.HoldsClock (doVinLoss s) :=
  .ite (.refl s) (.ite (.of_tb rfl) (.ite (.of_reset rfl) (.of_tb (by simp))))

theorem doVinReturn_holdsClock : s.HoldsClock (doVinReturn s) := .ite (.refl s) (.ite (.of_reset rfl) (.of_tb rfl))

theorem doBankCutoff_holdsClock : s.HoldsClock (doBankCutoff s) := .ite (.of_reset rfl) (.refl s)

theorem doFootingReset_holdsClock : s.HoldsClock (doFootingReset s) := .ite (.ite (.of_reset rfl) (.of_reset rfl)) (.refl s)

end

end Sys2Proof.Machine
end

section
/-! SUPPORT. What each command does to the clock: three rows move it, each other command holds it (R49, R51, R330). -/

namespace Sys2Proof.Machine
open Sys2Proof

/-! ### Every command but three -/

/-- An outcome whose next state, where there is one, holds the clock of `s`. -/
def State.HoldsClockOn (s : State) (o : Host.Outcome State Fault Refusal) : Prop := ∀ t, o = .next t → s.HoldsClock t

namespace State.HoldsClockOn
variable {s t : State}

theorem next (h : s.HoldsClock t) : s.HoldsClockOn (.next t) := fun _ heq => Host.Outcome.next.inj heq ▸ h

/-- A row that stops on a missing unit. -/
theorem guard {p : Prop} [Decidable p] {f : Fault} (h : s.HoldsClock t) : s.HoldsClockOn (if p then .fault f else .next t) := by
  split
  · exact fun _ heq => nomatch heq
  · exact next h

end State.HoldsClockOn

section
variable (s : State)

/-- The rows that move the clock (R51, R330). -/
def movesClock : Instr → Bool
  | .tickBoundary _ | .cycleBoundary | .timebaseStart _ => true
  | _ => false

theorem exec_holdsClock (i : Instr) (hmoves : movesClock i = false) : s.HoldsClockOn (exec i s) := by
  have hrun := runCommand_holdsClock s i
  cases i with
  | tickBoundary | cycleBoundary | timebaseStart => cases hmoves
  | hsCmdProd slot index entries => exact .guard (doHsCmdProd_holdsClock s slot index entries)
  | udpDatagram port peer dst vlan fragment bytes => exact .guard (doUdpDatagram_holdsClock s port peer dst vlan fragment bytes)
  | registerWrite offset value => exact .next (doRegisterWrite_holdsClock s offset value)
  | xpSwapLanding => exact .next (doXpSwapLanding_holdsClock s)
  | ptpSync offset interval => exact .next (doPtpSync_holdsClock s offset interval)
  | ptpAnnounce identity rank interval => exact .next (doPtpAnnounce_holdsClock s identity rank interval)
  | ptpPdelay delay => exact .next (.of_pt rfl id)
  | ptpLost => exact .next (doPtpLost_holdsClock s)
  | ppsEdge after => exact .next (doPpsEdge_holdsClock s after)
  | ppsLost => exact .next (doPpsLost_holdsClock s)
  | plantTimeSetLapse => exact .next (doPlantTimeSetLapse_holdsClock s)
  | plantTimeLocked => exact .next (doPlantTimeLocked_holdsClock s)
  | ppsOutPulse rise => exact .next (doPpsOutPulse_holdsClock s rise)
  | refclkFault => exact .next (doRefclkFault_holdsClock s)
  | safeStopComplete flushed => exact .next (doSafeStopComplete_holdsClock s flushed)
  | powerOn => exact .next (doPowerOn_holdsClock s)
  | sysResetN => exact .next (doSysResetN_holdsClock s)
  | vinLoss => exact .next (doVinLoss_holdsClock s)
  | vinReturn => exact .next (doVinReturn_holdsClock s)
  | bankCutoff => exact .next (doBankCutoff_holdsClock s)
  | vaonLoss => exact .next (.of_reset rfl)
  | footingReset => exact .next (doFootingReset_holdsClock s)
  | fuseProgramComplete bad weak => exact .next (doFuseProgramComplete_holdsClock s bad weak)
  | stageDeadlineMiss stage units => exact .guard (.of_time (doStageDeadlineMiss_time s stage units))
  | svStreamTimeout stream => exact .guard (.of_time (doSvStreamTimeout_time s stream))
  | thermalLevelChange die => exact .guard (.of_time (doThermalLevelChange_time s die))
  | gridPllLock => exact .next (.of_time (doGridPllLock_time s))
  | gridPllLockLoss => exact .next (.of_time (doGridPllLockLoss_time s))
  | pllFreeze => exact .next (.of_time (doPllFreeze_time s))
  | pllFreezeExit => exact .next (.of_time (doPllFreezeExit_time s))
  | sourceEligible src => exact .next (.of_time (doSourceEligible_time s src))
  | keystoneLost cause => exact .next (.of_time (doKeystoneLost_time s cause))
  | supervisorTrip channels high => exact .next (.of_time (doSupervisorTrip_time s channels high))
  | hsRplCons | hsEvqCons | arp | icmpEcho | msiModerationEnd | slotLost | grantExpiry | plumbRecovery | plumbFloat | tickMarkerEcho | upstreamFrame |
  bayLinkLost | courseDark | courseLeaveService | withdraw | hello | join | serials | ring | laneTrained | laneRetry | windowOpen | windowClose |
  sspRxFrame | sspRxSlip | channelQualify | channelLost | slotRampEnd | probeBurstEnd | tripInputAssert | bayIdle | standbyEntry | standbyExit |
  enableLanding | tileTakeover | zPassEnd | ambientTimeout | diagWindowClose | keystoneSelfTest | signedBoot | tileSelfTest | admissionEnd | restore |
  warningExcursion | retryOffEnd | retryRailCheck | sensorBroken | sensorRecovered | throttleGraceEnd | throttleEnforce | throttleRelease |
  nvmeCompletion | driveTimeout | smartPoll | resilverComplete | railReturn | tripInputRelease =>
    exact .guard (.of_tb (by simp))
  | hsCommit | hsCommitLanding | sysCommit | sysCommitLanding | urCommit | urCommitLanding | urFillPublish | stagedRegisterWrite | rcRead | spDmaInProd |
  spDmaOutCons | freezeReq | freezeEnd | freezeLimit | pcieLinkDown | recordPass | rankSnapshot | crosspointStage | controlStage | modulationStage |
  dmaInputBlock | dmaOutputBlock | setpointQualify | setpointLost | isoSupplyLoss | keystoneLive | plannedSwitch | fwUpdateAbort | flywheelRampStart |
  flywheelFloat | transferCycleStart | transferComplete | gridZStart | gridZResult | syncStart | syncPermitAssert | syncTimeout | safeStopFloat |
  safeStopFlush | positionReady | positionTimeout | positionRetry | fuseLoad | electionTimeout | serviceUartWrite | ledgerMount | bankBelowReady |
  chargerPrecharge | chargerCc | chargerCv | chargerDone | chargerFault | capEstimate | thermalConversion | snapshotDue | snapshotCapture |
  eventPageSeal =>
    exact .next (.of_tb (by simp))
  | laneDown | gridSenseInvalid => exact .guard (.of_tb rfl)
  | badAccess | tickMarker | svAsdu | footingI2cRead | jtagInstruction | isoSupplyReturn => exact .next (.of_tb rfl)
  | _ => exact .next hrun

end

/-! ### The rows that move the clock -/

section
variable (s : State)

/-- What the cycle's work does to the clock: the counter's step alone (R51). -/
theorem State.wholeCycle_time : s.wholeCycle.tb.time = ((s.tb.running, s.tb.idx, (s.tb.cycle + 1) % 2 ^ 48, false), s.tb.pt) := by
  have hopen : ({ s with tb := { s.tb with cycleLen := s.tb.cyclePs, cyclePs := 0 } } : State).openCycle.tb.time = ((s.tb.running, s.tb.idx, (s.tb.cycle + 1) % 2 ^ 48, false), s.tb.pt) := rfl
  rw [← hopen]
  simp [State.wholeCycle]

/-- A tick boundary steps the index, and lowers PPS_OUT outside LOCKED and HOLDOVER (R51, R71). -/
theorem State.advanceTick_clock : s.advanceTick.tb.clock = (s.tb.running, if s.tb.idx = 799 then 0 else s.tb.idx + 1, s.tb.cycle, decide (s.tb.idx = 799)) := by
  simp only [State.advanceTick, State.plantTick, Timebase.clock]

theorem State.advanceTick_ppsLow : s.advanceTick.tb.pt.PpsLow := by
  simp only [State.advanceTick, State.plantTick, PlantTime.PpsLow, PlantTime.good, Bool.and_eq_true, and_imp]
  exact fun _ hgood => hgood

@[simp] theorem State.keystoneTick_time (inp : TickIn) (ps : Nat) : (s.keystoneTick inp ps).tb.time = s.tb.time := by simp [State.keystoneTick]

/-- The cycle's work, where it is still due as a tick boundary comes (log 20). -/
def State.workDone (s : State) : State := if s.tb.bnd then s.wholeCycle else s

theorem State.workDone_time : s.workDone.tb.time = ((s.tb.running, s.tb.idx, if s.tb.bnd then (s.tb.cycle + 1) % 2 ^ 48 else s.tb.cycle, false), s.tb.pt) := by
  cases hbnd : s.tb.bnd
  · simp [State.workDone, hbnd, Timebase.time, Timebase.clock]
  · simp [State.workDone, hbnd, State.wholeCycle_time]

/-- What a boundary does before the clock's step, `ps` after the one before. -/
def State.tickEnds (s : State) (ps : Nat) : State := let t := (s.endTick ps).copyStandby; { t with xp := t.xp.glideTick }

/-- What a boundary does after the clock's step. -/
def State.tickBegins (s : State) (inp : TickIn) (ps : Nat) : State :=
  let t1 := s.freshSwaps
  let t2 := ({ t1 with tb := { t1.tb with cyclePs := t1.tb.cyclePs + ps } }).swapEvent.takeRoot.takeCarries
  let t3 := ((t2.ageCurrents.trackCount.keystoneTick inp ps).countTick ps).hostTick ps
  let t4 := ({ t3 with lk := t3.lk.tick ps }.txPort 0).txPort 1
  ((t4.thermalTick ps).ledgerTick ps).serveHosts

theorem State.tickEnds_time (ps : Nat) : (s.tickEnds ps).tb.time = s.tb.time := by simp [State.tickEnds]

theorem State.tickBegins_holdsClock (inp : TickIn) (ps : Nat) : s.HoldsClock (s.tickBegins inp ps) := by
  have hpassed (u : State) (c : Nat) : ({ u with tb := { u.tb with cyclePs := c } } : State).tb.time = u.tb.time := rfl
  refine .trans (.of_time ?_) (State.serveHosts_holdsClock _)
  simp [hpassed]

/-- A boundary while the tick runs: the work that was due, the end of the old tick, one step of the clock, the new tick (R49, R51). -/
theorem doTickBoundary_of_running (inp : TickIn) (hrun : s.tb.running = true) :
    let u := (s.sampleBalls inp).workDone
    let ps := u.tb.toOverflow * 625
    doTickBoundary inp s = (u.tickEnds ps).advanceTick.tickBegins inp ps := by
  simp only [doTickBoundary, State.sampleBalls_tb, hrun, Bool.not_true, Bool.false_eq_true, if_false]
  simp only [State.workDone, State.sampleBalls_tb, State.tickEnds, State.tickBegins]

/-- The clock's step at a boundary, the cycle's counter included where its work was still due. -/
theorem State.advanceTick_tickEnds_clock (ps : Nat) :
    (s.workDone.tickEnds ps).advanceTick.tb.clock =
      (s.tb.running, if s.tb.idx = 799 then 0 else s.tb.idx + 1, if s.tb.bnd then (s.tb.cycle + 1) % 2 ^ 48 else s.tb.cycle, decide (s.tb.idx = 799)) := by
  have hended : (s.workDone.tickEnds ps).tb.clock = s.workDone.tb.clock := congrArg Prod.fst (State.tickEnds_time _ ps)
  have hdone : s.workDone.tb.clock = (s.tb.running, s.tb.idx, if s.tb.bnd then (s.tb.cycle + 1) % 2 ^ 48 else s.tb.cycle, false) := congrArg Prod.fst s.workDone_time
  simp only [Timebase.clock, Prod.mk.injEq] at hended hdone
  obtain ⟨hrunning, hidx, hcycle, -⟩ := hended
  obtain ⟨hrunning', hidx', hcycle', -⟩ := hdone
  rw [State.advanceTick_clock, hrunning, hidx, hcycle, hrunning', hidx', hcycle']

/-- A boundary steps the clock, and what follows in it holds the clock (R49, R51). -/
theorem doTickBoundary_steps (inp : TickIn) (hrun : s.tb.running = true) :
    ∃ u : State, u.tb.clock = (true, if s.tb.idx = 799 then 0 else s.tb.idx + 1, if s.tb.bnd then (s.tb.cycle + 1) % 2 ^ 48 else s.tb.cycle, decide (s.tb.idx = 799)) ∧
      u.tb.pt.PpsLow ∧ u.HoldsClock (doTickBoundary inp s) := by
  refine ⟨_, ?_, State.advanceTick_ppsLow _, doTickBoundary_of_running s inp hrun ▸ State.tickBegins_holdsClock _ _ _⟩
  rw [State.advanceTick_tickEnds_clock, State.sampleBalls_tb, hrun]

/-- What a boundary leaves of the clock, where the tick still runs after it. -/
theorem doTickBoundary_of_still_running (inp : TickIn) (hrun : s.tb.running = true) (hstill : (doTickBoundary inp s).tb.running = true) :
    (doTickBoundary inp s).tb.idx = (if s.tb.idx = 799 then 0 else s.tb.idx + 1) ∧ (doTickBoundary inp s).tb.bnd = decide (s.tb.idx = 799) ∧
      (doTickBoundary inp s).tb.cycle = if s.tb.bnd then (s.tb.cycle + 1) % 2 ^ 48 else s.tb.cycle := by
  obtain ⟨u, hclock, -, hheld⟩ := doTickBoundary_steps s inp hrun
  have hkept := (hheld.clock_of_running hstill).trans hclock
  simp only [Timebase.clock, Prod.mk.injEq] at hkept
  obtain ⟨-, hidx, hcycle, hbnd⟩ := hkept
  exact ⟨hidx, hbnd, hcycle⟩

/-- While none runs, time passes on REFCLK alone (R13). -/
theorem doTickBoundary_idles (inp : TickIn) (hrun : s.tb.running = false) : s.HoldsClock (doTickBoundary inp s) := by
  simp only [doTickBoundary, State.sampleBalls_tb, hrun]
  exact (State.idleTime_holdsClock _).after (by simp)

theorem doCycleBoundary_time : (doCycleBoundary s).tb.time = s.tb.time ∨ (doCycleBoundary s).tb.time = ((s.tb.running, s.tb.idx, (s.tb.cycle + 1) % 2 ^ 48, false), s.tb.pt) := by
  simp only [doCycleBoundary]
  split
  · exact .inr s.wholeCycle_time
  · exact .inl rfl

/-- The tick starts in tick 0 of cycle 0, or goes on (R53, R330, R331). -/
theorem doTimebaseStart_time (locked : Bool) : (doTimebaseStart locked s).tb.time = s.tb.time ∨ (doTimebaseStart locked s).tb.time = ((true, 0, 0, false), s.tb.pt) := by
  simp only [doTimebaseStart]
  split_ifs with hstep hlocked hrun
  · exact .inl rfl
  · exact .inl (by simp)
  · exact .inl (by simp)
  · right
    simp only [foldl_tb, untimed_iff, State.startLane_tb, implies_true, State.dropBanks_tb, State.setFreq_time, State.recordCycle_time]
    rfl

end

/-! ### The tick invariant, and PPS_OUT (R51, R53, R71) -/

theorem tickInv_of_clock {s : State} {running bnd : Bool} {idx cycle : Nat} (hclock : s.tb.clock = (running, idx, cycle, bnd)) (hidx : idx < 800) (hcycle : cycle < 2 ^ 48) : TickInv s := by
  simp only [Timebase.clock, Prod.mk.injEq] at hclock
  obtain ⟨-, rfl, rfl, -⟩ := hclock
  exact ⟨hidx, hcycle⟩

theorem exec_tickInv {i : Instr} {s t : State} (hs : TickInv s) (hexec : exec i s = .next t) : TickInv t := by
  cases hmoves : movesClock i
  case false => exact (exec_holdsClock s i hmoves t hexec).tickInv hs
  case true =>
    obtain ⟨hidx, hcycle⟩ := hs
    have hwrapped : (s.tb.cycle + 1) % 2 ^ 48 < 2 ^ 48 := Nat.mod_lt _ (by decide)
    cases i with
    | tickBoundary inp =>
      cases hexec
      cases hrun : s.tb.running
      · exact (doTickBoundary_idles s inp hrun).tickInv ⟨hidx, hcycle⟩
      · obtain ⟨u, hclock, -, hheld⟩ := doTickBoundary_steps s inp hrun
        refine hheld.tickInv (tickInv_of_clock hclock ?_ ?_)
        · split <;> omega
        · split
          · exact hwrapped
          · exact hcycle
    | cycleBoundary =>
      cases hexec
      rcases doCycleBoundary_time s with hsame | hworked
      · exact (State.HoldsClock.of_time hsame).tickInv ⟨hidx, hcycle⟩
      · exact tickInv_of_clock (congrArg Prod.fst hworked) hidx hwrapped
    | timebaseStart locked =>
      cases hexec
      rcases doTimebaseStart_time s locked with hsame | hstarted
      · exact (State.HoldsClock.of_time hsame).tickInv ⟨hidx, hcycle⟩
      · exact tickInv_of_clock (congrArg Prod.fst hstarted) (by decide) (by decide)
    | _ => cases hmoves

theorem ppsLow_of_time {s t : State} {clock : Bool × Nat × Nat × Bool} (htime : t.tb.time = (clock, s.tb.pt)) (hlow : s.tb.pt.PpsLow) : t.tb.pt.PpsLow := by
  rwa [show t.tb.pt = s.tb.pt from congrArg Prod.snd htime]

theorem exec_ppsLow {i : Instr} {s t : State} (hlow : s.tb.pt.PpsLow) (hexec : exec i s = .next t) : t.tb.pt.PpsLow := by
  cases hmoves : movesClock i
  case false => exact (exec_holdsClock s i hmoves t hexec).pps hlow
  case true =>
    cases i with
    | tickBoundary inp =>
      cases hexec
      cases hrun : s.tb.running
      · exact (doTickBoundary_idles s inp hrun).pps hlow
      · obtain ⟨u, -, hstepped, hheld⟩ := doTickBoundary_steps s inp hrun
        exact hheld.pps hstepped
    | cycleBoundary =>
      cases hexec
      rcases doCycleBoundary_time s with hsame | hworked
      · exact ppsLow_of_time hsame hlow
      · exact ppsLow_of_time hworked hlow
    | timebaseStart locked =>
      cases hexec
      rcases doTimebaseStart_time s locked with hsame | hstarted
      · exact ppsLow_of_time hsame hlow
      · exact ppsLow_of_time hstarted hlow
    | _ => cases hmoves

/-- Settles O4: every row but three holds the clock or a reset stops it; the boundaries step it by one, modulo 800 and modulo 2 ^ 48. -/
theorem tickInvariantKept : Obligations.TickInvariantKept := by
  intro s t hs hstep
  unfold step at hstep
  split at hstep
  next => cases hstep; exact hs
  next i rest _ => exact exec_tickInv (s := { s with pending := rest }) hs hstep

/-- Settles O7: after a reset the tables are empty and the standby has no copy. -/
theorem invariantsHoldAtReset : Obligations.InvariantsHoldAtReset := by
  refine ⟨⟨by decide, by decide⟩, ⟨by decide, fun h hcopy => ?_⟩, by decide⟩
  cases hcopy

theorem doPpsOutPulse_rises {s : State} (hgood : s.tb.pt.good = true) (hat : s.tb.pt.ppsOutAt < s.tb.pt.ns / 1000000000 * 1000000000) :
    doPpsOutPulse true s = { s with tb := { s.tb with pt := { s.tb.pt with ppsOut := true, ppsOutAt := s.tb.pt.ns / 1000000000 * 1000000000 } } } := by
  simp [doPpsOutPulse, hgood, hat]

theorem doPpsOutPulse_falls {s : State} (hover : s.tb.pt.ppsOutAt + 100000000 ≤ s.tb.pt.ns) :
    doPpsOutPulse false s = { s with tb := { s.tb with pt := { s.tb.pt with ppsOut := false } } } := by
  simp [doPpsOutPulse, hover]

/-- A pulse that is not due changes nothing (R71). -/
theorem doPpsOutPulse_not_due {s : State} {rise : Bool} (hrise : rise = true → s.tb.pt.good = false) (hfall : rise = false → s.tb.pt.ns < s.tb.pt.ppsOutAt + 100000000) :
    doPpsOutPulse rise s = s := by
  cases rise
  · simp [doPpsOutPulse, hfall]
  · simp [doPpsOutPulse, hrise]

/-- Settles O36: the row raises the output only in LOCKED and HOLDOVER, and what leaves these states lowers it. -/
theorem ppsOutOnlyWhenGood : Obligations.PpsOutOnlyWhenGood := by
  unfold Obligations.PpsOutOnlyWhenGood
  refine ⟨fun s hgood hat => ?_, fun s hover => ?_, fun s hunder => ?_, fun s hbad => ?_, fun i s t hlow hexec => exec_ppsLow hlow hexec⟩
  · exact congrArg Host.Outcome.next (doPpsOutPulse_rises hgood hat)
  · exact congrArg Host.Outcome.next (doPpsOutPulse_falls hover)
  · exact congrArg Host.Outcome.next (doPpsOutPulse_not_due nofun fun _ => hunder)
  · exact congrArg Host.Outcome.next (doPpsOutPulse_not_due (fun _ => hbad) nofun)

/-! ### The tick's index and the frequency in force (R49 to R51) -/

theorem clampHz_bounds (f : Rat) : 45 ≤ clampHz f ∧ clampHz f ≤ 65 := by
  unfold clampHz
  split_ifs with hlow hhigh
  · norm_num
  · norm_num
  · exact ⟨not_lt.mp hlow, not_lt.mp hhigh⟩

/-- Settles O33: the boundary steps the clock once, and the cycle's work steps the counter where it is due. -/
theorem tickAdvancesByOne : Obligations.TickAdvancesByOne := by
  unfold Obligations.TickAdvancesByOne
  refine ⟨fun inp s hrun hbnd => ⟨_, rfl, fun hstill => ?_⟩, fun inp s hrun hbnd => ⟨_, rfl, fun hstill => ?_⟩, fun s hrun hbnd => ⟨_, rfl, ?_⟩, fun s => clampHz_bounds _⟩
  · simpa only [hbnd, Bool.false_eq_true, if_false] using doTickBoundary_of_still_running s inp hrun hstill
  · simpa only [hbnd, if_true] using doTickBoundary_of_still_running s inp hrun hstill
  · have hdue : doCycleBoundary s = s.wholeCycle := if_pos (by simp [hrun, hbnd])
    have hworked := congrArg Prod.fst s.wholeCycle_time
    simp only [Timebase.time, Timebase.clock, Prod.mk.injEq] at hworked
    obtain ⟨-, hidx, hcycle, hdone⟩ := hworked
    rw [hdue]
    exact ⟨hcycle, hdone, hidx⟩

end Sys2Proof.Machine
end

section
/-! SUPPORT. Plant time's sources and its commands (R65 to R68, R72, R74, R432, R503). -/

namespace Sys2Proof.Machine
open Sys2Proof

/-! ### Corrections and measurements (R67, R68) -/

/-- A correction of at most 1 ms is slewed and leaves the count. -/
theorem PlantTime.correct_slewed {p : PlantTime} {offset : Int} (hsmall : offset ≤ 10 ^ 15) :
    p.correct offset = ({ p with slewLeft := offset, slewBack := decide (offset < -(10 ^ 15)) || (p.slewBack && decide (offset < 0)) }, false) :=
  if_neg (not_lt.mpr hsmall)

/-- A measurement of at most 1 ms that the discipline uses is slewed; what the servo makes of it rests on three free values (log 27). -/
theorem State.discipline_slewed {s : State} {pps : Bool} {offset : Int} (hclock : s.tb.pt.onOscillator = false) (hset : s.tb.pt.phase ≠ .unset) (hsmall : offset ≤ 10 ^ 15) :
    ∃ q : PlantTime, s.discipline pps offset = { s with tb := { s.tb with pt := q }, freeCtr := s.freeCtr + 3 } ∧ q.slewLeft = offset ∧ q.atto = s.tb.pt.atto ∧
      q.inUse = true ∧ q.discPps = pps ∧ q.ppsAge = s.tb.pt.ppsAge ∧ q.ppsPresent = s.tb.pt.ppsPresent ∧ q.outliers = s.tb.pt.outliers := by
  simp only [State.discipline, State.free_tb, hclock, hset, PlantTime.correct_slewed hsmall, Bool.false_eq_true, if_false]
  exact ⟨_, rfl, rfl, rfl, rfl, rfl, rfl, rfl, rfl⟩

/-! ### PPS edges (R65, R66, R432, R503) -/

section
variable {s : State} {after : Nat}

/-- What an edge measures: the nearest whole second less plant time at the edge. -/
def State.edgeOffset (s : State) (after : Nat) : Int :=
  (((s.tb.pt.atto + after * 625000000 + 5 * 10 ^ 17) / 10 ^ 18 * 10 ^ 18 : Nat) : Int) - (s.tb.pt.atto + after * 625000000 : Nat)

/-- The edge's offset lies within the lock threshold. -/
def State.edgeWithin (s : State) (after : Nat) : Bool :=
  decide (s.edgeOffset after ≤ s.prm 0x0302 0 2 0 * 10 ^ 9) && decide (-(s.prm 0x0302 0 2 0 * 10 ^ 9 : Int) ≤ s.edgeOffset after)

/-- The PPS account after an edge that is no outlier. -/
def State.takeEdge (s : State) (after : Nat) : State :=
  { s with tb := { s.tb with pt := { s.tb.pt with
    ppsAge := 0, ppsPresent := true, outliers := 0, reacquire := false, ppsWithin := s.edgeWithin after
    ppsGood := if s.edgeWithin after && s.tb.pt.ppsWithin && s.tb.pt.ppsPresent && decide (s.tb.pt.ppsAge < 2000000000000) then s.tb.pt.ppsGood + s.tb.pt.ppsAge else 0 } } }

/-- An edge is off by more than 100 us, and the source is not being acquired anew. -/
def State.edgeOut (s : State) (after : Nat) : Bool :=
  (decide (10 ^ 14 < s.edgeOffset after) || decide (s.edgeOffset after < -(10 ^ 14))) && !s.tb.pt.reacquire

theorem edgeOut_of_onTime (hlow : -(10 ^ 14) ≤ s.edgeOffset after) (hhigh : s.edgeOffset after ≤ 10 ^ 14) : s.edgeOut after = false := by
  simp only [State.edgeOut, not_lt.mpr hlow, not_lt.mpr hhigh, decide_false, Bool.or_self, Bool.false_and]

theorem edgeOut_of_off (hoff : 10 ^ 14 < s.edgeOffset after ∨ s.edgeOffset after < -(10 ^ 14)) (hsure : s.tb.pt.reacquire = false) : s.edgeOut after = true := by
  simpa only [State.edgeOut, hsure, Bool.not_false, Bool.and_true, Bool.or_eq_true, decide_eq_true_eq] using hoff

theorem edgeOffset_of_whole (hwhole : (s.tb.pt.atto + after * 625000000) % 10 ^ 18 = 0) : s.edgeOffset after = 0 := by
  unfold State.edgeOffset
  omega

theorem edgeWithin_of_whole (hwhole : (s.tb.pt.atto + after * 625000000) % 10 ^ 18 = 0) : s.edgeWithin after = true := by
  unfold State.edgeWithin
  rw [edgeOffset_of_whole hwhole]
  simp

theorem doPpsEdge_of_in (harmed : s.tb.pt.armed = none) (hin : s.edgeOut after = false) :
    doPpsEdge after s = if s.tb.pt.phase ≠ .unset ∧ s.ppsMay then (s.takeEdge after).discipline true (s.edgeOffset after) else s.takeEdge after := by
  unfold State.edgeOut State.edgeOffset at hin
  unfold State.takeEdge State.edgeWithin State.edgeOffset
  simp only [doPpsEdge, harmed, hin, Bool.false_eq_true, if_false]

/-- An outlier that is not the eighth in a row is only counted. -/
theorem doPpsEdge_of_out (harmed : s.tb.pt.armed = none) (hout : s.edgeOut after = true) (hfew : s.tb.pt.outliers + 1 ≠ 8) :
    doPpsEdge after s = { s with tb := { s.tb with pt := { s.tb.pt with
      ppsAge := 0, ppsPresent := true, outliers := s.tb.pt.outliers + 1, outlierCount := incSat 32 s.tb.pt.outlierCount, ppsGood := 0, ppsWithin := false } } } := by
  unfold State.edgeOut State.edgeOffset at hout
  simp only [doPpsEdge, harmed, hout, hfew, if_true, if_false, incSat]

/-- An armed set that an edge finds before plant time is set becomes the count (R432). -/
theorem doPpsEdge_first_set {time : Nat} (hunset : s.tb.pt.phase = .unset) (harmed : s.tb.pt.armed = some time) (hlater : s.tb.pt.atto + after * 625000000 < time * 10 ^ 9) :
    doPpsEdge after s = ({ s with tb := { s.tb with pt := { (({ s.tb.pt with ppsAge := 0, ppsPresent := true } : PlantTime).firstSet (time * 10 ^ 9 - after * 625000000)) with armed := none } } }).raise
      { kind := .timeStep, unit := noUnit } := by
  simp only [doPpsEdge, harmed, hunset, if_true, if_neg (not_le.mpr hlater)]

/-- An armed set of at most 1 ms lands slewed (R432). -/
theorem doPpsEdge_landed {time : Nat} (hset : s.tb.pt.phase ≠ .unset) (harmed : s.tb.pt.armed = some time)
    (hsmall : ((time * 10 ^ 9 : Nat) : Int) - ((s.tb.pt.atto + after * 625000000 : Nat) : Int) ≤ 10 ^ 15) :
    ∃ q : PlantTime, doPpsEdge after s = ({ s with tb := { s.tb with pt := q } } : State).raise { kind := .setLanded, unit := noUnit } ∧ q.armed = none ∧ q.atto = s.tb.pt.atto ∧
      q.slewLeft = ((time * 10 ^ 9 : Nat) : Int) - ((s.tb.pt.atto + after * 625000000 : Nat) : Int) := by
  simp only [doPpsEdge, harmed, hset, if_false, PlantTime.correct_slewed hsmall, Bool.false_eq_true]
  exact ⟨_, rfl, rfl, rfl, rfl⟩

end

/-! ### The sources settled -/

/-- A safe stop that a REFCLK fault starts ends in a reset, whether or not one runs already (R72, R340). -/
theorem State.startStop_resetAfter (s : State) (cause : Nat) (immediate noFlush : Bool) : (s.startStop cause immediate true noFlush).st.resetAfter = true := by
  simp only [State.startStop]
  split
  · exact Bool.or_true _
  · rfl

theorem State.startStop_of_not_stopping {s : State} (hstill : s.stopping = false) (cause : Nat) (immediate reset noFlush : Bool) :
    (s.startStop cause immediate reset noFlush).st.stopPhase = 1 ∧ (s.startStop cause immediate reset noFlush).st.stopCauses = setBit 0 cause true := by
  have hnot : ¬ (s.st.stopPhase = 1 ∨ s.st.stopPhase = 2) := by simpa [State.stopping] using hstill
  constructor <;> simp only [State.startStop, if_neg hnot]

/-- Settles O35: the rows of the two sources, one branch of each. -/
theorem plantTimeSources : Obligations.PlantTimeSources := by
  unfold Obligations.PlantTimeSources
  refine ⟨fun ident rank interval s huse hnone => ?_, fun d s => rfl, fun g off iv s huse hmaster hset hclock hlow hhigh => ?_, fun g s hmaster hsilent hidle => ?_,
    fun after s hunused harmed hwhole hfew hsure => ?_, fun s hpresent hold hptp => ?_, fun s hacquiring hlong => ?_, fun s => ?_, ?_, ?_, fun after time s hunset harmed hlater => ?_⟩
  · simp [exec, execPtpAnnounce, doPtpAnnounce, huse, hnone]
  · have htaken : doPtpSync off iv s = _ := if_pos ⟨huse, by simp [hmaster]⟩
    obtain ⟨q, hq, hslew, hatto, huse, hpps, -⟩ := State.discipline_slewed (s := { s with tb := { s.tb with pt := { s.tb.pt with syncAge := 0, syncInterval := iv.toNat } } }) (pps := false) (offset := off * 1000000) hclock hset (by omega)
    exact ⟨_, congrArg Host.Outcome.next (htaken.trans hq), rfl, hslew, hatto, huse, hpps⟩
  · simp [exec, execPtpLost, doPtpLost, hmaster, hsilent, hidle]
  · have hon : s.edgeOut after = false := edgeOut_of_onTime (by simp [edgeOffset_of_whole hwhole]) (by simp [edgeOffset_of_whole hwhole])
    have hmay : s.ppsMay = false := by simp [State.ppsMay, hunused]
    have htaken : doPpsEdge after s = s.takeEdge after := (doPpsEdge_of_in harmed hon).trans (if_neg (by simp [hmay]))
    refine ⟨_, congrArg Host.Outcome.next htaken, ?_⟩
    simp only [State.takeEdge, edgeWithin_of_whole hwhole, hfew, hsure]
  · simp [exec, execPpsLost, doPpsLost, hpresent, hold, hptp]
  · simp [exec, execPlantTimeLocked, doPlantTimeLocked, hacquiring, hlong, PlantTime.enter]
  · have htime : (doRefclkFault s).tb.pt = _ := congrArg Timebase.pt (State.startStop_tb _ _ _ _ _)
    refine ⟨doRefclkFault s, rfl, ?_, ?_, ?_, ?_, State.startStop_resetAfter _ _ _ _, fun hstill => State.startStop_of_not_stopping (by exact hstill) 3 false true false⟩
    all_goals rw [htime]
  · intro after off s now hoff hmay hclock hset harmed hlow hhigh
    obtain rfl : off = s.edgeOffset after := hoff
    have hused : doPpsEdge after s = _ := (doPpsEdge_of_in harmed (edgeOut_of_onTime hlow hhigh)).trans (if_pos ⟨hset, hmay⟩)
    obtain ⟨q, hq, hslew, hatto, huse, hpps, hage, hpresent, hfew⟩ := State.discipline_slewed (s := s.takeEdge after) (pps := true) (offset := s.edgeOffset after) hclock hset (hhigh.trans (by norm_num))
    exact ⟨_, congrArg Host.Outcome.next (hused.trans hq), rfl, hslew, hatto, huse, hpps, hage, hpresent, hfew⟩
  · intro after off s now hoff harmed hout hsure hfew
    obtain rfl : off = s.edgeOffset after := hoff
    exact congrArg Host.Outcome.next (doPpsEdge_of_out harmed (edgeOut_of_off hout hsure) hfew)
  · exact congrArg Host.Outcome.next (doPpsEdge_first_set hunset harmed hlater)

/-! ### PLANT_TIME_SET (R68, R432) -/

section
variable {s : State} {time : Nat}

theorem plantTimeSet_armed : plantTimeSet time 1 s = ({ s with tb := { s.tb with pt := { s.tb.pt with armed := some time, armedAge := 0 } } }, acceptedAns) := by
  simp [plantTimeSet]

theorem plantTimeSet_slewed (hset : s.tb.pt.phase ≠ .unset) (hsmall : ((time * 10 ^ 9 : Nat) : Int) - s.tb.pt.atto ≤ 10 ^ 15) :
    plantTimeSet time 0 s = ({ s with tb := { s.tb with pt := { s.tb.pt with
      armed := none, armedAge := 0, slewLeft := ((time * 10 ^ 9 : Nat) : Int) - s.tb.pt.atto
      slewBack := decide (((time * 10 ^ 9 : Nat) : Int) - s.tb.pt.atto < -(10 ^ 15)) || (s.tb.pt.slewBack && decide (((time * 10 ^ 9 : Nat) : Int) - s.tb.pt.atto < 0)) } } }, okAns) := by
  simp only [plantTimeSet, hset, PlantTime.correct_slewed hsmall]
  rfl

theorem plantTimeSet_first (hunset : s.tb.pt.phase = .unset) (hlater : s.tb.pt.ns < time) :
    plantTimeSet time 0 s = (({ s with tb := { s.tb with pt := ({ s.tb.pt with armed := none, armedAge := 0 } : PlantTime).firstSet (time * 10 ^ 9) } }).raise { kind := .timeStep, unit := noUnit }, okAns) := by
  have hlater' : ¬ time ≤ s.tb.pt.atto / 1000000000 := not_le.mpr hlater
  simp [plantTimeSet, PlantTime.ns, hunset, hlater']

theorem plantTimeSet_early (hunset : s.tb.pt.phase = .unset) (hearly : time ≤ s.tb.pt.ns) : plantTimeSet time 0 s = (s, refuseAns stRange 0x0303 255 0) := by
  have hearly' : time ≤ s.tb.pt.atto / 1000000000 := hearly
  simp [plantTimeSet, PlantTime.ns, hunset, hearly']

/-- The first set takes the 64-bit count as it is named. -/
theorem PlantTime.firstSet_ns (p : PlantTime) (time : Nat) : (p.firstSet (time * 10 ^ 9)).ns = time % 2 ^ 64 := by
  show time * 10 ^ 9 % (2 ^ 64 * 10 ^ 9) / 10 ^ 9 = time % 2 ^ 64
  rw [Nat.mul_mod_mul_right, Nat.mul_div_cancel _ (by norm_num)]

end

/-- Settles O37: the branches of PLANT_TIME_SET, of its lapse and of its landing. -/
theorem plantTimeCommands : Obligations.PlantTimeCommands := by
  unfold Obligations.PlantTimeCommands
  refine ⟨fun h time s hr => ?_, fun h time s hr hset hsmall => ?_, fun time s hunset hlater => ?_, fun h time s hr hunset hearly => ?_, fun s harmed hold => ?_, fun h first max s hr => ?_,
    ?_⟩
  · exact answersJ_same rfl hr rfl (.inr rfl) plantTimeSet_armed
  · exact answersJ_same rfl hr rfl (.inl rfl) (plantTimeSet_slewed hset hsmall)
  · exact ⟨plantTimeSet_first hunset hlater, PlantTime.firstSet_ns _ _, rfl⟩
  · exact answersJ_refused rfl hr (by decide) (by decide) (plantTimeSet_early hunset hearly)
  · exact congrArg Host.Outcome.next (if_pos ⟨harmed, hold⟩)
  · exact answers_same rfl hr rfl rfl
  · intro after time s late hset harmed hsmall
    obtain ⟨q, hlanded, hnone, hatto, hslew⟩ := doPpsEdge_landed hset harmed hsmall
    exact ⟨_, congrArg Host.Outcome.next hlanded, rfl, hnone, hatto, hslew⟩

end Sys2Proof.Machine
end

section
/-! SUPPORT. A missed deadline: what it counts, and what it leaves to the stage's fallback (R79, R81). -/

namespace Sys2Proof.Machine
open Sys2Proof

section
variable {s : State} {us : List Nat}

theorem exec_stageDeadlineMiss {k : Nat} (hlow : 1 ≤ k) (hhigh : k ≤ 6) (hbays : ∀ b ∈ missBays k us, b < s.nBays) :
    exec (.stageDeadlineMiss k us) s = .next (doStageDeadlineMiss k us s) := by
  refine if_neg ?_
  simp only [List.any_eq_true, decide_eq_true_eq, not_or, not_exists, not_and, not_le]
  exact ⟨by omega, by omega, hbays⟩

theorem doStageDeadlineMiss_of_running (k : Nat) (hsome : us ≠ []) (hrun : s.tb.running = true) : doStageDeadlineMiss k us s = (s.countMisses k us).dropWork k us :=
  if_neg (by simp [hsome, hrun])

theorem doStageDeadlineMiss_of_idle (k : Nat) (hnone : us = [] ∨ s.tb.running = false) : doStageDeadlineMiss k us s = s :=
  if_pos (by simpa using hnone)

/-- The account of a miss in a stage of the keystone's. -/
theorem State.countMisses_keystone {k : Nat} (hk : k = 4 ∨ k = 5) :
    s.countMisses k us = { s with tb := { s.tb.countMiss k (12 + s.rd.active) with missNow := (s.tb.missNow.1 ||| 2 ^ k, s.tb.missNow.2 ||| 2 ^ (12 + s.rd.active)) } } := by
  rcases hk with rfl | rfl <;> rfl

theorem mem_missBays_two {b : Nat} : b ∈ missBays 2 us ↔ ∃ x ∈ us, posBay x = b := by
  simp [missBays]

/-- The work that the next stage drops lies in the chapters of the stages. -/
theorem State.dropWork_frame (k : Nat) (us : List Nat) (s : State) :
    s.dropWork k us = { s with lk := (s.dropWork k us).lk, rc := (s.dropWork k us).rc, ce := (s.dropWork k us).ce, sp := (s.dropWork k us).sp, xp := (s.dropWork k us).xp, md := (s.dropWork k us).md } := by
  simp only [State.dropWork]
  split <;> rfl

end

/-- Settles O29: a miss is the account and then the dropped work, stage by stage. -/
theorem deadlineMissFallsBack : Obligations.DeadlineMissFallsBack := by
  unfold Obligations.DeadlineMissFallsBack
  refine ⟨fun us s hsome hrun => ?_, fun us s hsome hrun => ?_, fun us s hsome hrun hbays => ?_, fun k u t => rfl, fun k us s hlow hhigh hbays => ⟨_, exec_stageDeadlineMiss hlow hhigh hbays, ?_, doStageDeadlineMiss_of_idle k⟩⟩
  · rw [exec_stageDeadlineMiss (by decide) (by decide) (by simp [missBays]), doStageDeadlineMiss_of_running 4 hsome hrun, State.countMisses_keystone (.inl rfl)]
    rfl
  · rw [exec_stageDeadlineMiss (by decide) (by decide) (by simp [missBays]), doStageDeadlineMiss_of_running 5 hsome hrun, State.countMisses_keystone (.inr rfl)]
    rfl
  · intro ts
    have hfit : ∀ b ∈ missBays 2 us, b < s.nBays := fun b hb => by
      obtain ⟨x, hx, rfl⟩ := mem_missBays_two.mp hb
      exact hbays x hx
    rw [exec_stageDeadlineMiss (by decide) (by decide) hfit, doStageDeadlineMiss_of_running 2 hsome hrun]
    rfl
  · by_cases hnone : us = [] ∨ s.tb.running = false
    · rw [doStageDeadlineMiss_of_idle k hnone]
    · obtain ⟨hsome, hrun⟩ := not_or.mp hnone
      rw [doStageDeadlineMiss_of_running k hsome (Bool.eq_true_of_not_eq_false hrun), State.dropWork_tb]
      exact State.dropWork_frame k us (s.countMisses k us)

end Sys2Proof.Machine
end

section
/-! SUPPORT. The end of stage 1 moves neither the device step nor the redundancy's state, so a keystone that runs goes on (R282, R304, R307). -/

namespace Sys2Proof.Machine
open Sys2Proof

/-! ### The device step -/

/-- An operation that leaves the device step alone. -/
def Unstepped {α : Type} (op : State → α → State) : Prop := ∀ s a, (op s a).st.devStep = s.st.devStep

@[simp] theorem unstepped_iff {α : Type} {op : State → α → State} : Unstepped op ↔ ∀ s a, (op s a).st.devStep = s.st.devStep := Iff.rfl

@[simp] theorem State.ite_devStep (p : Prop) [Decidable p] (s t : State) : (if p then s else t).st.devStep = if p then s.st.devStep else t.st.devStep :=
  apply_ite (fun u : State => u.st.devStep) p s t

@[simp] theorem foldl_devStep {α : Type} {op : State → α → State} (hop : Unstepped op) (l : List α) (s : State) : (l.foldl op s).st.devStep = s.st.devStep := by
  induction l generalizing s with
  | nil => rfl
  | cons a l ih => exact (ih _).trans (hop s a)

@[simp] theorem iter_devStep {op : Nat → State → State} (hop : Unstepped (fun s k => op k s)) (n : Nat) (s : State) : (iter n op s).st.devStep = s.st.devStep :=
  foldl_devStep hop (List.range n) s

section
variable (s : State)

@[simp] theorem State.startBay_devStep (b : Nat) (p : StartPhase) (reason : Nat) : (s.startBay b p reason).st.devStep = s.st.devStep := rfl
@[simp] theorem State.endSync_devStep (reason : Nat) : (s.endSync reason).st.devStep = s.st.devStep := by
  simp only [State.endSync]
  split <;> simp
@[simp] theorem State.sendMsg_devStep (b kind pos : Nat) (payload : List Nat) : (s.sendMsg b kind pos payload).st.devStep = s.st.devStep := rfl
@[simp] theorem State.misroute_devStep (b n : Nat) : (s.misroute b n).st.devStep = s.st.devStep := by simp [State.misroute]
@[simp] theorem State.refuseHub_devStep (b reason : Nat) : (s.refuseHub b reason).st.devStep = s.st.devStep := rfl
@[simp] theorem State.bindEvent_devStep (unit kind brick course hub : Nat) : (s.bindEvent unit kind brick course hub).st.devStep = s.st.devStep := rfl
@[simp] theorem doHello_devStep (b : Nat) (m : HelloMsg) : (doHello b m s).st.devStep = s.st.devStep := by simp [doHello]
@[simp] theorem doRing_devStep (b : Nat) (m : RingMsg) : (doRing b m s).st.devStep = s.st.devStep := by simp [doRing]
@[simp] theorem State.keepImage_devStep (x : Nat) (image : List Nat) : (s.keepImage x image).st.devStep = s.st.devStep := rfl
@[simp] theorem State.closeRecord_devStep (x : Nat) (image : List Nat) : (s.closeRecord x image).st.devStep = s.st.devStep := rfl
@[simp] theorem State.closeBound_devStep (x : Nat) : (s.closeBound x).st.devStep = s.st.devStep := by
  simp only [State.closeBound]
  split <;> simp
@[simp] theorem State.putRecord_devStep (x serial : Nat) (r : Rec) (e : Ext) : (s.putRecord x serial r e).st.devStep = s.st.devStep := rfl
@[simp] theorem State.openRecord_devStep (x serial : Nat) (marked : Bool) : (s.openRecord x serial marked).st.devStep = s.st.devStep := by
  simp only [State.openRecord]
  (repeat' split) <;> simp
@[simp] theorem State.clearRecord_devStep (x : Nat) : (s.clearRecord x).st.devStep = s.st.devStep := rfl
@[simp] theorem State.refuseCourse_devStep (c reason : Nat) : (s.refuseCourse c reason).st.devStep = s.st.devStep := rfl
@[simp] theorem State.refuseUnfitted_devStep (c serial : Nat) : (s.refuseUnfitted c serial).st.devStep = s.st.devStep := rfl
@[simp] theorem State.refuseType_devStep (c ctype : Nat) : (s.refuseType c ctype).st.devStep = s.st.devStep := by simp [State.refuseType]
@[simp] theorem doJoin_devStep (b : Nat) (m : JoinMsg) : (doJoin b m s).st.devStep = s.st.devStep := by simp [doJoin]
@[simp] theorem State.admitHub_devStep (c : Nat) (serials : List Nat) : (s.admitHub c serials).st.devStep = s.st.devStep := by simp [State.admitHub]
@[simp] theorem doSerials_devStep (b : Nat) (m : SerialsMsg) : (doSerials b m s).st.devStep = s.st.devStep := by simp [doSerials]
@[simp] theorem State.takeSlow_devStep (c t v : Nat) : (s.takeSlow c t v).st.devStep = s.st.devStep := by simp [State.takeSlow]
@[simp] theorem State.blockReports_devStep (c st : Nat) : (s.blockReports c st).st.devStep = s.st.devStep := by simp [State.blockReports]
@[simp] theorem State.withdrawNow_devStep (c : Nat) : (s.withdrawNow c).st.devStep = s.st.devStep := rfl
@[simp] theorem State.courseSignals_devStep (c st ctype : Nat) : (s.courseSignals c st ctype).st.devStep = s.st.devStep := by simp [State.courseSignals]
@[simp] theorem State.liveSection_devStep (c t : Nat) (sec : List Nat) (pool : List PoolEntry) : (s.liveSection c t sec pool).st.devStep = s.st.devStep := by simp [State.liveSection]
@[simp] theorem State.takeSections_devStep (b t : Nat) (bs : List Nat) (pool : List PoolEntry) : (s.takeSections b t bs pool).st.devStep = s.st.devStep := by simp [State.takeSections]
@[simp] theorem State.takeCurrents_devStep (b : Nat) (bs : List Nat) : (s.takeCurrents b bs).st.devStep = s.st.devStep := by simp [State.takeCurrents]
@[simp] theorem State.takeMgmt_devStep (b lane t : Nat) (bs : List Nat) (pool : List PoolEntry) (ms : List Mgmt) : (s.takeMgmt b lane t bs pool ms).st.devStep = s.st.devStep := by
  refine (foldl_devStep (fun u m => doJoin_devStep u b _) _ _).trans (foldl_devStep (fun u m => ?_) _ s)
  split <;> simp
@[simp] theorem State.openReport_devStep (b : Nat) : (s.openReport b).st.devStep = s.st.devStep := by simp [State.openReport]
@[simp] theorem State.releaseTrip_devStep (b : Nat) : (s.releaseTrip b).st.devStep = s.st.devStep := by simp [State.releaseTrip]
@[simp] theorem State.breakerReport_devStep (b : Nat) : (s.breakerReport b).st.devStep = s.st.devStep := by
  simp only [State.breakerReport]
  split <;> simp
@[simp] theorem State.acceptFrame_devStep (b lane t e m : Nat) (bs : List Nat) : (s.acceptFrame b lane t e m bs).st.devStep = s.st.devStep := by simp [State.acceptFrame]
@[simp] theorem State.takeFrame_devStep (b lane : Nat) (bs : List Nat) : (s.takeFrame b lane bs).st.devStep = s.st.devStep := by simp [State.takeFrame]
@[simp] theorem State.closeStage1_devStep : s.closeStage1.st.devStep = s.st.devStep := by simp [State.closeStage1]

/-! ### A keystone that runs -/

theorem State.takeFrame_rd (b lane : Nat) (bs : List Nat) : (s.takeFrame b lane bs).rd = s.rd := by
  obtain ⟨-, -, -, -, hrd, -⟩ := s.acceptFrame_report b lane (getLe bs 4 8 % 2 ^ 58) (getLe bs 12 2) (getLe bs 14 2) bs
  exact hrd

theorem State.closeStage1_rd : s.closeStage1.rd = s.rd := by
  have htaken (l : List (Nat × List Nat)) : (l.foldl (fun (t : State) e => if t.frameHere e.1 then t else t.takeFrame e.1 (twin e.1) e.2) s).rd = s.rd := by
    induction l generalizing s with
    | nil => rfl
    | cons e l ih =>
      refine (ih _).trans ?_
      dsimp only
      split
      · rfl
      · exact s.takeFrame_rd _ _ _
  exact htaken _

@[simp] theorem State.closeStage1_ksRuns : s.closeStage1.ksRuns = s.ksRuns := by
  simp only [State.ksRuns, State.ksLive, State.closeStage1_rd, State.closeStage1_devStep]

end

end Sys2Proof.Machine
end

section
/-! SUPPORT. Stage 4: it writes the crosspoint and the ports alone, and the banks, the pending swap and the generation stand (R76, R112, R124 to R126). -/

namespace Sys2Proof.Machine
open Sys2Proof

/-! ### What the parts of stage 4 leave alone -/

/-- What stage 4 takes as it stands: both banks, the pending swap, the generation, the generators, the missed destinations. -/
def Crosspoint.given (x : Crosspoint) : Bank × Bank × Option PendSwap × Nat × Tab Probe × List Nat := (x.act, x.shadow, x.pend, x.generation, x.probes, x.missNext)

/-- `t` differs from `s` in the crosspoint and the ports alone, and what stage 4 is given stands. -/
structure State.InStageFour (s t : State) : Prop where
  frame : t = { s with xp := t.xp, sp := t.sp }
  given : t.xp.given = s.xp.given

namespace State.InStageFour
variable {s t u : State}

theorem refl (s : State) : s.InStageFour s := ⟨rfl, rfl⟩

theorem trans (hst : s.InStageFour t) (htu : t.InStageFour u) : s.InStageFour u :=
  ⟨htu.frame.trans (by rw [hst.frame]), htu.given.trans hst.given⟩

theorem foldl {op : State → Nat → State} (hop : ∀ u k, InStageFour u (op u k)) (l : List Nat) (s : State) : s.InStageFour (l.foldl op s) := by
  induction l generalizing s with
  | nil => exact .refl s
  | cons k l ih => exact (hop s k).trans (ih _)

theorem ite {p : Prop} [Decidable p] (ht : s.InStageFour t) (hu : s.InStageFour u) : s.InStageFour (if p then t else u) := by
  split
  · exact ht
  · exact hu

end State.InStageFour

section
variable (s : State)

theorem State.dampStage_inStageFour (k : Nat) : s.InStageFour (s.dampStage k) := ⟨rfl, rfl⟩
theorem State.destStage_inStageFour (d : Nat) : s.InStageFour (s.destStage d) := ⟨rfl, rfl⟩
theorem State.idleTick_inStageFour (b : Nat) : s.InStageFour (s.idleTick b) := ⟨rfl, rfl⟩

theorem State.dmaRow_inStageFour : s.InStageFour s.dmaRow := .ite ⟨rfl, rfl⟩ ⟨rfl, rfl⟩

/-- Stage 4 begins with the generators' tick. -/
def State.probesTicked (s : State) : State := { s with xp := { s.xp with probes := iter 8 (fun k t => tmod {} t k Probe.tick) s.xp.probes } }

/-- Stage 4 up to its destinations. -/
def State.destsRun (s : State) : State :=
  let t := iter 4 (fun k (u : State) => u.dampStage k) s.probesTicked
  t.destList.foldl State.destStage t

/-- Every missed destination has had its fallback (R79). -/
def State.missesTaken (s : State) : State := { s with xp := { s.xp with missNext := [] } }

theorem State.destsRun_inStageFour : s.probesTicked.InStageFour s.destsRun :=
  .trans (.foldl State.dampStage_inStageFour (List.range 4) _) (.foldl State.destStage_inStageFour _ _)

theorem doCrosspointStage_inStageFour (hruns : s.ksRuns = true) : s.destsRun.missesTaken.InStageFour (doCrosspointStage s) := by
  have hidle := State.InStageFour.foldl State.idleTick_inStageFour s.destsRun.allBays s.destsRun.missesTaken
  have hsplit : doCrosspointStage s = let t := s.destsRun.allBays.foldl State.idleTick s.destsRun.missesTaken; if t.saving then t else t.dmaRow := if_neg (by simp [hruns])
  exact hsplit ▸ .ite hidle (hidle.trans (State.dmaRow_inStageFour _))

end

theorem State.closeStage1_of_none {s : State} (hnone : s.lk.held = []) : s.closeStage1 = s := by
  simp only [State.closeStage1, hnone, List.foldl_nil]
  rw [← hnone]

/-- A burst whose last cycle has passed ramps down and is done (R125). -/
theorem doProbeBurstEnd_due {s : State} {k : Nat} (hrun : (tget {} s.xp.probes k).phase = .run) (hburst : (tget {} s.xp.probes k).words.getD 6 0 ≠ 0)
    (hlast : (tget {} s.xp.probes k).words.getD 6 0 ≤ (tget {} s.xp.probes k).cycles) (hidx : s.tb.idx = 0) :
    doProbeBurstEnd k s = { s with xp := { s.xp with probes := tset {} s.xp.probes k { (tget {} s.xp.probes k).down with done := true } } } :=
  if_pos ⟨hrun, hburst, hlast, hidx⟩

/-- Settles O15: each part of stage 4 writes the crosspoint or the ports and leaves what it is given. -/
theorem crosspointStageRuns : Obligations.CrosspointStageRuns := by
  unfold Obligations.CrosspointStageRuns
  refine ⟨?_, fun s hnone => ?_, fun s hnone => State.closeStage1_of_none hnone, fun k s hk hrun hburst hlast hidx => ?_⟩
  · intro s hruns u
    have hruns' : u.ksRuns = true := s.closeStage1_ksRuns.trans hruns
    have hdests := u.destsRun_inStageFour
    have hstage := doCrosspointStage_inStageFour u hruns'
    have hgiven := hdests.given
    have hgiven' := hstage.given
    simp only [Crosspoint.given, Prod.mk.injEq] at hgiven hgiven'
    obtain ⟨hact, hshadow, hpend, hgen, hprobes, -⟩ := hgiven
    obtain ⟨hact', hshadow', hpend', hgen', hprobes', hmiss⟩ := hgiven'
    refine ⟨_, rfl, ?_, hact'.trans hact, hshadow'.trans hshadow, hpend'.trans hpend, hgen'.trans hgen, hmiss, hprobes'.trans hprobes⟩
    refine hstage.frame.trans ?_
    simp only [State.missesTaken]
    rw [hdests.frame]
    rfl
  · have hnot : s.closeStage1.ksRuns = false := s.closeStage1_ksRuns.trans hnone
    exact congrArg Host.Outcome.next (if_pos (by simp [hnot]))
  · exact (if_neg (by omega)).trans (congrArg Host.Outcome.next (doProbeBurstEnd_due hrun hburst hlast hidx))

end Sys2Proof.Machine
end

section
/-! SUPPORT. Stage 6 and a synchronisation: a bay that the flywheel floats in stage 6 leaves its synchronisation, so the stage changes the start's records too (R308, R309, R336, log 138). -/

namespace Sys2Proof.Machine
open Sys2Proof

section
variable (s : State)

/-! ### What stage 6 does to the start's records -/

theorem foldl_st {α : Type} {op : State → α → State} (hop : ∀ u a, (op u a).st = u.st) (l : List α) : (l.foldl op s).st = s.st := by
  induction l generalizing s with
  | nil => rfl
  | cons a l ih => exact (ih _).trans (hop s a)

theorem State.freezeTick_st : s.freezeTick.st = s.st := by
  simp only [State.freezeTick]
  split_ifs <;> rfl

theorem State.modulatePier_st (p : Nat) : (s.modulatePier p).st = s.st := by
  simp only [State.modulatePier]
  split
  · rfl
  · split <;> rfl

theorem State.composeDown_st (b : Nat) : (s.composeDown b).st = s.st := by
  simp only [State.composeDown]
  split_ifs <;> rfl

theorem State.sendLane_st (b : Nat) : (s.sendLane b).st = s.st := rfl

/-- Of the parts of stage 6 the flywheel's alone writes the start's records. -/
theorem doModulationFrames_st (hrun : s.tb.running = true) : (doModulationFrames s).st = s.flyTick.st := by
  have hstill : ¬ ¬ s.tb.running = true := not_not.mpr hrun
  simp only [doModulationFrames, if_neg hstill, doModulationStage]
  refine (foldl_st _ State.sendLane_st _).trans ((foldl_st _ State.composeDown_st _).trans ?_)
  exact (foldl_st _ State.modulatePier_st _).trans (State.freezeTick_st _)

end

/-- A bay that synchronises and is floated by the flywheel leaves its synchronisation (R309, log 138). -/
theorem State.flyFloat_sync {s : State} {y : Sync} {bs : List Nat} (hsync : s.st.sync = some y) (hopen : y.closed = false) (hmem : y.bay ∈ bs) : (s.flyFloat bs).st.sync = none := by
  have hfloated : bs ≠ [] := List.ne_nil_of_mem hmem
  have hsyncing : bs.any s.syncingBay = true := List.any_eq_true.mpr ⟨_, hmem, by simp [State.syncingBay, hsync]⟩
  have hends (md : Modulator) (rd : Redundancy) : ({ s with md := md, rd := rd } : State).endSyncOf bs = ({ s with md := md, rd := rd } : State).endSync 0 := if_pos hsyncing
  simp only [State.flyFloat, if_neg hfloated, hends, State.endSync, hsync, hopen]
  rfl

/-- A drive table that was never filled floats its bay as the flywheel begins (R308, R309). -/
theorem State.flyTick_sync {s : State} {y : Sync} {k : Nat} (hnone : s.targetsHere = false) (hsync : s.st.sync = some y) (hopen : y.closed = false)
    (hbay : y.bay < s.nBays) (hk : k < 3) (hgap : s.driveGap (3 * y.bay + k) = true) : s.flyTick.st.sync = none := by
  have hgaps (rd : Redundancy) (hdrive : rd.drive = s.rd.drive) : ({ s with rd := rd } : State).driveGap (3 * y.bay + k) = true := by
    change (s.pierRuns (3 * y.bay + k) && !decide ((trange rd.drive ((3 * y.bay + k) * 800) 800).length = 800)) = true
    rwa [hdrive]
  have hbegins : ¬ (s.targetsHere = true ∧ ¬ s.rd.flywheel = true) := by simp [hnone]
  simp only [State.flyTick, if_neg hbegins]
  refine State.flyFloat_sync hsync hopen (List.mem_append_left _ (List.mem_filter.mpr ⟨List.mem_range.mpr hbay, List.any_eq_true.mpr ⟨k, List.mem_range.mpr hk, hgaps _ ?_⟩⟩))
  split <;> rfl

/-! ### The state of the counterexample -/

/-- A live pier of bay 0, whose drive table is empty, while bay 0 synchronises and no keystone gives targets. -/
def syncingInFlywheel : State := 
  { State.reset with tb.running := true, st.devStep := 7, st.sync := some { bay := 0 }, st.bays := [(0, { phase := .syncing })]
                     md.piers := [(0, { mode := .enabled })], xp.act.rows := [(rowKey 0x0601 0 0, [1])] }

theorem syncingInFlywheel_gap : syncingInFlywheel.driveGap 0 = true := by decide

/-- Refutes O47: a bay that synchronises with an empty drive table is floated as the flywheel begins, and the stage ends its synchronisation, which the statement's frame does not list. -/
theorem not_freezeAndStageRows : ¬ Obligations.FreezeAndStageRows := by
  unfold Obligations.FreezeAndStageRows
  rintro ⟨-, -, -, -, -, -, -, hstage, -⟩
  obtain ⟨t, hexec, hframe, -⟩ := hstage syncingInFlywheel rfl
  have ht : t = doModulationFrames syncingInFlywheel := (Host.Outcome.next.inj hexec).symm
  have hkept : t.st = syncingInFlywheel.st := by rw [hframe]
  have hended : syncingInFlywheel.flyTick.st.sync = none :=
    State.flyTick_sync (y := { bay := 0 }) (k := 0) rfl rfl rfl (by decide) (by decide) syncingInFlywheel_gap
  rw [← doModulationFrames_st _ rfl, ← ht, hkept] at hended
  cases hended

end Sys2Proof.Machine
end

section
/-! SUPPORT. The list-form staging commands and STREAM_DMA_CONFIG, case by case: what each takes and what refuses it (R100, R115, R118, R129, R146, R343, R424, R428). -/

namespace Sys2Proof.Machine
open Sys2Proof

/-! ### What the staging commands check -/

/-- Only a value within the limits stands where it is limited. -/
theorem clampI_eq_self_iff {lo hi x : Int} : clampI lo hi x = x ↔ lo ≤ x ∧ x ≤ hi := by
  unfold clampI
  split_ifs <;> omega

/-- A gain's range is that of Q2.22 in 24 bits (R115). -/
theorem satS_gain_iff {x : Int} : satS 24 x = x ↔ -8388608 ≤ x ∧ x ≤ 8388607 :=
  clampI_eq_self_iff

theorem State.stagingClosed_iff {s : State} : s.stagingClosed = true ↔ s.xp.pend.isSome = true ∨ s.stopping = true := by
  simp [State.stagingClosed]

/-- An entry of XP_GAIN_SET has every field in range (R115, R428). -/
def State.takesGain (s : State) (e : GainEntry) : Bool :=
  s.destOk e.dest && decide (e.src < 64) && decide (e.path < 2) && (satS 24 (signedOf 32 e.gain) == signedOf 32 e.gain)

theorem State.takesGain_iff {s : State} {e : GainEntry} :
    s.takesGain e = true ↔ s.destOk e.dest = true ∧ e.src < 64 ∧ e.path < 2 ∧ -8388608 ≤ signedOf 32 e.gain ∧ signedOf 32 e.gain ≤ 8388607 := by
  simp [State.takesGain, satS_gain_iff, and_assoc]

/-- An entry with a field out of range is not taken. -/
theorem State.takesGain_eq_false {s : State} {e : GainEntry}
    (hbad : s.destOk e.dest = false ∨ 64 ≤ e.src ∨ 2 ≤ e.path ∨ signedOf 32 e.gain < -8388608 ∨ 8388607 < signedOf 32 e.gain) : s.takesGain e = false := by
  refine Bool.eq_false_iff.mpr fun htakes => ?_
  obtain ⟨hdest, hsrc, hpath, hlow, hhigh⟩ := State.takesGain_iff.mp htakes
  rcases hbad with hd | hbad
  · rw [hdest] at hd; cases hd
  · omega

/-! ### XP_GAIN_SET (R115, R428) -/

/-- The bank with each listed node's gain and path bit written, in the list's order. -/
def Bank.withGains (b : Bank) (es : List GainEntry) : Bank :=
  es.foldl (fun b e => { b with nodes := tset {} b.nodes (e.dest * 64 + e.src) { gain := signedOf 32 e.gain, direct := e.path == 1 } }) b

section
variable {h : Hdr} {es : List GainEntry} {s : State}

theorem gainSet_of_closed (hclosed : s.stagingClosed = true) : gainSet h es s = (s, refuseAns stState 0x0501 255 0) := if_pos hclosed

theorem gainSet_of_count (hopen : s.stagingClosed = false) (hcount : es = [] ∨ (if h.udp then 177 else 505) < es.length) :
    gainSet h es s = (s, refuseAns stRange 0x0501 255 0) := by
  simp only [gainSet, hopen, List.isEmpty_iff, hcount, if_true, Bool.false_eq_true, if_false]

/-- With a count the packet holds, the first entry that is not taken decides. -/
theorem gainSet_of_find {found : Option GainEntry} (hopen : s.stagingClosed = false) (hsome : es ≠ []) (hfit : es.length ≤ (if h.udp then 177 else 505))
    (hfind : es.find? (fun e => !s.takesGain e) = found) : gainSet h es s = found.elim
      (s.stage h.slot (s.xp.shadow.withGains es) (es.map (fun e => itemNode e.dest e.src)), okAns)
      (fun e => (s, refuseAns stRange 0x0501 255 e.dest)) := by
  have hcount : ¬ (es.isEmpty = true ∨ (if h.udp then 177 else 505) < es.length) := by simp [hsome, hfit]
  unfold State.takesGain at hfind
  simp only [gainSet, hopen, Bool.false_eq_true, if_false, if_neg hcount, hfind]
  cases found <;> rfl

theorem gainSet_of_takes (hopen : s.stagingClosed = false) (hsome : es ≠ []) (hfit : es.length ≤ (if h.udp then 177 else 505)) (htakes : ∀ e ∈ es, s.takesGain e = true) :
    gainSet h es s = (s.stage h.slot (s.xp.shadow.withGains es) (es.map (fun e => itemNode e.dest e.src)), okAns) :=
  gainSet_of_find (found := none) hopen hsome hfit (List.find?_eq_none.mpr fun e he => by simp [htakes e he])

theorem gainSet_of_bad_head {e : GainEntry} (hopen : s.stagingClosed = false) (hfit : (e :: es).length ≤ (if h.udp then 177 else 505)) (hbad : s.takesGain e = false) :
    gainSet h (e :: es) s = (s, refuseAns stRange 0x0501 255 e.dest) :=
  gainSet_of_find (found := some e) hopen (List.cons_ne_nil e es) hfit (List.find?_cons_of_pos (by simp [hbad]))

end

/-! ### XP_SHAPE_SET (R118, R428) -/

section
variable {h : Hdr} {dest first count : Nat} {coefs : List Nat} {s : State}

theorem shapeSet_of_closed (hclosed : s.stagingClosed = true) : shapeSet h dest first count coefs s = (s, refuseAns stState 0x0502 255 dest) := if_pos hclosed

theorem shapeSet_of_length (hopen : s.stagingClosed = false) (hlength : coefs.length ≠ 5 * count) :
    shapeSet h dest first count coefs s = (s, refuseAns stBadLength 0x0502 255 dest) := by
  simp only [shapeSet, hopen, Bool.false_eq_true, if_false, if_pos hlength]

theorem shapeSet_of_dest (hopen : s.stagingClosed = false) (hlength : coefs.length = 5 * count) (hdest : s.destOk dest = false) :
    shapeSet h dest first count coefs s = (s, refuseAns stRange 0x0502 255 dest) := by
  simp [shapeSet, hopen, hlength, hdest]

theorem shapeSet_of_sections (hopen : s.stagingClosed = false) (hlength : coefs.length = 5 * count) (hdest : s.destOk dest = true) (hbad : count = 0 ∨ 4 < first + count) :
    shapeSet h dest first count coefs s = (s, refuseAns stRange 0x0502 first dest) := by
  have hrange : 3 < first ∨ count = 0 ∨ 4 < first + count := .inr hbad
  simp only [shapeSet, hopen, hlength, hdest, Bool.false_eq_true, ne_eq, not_true_eq_false, if_false, if_pos hrange]

theorem shapeSet_of_takes (hopen : s.stagingClosed = false) (hlength : coefs.length = 5 * count) (hdest : s.destOk dest = true) (hsome : 1 ≤ count) (hfit : first + count ≤ 4) :
    shapeSet h dest first count coefs s =
      (s.stage h.slot ((sections count coefs).zipIdx.foldl (fun (b : Bank) q => { b with shapes := tset {} b.shapes (dest * 4 + first + q.2) q.1 }) s.xp.shadow)
        ((List.range count).map (fun k => itemSection dest (first + k))), okAns) := by
  have hrange : ¬ (3 < first ∨ count = 0 ∨ 4 < first + count) := by omega
  simp only [shapeSet, hopen, hlength, hdest, Bool.false_eq_true, ne_eq, not_true_eq_false, if_false, if_neg hrange]

end

/-! ### CE_LAW_SET (R146, R428) -/

section
variable {h : Hdr} {bay b law count shift : Nat} {coefs : List Nat} {s : State}

theorem lawSet_of_closed (hclosed : s.stagingClosed = true) : lawSet h bay law count shift coefs s = (s, refuseAns stState 0x0602 255 bay) := if_pos hclosed

theorem lawSet_of_length (hopen : s.stagingClosed = false) (hlength : coefs.length ≠ 5 * count) :
    lawSet h bay law count shift coefs s = (s, refuseAns stBadLength 0x0602 255 bay) := by
  simp only [lawSet, hopen, Bool.false_eq_true, if_false, if_pos hlength]

theorem lawSet_of_range (hopen : s.stagingClosed = false) (hlength : coefs.length = 5 * count) (hbay : b < s.nBays)
    (hbad : 11 ≤ law ∨ 8 < count ∨ signedOf 8 shift < -8 ∨ 8 < signedOf 8 shift) :
    lawSet h (bayUid b) law count shift coefs s = (s, refuseAns stRange 0x0602 law (bayUid b)) := by
  have hrange : 10 < law ∨ 8 < count ∨ signedOf 8 shift < -8 ∨ 8 < signedOf 8 shift := hbad
  simp only [lawSet, checkLevel_bay s.nBays_le hbay, hopen, hlength, Bool.false_eq_true, ne_eq, not_true_eq_false, if_false, if_pos hrange]

theorem lawSet_of_takes (hopen : s.stagingClosed = false) (hlength : coefs.length = 5 * count) (hbay : b < s.nBays) (hlaw : law ≤ 10) (hcount : count ≤ 8)
    (hlow : -8 ≤ signedOf 8 shift) (hhigh : signedOf 8 shift ≤ 8) :
    lawSet h (bayUid b) law count shift coefs s =
      (s.stage h.slot { s.xp.shadow with laws := tset {} s.xp.shadow.laws (b * 11 + law) { shift := signedOf 8 shift, secs := sections count coefs } } [itemLaw b law], okAns) := by
  have hrange : ¬ (10 < law ∨ 8 < count ∨ signedOf 8 shift < -8 ∨ 8 < signedOf 8 shift) := by omega
  simp only [lawSet, checkLevel_bay s.nBays_le hbay, hopen, hlength, Bool.false_eq_true, ne_eq, not_true_eq_false, if_false, if_neg hrange]

end

/-! ### The row form and STREAM_DMA_CONFIG (R100, R424) -/

section
variable {slot op : Nat} {g : Stg} {s : State} {sp : StagedSpec}

theorem stageRows_of_closed (hspec : stagedSpec op = some sp) (hclosed : s.stagingClosed = true) : stageRows slot op g s = (s, refuseAns stState op 255 g.target) := by
  simp only [stageRows, hspec, if_pos hclosed]

/-- Rows that are taken are staged whole. -/
theorem stageRows_of_takes (htakes : takesRows sp op g s) :
    stageRows slot op g s = (s.stage slot (stagedBank sp op g s) ((stageTargets s.nBays sp.target g.target).2.flatMap (fun i => rowItems op i g.mask sp.rows.length)), okAns) := by
  obtain ⟨hspec, hopen, hlength, htarget, hmask, hgood⟩ := htakes
  unfold firstBad stagedBank at hgood
  simp only [stageRows, hspec, hopen, hlength, htarget, Nat.not_le.mpr hmask, hgood, Bool.false_eq_true, ne_eq, not_true_eq_false, if_false, stagedBank]

/-- A live slot other than `slot` owns the rings (R100). -/
def State.ringsTaken (s : State) (slot : Nat) : Prop := ∃ o, s.sp.dma.owner = some o ∧ o ≠ slot ∧ (s.slot o).live = true

theorem stageDma_of_taken (htaken : s.ringsTaken slot) : stageDma slot g s = (s, refuseAns stState 0x0406 255 g.target) := by
  obtain ⟨o, howner, hother, hlive⟩ := htaken
  simp [stageDma, howner, hother, hlive]

/-- Where the rings are to be had the rows are staged, and a sender whose rows are taken is noted. -/
theorem stageDma_of_free (hfree : ¬ s.ringsTaken slot) : stageDma slot g s =
    if (stageRows slot 0x0406 g s).2.status = stOk then
      ({ (stageRows slot 0x0406 g s).1 with xp := { (stageRows slot 0x0406 g s).1.xp with dmaStager := some slot } }, (stageRows slot 0x0406 g s).2)
    else stageRows slot 0x0406 g s := by
  refine if_neg ?_
  cases howner : s.sp.dma.owner with
  | none => simp
  | some o => simpa [State.ringsTaken, howner] using hfree

theorem stageDma_of_takes (hfree : ¬ s.ringsTaken slot) (htakes : takesRows sp 0x0406 g s) :
    let u := s.stage slot (stagedBank sp 0x0406 g s) ((stageTargets s.nBays sp.target g.target).2.flatMap (fun i => rowItems 0x0406 i g.mask sp.rows.length))
    stageDma slot g s = ({ u with xp := { u.xp with dmaStager := some slot } }, okAns) := by
  intro u
  rw [stageDma_of_free hfree, stageRows_of_takes htakes]
  rfl

theorem stageDma_of_closed (hfree : ¬ s.ringsTaken slot) (hclosed : s.stagingClosed = true) : stageDma slot g s = (s, refuseAns stState 0x0406 255 g.target) := by
  rw [stageDma_of_free hfree, stageRows_of_closed rfl hclosed]
  rfl

end

/-- Settles O10, command by command. -/
theorem stagedListsEnterShadow : Obligations.StagedListsEnterShadow := by
  unfold Obligations.StagedListsEnterShadow
  refine ⟨fun h es s hr hopen hsome hfit hgood => ?gains, fun h dest first count coefs s hr hopen hlength hdest hsome hfit => ?shapes,
    fun h b law count shift coefs s hr hopen hlength hbay hlaw hcount hlow hhigh => ?law, fun h g s sp hr htakes howner => ?dma,
    fun h es dest first count b law shift coefs s hslot hgain hshape hlaw hclosed => ?closed, fun h es s hr hopen hcount => ?gainCount, fun h e es s hr hopen hfit hbad => ?gainRange,
    fun h dest first count coefs s hr hopen hlength => ?shapeLength, fun h dest first count coefs s hr hopen hlength hdest => ?shapeDest,
    fun h dest first count coefs s hr hopen hlength hdest hbad => ?shapeRange, fun h b law count shift coefs s hr hopen hlength => ?lawLength,
    fun h b law count shift coefs s hr hopen hlength hbay hbad => ?lawRange, fun h g s o hr howner hother hlive => ?dmaTaken, fun h g s hr hnone hclosed => ?dmaClosed⟩
  case gains => exact answers_same rfl hr rfl (gainSet_of_takes hopen hsome hfit fun e he => State.takesGain_iff.mpr (hgood e he))
  case shapes => exact answers_same rfl hr rfl (shapeSet_of_takes hopen hlength hdest hsome hfit)
  case law => exact answers_same rfl hr rfl (lawSet_of_takes hopen hlength hbay hlaw hcount hlow hhigh)
  case dma =>
    have hfree : ¬ s.ringsTaken h.slot := by
      rintro ⟨o, ho, hother, hlive⟩
      rcases howner o ho with hsame | hdead
      · exact hother hsame
      · rw [hlive] at hdead; cases hdead
    exact answers_same rfl hr rfl (stageDma_of_takes hfree htakes)
  case closed =>
    have hclosed' : s.stagingClosed = true := State.stagingClosed_iff.mpr hclosed
    exact ⟨answers_same rfl ⟨hgain, hslot⟩ rfl (gainSet_of_closed hclosed'), answers_same rfl ⟨hshape, hslot⟩ rfl (shapeSet_of_closed hclosed'),
      answers_same rfl ⟨hlaw, hslot⟩ rfl (lawSet_of_closed hclosed')⟩
  case gainCount => exact answers_same rfl hr rfl (gainSet_of_count hopen hcount)
  case gainRange => exact answers_same rfl hr rfl (gainSet_of_bad_head hopen hfit (State.takesGain_eq_false hbad))
  case shapeLength => exact answers_same rfl hr rfl (shapeSet_of_length hopen hlength)
  case shapeDest => exact answers_same rfl hr rfl (shapeSet_of_dest hopen hlength hdest)
  case shapeRange => exact answers_same rfl hr rfl (shapeSet_of_sections hopen hlength hdest hbad)
  case lawLength => exact answers_same rfl hr rfl (lawSet_of_length hopen hlength)
  case lawRange => exact answers_same rfl hr rfl (lawSet_of_range hopen hlength hbay hbad)
  case dmaTaken => exact answers_same rfl hr rfl (stageDma_of_taken ⟨o, howner, hother, hlive⟩)
  case dmaClosed =>
    have hfree : ¬ s.ringsTaken h.slot := by simp [State.ringsTaken, hnone]
    exact answers_same rfl hr rfl (stageDma_of_closed hfree (State.stagingClosed_iff.mpr hclosed))

end Sys2Proof.Machine
end

section
/-! SUPPORT. Serial ports and sampled-values streams, row by row (R90 to R92, R95 to R99). -/

namespace Sys2Proof.Machine
open Sys2Proof

/-! ### The resampler's FIFO (R91, R92) -/

/-- A FIFO with room takes a frame. -/
theorem Resampler.push_fifo {r : Resampler} {d : Nat} (f : List Int) (hroom : r.fifo.length < d) : (r.push d f).fifo = f :: r.fifo := by
  simp only [Resampler.push, if_pos hroom]

/-- Half the depth is left of a full FIFO, and put into an empty one. -/
theorem Resampler.recentre_length {r : Resampler} {d : Nat} {full : Bool} (hslip : if full then d ≤ r.fifo.length else r.fifo = []) :
    (r.recentre d full).fifo.length = d / 2 := by
  cases full with
  | true =>
    have hfull : d ≤ r.fifo.length := hslip
    simp only [Resampler.recentre, if_true, List.length_take]
    omega
  | false =>
    have hempty : r.fifo = [] := hslip
    simp [Resampler.recentre, hempty]

/-! ### Serial frames and slips (R90 to R92) -/

section
variable {port : Nat} {words : List Nat} {full : Bool} {s : State}

theorem exec_sspRxFrame (hport : port < 2) : exec (.sspRxFrame port words) s = .next (doSspRxFrame port words s) := if_neg (Nat.not_le.mpr hport)

theorem exec_sspRxSlip (hport : port < 2) : exec (.sspRxSlip port full) s = .next (doSspRxSlip port full s) := if_neg (Nat.not_le.mpr hport)

theorem doSspRxFrame_of_disabled (hoff : s.prm 0x0404 port 0 0 = 0) : doSspRxFrame port words s = s := if_pos hoff

theorem doSspRxSlip_of_disabled (hoff : s.prm 0x0404 port 0 0 = 0) : doSspRxSlip port full s = s := if_pos hoff

/-- A frame of the declared length enters its port's FIFO, as Q2.22 (R90, R91). -/
theorem doSspRxFrame_taken (hon : s.prm 0x0404 port 0 0 ≠ 0) (hlength : words.length = 4 * s.prm 0x0404 port 1 0) (hroom : (tget {} s.sp.serial port).res.fifo.length < s.prm 0x0404 port 2 0) :
    ∃ q : SerialPort, doSspRxFrame port words s = { s with sp := { s.sp with serial := tset {} s.sp.serial port q } } ∧
      q.res.fifo = words.map (fun w => divRne (slotSample w) 2) :: (tget {} s.sp.serial port).res.fifo := by
  simp only [doSspRxFrame, if_neg hon, hlength, ne_eq, not_true_eq_false, if_false]
  exact ⟨_, rfl, (Resampler.push_fifo _ hroom).trans (by rw [List.map_map]; rfl)⟩

/-- A frame of another length counts, and enters no FIFO (log 8). -/
theorem doSspRxFrame_refused (hon : s.prm 0x0404 port 0 0 ≠ 0) (hlength : words.length ≠ 4 * s.prm 0x0404 port 1 0) :
    ∃ q : SerialPort, doSspRxFrame port words s = { s with sp := { s.sp with serial := tset {} s.sp.serial port q } } ∧ q.res = (tget {} s.sp.serial port).res := by
  simp only [doSspRxFrame, if_neg hon, if_pos hlength]
  exact ⟨_, rfl, rfl⟩

/-- A slip needs a FIFO that is full or empty. -/
theorem doSspRxSlip_taken (hon : s.prm 0x0404 port 0 0 ≠ 0)
    (hslip : if full then s.prm 0x0404 port 2 0 ≤ (tget {} s.sp.serial port).res.fifo.length else (tget {} s.sp.serial port).res.fifo = []) :
    doSspRxSlip port full s = { s with sp := { s.sp with serial := tset {} s.sp.serial port { (tget {} s.sp.serial port : SerialPort) with
      res := (tget {} s.sp.serial port).res.recentre (s.prm 0x0404 port 2 0) full, slip := true, slips := incSat 32 (tget {} s.sp.serial port).slips, slipTick := true, clipRun := [] } } } := by
  have hdue : ¬ (if full then (tget {} s.sp.serial port).res.fifo.length < s.prm 0x0404 port 2 0 else (tget {} s.sp.serial port).res.fifo ≠ []) := by
    cases full with
    | true => exact Nat.not_lt.mpr hslip
    | false => exact not_not.mpr hslip
  simp only [doSspRxSlip, if_neg hon, if_neg hdue, incSat]

end

/-! ### Sampled values (R96, R99) -/

/-- Steps that each leave the value alone leave it alone in a row. -/
theorem iter_eq_self {α : Type} {n : Nat} {f : Nat → α → α} {a : α} (hstill : ∀ k < n, f k a = a) : iter n f a = a := by
  induction n with
  | zero => rfl
  | succ n ih => rw [iter_succ, ih fun k hk => hstill k (Nat.lt_succ_of_lt hk), hstill n (Nat.lt_succ_self n)]

/-- An ASDU that no stream subscribes to is taken by none (R96). -/
theorem doSvAsdu_of_unmatched {a : Asdu} {s : State} (hnone : ∀ k < 8, s.svMatches k a = false) : doSvAsdu a s = s := by
  simp only [doSvAsdu]
  rw [iter_eq_self fun k hk => by simp [hnone k hk]]

theorem exec_svStreamTimeout {k : Nat} {s : State} (hk : k < 8) : exec (.svStreamTimeout k) s = .next (doSvStreamTimeout k s) := if_neg (Nat.not_le.mpr hk)

/-- Four absent counts time the stream out, and a source that it held up starts its count again (R55, R99). -/
theorem doSvStreamTimeout_of_absent {k : Nat} {s : State} (habsent : 4 ≤ (tget {} s.sp.sv k).absent) :
    doSvStreamTimeout k s = ({ s with sp := { s.sp with sv := tset {} s.sp.sv k { (tget {} s.sp.sv k : SvStream) with timedOut := true, absent := 0 } } }).requalify :=
  if_pos (.inl habsent)

/-- Settles O39, row by row. -/
theorem serialAndSvRows : Obligations.SerialAndSvRows := by
  unfold Obligations.SerialAndSvRows
  refine ⟨fun port words s hport hon hlength hroom => ?frame, fun port words s hport hon hlength => ?otherLength, fun port full s hport hon hslip => ?slip,
    fun a s hnone => congrArg _ (doSvAsdu_of_unmatched hnone), fun a s => rfl, fun k s hk habsent => ?timeout, fun port words full s hport hoff => ?disabled⟩
  case frame =>
    obtain ⟨q, htaken, hfifo⟩ := doSspRxFrame_taken hon hlength hroom
    exact ⟨q, (exec_sspRxFrame hport).trans (congrArg _ htaken), hfifo⟩
  case otherLength =>
    obtain ⟨q, hcounted, hres⟩ := doSspRxFrame_refused hon hlength
    exact ⟨q, (exec_sspRxFrame hport).trans (congrArg _ hcounted), hres⟩
  case slip => exact ⟨_, (exec_sspRxSlip hport).trans (congrArg _ (doSspRxSlip_taken hon hslip)), rfl, rfl, rfl, Resampler.recentre_length hslip⟩
  case timeout => exact ⟨_, (exec_svStreamTimeout hk).trans (congrArg _ (doSvStreamTimeout_of_absent habsent)), rfl, rfl⟩
  case disabled => exact ⟨(exec_sspRxFrame hport).trans (congrArg _ (doSspRxFrame_of_disabled hoff)), (exec_sspRxSlip hport).trans (congrArg _ (doSspRxSlip_of_disabled hoff))⟩

end Sys2Proof.Machine
end

section
/-! SUPPORT. The host's DMA rings: the indices it writes, and the blocks of both directions (R100 to R104, R405, R528). -/

namespace Sys2Proof.Machine
open Sys2Proof

/-! ### The indices (R100, R528) -/

section
variable {index : Nat} {s : State}

/-- A write of an index that is not taken is counted. -/
def State.countBadIndex (s : State) : State := { s with sp := { s.sp with dma := { s.sp.dma with bad := satU 32 (s.sp.dma.bad + 1) } } }

theorem doSpDmaInProd_of_off (hoff : s.dmaOn = false) : doSpDmaInProd index s = s := if_pos (by simp [hoff])

theorem doSpDmaOutCons_of_off (hoff : s.dmaOn = false) : doSpDmaOutCons index s = s := if_pos (by simp [hoff])

/-- Each posted block is noted with the tick it was posted in. -/
theorem doSpDmaInProd_taken (hon : s.dmaOn = true) (hstep : (index + 2 ^ 32 - s.sp.dma.inProd) % 2 ^ 32 < 2 ^ 31)
    (hfit : (index + 2 ^ 32 - s.sp.dma.inCons) % 2 ^ 32 ≤ 2 ^ s.prm 0x0406 0 2 2) :
    doSpDmaInProd index s = { s with sp := { s.sp with dma := { s.sp.dma with
      inProd := index % 2 ^ 32, posted := s.sp.dma.posted ++ List.replicate ((index + 2 ^ 32 - s.sp.dma.inProd) % 2 ^ 32) s.absTick } } } := by
  have hgood : ¬ (2 ^ 31 ≤ (index + 2 ^ 32 - s.sp.dma.inProd) % 2 ^ 32 ∨ 2 ^ s.prm 0x0406 0 2 2 < (index + 2 ^ 32 - s.sp.dma.inCons) % 2 ^ 32) :=
    not_or.mpr ⟨Nat.not_le.mpr hstep, Nat.not_lt.mpr hfit⟩
  simp only [doSpDmaInProd, hon, not_true_eq_false, if_false, if_neg hgood]

theorem doSpDmaInProd_refused (hon : s.dmaOn = true)
    (hbad : 2 ^ 31 ≤ (index + 2 ^ 32 - s.sp.dma.inProd) % 2 ^ 32 ∨ 2 ^ s.prm 0x0406 0 2 2 < (index + 2 ^ 32 - s.sp.dma.inCons) % 2 ^ 32) :
    doSpDmaInProd index s = s.countBadIndex := by
  simp only [doSpDmaInProd, hon, not_true_eq_false, if_false, if_pos hbad, State.countBadIndex]

theorem doSpDmaOutCons_taken (hon : s.dmaOn = true) (hstep : (index + 2 ^ 32 - s.sp.dma.outCons) % 2 ^ 32 < 2 ^ 31) :
    doSpDmaOutCons index s = { s with sp := { s.sp with dma := { s.sp.dma with outCons := index % 2 ^ 32 } } } := by
  simp only [doSpDmaOutCons, hon, not_true_eq_false, if_false, if_neg (Nat.not_le.mpr hstep)]

theorem doSpDmaOutCons_refused (hon : s.dmaOn = true) (hback : 2 ^ 31 ≤ (index + 2 ^ 32 - s.sp.dma.outCons) % 2 ^ 32) : doSpDmaOutCons index s = s.countBadIndex := by
  simp only [doSpDmaOutCons, hon, not_true_eq_false, if_false, if_pos hback, State.countBadIndex]

end

/-! ### Input blocks (R101 to R103) -/

/-- The first tick an input block names (R101). -/
def blockTick (block : List Nat) : Nat := getLe block 8 6 * 800 + getLe block 14 2 % 1024

/-- A block starts inside a group of 64 ticks, or before the tick that is due (R102). -/
def DmaState.misplaced (d : DmaState) (block : List Nat) : Prop := blockTick block % 64 ≠ 0 ∨ blockTick block < d.expect.getD 0

section
variable {block : List Nat} {o post : Nat} {rest : List Nat} {s : State}

/-- The rings after a posted block has been fetched, whatever its content: the write-back tells the host. -/
def State.fetched (s : State) (rest : List Nat) : DmaState :=
  s.dmaWriteBack { s.sp.dma with posted := rest, inAddr := s.dmaPlace 2 (s.prm 0x0406 0 1 0) s.sp.dma.inCons, inCons := incWrap 32 s.sp.dma.inCons }

theorem doDmaInputBlock_misplaced (howner : s.sp.dma.owner = some o) (hlive : (s.slot o).live = true) (hposted : s.sp.dma.posted = post :: rest) (hbad : s.sp.dma.misplaced block) :
    doDmaInputBlock block s = { s with sp := { s.sp with dma := { s.fetched rest with bad := incSat 32 s.sp.dma.bad } } } := by
  unfold DmaState.misplaced blockTick at hbad
  simp only [doDmaInputBlock, howner, hlive, hposted, Bool.not_true, Bool.false_eq_true, if_false, if_pos hbad, State.fetched, incSat]
  rfl

/-- A block in its place sets the tick that is due next; its rows and the late ones are the only other things it writes. -/
theorem doDmaInputBlock_taken (howner : s.sp.dma.owner = some o) (hlive : (s.slot o).live = true) (hposted : s.sp.dma.posted = post :: rest) (hgood : ¬ s.sp.dma.misplaced block) :
    ∃ rows late, doDmaInputBlock block s = { s with sp := { s.sp with dma := { s.fetched rest with expect := some (blockTick block + 64), ticks := rows, late := late } } } := by
  unfold DmaState.misplaced blockTick at hgood
  simp only [doDmaInputBlock, howner, hlive, hposted, Bool.not_true, Bool.false_eq_true, if_false, if_neg hgood, State.fetched]
  exact ⟨_, _, rfl⟩

end

/-! ### Output blocks (R104, R405) -/

section
variable {o : Nat} {s : State}

theorem doDmaOutputBlock_sent (hdone : s.sp.dma.outDone ≠ []) (howner : s.sp.dma.owner = some o)
    (hroom : (s.sp.dma.outProd + 2 ^ 32 - s.sp.dma.outCons) % 2 ^ 32 < 2 ^ s.prm 0x0406 0 3 2) (hgap : s.sp.dma.gapDue = false) :
    doDmaOutputBlock s = { s with
      sp := { s.sp with dma := s.dmaWriteBack { s.sp.dma with outDone := [], lastBlock := s.sp.dma.outDone, outAddr := s.dmaPlace 3 (s.prm 0x0406 0 1 1) s.sp.dma.outProd, gapDue := false, outProd := incWrap 32 s.sp.dma.outProd } }
      hs := s.hs.signal (2 * o + 1) } := by
  simp only [doDmaOutputBlock, if_neg hdone, if_neg (Nat.not_le.mpr hroom), hgap, Bool.false_eq_true, if_false, State.dmaWriteBack, howner]

theorem doDmaOutputBlock_dropped (hdone : s.sp.dma.outDone ≠ []) (hfull : 2 ^ s.prm 0x0406 0 3 2 ≤ (s.sp.dma.outProd + 2 ^ 32 - s.sp.dma.outCons) % 2 ^ 32) :
    doDmaOutputBlock s = { s with sp := { s.sp with dma := { s.sp.dma with outDone := [], dropped := incSat 32 s.sp.dma.dropped, gapDue := true } } } := by
  simp only [doDmaOutputBlock, if_neg hdone, if_pos hfull, incSat]

end

/-- Settles O40: the two indices, then the blocks of the two directions. -/
theorem dmaRingRows : Obligations.DmaRingRows := by
  unfold Obligations.DmaRingRows
  refine ⟨fun index s hon hstep hfit => congrArg _ (doSpDmaInProd_taken hon hstep hfit), fun index s hon hstep => congrArg _ (doSpDmaOutCons_taken hon hstep),
    fun index s hon hback => congrArg _ (doSpDmaOutCons_refused hon hback), fun block o post rest s howner hlive hposted haligned hdue => ?taken,
    fun block o post rest s howner hlive hposted hbad => ?misplaced, fun o s hdone howner hroom hgap => congrArg _ (doDmaOutputBlock_sent hdone howner hroom hgap),
    fun s hdone hfull => congrArg _ (doDmaOutputBlock_dropped hdone hfull), fun index s hoff => ⟨congrArg _ (doSpDmaInProd_of_off hoff), congrArg _ (doSpDmaOutCons_of_off hoff)⟩,
    fun index s hon hbad => congrArg _ (doSpDmaInProd_refused hon hbad)⟩
  case taken =>
    have hgood : ¬ s.sp.dma.misplaced block := not_or.mpr ⟨not_not.mpr haligned, Nat.not_lt.mpr hdue⟩
    obtain ⟨rows, late, htaken⟩ := doDmaInputBlock_taken howner hlive hposted hgood
    exact ⟨_, congrArg _ htaken, rfl, rfl, rfl, rfl⟩
  case misplaced => exact ⟨_, congrArg _ (doDmaInputBlock_misplaced howner hlive hposted hbad), rfl, rfl, rfl, rfl, rfl, rfl⟩

end Sys2Proof.Machine
end

section
/-! SUPPORT. The set-point input and an invalid grid-sense channel (R106, R110). -/

namespace Sys2Proof.Machine
open Sys2Proof

theorem doSetpointQualify_due {s : State} (hgood : 800 ≤ s.sp.setp.goodRun) (hnot : s.sp.setp.qualified = false) :
    doSetpointQualify s = { s with sp := { s.sp with setp := { s.sp.setp with qualified := true, lost := false, y := s.sp.setp.x } } } :=
  if_pos ⟨hgood, by simp [hnot]⟩

theorem doSetpointLost_due {s : State} (hbad : 16 ≤ s.sp.setp.badRun) (hheld : s.sp.setp.lost = false) :
    doSetpointLost s = { s with sp := { s.sp with setp := { s.sp.setp with qualified := false, lost := true } } } :=
  if_pos ⟨hbad, by simp [hheld]⟩

theorem exec_gridSenseInvalid {k : Nat} {s : State} (hk : k < 8) : exec (.gridSenseInvalid k) s = .next (doGridSenseInvalid k s) := if_neg (Nat.not_le.mpr hk)

/-- Settles O41: the two ends of the set-point input's runs, and the invalid channel's reading. -/
theorem setpointAndSenseRows : Obligations.SetpointAndSenseRows := by
  unfold Obligations.SetpointAndSenseRows
  exact ⟨fun s hgood hnot => congrArg _ (doSetpointQualify_due hgood hnot), fun s hbad hheld => congrArg _ (doSetpointLost_due hbad hheld), fun k s hk => exec_gridSenseInvalid hk, rfl, rfl⟩

end Sys2Proof.Machine
end

section
/-! SUPPORT. What leaves both banks and the standby's copy of them alone: each operation of the chapters, and the rows and commands made of them (R127, R302). -/

namespace Sys2Proof.Machine
open Sys2Proof

/-! ### Operations in a row -/

/-- `t` has the banks of `s`, and so has its standby's copy. -/
@[simp] abbrev State.SameBanks (t s : State) : Prop := t.xp.act = s.xp.act ∧ t.xp.shadow = s.xp.shadow ∧ t.rd.shadow = s.rd.shadow

theorem State.SameBanks.trans {s t u : State} (hut : u.SameBanks t) (hts : t.SameBanks s) : u.SameBanks s := by
  obtain ⟨hact, hshadow, hcopy⟩ := hut
  obtain ⟨hact', hshadow', hcopy'⟩ := hts
  exact ⟨hact.trans hact', hshadow.trans hshadow', hcopy.trans hcopy'⟩

theorem State.SameBanks.ite {s t u : State} {p : Prop} [Decidable p] (ht : t.SameBanks s) (hu : u.SameBanks s) : (if p then t else u).SameBanks s := by
  split
  · exact ht
  · exact hu

theorem State.SameBanks.raise {s t : State} (h : t.SameBanks s) (e : Evt) : (t.raise e).SameBanks s := by simpa using h

/-- An operation that leaves the banks and the copy alone. -/
def KeepsBanks {α : Type} (op : State → α → State) : Prop := ∀ s a, (op s a).SameBanks s

@[simp] theorem keepsBanks_iff {α : Type} {op : State → α → State} : KeepsBanks op ↔ ∀ s a, (op s a).SameBanks s := Iff.rfl

/-- An operation on a state and a result beside it, which leaves the banks and the copy alone. -/
def KeepsBanksFst {α β : Type} (op : State × β → α → State × β) : Prop := ∀ x a, (op x a).1.SameBanks x.1

@[simp] theorem keepsBanksFst_iff {α β : Type} {op : State × β → α → State × β} : KeepsBanksFst op ↔ ∀ x a, (op x a).1.SameBanks x.1 := Iff.rfl

@[simp] theorem State.ite_xp (p : Prop) [Decidable p] (s t : State) : (if p then s else t).xp = if p then s.xp else t.xp := apply_ite State.xp p s t
@[simp] theorem State.ite_rd (p : Prop) [Decidable p] (s t : State) : (if p then s else t).rd = if p then s.rd else t.rd := apply_ite State.rd p s t
@[simp] theorem Crosspoint.ite_act (p : Prop) [Decidable p] (x y : Crosspoint) : (if p then x else y).act = if p then x.act else y.act := apply_ite Crosspoint.act p x y
@[simp] theorem Crosspoint.ite_shadow (p : Prop) [Decidable p] (x y : Crosspoint) : (if p then x else y).shadow = if p then x.shadow else y.shadow := apply_ite Crosspoint.shadow p x y
@[simp] theorem Redundancy.ite_shadow (p : Prop) [Decidable p] (x y : Redundancy) : (if p then x else y).shadow = if p then x.shadow else y.shadow := apply_ite Redundancy.shadow p x y
@[simp] theorem ite_fst_state {α : Type} (p : Prop) [Decidable p] (x y : State × α) : (if p then x else y).1 = if p then x.1 else y.1 := apply_ite Prod.fst p x y

@[simp] theorem foldl_banks {α : Type} {op : State → α → State} (hop : KeepsBanks op) (l : List α) (s : State) : (l.foldl op s).SameBanks s := by
  induction l generalizing s with
  | nil => simp
  | cons a l ih => exact .trans (ih _) (hop _ a)

@[simp] theorem foldl_fst_banks {α β : Type} {op : State × β → α → State × β} (hop : KeepsBanksFst op) (l : List α) (x : State × β) : (l.foldl op x).1.SameBanks x.1 := by
  induction l generalizing x with
  | nil => simp
  | cons a l ih => exact .trans (ih _) (hop _ a)

@[simp] theorem iter_banks {op : Nat → State → State} (hop : KeepsBanks (fun s k => op k s)) (n : Nat) (s : State) : (iter n op s).SameBanks s := by
  induction n with
  | zero => simp [iter]
  | succ n ih =>
    rw [iter_succ]
    exact .trans (hop _ n) ih

section
variable (s : State)

/-! ### Parts of the crosspoint and of the redundancy -/

@[simp] theorem State.modTile_shadow (t : Nat) (f : Tile → Tile) : (s.modTile t f).rd.shadow = s.rd.shadow := rfl
@[simp] theorem Redundancy.bootFrom_shadow (r : Redundancy) (k slot : Nat) (bytes : List Nat) : (r.bootFrom k slot bytes).shadow = r.shadow := rfl
@[simp] theorem Redundancy.count_shadow (r : Redundancy) (k t : Nat) : (r.count k t).shadow = r.shadow := rfl
@[simp] theorem Crosspoint.clearFlags_act (x : Crosspoint) (w : Nat) : (x.clearFlags w).act = x.act := rfl
@[simp] theorem Crosspoint.clearFlags_shadow (x : Crosspoint) (w : Nat) : (x.clearFlags w).shadow = x.shadow := rfl

/-! ### Events, staging and replies -/

@[simp] theorem State.journal_banks (i : Instr) : (s.journal i).SameBanks s := ⟨rfl, rfl, rfl⟩
@[simp] theorem State.raiseAll_banks (es : List Evt) : (s.raiseAll es).SameBanks s := by simp [State.raiseAll]
@[simp] theorem State.writeReplyUnder_banks (key : List Nat) (h : Hdr) (op qualifier : Nat) (a : Ans) (use : ReplyUse) : (s.writeReplyUnder key h op qualifier a use).SameBanks s := by simp [State.writeReplyUnder]
@[simp] theorem State.endSync_banks (reason : Nat) : (s.endSync reason).SameBanks s := by
  simp only [State.endSync]
  split <;> simp
@[simp] theorem State.startStop_banks (cause : Nat) (immediate reset noFlush : Bool) : (s.startStop cause immediate reset noFlush).SameBanks s := by simp [State.startStop]
@[simp] theorem State.setLatch_banks (mark : Modulator → Modulator) : (s.setLatch mark).SameBanks s := by simp [State.setLatch]

/-! ### Ports and waveform slots -/

@[simp] theorem doChannelQualify_banks (i : Nat) : (doChannelQualify i s).SameBanks s := by simp [doChannelQualify]
@[simp] theorem doChannelLost_banks (i : Nat) : (doChannelLost i s).SameBanks s := by simp [doChannelLost]
@[simp] theorem doSlotRampEnd_banks (i : Nat) : (doSlotRampEnd i s).SameBanks s := by simp [doSlotRampEnd]
@[simp] theorem State.rebindSlots_banks : s.rebindSlots.SameBanks s := by simp [State.rebindSlots]
@[simp] theorem streamAsk_banks (bitNo slots : Nat) : (streamAsk bitNo slots s).1.SameBanks s := ⟨rfl, rfl, rfl⟩
@[simp] theorem doSspRxFrame_banks (port : Nat) (words : List Nat) : (doSspRxFrame port words s).SameBanks s := by simp [doSspRxFrame]
@[simp] theorem doSspRxSlip_banks (port : Nat) (full : Bool) : (doSspRxSlip port full s).SameBanks s := by simp [doSspRxSlip]
@[simp] theorem State.txPort_banks (port : Nat) : (s.txPort port).SameBanks s := by simp [State.txPort]
@[simp] theorem doSpDmaInProd_banks (index : Nat) : (doSpDmaInProd index s).SameBanks s := by simp [doSpDmaInProd]
@[simp] theorem doSpDmaOutCons_banks (index : Nat) : (doSpDmaOutCons index s).SameBanks s := by simp [doSpDmaOutCons]
@[simp] theorem doDmaInputBlock_banks (block : List Nat) : (doDmaInputBlock block s).SameBanks s := by
  simp only [doDmaInputBlock]
  (repeat' split) <;> simp
@[simp] theorem State.dmaRow_banks : s.dmaRow.SameBanks s := by simp [State.dmaRow]
@[simp] theorem doDmaOutputBlock_banks : (doDmaOutputBlock s).SameBanks s := by
  simp only [doDmaOutputBlock]
  (repeat' split) <;> simp
@[simp] theorem doSetpointQualify_banks : (doSetpointQualify s).SameBanks s := by simp [doSetpointQualify]
@[simp] theorem doSetpointLost_banks : (doSetpointLost s).SameBanks s := by simp [doSetpointLost]
@[simp] theorem State.latchSense_banks (xs : List SenseIn) : (s.latchSense xs).SameBanks s := by simp [State.latchSense]
@[simp] theorem State.latchPorts_banks (clocks : List RxClk) (currents edges : List Nat) : (s.latchPorts clocks currents edges).SameBanks s := ⟨rfl, rfl, rfl⟩
@[simp] theorem State.latchSlots_banks : s.latchSlots.SameBanks s := by simp [State.latchSlots]
@[simp] theorem State.stage3_banks (inp : TickIn) : (s.stage3 inp).SameBanks s := by simp [State.stage3]

/-! ### The crosspoint -/

@[simp] theorem State.destStage_banks (d : Nat) : (s.destStage d).SameBanks s := ⟨rfl, rfl, rfl⟩
@[simp] theorem doProbeBurstEnd_banks (k : Nat) : (doProbeBurstEnd k s).SameBanks s := by simp [doProbeBurstEnd]
@[simp] theorem State.dampStage_banks (k : Nat) : (s.dampStage k).SameBanks s := ⟨rfl, rfl, rfl⟩
@[simp] theorem State.idleTick_banks (b : Nat) : (s.idleTick b).SameBanks s := ⟨rfl, rfl, rfl⟩
@[simp] theorem doBayIdle_banks (b : Nat) : (doBayIdle b s).SameBanks s := by simp [doBayIdle]
@[simp] theorem doStandbyEntry_banks (b : Nat) : (doStandbyEntry b s).SameBanks s := by simp [doStandbyEntry]
@[simp] theorem doStandbyExit_banks (b : Nat) : (doStandbyExit b s).SameBanks s := by simp [doStandbyExit]
@[simp] theorem bayWake_banks (unit : Nat) : (bayWake unit s).1.SameBanks s := by simp [bayWake]
@[simp] theorem doCrosspointStage_banks : (doCrosspointStage s).SameBanks s := by simp [doCrosspointStage]
@[simp] theorem xpStats_banks (h : Hdr) (dest start max : Nat) : (xpStats h dest start max s).1.SameBanks s := by simp [xpStats]

/-! ### Bases, loads and the control engine -/

@[simp] theorem State.endSyncOf_banks (bs : List Nat) : (s.endSyncOf bs).SameBanks s := by simp [State.endSyncOf]
@[simp] theorem ambientSet_banks (unit temp : Nat) : (ambientSet unit temp s).1.SameBanks s := by simp [ambientSet]
@[simp] theorem doAmbientTimeout_banks (b : Nat) : (doAmbientTimeout b s).SameBanks s := by simp [doAmbientTimeout]
@[simp] theorem State.heatCycle_banks (tc : Int) : (s.heatCycle tc).SameBanks s := by simp [State.heatCycle]
@[simp] theorem State.fluxStage_banks : s.fluxStage.SameBanks s := ⟨rfl, rfl, rfl⟩
@[simp] theorem doDiagWindowClose_banks (p : Nat) : (doDiagWindowClose p s).SameBanks s := by
  simp only [doDiagWindowClose]
  (repeat' split) <;> simp
@[simp] theorem baselineSet_banks (pier source l r : Nat) : (baselineSet pier source l r s).1.SameBanks s := by
  simp only [baselineSet]
  (repeat' split) <;> simp
@[simp] theorem doPlumbRecovery_banks (p : Nat) : (doPlumbRecovery p s).SameBanks s := by simp [doPlumbRecovery]
@[simp] theorem doPlumbFloat_banks (p : Nat) : (doPlumbFloat p s).SameBanks s := by simp [doPlumbFloat]
@[simp] theorem State.plantLoops_banks : s.plantLoops.SameBanks s := by simp [State.plantLoops]
@[simp] theorem State.measure_banks : s.measure.SameBanks s := ⟨rfl, rfl, rfl⟩
@[simp] theorem State.putBay_banks (b : Nat) (x : BayCtl) (c0 c1 c2 : PierCtl) : (s.putBay b x c0 c1 c2).SameBanks s := ⟨rfl, rfl, rfl⟩
@[simp] theorem State.controlBay_banks (b : Nat) : (s.controlBay b).SameBanks s := by simp [State.controlBay]
@[simp] theorem State.driveTick_banks : s.driveTick.SameBanks s := ⟨rfl, rfl, rfl⟩
@[simp] theorem State.trackTick_banks : s.trackTick.SameBanks s := ⟨rfl, rfl, rfl⟩
@[simp] theorem State.publishCe_banks : s.publishCe.SameBanks s := ⟨rfl, rfl, rfl⟩
@[simp] theorem State.diagStage_banks : s.diagStage.SameBanks s := ⟨rfl, rfl, rfl⟩
@[simp] theorem doControlStage_banks : (doControlStage s).SameBanks s := by simp [doControlStage]
@[simp] theorem ceSetpointSet_banks (quantity value rate : Nat) : (ceSetpointSet quantity value rate s).1.SameBanks s := by simp [ceSetpointSet]
@[simp] theorem ceFlagsRead_banks (unit : Nat) : (ceFlagsRead unit s).1.SameBanks s := by simp [ceFlagsRead]
@[simp] theorem ceFlagsClear_banks (unit : Nat) : (ceFlagsClear unit s).1.SameBanks s := by simp [ceFlagsClear]
@[simp] theorem State.clearBayFlags_banks (b : Nat) : (s.clearBayFlags b).SameBanks s := ⟨rfl, rfl, rfl⟩
@[simp] theorem State.clearCeFlags_banks : s.clearCeFlags.SameBanks s := by simp [State.clearCeFlags]
@[simp] theorem ceWinnerStats_banks (h : Hdr) (unit start max : Nat) : (ceWinnerStats h unit start max s).1.SameBanks s := by simp [ceWinnerStats]
@[simp] theorem cePlumbStatus_banks (unit : Nat) : (cePlumbStatus unit s).1.SameBanks s := by simp [cePlumbStatus]
@[simp] theorem State.turnWin_banks (b : Nat) (cycle window generation first : Nat) (split : Bool) : (s.turnWin b cycle window generation first split).SameBanks s := ⟨rfl, rfl, rfl⟩
@[simp] theorem State.limitEvent_banks : s.limitEvent.SameBanks s := by simp [State.limitEvent]

/-! ### Missed work, records and impedance passes -/

@[simp] theorem State.dropWork_banks (stage : Nat) (units : List Nat) : (s.dropWork stage units).SameBanks s := by
  simp only [State.dropWork]
  split <;> simp
@[simp] theorem State.rekey_banks (x : Nat) : (s.rekey x).SameBanks s := by simp [State.rekey]
@[simp] theorem State.repair_banks (x : Nat) (code : Option Nat) : (s.repair x code).SameBanks s := by simp [State.repair]
@[simp] theorem State.passTick_banks (facts : Tab PairFact) : (s.passTick facts).SameBanks s := ⟨rfl, rfl, rfl⟩
@[simp] theorem State.coreTemp_banks (x : Nat) (est : Nat → Option (Int × Int)) (len periods : Nat) (r : Rec) : (s.coreTemp x est len periods r).1.SameBanks s := by
  simp only [State.coreTemp]
  split <;> simp
@[simp] theorem State.voidPass_banks (x : Nat) : (s.voidPass x).SameBanks s := ⟨rfl, rfl, rfl⟩
@[simp] theorem State.evalPass_banks (x : Nat) (p : BrickPass) (len periods : Nat) : (s.evalPass x p len periods).SameBanks s := by simp [State.evalPass]
@[simp] theorem State.latePasses_banks : s.latePasses.SameBanks s := by
  refine foldl_banks (fun t e => ?_) _ s
  cases e.2 <;> simp
@[simp] theorem doZPassEnd_banks (p : Nat) : (doZPassEnd p s).SameBanks s := by
  simp only [doZPassEnd]
  split <;> simp
@[simp] theorem State.takeRequest_banks (t slot : Nat) (ps : List Nat) : (s.takeRequest t slot ps).1.SameBanks s := by
  induction ps generalizing s with
  | nil => simp [State.takeRequest]
  | cons p ps ih => simp [State.takeRequest, ih]
@[simp] theorem State.takeSlot_banks (t slot : Nat) : (s.takeSlot t slot).SameBanks s := by
  simp only [State.takeSlot]
  (repeat' split) <;> simp
@[simp] theorem State.passCycle_banks : s.passCycle.SameBanks s := by simp [State.passCycle]
@[simp] theorem State.medians_banks : s.medians.SameBanks s := ⟨rfl, rfl, rfl⟩
@[simp] theorem zPassRequest_banks (unit : Nat) : (zPassRequest unit s).1.SameBanks s := by simp [zPassRequest]
@[simp] theorem State.binPhases_banks (r : Rec) : (s.binPhases r).1.SameBanks s := by simp [State.binPhases]
@[simp] theorem zRead_banks (unit : Nat) : (zRead unit s).1.SameBanks s := by simp [zRead]
@[simp] theorem gridZMeasure_banks (gen pair cycles : Nat) : (gridZMeasure gen pair cycles s).1.SameBanks s := by simp [gridZMeasure]
@[simp] theorem doGridZStart_banks : (doGridZStart s).SameBanks s := by
  simp only [doGridZStart]
  split <;> simp
@[simp] theorem State.gridZTick_banks : s.gridZTick.SameBanks s := by
  simp only [State.gridZTick]
  split <;> simp
@[simp] theorem doGridZResult_banks : (doGridZResult s).SameBanks s := by
  simp only [doGridZResult]
  split <;> simp

/-! ### Modulation -/

@[simp] theorem State.commitPlan_banks (p : Nat) (pl0 : Plan) (hold missed : Bool) : (s.commitPlan p pl0 hold missed).SameBanks s := ⟨rfl, rfl, rfl⟩
@[simp] theorem State.modulatePier_banks (p : Nat) : (s.modulatePier p).SameBanks s := by
  simp only [State.modulatePier]
  (repeat' split) <;> simp
@[simp] theorem State.flyFloat_banks (bs : List Nat) : (s.flyFloat bs).SameBanks s := by simp [State.flyFloat]
@[simp] theorem State.flyTick_banks : s.flyTick.SameBanks s := by simp [State.flyTick]
@[simp] theorem State.freezeTick_banks : s.freezeTick.SameBanks s := by simp [State.freezeTick]
@[simp] theorem State.heartbeat_banks : s.heartbeat.SameBanks s := ⟨rfl, rfl, rfl⟩
@[simp] theorem doModulationStage_banks : (doModulationStage s).SameBanks s := by simp [doModulationStage]
@[simp] theorem State.disablePier_banks (p : Nat) (mode : PierMode) : (s.disablePier p mode).SameBanks s := by simp [State.disablePier]
@[simp] theorem State.disableFloat_banks (b : Nat) : (s.disableFloat b).SameBanks s := by simp [State.disableFloat]
@[simp] theorem State.disableBay_banks (b mode : Nat) : (s.disableBay b mode).1.SameBanks s := by simp [State.disableBay]
@[simp] theorem pierDisable_banks (unit mode : Nat) : (pierDisable unit mode s).1.SameBanks s := by simp [pierDisable]
@[simp] theorem bayDisable_banks (unit mode : Nat) : (bayDisable unit mode s).1.SameBanks s := by simp [bayDisable]
@[simp] theorem plantDisable_banks (unit mode : Nat) : (plantDisable unit mode s).1.SameBanks s := by simp [plantDisable]
@[simp] theorem pierEnable_banks (unit : Nat) : (pierEnable unit s).1.SameBanks s := by simp [pierEnable]
@[simp] theorem State.clearExclusion_banks (b : Nat) : (s.clearExclusion b).SameBanks s := by simp [State.clearExclusion]
@[simp] theorem bayEnable_banks (unit : Nat) : (bayEnable unit s).1.SameBanks s := by simp [bayEnable]
@[simp] theorem plantEnable_banks (unit : Nat) : (plantEnable unit s).1.SameBanks s := by simp [plantEnable]
@[simp] theorem State.landEnable_banks (p : Nat) : (s.landEnable p).SameBanks s := ⟨rfl, rfl, rfl⟩
@[simp] theorem doEnableLanding_banks (bay pier : Nat) : (doEnableLanding bay pier s).SameBanks s := by simp [doEnableLanding]
@[simp] theorem State.trackBall_banks (i : Nat) (v : Bool) : (s.trackBall i v).SameBanks s := by simp [State.trackBall]
@[simp] theorem doTripInputAssert_banks (i : Nat) : (doTripInputAssert i s).SameBanks s := by simp [doTripInputAssert]
@[simp] theorem doTripInputRelease_banks (i : Nat) : (doTripInputRelease i s).SameBanks s := by simp [doTripInputRelease]
@[simp] theorem doIsoSupplyLoss_banks : (doIsoSupplyLoss s).SameBanks s := by simp [doIsoSupplyLoss]
@[simp] theorem tripAssert_banks : (tripAssert s).1.SameBanks s := by simp [tripAssert]
@[simp] theorem tripReset_banks : (tripReset s).1.SameBanks s := by simp [tripReset]
@[simp] theorem doFreezeReq_banks (halt : Bool) : (doFreezeReq halt s).SameBanks s := by simp [doFreezeReq]
@[simp] theorem State.endFreeze_banks : s.endFreeze.SameBanks s := by simp [State.endFreeze]
@[simp] theorem doFreezeEnd_banks (halt : Bool) : (doFreezeEnd halt s).SameBanks s := by simp [doFreezeEnd]
@[simp] theorem doFreezeLimit_banks : (doFreezeLimit s).SameBanks s := by simp [doFreezeLimit]
@[simp] theorem mdStatsRead_banks (h : Hdr) (pier start max : Nat) : (mdStatsRead h pier start max s).1.SameBanks s := by simp [mdStatsRead]

/-! ### Stage 2 -/

@[simp] theorem State.missedFrames_banks : s.missedFrames.SameBanks s := ⟨rfl, rfl, rfl⟩
@[simp] theorem State.formBay_banks (b : Nat) : (s.formBay b).SameBanks s := ⟨rfl, rfl, rfl⟩
@[simp] theorem State.formPlant_banks : s.formPlant.SameBanks s := by simp [State.formPlant]
@[simp] theorem State.putItems_banks (its : List PassItem) : (s.putItems its).SameBanks s := by simp [State.putItems]
@[simp] theorem State.rekeyAll_banks (its : List PassItem) : (s.rekeyAll its).SameBanks s := by simp [State.rekeyAll]
@[simp] theorem State.countEstimated_banks (its : List PassItem) : (s.countEstimated its).SameBanks s := ⟨rfl, rfl, rfl⟩
@[simp] theorem State.sweepTile_banks (t : Nat) : (s.sweepTile t).SameBanks s := by simp [State.sweepTile]
@[simp] theorem State.sweepTick_banks : s.sweepTick.SameBanks s := by simp [State.sweepTick]
@[simp] theorem doRecordPass_banks : (doRecordPass s).SameBanks s := by simp [doRecordPass]
@[simp] theorem State.freezeRank_banks : s.freezeRank.SameBanks s := ⟨rfl, rfl, rfl⟩
@[simp] theorem State.copyFill_banks : s.copyFill.SameBanks s := by
  simp only [State.copyFill]
  split <;> simp
@[simp] theorem doRankSnapshot_banks : (doRankSnapshot s).SameBanks s := by simp [doRankSnapshot]
@[simp] theorem unitRead_banks (udp : Bool) (unit scope start max : Nat) : (unitRead udp unit scope start max s).1.SameBanks s := by simp [unitRead]
@[simp] theorem unitRecal_banks (unit : Nat) : (unitRecal unit s).1.SameBanks s := by simp [unitRecal]
@[simp] theorem unitRelease_banks (unit : Nat) : (unitRelease unit s).1.SameBanks s := by simp [unitRelease]

/-! ### Links -/

@[simp] theorem State.sendMsg_banks (b kind pos : Nat) (payload : List Nat) : (s.sendMsg b kind pos payload).SameBanks s := ⟨rfl, rfl, rfl⟩
@[simp] theorem State.misroute_banks (b n : Nat) : (s.misroute b n).SameBanks s := by simp [State.misroute]
@[simp] theorem doLaneTrained_banks (b : Nat) : (doLaneTrained b s).SameBanks s := by simp [doLaneTrained]
@[simp] theorem doTickMarkerEcho_banks (b delay : Nat) : (doTickMarkerEcho b delay s).SameBanks s := by simp [doTickMarkerEcho]
@[simp] theorem State.refuseHub_banks (b reason : Nat) : (s.refuseHub b reason).SameBanks s := ⟨rfl, rfl, rfl⟩
@[simp] theorem State.bindEvent_banks (unit kind brick course hub : Nat) : (s.bindEvent unit kind brick course hub).SameBanks s := ⟨rfl, rfl, rfl⟩
@[simp] theorem doHello_banks (b : Nat) (m : HelloMsg) : (doHello b m s).SameBanks s := by simp [doHello]
@[simp] theorem doRing_banks (b : Nat) (m : RingMsg) : (doRing b m s).SameBanks s := by simp [doRing]
@[simp] theorem doWindowOpen_banks (b kind : Nat) : (doWindowOpen b kind s).SameBanks s := by
  simp only [doWindowOpen]
  (repeat' split) <;> simp
@[simp] theorem doWindowClose_banks (b kind : Nat) : (doWindowClose b kind s).SameBanks s := by
  simp only [doWindowClose]
  (repeat' split) <;> simp
@[simp] theorem State.closeRecord_banks (x : Nat) (image : List Nat) : (s.closeRecord x image).SameBanks s := ⟨rfl, rfl, rfl⟩
@[simp] theorem State.closeBound_banks (x : Nat) : (s.closeBound x).SameBanks s := by
  simp only [State.closeBound]
  split <;> simp
@[simp] theorem State.putRecord_banks (x serial : Nat) (r : Rec) (e : Ext) : (s.putRecord x serial r e).SameBanks s := ⟨rfl, rfl, rfl⟩
@[simp] theorem State.openRecord_banks (x serial : Nat) (marked : Bool) : (s.openRecord x serial marked).SameBanks s := by
  simp only [State.openRecord]
  (repeat' split) <;> simp
@[simp] theorem State.clearRecord_banks (x : Nat) : (s.clearRecord x).SameBanks s := ⟨rfl, rfl, rfl⟩
@[simp] theorem State.departBrick_banks (x : Nat) (r : Rec) : (s.departBrick x r).SameBanks s := ⟨rfl, rfl, rfl⟩
@[simp] theorem State.leaveService_banks (c : Nat) : (s.leaveService c).SameBanks s := by simp [State.leaveService]
@[simp] theorem doCourseDark_banks (c : Nat) : (doCourseDark c s).SameBanks s := by simp [doCourseDark]
@[simp] theorem doCourseLeaveService_banks (c : Nat) : (doCourseLeaveService c s).SameBanks s := by simp [doCourseLeaveService]
@[simp] theorem doWithdraw_banks (c : Nat) : (doWithdraw c s).SameBanks s := by simp [doWithdraw]
@[simp] theorem doBayLinkLost_banks (b : Nat) : (doBayLinkLost b s).SameBanks s := by simp [doBayLinkLost]
@[simp] theorem State.refuseCourse_banks (c reason : Nat) : (s.refuseCourse c reason).SameBanks s := ⟨rfl, rfl, rfl⟩
@[simp] theorem State.refuseUnfitted_banks (c serial : Nat) : (s.refuseUnfitted c serial).SameBanks s := ⟨rfl, rfl, rfl⟩
@[simp] theorem State.refuseType_banks (c ctype : Nat) : (s.refuseType c ctype).SameBanks s := by simp [State.refuseType]
@[simp] theorem doJoin_banks (b : Nat) (m : JoinMsg) : (doJoin b m s).SameBanks s := by simp [doJoin]
@[simp] theorem State.admitHub_banks (c : Nat) (serials : List Nat) : (s.admitHub c serials).SameBanks s := by simp [State.admitHub]
@[simp] theorem doSerials_banks (b : Nat) (m : SerialsMsg) : (doSerials b m s).SameBanks s := by simp [doSerials]
@[simp] theorem State.takeSlow_banks (c t v : Nat) : (s.takeSlow c t v).SameBanks s := by simp [State.takeSlow]
@[simp] theorem State.blockReports_banks (c st : Nat) : (s.blockReports c st).SameBanks s := by simp [State.blockReports]
@[simp] theorem State.withdrawNow_banks (c : Nat) : (s.withdrawNow c).SameBanks s := ⟨rfl, rfl, rfl⟩
@[simp] theorem State.courseSignals_banks (c st ctype : Nat) : (s.courseSignals c st ctype).SameBanks s := by simp [State.courseSignals]
@[simp] theorem State.liveSection_banks (c t : Nat) (sec : List Nat) (pool : List PoolEntry) : (s.liveSection c t sec pool).SameBanks s := by simp [State.liveSection]
@[simp] theorem State.takeSections_banks (b t : Nat) (bs : List Nat) (pool : List PoolEntry) : (s.takeSections b t bs pool).SameBanks s := by simp [State.takeSections]
@[simp] theorem State.takeCurrents_banks (b : Nat) (bs : List Nat) : (s.takeCurrents b bs).SameBanks s := by simp [State.takeCurrents]
@[simp] theorem State.takeMgmt_banks (b lane t : Nat) (bs : List Nat) (pool : List PoolEntry) (ms : List Mgmt) : (s.takeMgmt b lane t bs pool ms).SameBanks s := by
  refine State.SameBanks.trans (foldl_banks (fun u m => doJoin_banks u b _) _ _) (foldl_banks (fun u m => ?_) _ s)
  split <;> simp
@[simp] theorem State.openReport_banks (b : Nat) : (s.openReport b).SameBanks s := by simp [State.openReport]
@[simp] theorem State.releaseTrip_banks (b : Nat) : (s.releaseTrip b).SameBanks s := by simp [State.releaseTrip]
@[simp] theorem State.breakerReport_banks (b : Nat) : (s.breakerReport b).SameBanks s := by
  simp only [State.breakerReport]
  split <;> simp
@[simp] theorem State.acceptFrame_banks (b lane t e m : Nat) (bs : List Nat) : (s.acceptFrame b lane t e m bs).SameBanks s := by simp [State.acceptFrame]
@[simp] theorem State.takeFrame_banks (b lane : Nat) (bs : List Nat) : (s.takeFrame b lane bs).SameBanks s := by simp [State.takeFrame]
@[simp] theorem State.closeStage1_banks : s.closeStage1.SameBanks s := by simp [State.closeStage1]
@[simp] theorem State.composeDown_banks (b : Nat) : (s.composeDown b).SameBanks s := by simp [State.composeDown]
@[simp] theorem State.sendLane_banks (b : Nat) : (s.sendLane b).SameBanks s := ⟨rfl, rfl, rfl⟩
@[simp] theorem doModulationFrames_banks : (doModulationFrames s).SameBanks s := by simp [doModulationFrames]
@[simp] theorem doUpstreamFrame_banks (f : UpFrame) : (doUpstreamFrame f s).SameBanks s := by simp [doUpstreamFrame]
@[simp] theorem doLaneRetry_banks (b : Nat) : (doLaneRetry b s).SameBanks s := by simp [doLaneRetry]
@[simp] theorem linkWindowOpen_banks (unit kind seconds : Nat) : (linkWindowOpen unit kind seconds s).1.SameBanks s := by simp [linkWindowOpen]
@[simp] theorem linkWindowClose_banks (unit : Nat) : (linkWindowClose unit s).1.SameBanks s := by simp [linkWindowClose]
@[simp] theorem courseWithdraw_banks (unit : Nat) : (courseWithdraw unit s).1.SameBanks s := by simp [courseWithdraw]
@[simp] theorem linkStatusRead_banks (unit : Nat) : (linkStatusRead unit s).1.SameBanks s := by simp [linkStatusRead]

/-! ### Redundancy -/

@[simp] theorem doFlywheelRampStart_banks : (doFlywheelRampStart s).SameBanks s := by simp [doFlywheelRampStart]
@[simp] theorem State.abandonTransfer_banks : s.abandonTransfer.SameBanks s := by
  simp only [State.abandonTransfer]
  split <;> simp
@[simp] theorem tileHandover_banks (t : Nat) : (tileHandover t s).1.SameBanks s := by simp [tileHandover]
@[simp] theorem tileHandback_banks (t : Nat) : (tileHandback t s).1.SameBanks s := by simp [tileHandback]
@[simp] theorem doTransferCycleStart_banks : (doTransferCycleStart s).SameBanks s := by
  simp only [doTransferCycleStart]
  split <;> simp
@[simp] theorem State.moveSlots_banks (t : Nat) : (s.moveSlots t).SameBanks s := ⟨rfl, rfl, rfl⟩
@[simp] theorem State.gateOff_banks (c : Nat) : (s.gateOff c).SameBanks s := ⟨rfl, rfl, rfl⟩
@[simp] theorem doTransferComplete_banks : (doTransferComplete s).SameBanks s := by
  simp only [doTransferComplete]
  split <;> simp
@[simp] theorem State.endTransferOf_banks (t : Nat) : (s.endTransferOf t).SameBanks s := by
  simp only [State.endTransferOf]
  split <;> simp
@[simp] theorem State.tileOut_banks (t : Nat) : (s.tileOut t).SameBanks s := by simp [State.tileOut]
@[simp] theorem State.excludeTile_banks (t : Nat) : (s.excludeTile t).SameBanks s := by simp [State.excludeTile]
@[simp] theorem State.carry_banks (t u : Nat) : (s.carry t u).SameBanks s := by simp [State.carry]
@[simp] theorem State.takeCarries_banks : s.takeCarries.SameBanks s := by simp [State.takeCarries]
@[simp] theorem State.declareTakeover_banks (u : Nat) : (s.declareTakeover u).SameBanks s := ⟨rfl, rfl, rfl⟩
@[simp] theorem State.loseTile_banks (t : Nat) : (s.loseTile t).SameBanks s := by simp [State.loseTile]
@[simp] theorem keystoneSwitch_banks : (keystoneSwitch s).1.SameBanks s := by simp [keystoneSwitch]
@[simp] theorem State.writeChunk_banks (slot offset : Nat) (data : List Nat) : (s.writeChunk slot offset data).SameBanks s := ⟨rfl, rfl, rfl⟩
@[simp] theorem fwImageWrite_banks (udp : Bool) (slot offset : Nat) (data : List Nat) : (fwImageWrite udp slot offset data s).1.SameBanks s := by simp [fwImageWrite]
@[simp] theorem fwImageVerify_banks (slot : Nat) : (fwImageVerify slot s).1.SameBanks s := by simp [fwImageVerify]

/-! ### The start and the safe stop -/

@[simp] theorem State.setFault_banks (code : Nat) : (s.setFault code).SameBanks s := ⟨rfl, rfl, rfl⟩
@[simp] theorem State.stopFault_banks (code : Nat) : (s.stopFault code).SameBanks s := by simp [State.stopFault]
@[simp] theorem State.elect_banks (k : Nat) : (s.elect k).SameBanks s := ⟨rfl, rfl, rfl⟩
@[simp] theorem doKeystoneSelfTest_banks (k : Nat) (pass : Bool) : (doKeystoneSelfTest k pass s).SameBanks s := by simp [doKeystoneSelfTest]
@[simp] theorem doElectionTimeout_banks (limit : Bool) : (doElectionTimeout limit s).SameBanks s := by simp [doElectionTimeout]
@[simp] theorem State.stepSix_banks : s.stepSix.SameBanks s := ⟨rfl, rfl, rfl⟩
@[simp] theorem State.bootActive_banks (slot : Nat) (second : Bool) : (s.bootActive slot second).SameBanks s := by simp [State.bootActive]
@[simp] theorem State.bootStandby_banks : s.bootStandby.SameBanks s := by simp [State.bootStandby]
@[simp] theorem doSignedBoot_banks (k : Nat) : (doSignedBoot k s).SameBanks s := by simp [doSignedBoot]
@[simp] theorem doServiceUartWrite_banks (slot offset : Nat) (data : List Nat) : (doServiceUartWrite slot offset data s).SameBanks s := by simp [doServiceUartWrite]
@[simp] theorem State.endStepFive_banks : s.endStepFive.SameBanks s := by simp [State.endStepFive]
@[simp] theorem doTileSelfTest_banks (t : Nat) (pass : Bool) : (doTileSelfTest t pass s).SameBanks s := by simp [doTileSelfTest]
@[simp] theorem State.startLane_banks (b : Nat) : (s.startLane b).SameBanks s := by simp [State.startLane]
@[simp] theorem doAdmissionEnd_banks (b : Nat) : (doAdmissionEnd b s).SameBanks s := by simp [doAdmissionEnd]
@[simp] theorem State.markRestored_banks (b : Nat) : (s.markRestored b).SameBanks s := ⟨rfl, rfl, rfl⟩
@[simp] theorem doRestore_banks (b : Nat) : (doRestore b s).SameBanks s := by simp [doRestore]
@[simp] theorem State.openNew_banks (x serial : Nat) : (s.openNew x serial).SameBanks s := ⟨rfl, rfl, rfl⟩
@[simp] theorem State.skipBay_banks (b : Nat) : (s.skipBay b).SameBanks s := by simp [State.skipBay]
@[simp] theorem State.startTick_banks (ps : Nat) : (s.startTick ps).SameBanks s := ⟨rfl, rfl, rfl⟩
@[simp] theorem State.syncTick_banks (ps : Nat) : (s.syncTick ps).SameBanks s := by
  simp only [State.syncTick]
  split <;> simp
@[simp] theorem State.syncRest_banks (ps : Nat) : (s.syncRest ps).SameBanks s := by
  simp only [State.syncRest]
  split <;> simp
@[simp] theorem baySync_banks (unit : Nat) : (baySync unit s).1.SameBanks s := by simp [baySync]
@[simp] theorem State.beginSync_banks (b : Nat) : (s.beginSync b).SameBanks s := by simp [State.beginSync]
@[simp] theorem doSyncStart_banks : (doSyncStart s).SameBanks s := by
  simp only [doSyncStart]
  (repeat' split) <;> simp
@[simp] theorem doSyncPermitAssert_banks : (doSyncPermitAssert s).SameBanks s := by
  simp only [doSyncPermitAssert]
  split <;> simp
@[simp] theorem doSyncTimeout_banks : (doSyncTimeout s).SameBanks s := by
  simp only [doSyncTimeout]
  split <;> simp
@[simp] theorem bayExclude_banks (unit : Nat) : (bayExclude unit s).1.SameBanks s := by simp [bayExclude]
@[simp] theorem State.excludeCycle_banks : s.excludeCycle.SameBanks s := by simp [State.excludeCycle]
@[simp] theorem startStatusRead_banks (first count : Nat) : (startStatusRead first count s).1.SameBanks s := by simp [startStatusRead]
@[simp] theorem startRestoreSkip_banks (unit : Nat) : (startRestoreSkip unit s).1.SameBanks s := by simp [startRestoreSkip]
@[simp] theorem safeStop_banks : (safeStop s).1.SameBanks s := by simp [safeStop]
@[simp] theorem doSafeStopFloat_banks : (doSafeStopFloat s).SameBanks s := by simp [doSafeStopFloat]

/-! ### The ledger -/

@[simp] theorem State.newEpoch_banks (detail : Nat) : (s.newEpoch detail).SameBanks s := ⟨rfl, rfl, rfl⟩
@[simp] theorem State.sealPage_banks (p : Page) : (s.sealPage p).1.SameBanks s := by simp [State.sealPage]
@[simp] theorem State.putRing_banks (i : Nat) (key : Option Nat) (marker : List Nat) : (s.putRing i key marker).SameBanks s := ⟨rfl, rfl, rfl⟩
@[simp] theorem State.countUnreadable_banks (k : Nat) (q : Stored) : (s.countUnreadable k q).SameBanks s := by simp [State.countUnreadable]
@[simp] theorem State.pumpStep_banks (i : Nat) : (State.pumpStep i s).SameBanks s := by
  simp only [State.pumpStep]
  (repeat' split) <;> simp
@[simp] theorem State.pump_banks (i : Nat) : (s.pump i).SameBanks s := by simp [State.pump]
@[simp] theorem State.offerTo_banks (k i : Nat) : (s.offerTo k i).SameBanks s := by
  simp only [State.offerTo]
  split <;> simp
@[simp] theorem State.offer_banks (k : Nat) : (s.offer k).SameBanks s := by simp [State.offer]
@[simp] theorem State.endExport_banks (i : Nat) : (s.endExport i).SameBanks s := by
  simp only [State.endExport]
  split <;> simp
@[simp] theorem State.endExports_banks : s.endExports.SameBanks s := by simp [State.endExports]
@[simp] theorem ledgerExport_banks (udp : Bool) (i base order start seq : Nat) : (ledgerExport udp i base order start seq s).1.SameBanks s := by simp [ledgerExport]
@[simp] theorem ledgerExportAck_banks (i cons : Nat) : (ledgerExportAck i cons s).1.SameBanks s := by
  simp only [ledgerExportAck]
  split <;> simp
@[simp] theorem ledgerExportStop_banks (i : Nat) : (ledgerExportStop i s).1.SameBanks s := by
  simp only [ledgerExportStop]
  split <;> simp
@[simp] theorem State.ledgerPhase_banks : s.ledgerPhase.SameBanks s := by simp [State.ledgerPhase]
@[simp] theorem State.trimLog_banks : s.trimLog.SameBanks s := ⟨rfl, rfl, rfl⟩
@[simp] theorem State.issueOne_banks : s.issueOne.SameBanks s := by
  simp only [State.issueOne]
  split <;> simp
@[simp] theorem State.issue_banks : s.issue.SameBanks s := by simp [State.issue]
@[simp] theorem State.issueFlush_banks (p : Nat) : (s.issueFlush p).SameBanks s := ⟨rfl, rfl, rfl⟩
@[simp] theorem State.finishOp_banks (o : NvmeOp) : (s.finishOp o).SameBanks s := by simp [State.finishOp]
@[simp] theorem State.loseOp_banks (o : NvmeOp) : (s.loseOp o).SameBanks s := ⟨rfl, rfl, rfl⟩
@[simp] theorem State.clearOp_banks (d : Nat) (o : NvmeOp) : (State.clearOp d s o).SameBanks s := by simp [State.clearOp]
@[simp] theorem State.failDrive_banks (d extra : Nat) : (s.failDrive d extra).SameBanks s := by simp [State.failDrive]
@[simp] theorem doNvmeCompletion_banks (ident d : Nat) (ok : Bool) : (doNvmeCompletion ident d ok s).SameBanks s := by
  simp only [doNvmeCompletion]
  split <;> simp
@[simp] theorem doDriveTimeout_banks (d : Nat) : (doDriveTimeout d s).SameBanks s := by simp [doDriveTimeout]
@[simp] theorem doSmartPoll_banks (d warning : Nat) : (doSmartPoll d warning s).SameBanks s := by simp [doSmartPoll]
@[simp] theorem doResilverComplete_banks (p : Nat) : (doResilverComplete p s).SameBanks s := by simp [doResilverComplete]
@[simp] theorem ledgerDriveBind_banks (p : Nat) : (ledgerDriveBind p s).1.SameBanks s := by simp [ledgerDriveBind]
@[simp] theorem doEventPageSeal_banks : (doEventPageSeal s).SameBanks s := by simp [doEventPageSeal]
@[simp] theorem State.skipSnapshot_banks : s.skipSnapshot.SameBanks s := ⟨rfl, rfl, rfl⟩
@[simp] theorem doSnapshotDue_banks : (doSnapshotDue s).SameBanks s := by simp [doSnapshotDue]
@[simp] theorem State.beginCapture_banks (flags : Nat) : (s.beginCapture flags).SameBanks s := ⟨rfl, rfl, rfl⟩
@[simp] theorem doSnapshotCapture_banks : (doSnapshotCapture s).SameBanks s := by simp [doSnapshotCapture]
@[simp] theorem State.sealSnap_banks (p : Page) : (s.sealSnap p).SameBanks s := by simp [State.sealSnap]
@[simp] theorem State.sealFrame_banks (c : Capture) : (s.sealFrame c).SameBanks s := by simp [State.sealFrame]
@[simp] theorem State.captureTick_banks : s.captureTick.SameBanks s := by
  simp only [State.captureTick]
  split <;> simp
@[simp] theorem doStageTwo_banks : (doStageTwo s).SameBanks s := by simp [doStageTwo]
@[simp] theorem State.closeFrame_banks (h status : Nat) : (s.closeFrame h status).SameBanks s := by
  simp only [State.closeFrame]
  split <;> simp
@[simp] theorem State.withdrawPages_banks (ks : List Nat) : (s.withdrawPages ks).SameBanks s := by simp [State.withdrawPages]
@[simp] theorem State.abandonFrame_banks : s.abandonFrame.SameBanks s := by
  simp only [State.abandonFrame]
  split <;> simp
@[simp] theorem doSafeStopFlush_banks : (doSafeStopFlush s).SameBanks s := by simp [doSafeStopFlush]
@[simp] theorem State.resumeChain_banks (p : Page) (ps : List Page) : (s.resumeChain p ps).SameBanks s := ⟨rfl, rfl, rfl⟩
@[simp] theorem State.mountStart_banks (ps : List Page) : (s.mountStart ps).SameBanks s := by
  simp only [State.mountStart]
  split <;> simp
@[simp] theorem State.mountTakeover_banks (ps : List Page) : (s.mountTakeover ps).SameBanks s := by
  simp only [State.mountTakeover]
  (repeat' split) <;> simp
@[simp] theorem doLedgerMount_banks (m : MountIn) : (doLedgerMount m s).SameBanks s := by simp [doLedgerMount]
@[simp] theorem State.ledgerTick_banks (ps : Nat) : (s.ledgerTick ps).SameBanks s := by simp [State.ledgerTick]

/-! ### Takeovers -/

@[simp] theorem State.dropQueue_banks (i : Nat) : (s.dropQueue i).SameBanks s := by simp [State.dropQueue]
@[simp] theorem State.endRunningTransfer_banks : s.endRunningTransfer.SameBanks s := by
  simp only [State.endRunningTransfer]
  split <;> simp
@[simp] theorem State.restartOther_banks : s.restartOther.SameBanks s := by simp [State.restartOther]
@[simp] theorem doKeystoneLive_banks : (doKeystoneLive s).SameBanks s := by simp [doKeystoneLive]

/-! ### The footing -/

@[simp] theorem State.disablePosition_banks (p : Nat) : (s.disablePosition p).SameBanks s := by simp [State.disablePosition]
@[simp] theorem State.countChan_banks (c k : Nat) : (s.countChan c k).SameBanks s := by simp [State.countChan]
@[simp] theorem State.footingTick_banks (ps : Nat) : (s.footingTick ps).SameBanks s := ⟨rfl, rfl, rfl⟩
@[simp] theorem State.enablePosition_banks (p : Nat) : (s.enablePosition p).SameBanks s := by simp [State.enablePosition]
@[simp] theorem State.footingHold_banks (code : Nat) : (s.footingHold code).SameBanks s := by simp [State.footingHold, -List.foldl_reverse]
@[simp] theorem doPositionReady_banks : (doPositionReady s).SameBanks s := by simp [doPositionReady]
@[simp] theorem doPositionTimeout_banks (off : Bool) : (doPositionTimeout off s).SameBanks s := by simp [doPositionTimeout]
@[simp] theorem doPositionRetry_banks : (doPositionRetry s).SameBanks s := by simp [doPositionRetry]
@[simp] theorem State.sequenceBack_banks (cs : List Nat) : (s.sequenceBack cs).SameBanks s := by simp [State.sequenceBack, -List.foldl_reverse]
@[simp] theorem doWarningExcursion_banks (c : Nat) (high : Bool) : (doWarningExcursion c high s).SameBanks s := by simp [doWarningExcursion]
@[simp] theorem doRailReturn_banks (c : Nat) : (doRailReturn c s).SameBanks s := by
  simp only [doRailReturn]
  split <;> simp
@[simp] theorem State.countTrip_banks (c : Nat) (high : Bool) : (s.countTrip c high).SameBanks s := by simp [State.countTrip]
@[simp] theorem State.footingStop_banks : s.footingStop.SameBanks s := by simp [State.footingStop]
@[simp] theorem doRetryOffEnd_banks (c : Nat) : (doRetryOffEnd c s).SameBanks s := by simp [doRetryOffEnd]
@[simp] theorem State.keystoneBack_banks (k : Nat) : (s.keystoneBack k).SameBanks s := by simp [State.keystoneBack]
@[simp] theorem doRetryRailCheck_banks (c : Nat) (held : Bool) : (doRetryRailCheck c held s).SameBanks s := by simp [doRetryRailCheck]
@[simp] theorem State.bankLow_banks : s.bankLow.SameBanks s := by simp [State.bankLow]
@[simp] theorem State.measureBank_banks (mv : Option Nat) : (s.measureBank mv).SameBanks s := by
  simp only [State.measureBank]
  split <;> simp
@[simp] theorem doBankBelowReady_banks : (doBankBelowReady s).SameBanks s := by simp [doBankBelowReady]
@[simp] theorem doChargerPrecharge_banks : (doChargerPrecharge s).SameBanks s := by simp [doChargerPrecharge]
@[simp] theorem doChargerCc_banks : (doChargerCc s).SameBanks s := by simp [doChargerCc]
@[simp] theorem doChargerCv_banks : (doChargerCv s).SameBanks s := by simp [doChargerCv]
@[simp] theorem doChargerDone_banks : (doChargerDone s).SameBanks s := by simp [doChargerDone]
@[simp] theorem doChargerFault_banks : (doChargerFault s).SameBanks s := by simp [doChargerFault]
@[simp] theorem doCapEstimate_banks (ms : Nat) : (doCapEstimate ms s).SameBanks s := by simp [doCapEstimate]
@[simp] theorem footingCountersClear_banks (channels : Nat) : (footingCountersClear channels s).1.SameBanks s := by simp [footingCountersClear]
@[simp] theorem footingRailRestore_banks (c : Nat) : (footingRailRestore c s).1.SameBanks s := by simp [footingRailRestore]

/-! ### Fuses -/

@[simp] theorem State.markEntry_banks (r e : Nat) : (s.markEntry r e).SameBanks s := ⟨rfl, rfl, rfl⟩
@[simp] theorem State.settleEntry_banks (jt : JournalTest) (r e : Nat) : (s.settleEntry jt r e).SameBanks s := by
  simp only [State.settleEntry]
  (repeat' split) <;> simp
@[simp] theorem State.settleJournal_banks (jt : JournalTest) : (s.settleJournal jt).SameBanks s := by simp [State.settleJournal]
@[simp] theorem State.countMarginal_banks (r n : Nat) : (s.countMarginal r n).SameBanks s := by simp [State.countMarginal]
@[simp] theorem doFuseLoad_banks (marginal : List Nat) (ids : List (Nat × Nat)) (jt : JournalTest) : (doFuseLoad marginal ids jt s).SameBanks s := by
  simp only [doFuseLoad]
  (repeat' split) <;> simp
@[simp] theorem maintEnter_banks (slot : Nat) : (maintEnter slot s).1.SameBanks s := by simp [maintEnter]
@[simp] theorem fuseRead_banks (region offset words : Nat) : (fuseRead region offset words s).1.SameBanks s := by simp [fuseRead]
@[simp] theorem State.openEntry_banks (h : Hdr) (region off : Nat) (data : List Nat) : (s.openEntry h region off data).SameBanks s := ⟨rfl, rfl, rfl⟩
@[simp] theorem State.takeRoot_banks : s.takeRoot.SameBanks s := by simp [State.takeRoot]
@[simp] theorem fuseLock_banks (slot r kind : Nat) : (fuseLock slot r kind s).1.SameBanks s := by simp [fuseLock]

/-! ### Registers -/

@[simp] theorem doBadAccess_banks (write : Bool) : (doBadAccess write s).SameBanks s := ⟨rfl, rfl, rfl⟩
@[simp] theorem State.clearRc_banks (o : Nat) : (s.clearRc o).SameBanks s := by simp [State.clearRc]
@[simp] theorem doRcRead_banks (offset : Nat) : (doRcRead offset s).SameBanks s := by simp [doRcRead]
@[simp] theorem doStagedRegisterWrite_banks (offset value : Nat) : (doStagedRegisterWrite offset value s).SameBanks s := by simp [doStagedRegisterWrite]
@[simp] theorem State.landPage0_banks : s.landPage0.SameBanks s := by
  simp only [State.landPage0]
  split <;> simp
@[simp] theorem doSysCommit_banks (value : Nat) : (doSysCommit value s).SameBanks s := by simp [doSysCommit]
@[simp] theorem doSysCommitLanding_banks : (doSysCommitLanding s).SameBanks s := by
  simp only [doSysCommitLanding]
  split <;> simp
@[simp] theorem State.refuseCommit_banks (i : Nat) : (s.refuseCommit i).SameBanks s := by simp [State.refuseCommit]
@[simp] theorem State.landPage12_banks : s.landPage12.SameBanks s := by
  simp only [State.landPage12]
  (repeat' split) <;> simp
@[simp] theorem doHsCommit_banks (value : Nat) : (doHsCommit value s).SameBanks s := by simp [doHsCommit]
@[simp] theorem doHsCommitLanding_banks : (doHsCommitLanding s).SameBanks s := by
  simp only [doHsCommitLanding]
  split <;> simp
@[simp] theorem State.landPage8_banks : s.landPage8.SameBanks s := by
  simp only [State.landPage8]
  split <;> simp
@[simp] theorem doUrCommit_banks (value : Nat) : (doUrCommit value s).SameBanks s := by simp [doUrCommit]
@[simp] theorem doUrCommitLanding_banks : (doUrCommitLanding s).SameBanks s := by
  simp only [doUrCommitLanding]
  split <;> simp
@[simp] theorem doUrFillPublish_banks : (doUrFillPublish s).SameBanks s := by
  simp only [doUrFillPublish]
  split <;> simp
@[simp] theorem State.writeFreeze_banks (v : Nat) : (s.writeFreeze v).SameBanks s := by simp [State.writeFreeze]

/-! ### Dies -/

@[simp] theorem doThermalConversion_banks (codes : List DieCode) : (doThermalConversion codes s).SameBanks s := by simp [doThermalConversion]
@[simp] theorem doSensorBroken_banks (d : Nat) : (doSensorBroken d s).SameBanks s := by simp [doSensorBroken]
@[simp] theorem doSensorRecovered_banks (d : Nat) : (doSensorRecovered d s).SameBanks s := by simp [doSensorRecovered]
@[simp] theorem State.enterThrottle_banks (d : Nat) : (s.enterThrottle d).SameBanks s := ⟨rfl, rfl, rfl⟩
@[simp] theorem doThrottleGraceEnd_banks (d : Nat) : (doThrottleGraceEnd d s).SameBanks s := by simp [doThrottleGraceEnd]
@[simp] theorem doThrottleEnforce_banks (d : Nat) : (doThrottleEnforce d s).SameBanks s := by simp [doThrottleEnforce]
@[simp] theorem doThrottleRelease_banks (d : Nat) : (doThrottleRelease d s).SameBanks s := by simp [doThrottleRelease]
@[simp] theorem State.thermalTick_banks (ps : Nat) : (s.thermalTick ps).SameBanks s := ⟨rfl, rfl, rfl⟩
@[simp] theorem thermalStatusRead_banks : (thermalStatusRead s).1.SameBanks s := ⟨rfl, rfl, rfl⟩

/-! ### Host slots -/

@[simp] theorem State.shutSlot_banks (i : Nat) : (s.shutSlot i).SameBanks s := by simp [State.shutSlot]
@[simp] theorem State.tellGone_banks (i : Nat) (lost : Bool) : (s.tellGone i lost).SameBanks s := ⟨rfl, rfl, rfl⟩
@[simp] theorem State.shutSlots_banks (is : List Nat) (lost : Bool) : (s.shutSlots is lost).SameBanks s := by simp [State.shutSlots]
@[simp] theorem doSlotLost_banks (i : Nat) : (doSlotLost i s).SameBanks s := by simp [doSlotLost]
@[simp] theorem doPcieLinkDown_banks : (doPcieLinkDown s).SameBanks s := by simp [doPcieLinkDown]
@[simp] theorem State.rotate_banks : s.rotate.SameBanks s := by simp [State.rotate]
@[simp] theorem slotOpen_banks (h : Hdr) (grant : List Nat) : (slotOpen h grant s).1.SameBanks s := by simp [slotOpen]
@[simp] theorem slotRightsDrop_banks (slot mask : Nat) : (slotRightsDrop slot mask s).1.SameBanks s := by simp [slotRightsDrop]
@[simp] theorem doGrantExpiry_banks (i : Nat) : (doGrantExpiry i s).SameBanks s := by simp [doGrantExpiry]
@[simp] theorem slotEventsSet_banks (slot mask moderation : Nat) : (slotEventsSet slot mask moderation s).1.SameBanks s := by simp [slotEventsSet]
@[simp] theorem slotStatusRead_banks (slot : Nat) (udp : Bool) (resend tag : Nat) : (slotStatusRead slot udp resend tag s).1.SameBanks s := ⟨rfl, rfl, rfl⟩
@[simp] theorem eventFetch_banks (slot : Nat) (udp : Bool) (start max : Nat) : (eventFetch slot udp start max s).1.SameBanks s := ⟨rfl, rfl, rfl⟩
@[simp] theorem doHsRplCons_banks (i index : Nat) : (doHsRplCons i index s).SameBanks s := by simp [doHsRplCons]
@[simp] theorem State.overflowEvent_banks (i : Nat) : (s.overflowEvent i).SameBanks s := by simp [State.overflowEvent]
@[simp] theorem doHsEvqCons_banks (i index : Nat) : (doHsEvqCons i index s).SameBanks s := by simp [doHsEvqCons]
@[simp] theorem doMsiModerationEnd_banks (v : Nat) : (doMsiModerationEnd v s).SameBanks s := by simp [doMsiModerationEnd]
@[simp] theorem doArp_banks (port target vlan : Nat) : (doArp port target vlan s).SameBanks s := by simp [doArp]
@[simp] theorem doIcmpEcho_banks (port dst vlan ident seq : Nat) : (doIcmpEcho port dst vlan ident seq s).SameBanks s := by simp [doIcmpEcho]

/-! ### Swaps -/

@[simp] theorem xpSwap_banks (mode glide cycle : Nat) : (xpSwap mode glide cycle s).1.SameBanks s := by
  simp only [xpSwap]
  (repeat' split) <;> simp
@[simp] theorem State.splitWindows_banks : s.splitWindows.SameBanks s := by simp [State.splitWindows]
@[simp] theorem State.changeMode_banks (b : Nat) : (s.changeMode b).SameBanks s := ⟨rfl, rfl, rfl⟩
@[simp] theorem State.dropUnfitted_banks : s.dropUnfitted.SameBanks s := by simp [State.dropUnfitted]
@[simp] theorem State.swapEvent_banks : s.swapEvent.SameBanks s := by
  simp only [State.swapEvent]
  split <;> simp

/-! ### Margins, packets and the boundary -/

@[simp] theorem State.floatMargin_banks (b : Nat) : (s.floatMargin b).SameBanks s := by simp [State.floatMargin]
@[simp] theorem State.headroom_banks (p : Nat) : (s.headroom p).SameBanks s := by simp [State.headroom]
@[simp] theorem State.marginsCycle_banks : s.marginsCycle.SameBanks s := by simp [State.marginsCycle]
@[simp] theorem State.countStep_banks (i k : Nat) (udp : Bool) : (s.countStep i k udp).SameBanks s := ⟨rfl, rfl, rfl⟩
@[simp] theorem State.refuseStep_banks (h : Hdr) (op k : Nat) (a : Ans) : (s.refuseStep h op k a).SameBanks s := by simp [State.refuseStep]
@[simp] theorem State.tileCycle_banks : s.tileCycle.SameBanks s := by simp [State.tileCycle]
@[simp] theorem State.turnPiers_banks : s.turnPiers.SameBanks s := ⟨rfl, rfl, rfl⟩
@[simp] theorem State.turnWindows_banks : s.turnWindows.SameBanks s := by simp [State.turnWindows]
@[simp] theorem State.crosspointCycle_banks : s.crosspointCycle.SameBanks s := ⟨rfl, rfl, rfl⟩
@[simp] theorem State.engineCycle_banks : s.engineCycle.SameBanks s := by simp [State.engineCycle]
@[simp] theorem State.ageCurrents_banks : s.ageCurrents.SameBanks s := ⟨rfl, rfl, rfl⟩
@[simp] theorem State.referTick_banks : s.referTick.SameBanks s := ⟨rfl, rfl, rfl⟩
@[simp] theorem State.countTick_banks (ps : Nat) : (s.countTick ps).SameBanks s := ⟨rfl, rfl, rfl⟩
@[simp] theorem State.hostTick_banks (ps : Nat) : (s.hostTick ps).SameBanks s := ⟨rfl, rfl, rfl⟩
@[simp] theorem State.sampleBalls_banks (inp : TickIn) : (s.sampleBalls inp).SameBanks s := by simp [State.sampleBalls]
@[simp] theorem State.freshSwaps_banks : s.freshSwaps.SameBanks s := by simp [State.freshSwaps]

/-! ### The timebase's own operations -/

@[simp] theorem State.setFreq_banks : s.setFreq.SameBanks s := ⟨rfl, rfl, rfl⟩
@[simp] theorem State.followFreq_banks : s.followFreq.SameBanks s := by simp [State.followFreq]
@[simp] theorem State.requalify_banks : s.requalify.SameBanks s := ⟨rfl, rfl, rfl⟩
@[simp] theorem State.selectTick_banks : s.selectTick.SameBanks s := by simp [State.selectTick]
@[simp] theorem State.selectCycle_banks : s.selectCycle.SameBanks s := by simp [State.selectCycle]
@[simp] theorem State.pllTick_banks (g v : PllIn) : (s.pllTick g v).SameBanks s := ⟨rfl, rfl, rfl⟩
@[simp] theorem State.meanVolts_banks : s.meanVolts.SameBanks s := ⟨rfl, rfl, rfl⟩
@[simp] theorem State.recordCycle_banks : s.recordCycle.SameBanks s := ⟨rfl, rfl, rfl⟩
@[simp] theorem State.openCycle_banks : s.openCycle.SameBanks s := ⟨rfl, rfl, rfl⟩
@[simp] theorem State.wholeCycle_banks : s.wholeCycle.SameBanks s := by simp [State.wholeCycle]
@[simp] theorem doCycleBoundary_banks : (doCycleBoundary s).SameBanks s := by simp [doCycleBoundary]
@[simp] theorem doGridPllLock_banks : (doGridPllLock s).SameBanks s := by simp [doGridPllLock]
@[simp] theorem doGridPllLockLoss_banks : (doGridPllLockLoss s).SameBanks s := by simp [doGridPllLockLoss]
@[simp] theorem doPllFreeze_banks : (doPllFreeze s).SameBanks s := by simp [doPllFreeze]
@[simp] theorem doPllFreezeExit_banks : (doPllFreezeExit s).SameBanks s := by simp [doPllFreezeExit]
@[simp] theorem doSourceEligible_banks (k : SrcName) : (doSourceEligible k s).SameBanks s := by
  cases k <;> simp [doSourceEligible]
@[simp] theorem doSvStreamTimeout_banks (k : Nat) : (doSvStreamTimeout k s).SameBanks s := by simp [doSvStreamTimeout]
@[simp] theorem State.countMisses_banks (stage : Nat) (us : List Nat) : (s.countMisses stage us).SameBanks s := by simp [State.countMisses]
@[simp] theorem doStageDeadlineMiss_banks (stage : Nat) (us : List Nat) : (doStageDeadlineMiss stage us s).SameBanks s := by simp [doStageDeadlineMiss]
@[simp] theorem State.missEvent_banks : s.missEvent.SameBanks s := by
  simp only [State.missEvent]
  split
  · simp
  · split
    · exact .ite ⟨rfl, rfl, rfl⟩ (.raise ⟨rfl, rfl, rfl⟩ _)
    · simp
@[simp] theorem State.endTick_banks (ps : Nat) : (s.endTick ps).SameBanks s := by simp [State.endTick]
@[simp] theorem State.advanceTick_banks : s.advanceTick.SameBanks s := ⟨rfl, rfl, rfl⟩
@[simp] theorem State.keystoneTick_banks (inp : TickIn) (ps : Nat) : (s.keystoneTick inp ps).SameBanks s := by simp [State.keystoneTick]

/-! ### Plant time -/

@[simp] theorem State.discipline_banks (pps : Bool) (offset : Int) : (s.discipline pps offset).SameBanks s := by simp [State.discipline]
@[simp] theorem State.dropDiscipline_banks : s.dropDiscipline.SameBanks s := ⟨rfl, rfl, rfl⟩
@[simp] theorem doPtpSync_banks (offset interval : Int) : (doPtpSync offset interval s).SameBanks s := by simp [doPtpSync]
@[simp] theorem doPtpAnnounce_banks (identity rank interval : Nat) : (doPtpAnnounce identity rank interval s).SameBanks s := by simp [doPtpAnnounce]
@[simp] theorem doPtpLost_banks : (doPtpLost s).SameBanks s := by simp [doPtpLost]
@[simp] theorem doPpsEdge_banks (after : Nat) : (doPpsEdge after s).SameBanks s := by
  simp only [doPpsEdge]
  split
  · exact .ite (.ite (.raise ⟨rfl, rfl, rfl⟩ _) (.raise ⟨rfl, rfl, rfl⟩ _)) (.raise ⟨rfl, rfl, rfl⟩ _)
  · exact .ite (.ite ⟨rfl, rfl, rfl⟩ ⟨rfl, rfl, rfl⟩) (.ite (State.discipline_banks _ _ _) ⟨rfl, rfl, rfl⟩)
@[simp] theorem doPpsLost_banks : (doPpsLost s).SameBanks s := by simp [doPpsLost]
@[simp] theorem doPlantTimeSetLapse_banks : (doPlantTimeSetLapse s).SameBanks s := by simp [doPlantTimeSetLapse]
@[simp] theorem doPlantTimeLocked_banks : (doPlantTimeLocked s).SameBanks s := by simp [doPlantTimeLocked]
@[simp] theorem doPpsOutPulse_banks (rise : Bool) : (doPpsOutPulse rise s).SameBanks s := by simp [doPpsOutPulse]
@[simp] theorem doRefclkFault_banks : (doRefclkFault s).SameBanks s := by simp [doRefclkFault]
@[simp] theorem plantTimeSet_banks (time atPps : Nat) : (plantTimeSet time atPps s).1.SameBanks s := by
  simp only [plantTimeSet]
  split_ifs
  · exact ⟨rfl, rfl, rfl⟩
  · exact ⟨rfl, rfl, rfl⟩
  · exact ⟨rfl, rfl, rfl⟩
  · exact .raise ⟨rfl, rfl, rfl⟩ _
  · exact .raise ⟨rfl, rfl, rfl⟩ _
  · exact ⟨rfl, rfl, rfl⟩

/-! ### Registers -/

@[simp] theorem State.writeLow_banks (o v : Nat) : (s.writeLow o v).SameBanks s := by
  simp only [State.writeLow]
  split <;> simp
@[simp] theorem State.writeHigh_banks (o v : Nat) : (s.writeHigh o v).SameBanks s := by
  simp only [State.writeHigh]
  split <;> simp
@[simp] theorem doRegisterWrite_banks (o v : Nat) : (doRegisterWrite o v s).SameBanks s := by simp [doRegisterWrite]

end

end Sys2Proof.Machine
end

section
/-! SUPPORT. The canonical form of the banks' rows: what stages, lands, drops or copies a bank keeps it (R127 to R129, R302 to R305, R424). -/

namespace Sys2Proof.Machine
open Sys2Proof

/-! ### Banks in canonical form (R127) -/

/-- The rows of a bank are in canonical form. -/
abbrev Bank.Sorted (b : Bank) : Prop := twf [] b.rows = true

theorem Bank.foldl_sorted {α : Type} {op : Bank → α → Bank} (hop : ∀ b a, b.Sorted → (op b a).Sorted) (l : List α) {b : Bank} (hb : b.Sorted) : (l.foldl op b).Sorted := by
  induction l generalizing b with
  | nil => exact hb
  | cons a l ih => exact ih (hop b a hb)

theorem Bank.setRow_sorted {b : Bank} (hb : b.Sorted) (op tgt row : Nat) (ws : List Nat) : (b.setRow op tgt row ws).Sorted := twf_tset _ _ hb

theorem Bank.setRows_sorted {b : Bank} (hb : b.Sorted) (op tgt mask : Nat) (rows : List (List Nat)) : (b.setRows op tgt mask rows).Sorted := by
  refine Bank.foldl_sorted (fun c r hc => ?_) _ hb
  split
  · exact Bank.setRow_sorted hc _ _ _ _
  · exact hc

theorem rowsInv_iff {s : State} : RowsInv s ↔ (s.xp.act.Sorted ∧ s.xp.shadow.Sorted) ∧ ∀ h, s.rd.shadow = some h → h.xp.act.Sorted ∧ h.xp.shadow.Sorted := by
  simp [RowsInv, Crosspoint.rowsWf]

/-! ### A step that keeps them -/

/-- The rows are in canonical form in `t` if they are in `s`. -/
def State.KeepsRows (s t : State) : Prop := RowsInv s → RowsInv t

namespace State.KeepsRows
variable {s t u : State}

theorem of_banks (h : t.SameBanks s) : s.KeepsRows t := by
  obtain ⟨hact, hshadow, hcopy⟩ := h
  simp [State.KeepsRows, rowsInv_iff, hact, hshadow, hcopy]

/-- Where the standby's copy is dropped. -/
theorem of_no_copy (hact : t.xp.act = s.xp.act) (hshadow : t.xp.shadow = s.xp.shadow) (hnone : t.rd.shadow = none) : s.KeepsRows t := by
  intro hs
  obtain ⟨hbanks, -⟩ := rowsInv_iff.mp hs
  simpa [rowsInv_iff, hact, hshadow, hnone] using hbanks

theorem of_reset (hxp : t.xp = {}) (hnone : t.rd.shadow = none) : s.KeepsRows t := by
  intro _
  have hempty : ({} : Crosspoint).act.Sorted ∧ ({} : Crosspoint).shadow.Sorted := ⟨rfl, rfl⟩
  rw [rowsInv_iff, hxp, hnone]
  exact ⟨hempty, fun h hcopy => by cases hcopy⟩

/-- Where the crosspoint alone changes its banks. -/
theorem of_xp (hcopy : t.rd.shadow = s.rd.shadow) (hbanks : s.xp.act.Sorted → s.xp.shadow.Sorted → t.xp.act.Sorted ∧ t.xp.shadow.Sorted) : s.KeepsRows t := by
  intro hs
  obtain ⟨⟨hact, hshadow⟩, hheld⟩ := rowsInv_iff.mp hs
  exact rowsInv_iff.mpr ⟨hbanks hact hshadow, hcopy ▸ hheld⟩

theorem refl (s : State) : s.KeepsRows s := id

theorem trans (hst : s.KeepsRows t) (htu : t.KeepsRows u) : s.KeepsRows u := htu ∘ hst

theorem before (h : u.SameBanks t) (hst : s.KeepsRows t) : s.KeepsRows u := hst.trans (of_banks h)

theorem after (htu : t.KeepsRows u) (h : t.SameBanks s) : s.KeepsRows u := (of_banks h).trans htu

theorem ite {p : Prop} [Decidable p] (ht : s.KeepsRows t) (hu : s.KeepsRows u) : s.KeepsRows (if p then t else u) := by
  split
  · exact ht
  · exact hu

theorem foldl {α : Type} {op : State → α → State} (hop : ∀ u a, KeepsRows u (op u a)) (l : List α) (s : State) : s.KeepsRows (l.foldl op s) := by
  induction l generalizing s with
  | nil => exact .refl s
  | cons a l ih => exact (hop s a).trans (ih _)

/-- A host command's effect, and its reply. -/
theorem host {h : Hdr} {op : Nat} {f : State → State × Ans} (hf : s.KeepsRows (f s).1) : s.KeepsRows (s.host h op f) := by
  have hans : s.KeepsRows (if s.opAllowed op then f s else (s, refuseAns stState op 255 0)).1 := by
    split
    · exact hf
    · exact .refl s
  exact .ite hans (hans.before (by simp))

theorem hostJ {i : Instr} {h : Hdr} {op : Nat} {f : State → State × Ans} (hf : s.KeepsRows (f s).1) : s.KeepsRows (s.hostJ i h op f) := by
  refine host ?_
  dsimp only
  split
  · exact hf.before (by simp)
  · exact hf

end State.KeepsRows

section
variable (s : State)

/-! ### Staging, discarding and landing (R127, R129, R428) -/

theorem State.stage_keepsRows {slot : Nat} {b : Bank} {items : List Nat} (hb : s.xp.shadow.Sorted → b.Sorted) : s.KeepsRows (s.stage slot b items) :=
  .of_xp rfl fun hact hshadow => ⟨hact, hb hshadow⟩

theorem stageRows_keepsRows (slot op : Nat) (g : Stg) : s.KeepsRows (stageRows slot op g s).1 := by
  simp only [stageRows]
  split
  · exact .refl s
  · split_ifs
    · exact .refl s
    · exact .refl s
    · exact .refl s
    · exact .refl s
    · split
      · exact .refl s
      · exact s.stage_keepsRows fun hb => Bank.foldl_sorted (fun _ _ hc => Bank.setRows_sorted hc _ _ _ _) _ hb

theorem stageDma_keepsRows (slot : Nat) (g : Stg) : s.KeepsRows (stageDma slot g s).1 := by
  have hrows := stageRows_keepsRows s slot 0x0406 g
  simp only [stageDma]
  split_ifs
  · exact .refl s
  · exact hrows.before ⟨rfl, rfl, rfl⟩
  · exact hrows

theorem gainSet_keepsRows (h : Hdr) (es : List GainEntry) : s.KeepsRows (gainSet h es s).1 := by
  simp only [gainSet, ite_fst_state]
  refine .ite (.refl s) (.ite (.refl s) ?_)
  split
  · exact .refl s
  · refine s.stage_keepsRows fun hb => Bank.foldl_sorted ?_ _ hb
    exact fun _ _ hc => hc

theorem shapeSet_keepsRows (h : Hdr) (dest first count : Nat) (coefs : List Nat) : s.KeepsRows (shapeSet h dest first count coefs s).1 := by
  simp only [shapeSet, ite_fst_state]
  refine .ite (.refl s) (.ite (.refl s) (.ite (.refl s) (.ite (.refl s) ?_)))
  refine s.stage_keepsRows fun hb => Bank.foldl_sorted ?_ _ hb
  exact fun _ _ hc => hc

theorem lawSet_keepsRows (h : Hdr) (bay law count shift : Nat) (coefs : List Nat) : s.KeepsRows (lawSet h bay law count shift coefs s).1 := by
  simp only [lawSet, ite_fst_state]
  exact .ite (.refl s) (.ite (.refl s) (.ite (.refl s) (.ite (.refl s) (s.stage_keepsRows id))))

/-- The shadow bank becomes the active one's copy (R127). -/
theorem State.discard_keepsRows : s.KeepsRows { s with xp := { s.xp with shadow := s.xp.act, staged := [], dmaStager := none } } :=
  .of_xp rfl fun hact _ => ⟨hact, hact⟩

theorem shadowDiscard_keepsRows : s.KeepsRows (shadowDiscard s).1 := by
  simp only [shadowDiscard, ite_fst_state]
  exact .ite (.refl s) s.discard_keepsRows

@[simp] theorem State.takeUp_banks (o : State) (p : PendSwap) : (s.takeUp o p).SameBanks s := by simp [State.takeUp]

theorem doXpSwapLanding_keepsRows : s.KeepsRows (doXpSwapLanding s) := by
  simp only [doXpSwapLanding]
  split
  · exact .refl s
  · next p _ =>
    have hland : s.KeepsRows { s with xp := s.xp.land p (s.absTick + 1) } := .of_xp rfl fun _ hshadow => ⟨hshadow, hshadow⟩
    exact .ite (.refl s) (hland.before (by simp))

/-! ### The standby's copy (R302 to R305, R317) -/

theorem State.copyStandby_keepsRows : s.KeepsRows s.copyStandby := by
  refine .ite (.refl s) fun hs => ?_
  obtain ⟨hbanks, -⟩ := rowsInv_iff.mp hs
  refine rowsInv_iff.mpr ⟨hbanks, fun h hcopy => ?_⟩
  cases hcopy
  exact hbanks

theorem fwUpdate_keepsRows : s.KeepsRows (fwUpdate s).1 := by
  simp only [fwUpdate, ite_fst_state]
  exact .ite (.refl s) (.of_no_copy rfl rfl rfl)

theorem doFwUpdateAbort_keepsRows : s.KeepsRows (doFwUpdateAbort s) := .ite (.of_no_copy rfl rfl rfl) (.refl s)

theorem doPlannedSwitch_keepsRows : s.KeepsRows (doPlannedSwitch s) := .ite (.of_no_copy rfl rfl rfl) (.refl s)

theorem State.dropBanks_keepsRows : s.KeepsRows s.dropBanks :=
  .ite (.of_xp rfl fun _ _ => ⟨rfl, rfl⟩) (.refl s)

theorem doFlywheelFloat_keepsRows : s.KeepsRows (doFlywheelFloat s) :=
  .ite ((State.dropBanks_keepsRows _).after (by simp)) (.refl s)

theorem State.leaveActive_keepsRows : s.KeepsRows s.leaveActive := .of_no_copy (by simp [State.leaveActive]) (by simp [State.leaveActive]) rfl

theorem State.replay_keepsRows (i : Instr) : s.KeepsRows (s.replay i) := by
  simp only [State.replay]
  split
  · exact .of_banks (by simp)
  · exact .of_banks (by simp)
  · exact .of_banks (by simp)
  · exact s.discard_keepsRows
  · exact .of_banks (by simp)
  · exact .refl s

variable {s} in
/-- Loading a copy whose banks are in canonical form (R302, R304). -/
theorem State.loadShadow_rowsInv {h : Shadow} (hs : RowsInv s) (hact : h.xp.act.Sorted) (hshadow : h.xp.shadow.Sorted) (j : List Instr) : RowsInv (s.loadShadow h j) := by
  have hloaded : s.KeepsRows (s.loadCopy h) := .of_xp rfl fun _ _ => ⟨hact, hshadow⟩
  exact State.KeepsRows.foldl (fun u i => u.replay_keepsRows i) _ _ (hloaded hs)

variable {s} in
theorem State.takeOver_rowsInv {h : Shadow} (hs : RowsInv s) (hact : h.xp.act.Sorted) (hshadow : h.xp.shadow.Sorted) (j : List Instr) : RowsInv (s.takeOver h j) := by
  obtain ⟨hbanks, -⟩ := rowsInv_iff.mp hs
  refine rowsInv_iff.mpr ⟨by simpa [State.takeOver] using hbanks, fun c hcopy => ?_⟩
  have hc : c = h := by simpa [State.takeOver, eq_comm] using hcopy
  exact hc ▸ ⟨hact, hshadow⟩

theorem State.beginTracking_keepsRows : s.KeepsRows s.beginTracking := by
  have hdropped (r : Redundancy) (hnone : r.shadow = none) : s.KeepsRows { s with rd := r } := .of_no_copy rfl rfl hnone
  refine .ite (.refl s) fun hs => ?_
  split
  · next h hcopy =>
    obtain ⟨hact, hshadow⟩ := (rowsInv_iff.mp hs).2 h hcopy
    exact State.loadShadow_rowsInv (hdropped _ rfl hs) hact hshadow _
  · exact hdropped _ rfl hs

theorem State.trackCount_keepsRows : s.KeepsRows s.trackCount := .ite (.of_banks ⟨rfl, rfl, rfl⟩) s.beginTracking_keepsRows

/-! ### A keystone that is lost (R303, R331, R361, R389) -/

@[simp] theorem State.freshKeystone_banks : s.freshKeystone.SameBanks s := ⟨rfl, rfl, rfl⟩

theorem State.loseActive_keepsRows : s.KeepsRows s.loseActive := by
  intro hs
  have hleft := s.leaveActive_keepsRows hs
  simp only [State.loseActive]
  split
  · next h hvalid =>
    have hcopy : s.rd.shadow = some h := by
      split at hvalid
      · exact hvalid
      · cases hvalid
    obtain ⟨hact, hshadow⟩ := (rowsInv_iff.mp hs).2 h hcopy
    split
    · exact State.takeOver_rowsInv hleft hact hshadow _
    · exact State.KeepsRows.of_banks (State.restartOther_banks _) (State.loadShadow_rowsInv hleft hact hshadow _)
  · exact State.KeepsRows.of_banks (by simp) hleft

theorem State.loseKeystone_keepsRows (k : Nat) : s.KeepsRows (s.loseKeystone k) :=
  .ite s.loseActive_keepsRows (.ite (.of_no_copy rfl rfl rfl) (.ite (.of_no_copy rfl rfl rfl) (.of_banks ⟨rfl, rfl, rfl⟩)))

theorem doKeystoneLost_keepsRows (c : LossCause) : s.KeepsRows (doKeystoneLost c s) :=
  .ite (.ite s.loseActive_keepsRows (.refl s)) (.ite (s.loseKeystone_keepsRows _) (.refl s))

theorem State.stopDie_keepsRows (c : Nat) : s.KeepsRows (s.stopDie c) := .ite (.of_banks (by simp)) (s.loseKeystone_keepsRows _)

theorem State.openGate_keepsRows (latch : Bool) (c : Nat) : s.KeepsRows (s.openGate latch c) := (State.stopDie_keepsRows _ c).after (by simp)

theorem State.enterShutdown_keepsRows (d : Nat) : s.KeepsRows (s.enterShutdown d) := by
  simp only [State.enterShutdown]
  refine .trans ((State.stopDie_keepsRows _ d).after ?_) (.ite (.of_banks ?_) (.refl _))
  · simp
  · simp

theorem doThermalLevelChange_keepsRows (d : Nat) : s.KeepsRows (doThermalLevelChange d s) := by
  simp only [doThermalLevelChange]
  refine .ite (.refl s) ?_
  split
  · refine .before (State.SameBanks.raise ⟨rfl, rfl, rfl⟩ _) (.after (State.enterShutdown_keepsRows _ d) ?_)
    simp
  · exact .of_banks (by simp)
  · exact .of_banks (by simp)
  · exact .of_banks (by simp)

theorem doSupervisorTrip_keepsRows (channels : List Nat) (high : Bool) : s.KeepsRows (doSupervisorTrip channels high s) := by
  simp only [doSupervisorTrip]
  refine .ite (.refl s) (.ite (.ite (.refl s) (.of_banks (by simp))) (.ite (.refl s) (.ite (.of_banks (by simp)) (.ite ?_ (.of_banks (by simp))))))
  exact (State.KeepsRows.foldl (fun u c => u.openGate_keepsRows _ c) _ _).after (by simp)

end

end Sys2Proof.Machine
end

section
/-! SUPPORT. Every command keeps the rows of the banks in canonical form (R127, R424). -/

namespace Sys2Proof.Machine
open Sys2Proof

/-! ### Host commands -/

section
variable (s : State)

theorem doDeviceReset_keepsRows (h : Hdr) (force : Nat) : s.KeepsRows (doDeviceReset h force s) := by
  simp only [doDeviceReset]
  exact .ite (.host (.refl s)) (.ite (.host (.refl s)) (.ite (.hostJ (.of_banks (by simp))) (.of_reset rfl rfl)))

theorem doXpSwap_keepsRows (h : Hdr) (mode glide cycle : Nat) : s.KeepsRows (doXpSwap h mode glide cycle s) :=
  .ite (.hostJ (.of_banks (xpSwap_banks _ _ _ _))) (.host (.of_banks (xpSwap_banks _ _ _ _)))

theorem doFuseProgram_keepsRows (h : Hdr) (region offset words : Nat) (data : List Nat) : s.KeepsRows (doFuseProgram h region offset words data s) :=
  .ite (.host (.refl s)) (.of_banks (by simp))

theorem doSlotOpen_keepsRows (h : Hdr) (grant : List Nat) : s.KeepsRows (doSlotOpen h grant s) := .of_banks (by simp [doSlotOpen])

theorem runCommand_keepsRows (i : Instr) : s.KeepsRows (runCommand i s) := by
  cases i with
  | deviceReset h force => exact doDeviceReset_keepsRows s h force
  | xpSwap h mode glide cycle => exact doXpSwap_keepsRows s h mode glide cycle
  | fuseProgram h region offset words data => exact doFuseProgram_keepsRows s h region offset words data
  | slotOpen h grant => exact doSlotOpen_keepsRows s h grant
  | netConfig h g | startConfig h g | footingConfig h g | tickSourceSet h g | plantTimeConfig h g | streamRoute h g | streamPortConfig h g | svSubscribe h g
  | setpointInputConfig h g | gridSenseConfig h g | xpDestConfig h g | xpProbeSet h g | xpDampSet h g | xpIdleConfig h g | ceBayConfig h g | cePlantConfig h g
  | mdBayConfig h g | bayProfileSet h g | tripConfig h g | unitProfileSet h g | zConfig h g | zTempTableSet h g | loadModelConfig h g | linkConfig h g
  | ledgerConfig h g | slotLimitsSet h g | thermalConfig h g => exact .host (stageRows_keepsRows s _ _ g)
  | streamDmaConfig h g => exact .host (stageDma_keepsRows s _ g)
  | xpGainSet h es => exact .host (gainSet_keepsRows s h es)
  | xpShapeSet h dest first count coefs => exact .host (shapeSet_keepsRows s h dest first count coefs)
  | ceLawSet h bay law count shift coefs => exact .host (lawSet_keepsRows s h bay law count shift coefs)
  | xpShadowDiscard => exact .hostJ (shadowDiscard_keepsRows s)
  | fwUpdate => exact .hostJ (fwUpdate_keepsRows s)
  | sysInfoRead | footingStatusRead | timebaseStatus | streamStatusRead | xpStatus | gridZRead | linkPendingRead | rdStatusRead | ledgerStatusRead
  | identityRead | fuseStatusRead =>
    simp only [runCommand, doSysInfoRead, doFootingStatusRead, doTimebaseStatus, doStreamStatusRead, doXpStatus, doGridZRead, doLinkPendingRead,
      doRdStatusRead, doLedgerStatusRead, doIdentityRead, doFuseStatusRead]
    refine .host ?_
    exact .refl s
  | startStatusRead | xpStatsRead | ceFlagsRead | ceWinnerStats | cePlumbStatus | mdStatsRead | unitRead | zRead | linkStatusRead | fuseRead | slotStatusRead
  | eventFetch | thermalStatusRead =>
    exact .host (.of_banks (by simp))
  | plantTimeSet | startRestoreSkip | baySync | bayExclude | safeStop | footingCountersClear | footingRailRestore | streamStart | streamStop
  | bayWake | ceSetpointSet | ceFlagsClear | pierDisable | bayDisable | plantDisable | pierEnable | bayEnable | plantEnable | tripAssert
  | tripReset | unitRecal | unitRelease | zPassRequest | gridZMeasure | loadAmbientSet | loadBaselineSet | linkWindowOpen | linkWindowClose
  | courseWithdraw | tileHandover | tileHandback | keystoneSwitch | fwImageWrite | fwImageVerify | ledgerExport | ledgerExportAck
  | ledgerExportStop | ledgerDriveBind | fuseMaintEnter | fuseLock | slotRightsDrop | slotEventsSet =>
    exact .hostJ (.of_banks (by simp))
  | loadModelRead | loadDiagRead | slotKeepalive =>
    simp only [runCommand, doLoadModelRead, doLoadDiagRead, doSlotKeepalive]
    exact .host (.of_banks (by simp))
  | xpFlagsClear | fuseMaintExit | slotClose =>
    simp only [runCommand, doXpFlagsClear, doFuseMaintExit, doSlotClose]
    exact .hostJ (.of_banks (by simp))
  | _ => exact .refl s

/-! ### Commands that arrive, and the command window (R402, R406, R407, R411, R413) -/

theorem State.admitCmd_keepsRows (h : Hdr) (op cost : Nat) (c : Instr) : s.KeepsRows (s.admitCmd h op cost c) := by
  simp only [State.admitCmd]
  exact .ite ((runCommand_keepsRows _ c).after (by simp)) (.ite (.of_banks (by simp)) (.ite (.of_banks (by simp)) (.of_banks (by simp))))

theorem State.checkCmd_keepsRows (h : Hdr) (p : Pkt) (boot : Bool) : s.KeepsRows (s.checkCmd h p boot) := by
  have hrefused (k : Nat) (a : Ans) : s.KeepsRows (s.refuseStep h p.opcode k a) := .of_banks (by simp)
  simp only [State.checkCmd]
  refine .ite (hrefused _ _) (.ite (hrefused _ _) ?_)
  split
  · exact hrefused _ _
  · refine .ite (hrefused _ _) ?_
    split
    · exact hrefused _ _
    · exact .ite (.ite (.of_banks ⟨rfl, rfl, rfl⟩) (hrefused _ _)) (s.admitCmd_keepsRows _ _ _ _)

theorem State.takePacket_keepsRows (udp : Bool) (ring peer : Nat) (bs : List Nat) : s.KeepsRows (s.takePacket udp ring peer bs) := by
  have hrefused (h : Hdr) (op k : Nat) (a : Ans) : s.KeepsRows (s.refuseStep h op k a) := .of_banks (by simp)
  have hcounted (i k : Nat) (u : Bool) : s.KeepsRows (s.countStep i k u) := .of_banks (by simp)
  simp only [State.takePacket]
  refine .ite (.ite (.of_banks ⟨rfl, rfl, rfl⟩) (.of_banks ⟨rfl, rfl, rfl⟩)) (.ite (.ite (hcounted _ _ _) (hrefused _ _ _ _)) (.ite (.ite (hcounted _ _ _) (hrefused _ _ _ _)) (.ite (.ite (hcounted _ _ _) (hrefused _ _ _ _)) (.ite (hcounted _ _ _) ?_))))
  exact (State.checkCmd_keepsRows _ _ _ _).after (by simp)

theorem State.pumpRing_keepsRows (i : Nat) : s.KeepsRows (s.pumpRing i) := by
  simp only [State.pumpRing]
  exact (State.KeepsRows.foldl (fun u e => u.takePacket_keepsRows false i 0 e) _ _).after ⟨rfl, rfl, rfl⟩

theorem doHsCmdProd_keepsRows (i index : Nat) (entries : List (List Nat)) : s.KeepsRows (doHsCmdProd i index entries s) := by
  simp only [doHsCmdProd]
  exact .ite (.of_banks ⟨rfl, rfl, rfl⟩) (.ite ((State.pumpRing_keepsRows _ i).after ⟨rfl, rfl, rfl⟩) (.of_banks ⟨rfl, rfl, rfl⟩))

theorem doUdpDatagram_keepsRows (port peer dst vlan : Nat) (fragment : Bool) (bytes : List Nat) : s.KeepsRows (doUdpDatagram port peer dst vlan fragment bytes s) :=
  .ite (.refl s) (s.takePacket_keepsRows _ _ _ _)

theorem WindowRun.charge_keepsRows (x : WindowRun) (i : Nat) (q : Queued) : x.state.KeepsRows (x.charge i q).state := by
  simp only [WindowRun.charge]
  split
  · exact (runCommand_keepsRows _ q.cmd).after (by simp)
  · exact .of_banks (by simp)

theorem serveSlot_keepsRows (i n : Nat) (x : WindowRun) : x.state.KeepsRows (serveSlot i n x).state := by
  induction n generalizing x with
  | zero => exact .refl _
  | succ n ih =>
    simp only [serveSlot]
    split
    · split
      · exact .of_banks (by simp)
      · exact .refl _
    · split
      · exact (x.charge_keepsRows i _).trans (ih _)
      · exact .refl _

theorem windowRound_keepsRows (x : WindowRun) (i : Nat) : x.state.KeepsRows (windowRound x i).state := by
  simp only [windowRound]
  split
  · exact .refl _
  · exact (serveSlot_keepsRows i 17 _).after (by simp)

theorem foldl_windowRound_keepsRows (order : List Nat) (x : WindowRun) : x.state.KeepsRows (order.foldl windowRound x).state := by
  induction order generalizing x with
  | nil => exact .refl _
  | cons i order ih => exact (windowRound_keepsRows x i).trans (ih _)

theorem windowRounds_keepsRows (order : List Nat) (n : Nat) (x : WindowRun) : x.state.KeepsRows (windowRounds order n x) := by
  induction n generalizing x with
  | zero => exact .refl _
  | succ n ih => exact .ite ((foldl_windowRound_keepsRows order x).trans (ih _)) (.refl _)

theorem State.commandWindow_keepsRows : s.KeepsRows s.commandWindow := (windowRounds_keepsRows _ _ _).after ⟨rfl, rfl, rfl⟩

theorem State.serveHosts_keepsRows : s.KeepsRows s.serveHosts := by
  refine .ite (.refl s) (.trans ?_ (State.commandWindow_keepsRows _))
  exact .foldl (fun u i => .ite (.refl u) (u.pumpRing_keepsRows i)) _ s

theorem State.idleTime_keepsRows : s.KeepsRows s.idleTime := (State.serveHosts_keepsRows _).after (by simp)

/-! ### The boundary and other rows -/

theorem State.tickBegins_keepsRows (inp : TickIn) (ps : Nat) : s.KeepsRows (s.tickBegins inp ps) := by
  have hopened (u : State) (c : Nat) : ({ u with tb := { u.tb with cyclePs := c } } : State).swapEvent.takeRoot.takeCarries.ageCurrents.SameBanks u := by simp
  have hran (u : State) : (let t := ((u.keystoneTick inp ps).countTick ps).hostTick ps
      ((((({ t with lk := t.lk.tick ps }).txPort 0).txPort 1).thermalTick ps).ledgerTick ps)).SameBanks u := by simp
  have htracked := (State.trackCount_keepsRows _).after (.trans (hopened s.freshSwaps (s.freshSwaps.tb.cyclePs + ps)) (State.freshSwaps_banks s))
  exact (htracked.before (hran _)).trans (State.serveHosts_keepsRows _)

theorem State.tickEnds_keepsRows (ps : Nat) : s.KeepsRows (s.tickEnds ps) :=
  .before ⟨rfl, rfl, rfl⟩ ((State.copyStandby_keepsRows _).after (State.endTick_banks s ps))

theorem doTickBoundary_keepsRows (inp : TickIn) : s.KeepsRows (doTickBoundary inp s) := by
  cases hrun : s.tb.running
  · simp only [doTickBoundary, State.sampleBalls_tb, hrun]
    exact (State.idleTime_keepsRows _).after (by simp)
  · have hworked : s.KeepsRows (s.sampleBalls inp).workDone := .of_banks (by simp [State.workDone])
    rw [doTickBoundary_of_running s inp hrun]
    exact hworked.trans ((State.tickEnds_keepsRows _ _).trans ((State.tickBegins_keepsRows _ inp _).after (State.advanceTick_banks _ )))

theorem doTimebaseStart_keepsRows (locked : Bool) : s.KeepsRows (doTimebaseStart locked s) := by
  simp only [doTimebaseStart]
  refine .ite (.refl s) (.ite (.of_banks (by simp)) (.before (foldl_banks (by simp) _ _) ((State.dropBanks_keepsRows _).after ?_)))
  simp

theorem doFuseProgramComplete_keepsRows (bad weak : List Nat) : s.KeepsRows (doFuseProgramComplete bad weak s) := by
  simp only [doFuseProgramComplete]
  split
  · exact .refl s
  · have hraised (u : State) (p : Prop) [Decidable p] (e f : Evt) : s.KeepsRows u → s.KeepsRows (if p then u.raise e else u.raise f) :=
      fun hu => .before (.ite (by simp) (by simp)) hu
    refine .ite (hraised _ _ _ _ ?_) (.trans (hraised _ _ _ _ ?_) (.host (.refl _)))
    all_goals exact .of_banks (by simp)

theorem doSafeStopComplete_keepsRows (flushed : Bool) : s.KeepsRows (doSafeStopComplete flushed s) :=
  .ite (.refl s) (.ite (.ite (.of_reset rfl rfl) (.of_reset rfl rfl)) (.of_banks ⟨rfl, rfl, rfl⟩))

theorem doVinLoss_keepsRows : s.KeepsRows (doVinLoss s) :=
  .ite (.refl s) (.ite (.of_banks ⟨rfl, rfl, rfl⟩) (.ite (.of_reset rfl rfl) (.of_banks (by simp))))

theorem doVinReturn_keepsRows : s.KeepsRows (doVinReturn s) := .ite (.refl s) (.ite (.of_reset rfl rfl) (.of_banks ⟨rfl, rfl, rfl⟩))

theorem doFootingReset_keepsRows : s.KeepsRows (doFootingReset s) := .ite (.ite (.of_reset rfl rfl) (.of_reset rfl rfl)) (.refl s)

end

/-! ### Every command -/

/-- An outcome whose next state, where there is one, keeps the rows of `s` in canonical form. -/
def State.KeepsRowsOn (s : State) (o : Host.Outcome State Fault Refusal) : Prop := ∀ t, o = .next t → s.KeepsRows t

namespace State.KeepsRowsOn
variable {s t : State}

theorem next (h : s.KeepsRows t) : s.KeepsRowsOn (.next t) := fun _ heq => Host.Outcome.next.inj heq ▸ h

/-- A row that stops on a missing unit. -/
theorem guard {p : Prop} [Decidable p] {f : Fault} (h : s.KeepsRows t) : s.KeepsRowsOn (if p then .fault f else .next t) := by
  split
  · exact fun _ heq => nomatch heq
  · exact next h

end State.KeepsRowsOn

section
variable (s : State)

theorem exec_keepsRows (i : Instr) : s.KeepsRowsOn (exec i s) := by
  have hrun := runCommand_keepsRows s i
  cases i with
  | tickBoundary inp => exact .next (doTickBoundary_keepsRows s inp)
  | timebaseStart locked => exact .next (doTimebaseStart_keepsRows s locked)
  | hsCmdProd slot index entries => exact .guard (doHsCmdProd_keepsRows s slot index entries)
  | udpDatagram port peer dst vlan fragment bytes => exact .guard (doUdpDatagram_keepsRows s port peer dst vlan fragment bytes)
  | xpSwapLanding => exact .next (doXpSwapLanding_keepsRows s)
  | flywheelFloat => exact .next (doFlywheelFloat_keepsRows s)
  | fwUpdateAbort => exact .next (doFwUpdateAbort_keepsRows s)
  | plannedSwitch => exact .next (doPlannedSwitch_keepsRows s)
  | keystoneLost cause => exact .next (doKeystoneLost_keepsRows s cause)
  | supervisorTrip channels high => exact .next (doSupervisorTrip_keepsRows s channels high)
  | thermalLevelChange die => exact .guard (doThermalLevelChange_keepsRows s die)
  | fuseProgramComplete bad weak => exact .next (doFuseProgramComplete_keepsRows s bad weak)
  | safeStopComplete flushed => exact .next (doSafeStopComplete_keepsRows s flushed)
  | powerOn => exact .next (.ite (.of_reset rfl rfl) (.refl s))
  | sysResetN => exact .next (.ite (.refl s) (.of_reset rfl rfl))
  | bankCutoff => exact .next (.ite (.of_reset rfl rfl) (.refl s))
  | vaonLoss => exact .next (.of_reset rfl rfl)
  | vinLoss => exact .next (doVinLoss_keepsRows s)
  | vinReturn => exact .next (doVinReturn_keepsRows s)
  | footingReset => exact .next (doFootingReset_keepsRows s)
  | hsRplCons | hsEvqCons | arp | icmpEcho | msiModerationEnd | slotLost | grantExpiry | plumbRecovery | plumbFloat | tickMarkerEcho | upstreamFrame |
  bayLinkLost | courseDark | courseLeaveService | withdraw | hello | join | serials | ring | laneTrained | laneRetry | windowOpen | windowClose |
  sspRxFrame | sspRxSlip | channelQualify | channelLost | slotRampEnd | probeBurstEnd | tripInputAssert | bayIdle | standbyEntry | standbyExit |
  enableLanding | tileTakeover | zPassEnd | ambientTimeout | diagWindowClose | keystoneSelfTest | signedBoot | tileSelfTest | admissionEnd | restore |
  warningExcursion | retryOffEnd | retryRailCheck | sensorBroken | sensorRecovered | throttleGraceEnd | throttleEnforce | throttleRelease |
  nvmeCompletion | driveTimeout | smartPoll | resilverComplete | railReturn | tripInputRelease | stageDeadlineMiss | svStreamTimeout =>
    exact .guard (.of_banks (by simp))
  | hsCommit | hsCommitLanding | sysCommit | sysCommitLanding | urCommit | urCommitLanding | urFillPublish | stagedRegisterWrite | rcRead | spDmaInProd |
  spDmaOutCons | freezeReq | freezeEnd | freezeLimit | pcieLinkDown | recordPass | rankSnapshot | crosspointStage | controlStage | modulationStage |
  dmaInputBlock | dmaOutputBlock | setpointQualify | setpointLost | isoSupplyLoss | keystoneLive | flywheelRampStart |
  transferCycleStart | transferComplete | gridZStart | gridZResult | syncStart | syncPermitAssert | syncTimeout | safeStopFloat |
  safeStopFlush | positionReady | positionTimeout | positionRetry | fuseLoad | electionTimeout | serviceUartWrite | ledgerMount | bankBelowReady |
  chargerPrecharge | chargerCc | chargerCv | chargerDone | chargerFault | capEstimate | thermalConversion | snapshotDue | snapshotCapture |
  eventPageSeal | cycleBoundary | registerWrite | ptpSync | ptpAnnounce | ptpLost | ppsEdge | ppsLost | plantTimeSetLapse | plantTimeLocked | ppsOutPulse |
  refclkFault | gridPllLock | gridPllLockLoss | pllFreeze | pllFreezeExit | sourceEligible =>
    exact .next (.of_banks (by simp))
  | laneDown | gridSenseInvalid => exact .guard (.of_banks ⟨rfl, rfl, rfl⟩)
  | badAccess | tickMarker | svAsdu | footingI2cRead | jtagInstruction | isoSupplyReturn | ptpPdelay => exact .next (.of_banks ⟨rfl, rfl, rfl⟩)
  | _ => exact .next hrun

end

/-- Settles O5: every command either leaves both banks and the standby's copy, or stages rows one by one, lands or drops a whole bank, copies the banks, or resets them. -/
theorem bankRowsInvariantKept : Obligations.BankRowsInvariantKept := by
  intro s t hs hstep
  unfold step at hstep
  split at hstep
  next => cases hstep; exact hs
  next i rest _ => exact exec_keepsRows { s with pending := rest } i t hstep hs

end Sys2Proof.Machine
end

section
/-! SUPPORT. The lookahead limiter and the hard clamp of a pier destination (R120 to R123). -/

namespace Sys2Proof.Machine
open Sys2Proof

/-! ### Rounding towards zero, and saturation (R11, R122) -/

theorem natAbs_divTrunc_q30 (x : Int) : (divTrunc x 1073741824).natAbs = x.natAbs / 1073741824 := by
  unfold divTrunc
  split_ifs <;> omega

/-- A gain of 1 leaves a sample as it is. -/
theorem divTrunc_q30_one_mul (x : Int) : divTrunc (1073741824 * x) 1073741824 = x := by
  unfold divTrunc
  split_ifs <;> omega

theorem natAbs_clampI_le (m : Nat) (x : Int) : (clampI (-(m : Int)) m x).natAbs ≤ m := by
  unfold clampI
  split_ifs <;> omega

theorem satQ22_eq (x : Int) : satQ22 x = clampI (-8388608) 8388607 x := rfl

theorem natAbs_satQ22_le (x : Int) : (satQ22 x).natAbs ≤ x.natAbs := by
  rw [satQ22_eq, clampI]
  split_ifs <;> omega

theorem satQ22_satQ22 (x : Int) : satQ22 (satQ22 x) = satQ22 x := by
  rw [satQ22_eq, clampI_eq_self_iff, satQ22_eq, clampI]
  split_ifs <;> omega

/-! ### The limiter's gain (R121) -/

/-- The largest gain that keeps sample `x` within the limit `l`, and at most 1. -/
def copeTarget (l : Nat) (x : Int) : Int :=
  if x = 0 then 1073741824 else min ((l * 2 ^ 22 / x.natAbs : Nat) : Int) 1073741824

/-- The gain after a sample that leaves the line in `e.2` ticks: on the straight way from `gPrev` to what that sample allows, where that is lower. -/
def copeStep (l : Nat) (gPrev g : Int) (e : Int × Nat) : Int := min (gPrev + (copeTarget l e.1 - gPrev) / ((e.2 : Int) + 1)) g

theorem copeGain_eq_foldl (l : Nat) (line : List Int) (gPrev u : Int) : copeGain l line gPrev u = line.zipIdx.foldl (copeStep l gPrev) (min (gPrev + u) 1073741824) := by
  have hmin (a b : Int) : (if a < b then a else b) = min a b := by split_ifs <;> omega
  simp only [copeGain, hmin]
  rfl

section
variable {l : Nat} {gPrev g : Int} {e : Int × Nat}

theorem copeTarget_nonneg (l : Nat) (x : Int) : 0 ≤ copeTarget l x := by
  unfold copeTarget
  split_ifs
  · norm_num
  · exact le_min (Int.natCast_nonneg _) (by norm_num)

/-- The sample times its largest gain lies within the limit. -/
theorem copeTarget_mul_natAbs_le (l : Nat) (x : Int) : copeTarget l x * x.natAbs ≤ (l * 2 ^ 22 : Nat) := by
  have hquot : ((l * 2 ^ 22 / x.natAbs : Nat) : Int) * x.natAbs ≤ (l * 2 ^ 22 : Nat) := by exact_mod_cast Nat.div_mul_le_self _ _
  unfold copeTarget
  split_ifs with hzero
  · simp [hzero]
  · exact (Int.mul_le_mul_of_nonneg_right (min_le_left _ _) (Int.natCast_nonneg _)).trans hquot

theorem copeStep_le : copeStep l gPrev g e ≤ g := min_le_right _ _

theorem copeStep_nonneg (hprev : 0 ≤ gPrev) (hg : 0 ≤ g) : 0 ≤ copeStep l gPrev g e := by
  refine le_min ?_ hg
  have hway : -gPrev ≤ (copeTarget l e.1 - gPrev) / ((e.2 : Int) + 1) := by
    rw [Int.le_ediv_iff_mul_le (by positivity)]
    nlinarith [copeTarget_nonneg l e.1, Int.natCast_nonneg e.2]
  omega

/-- The sample that leaves the line now bounds the gain itself. -/
theorem copeStep_leaving_le (x : Int) : copeStep l gPrev g (x, 0) ≤ copeTarget l x := by
  refine (min_le_left _ _).trans ?_
  simp

theorem foldl_copeStep_bounds (es : List (Int × Nat)) (hprev : 0 ≤ gPrev) (hg : 0 ≤ g) : 0 ≤ es.foldl (copeStep l gPrev) g ∧ es.foldl (copeStep l gPrev) g ≤ g := by
  induction es generalizing g with
  | nil => exact ⟨hg, le_refl g⟩
  | cons e es ih =>
    obtain ⟨hlow, hhigh⟩ := ih (copeStep_nonneg (e := e) hprev hg)
    exact ⟨hlow, hhigh.trans copeStep_le⟩

theorem copeGain_bounds {x : Int} {rest : List Int} {u : Int} (hprev : 0 ≤ gPrev) (hu : 0 ≤ u) :
    0 ≤ copeGain l (x :: rest) gPrev u ∧ copeGain l (x :: rest) gPrev u ≤ 1073741824 ∧ copeGain l (x :: rest) gPrev u ≤ copeTarget l x := by
  have hstart : 0 ≤ min (gPrev + u) 1073741824 := by omega
  rw [copeGain_eq_foldl, List.zipIdx_cons, List.foldl_cons]
  obtain ⟨hlow, hhigh⟩ := foldl_copeStep_bounds (l := l) (rest.zipIdx (0 + 1)) hprev (copeStep_nonneg (l := l) (e := (x, 0)) hprev hstart)
  exact ⟨hlow, hhigh.trans (copeStep_le.trans (min_le_right _ _)), hhigh.trans (copeStep_leaving_le x)⟩

/-- The limited sample lies within the live limit on Q10.22's grid. -/
theorem natAbs_limited_le {x : Int} (hg : 0 ≤ g) (htarget : g ≤ copeTarget l x) : (divTrunc (g * x) 1073741824).natAbs ≤ l / 256 := by
  have hproduct : g * x.natAbs ≤ (l * 2 ^ 22 : Nat) := (Int.mul_le_mul_of_nonneg_right htarget (by positivity)).trans (copeTarget_mul_natAbs_le l x)
  have habs : (g * x).natAbs ≤ l * 2 ^ 22 := by
    rw [Int.natAbs_mul]
    zify
    rwa [abs_of_nonneg hg, ← Int.natCast_natAbs]
  rw [natAbs_divTrunc_q30]
  omega

end

/-! ### A pier destination (R117, R120 to R122) -/

theorem pierRun_voltage_out (q : Dest) (cs : List Biquad) (sums : Int × Int) (l : Nat) (u : Int) : (q.pierRun cs sums false l u).dest.out.natAbs ≤ l / 256 :=
  (natAbs_satQ22_le _).trans (natAbs_clampI_le _ _)

theorem pierRun_current_out (q : Dest) (cs : List Biquad) (sums : Int × Int) (l : Nat) (u : Int) :
    (q.pierRun cs sums true l u).dest.out = satQ22 ((q.line.drop 1 ++ [q.latched]).headD 0 + sums.2) := by
  simp only [Dest.pierRun, if_true, divTrunc_q30_one_mul, satQ22_satQ22]

/-- Settles O13: no step of the limiter leaves 0 to the start value, and the first one stops at what the leaving sample allows. -/
theorem lookaheadHoldsLimit : Obligations.LookaheadHoldsLimit := by
  unfold Obligations.LookaheadHoldsLimit
  refine ⟨fun l x rest g u hg _ hu => ?_, pierRun_voltage_out⟩
  obtain ⟨hlow, hone, htarget⟩ := copeGain_bounds (l := l) (x := x) (rest := rest) hg hu
  exact ⟨hlow, hone, natAbs_limited_le hlow htarget⟩

/-- Settles O14: a gain of 1 leaves the sample as it is, and saturating twice is saturating once. -/
theorem currentDestinationUnlimited : Obligations.CurrentDestinationUnlimited :=
  fun q cs sums l u => ⟨rfl, pierRun_current_out q cs sums l u⟩

end Sys2Proof.Machine
end

section
/-! SUPPORT. Staging's account, the commands of the shadow bank, case by case, and idle bays (R127 to R129, R133, R136 to R140, R434). -/

namespace Sys2Proof.Machine
open Sys2Proof

/-! ### The account of staging (R127) -/

theorem testBit_setBit_self (x k : Nat) : (setBit x k true).testBit k = true := by
  cases hset : x.testBit k
  · simp [setBit, hset, Nat.add_comm x, Nat.testBit_two_pow_add_eq]
  · simp [setBit, hset]

theorem mem_foldl_insert {k : Nat} (items staged : List Nat) : k ∈ items.foldl (fun l i => l.insert i) staged ↔ k ∈ items ∨ k ∈ staged := by
  induction items generalizing staged with
  | nil => simp
  | cons i items ih => rw [List.foldl_cons, ih, List.mem_insert_iff, List.mem_cons]; tauto

theorem nodup_foldl_insert (items : List Nat) {staged : List Nat} (hnodup : staged.Nodup) : (items.foldl (fun l i => l.insert i) staged).Nodup := by
  induction items generalizing staged with
  | nil => exact hnodup
  | cons i items ih => exact ih hnodup.insert

/-- Each item that is not counted yet is counted (R127). -/
theorem State.stage_staged (s : State) (slot : Nat) (b : Bank) (items : List Nat) : (s.stage slot b items).xp.staged = items.foldl (fun l i => l.insert i) s.xp.staged := rfl

/-- Settles O9: the items enter as into a set. -/
theorem stagingLeavesActiveBank : Obligations.StagingLeavesActiveBank := by
  intro s slot b items t
  refine ⟨rfl, rfl, fun k => ?_, fun hnodup => ?_, testBit_setBit_self _ _, rfl⟩
  · rw [State.stage_staged, mem_foldl_insert]
  · rw [State.stage_staged]
    exact nodup_foldl_insert items hnodup

/-! ### XP_SWAP (R128, R129, R434) -/

section
variable {mode glide cycle : Nat} {s : State}

/-- The swap that an accepted XP_SWAP leaves pending (R129). -/
def State.pendingSwap (s : State) (mode glide cycle : Nat) : PendSwap :=
  { mode := mode + 1, glide := glide, cycle := cycle, tick := s.absTick, sets := (s.ce.sets.filter (fun p => p.tick == s.absTick)).length }

theorem xpSwap_withdraws (hpend : s.xp.pend.isSome = true) : xpSwap 3 glide cycle s = ({ s with xp := { s.xp with pend := none } }, okAns (le 4 s.xp.generation)) := by
  have hsome : s.xp.pend.isNone = false := by simpa [Option.isSome_iff_ne_none] using hpend
  simp only [xpSwap, hsome, if_true, Bool.false_eq_true, if_false]

theorem xpSwap_of_none (hnone : s.xp.pend = none) : xpSwap 3 glide cycle s = (s, refuseAns stState 0x0507 255 0) := by
  simp only [xpSwap, hnone, Option.isNone_none, if_true]

theorem xpSwap_of_closed (hmode : mode ≠ 3) (hclosed : s.stagingClosed = true) : xpSwap mode glide cycle s = (s, refuseAns stState 0x0507 255 0) := by
  simp only [xpSwap, if_neg hmode, if_pos hclosed]

theorem xpSwap_of_range (hopen : s.stagingClosed = false) (hrange : 3 < mode ∨ (mode ≠ 3 ∧ 800 < glide) ∨ (mode = 2 ∧ cycle ≤ s.tb.cycleNow)) :
    xpSwap mode glide cycle s = (s, refuseAns stRange 0x0507 255 0) := by
  have hmode : mode ≠ 3 := by omega
  simp only [xpSwap, if_neg hmode, hopen, Bool.false_eq_true, if_false]
  split_ifs with hfields hswaps
  · rfl
  · omega
  · rfl
  · omega

theorem xpSwap_of_busy (hopen : s.stagingClosed = false) (hglide : glide ≤ 800) (hswaps : 3 ≤ s.xp.tickSwaps) : xpSwap 0 glide cycle s = (s, { status := 0x0101 }) := by
  simp [xpSwap, hopen, hglide.not_gt, hswaps]

/-- With its operands in range the checks of the shadow bank decide (R128). -/
theorem xpSwap_of_checks (hopen : s.stagingClosed = false) (hmode : mode ≤ 2) (hglide : glide ≤ 800) (hswaps : mode = 0 → s.xp.tickSwaps < 3) (hcycle : mode = 2 → s.tb.cycleNow < cycle)
    {found : Option Miss} (hchecks : s.checkShadow mode = found) : xpSwap mode glide cycle s = found.elim
      ({ s with xp := { s.xp with pend := some (s.pendingSwap mode glide cycle) } }, acceptedAns (le 4 (genUp s.xp.generation)))
      (fun m => (s, refuseAns m.status m.op m.row m.target)) := by
  have hother : mode ≠ 3 := by omega
  have hfields : ¬ (3 < mode ∨ 800 < glide) := by omega
  have hfree : ¬ (mode = 0 ∧ 3 ≤ s.xp.tickSwaps) := by omega
  have hlater : ¬ (mode = 2 ∧ cycle ≤ s.tb.cycleNow) := by omega
  simp only [xpSwap, if_neg hother, hopen, Bool.false_eq_true, if_false, if_neg hfields, if_neg hfree, if_neg hlater, hchecks]
  cases found <;> rfl

theorem exec_xpSwap {h : Hdr} (hmode : mode ≠ 3) : exec (.xpSwap h mode glide cycle) s = .next (s.host h 0x0507 (xpSwap mode glide cycle)) := congrArg _ (if_neg hmode)

end

/-! ### XP_SHADOW_DISCARD and XP_STATS_READ (R127, R136, R434) -/

theorem shadowDiscard_of_none {s : State} (hnone : s.xp.pend = none) : shadowDiscard s = ({ s with xp := { s.xp with shadow := s.xp.act, staged := [], dmaStager := none } }, okAns) :=
  if_neg (by simp [hnone])

theorem shadowDiscard_of_pending {s : State} (hpend : s.xp.pend.isSome = true) : shadowDiscard s = (s, refuseAns stState 0x0509 255 0) := if_pos hpend

theorem xpStats_of_dest {h : Hdr} {dest start max : Nat} {s : State} (hdest : s.destOk dest = true) :
    xpStats h dest start max s = (s, okAns (cursor h.udp 32 start max ((tget {} s.xp.dests dest).recs.map (fun r => r.bytes dest)))) := by
  unfold State.destOk at hdest
  exact if_neg (not_not.mpr hdest)

/-- Settles O11, command by command. -/
theorem shadowBankCommands : Obligations.ShadowBankCommands := by
  unfold Obligations.ShadowBankCommands
  refine ⟨fun h mode glide cycle s hr hmode hglide hopen hswaps hcycle hchecks => ?accepted, fun h glide cycle s hr hpend => ?withdrawn, fun h s hr => ?status,
    fun h s hr hnone => ?discard, fun h flags s hr => ?flags, fun h dest start max s hr hdest => ?stats, fun h glide cycle s hr hnone => ?nothing,
    fun h mode glide cycle s hr hmode hclosed => ?closed, fun h mode glide cycle s hr hopen hrange => ?range, fun h glide cycle s hr hopen hglide hswaps => ?busy,
    fun h mode glide cycle m s hr hmode hglide hopen hswaps hcycle hchecks => ?checks, fun h s hr hpend => ?discardPending⟩
  case accepted => exact answers_same (exec_xpSwap (by omega)) hr rfl (xpSwap_of_checks hopen hmode hglide hswaps hcycle hchecks)
  case withdrawn => exact answersJ_same rfl hr rfl (.inl rfl) (xpSwap_withdraws hpend)
  case status => exact answers_same rfl hr rfl rfl
  case discard => exact answersJ_same rfl hr rfl (.inl rfl) (shadowDiscard_of_none hnone)
  case flags => exact answersJ_same rfl hr rfl (.inl rfl) rfl
  case stats => exact answers_same rfl hr rfl (xpStats_of_dest hdest)
  case nothing => exact answersJ_refused rfl hr (by decide) (by decide) (xpSwap_of_none hnone)
  case closed => exact answers_same (exec_xpSwap hmode) hr rfl (xpSwap_of_closed hmode (State.stagingClosed_iff.mpr hclosed))
  case range => exact answers_same (exec_xpSwap (by omega)) hr rfl (xpSwap_of_range hopen hrange)
  case busy => exact answers_same (exec_xpSwap (by decide)) hr rfl (xpSwap_of_busy hopen hglide hswaps)
  case checks => exact answers_same (exec_xpSwap (by omega)) hr rfl (xpSwap_of_checks hopen hmode hglide hswaps hcycle hchecks)
  case discardPending => exact answersJ_refused rfl hr (by decide) (by decide) (shadowDiscard_of_pending hpend)

/-! ### Idle bays (R137 to R140, R307) -/

section
variable {b : Nat} {s : State}

theorem exec_bayIdle (hb : b < s.nBays) : exec (.bayIdle b) s = .next (doBayIdle b s) := if_neg (Nat.not_le.mpr hb)
theorem exec_standbyEntry (hb : b < s.nBays) : exec (.standbyEntry b) s = .next (doStandbyEntry b s) := if_neg (Nat.not_le.mpr hb)
theorem exec_standbyExit (hb : b < s.nBays) : exec (.standbyExit b) s = .next (doStandbyExit b s) := if_neg (Nat.not_le.mpr hb)

theorem doBayIdle_due (hon : s.prm 0x0506 b 0 0 = 1) (hlive : s.md.bayLive b = true) (hdwell : s.prm 0x0506 b 3 0 ≤ (tget {} s.xp.idle b).dwell)
    (hbusy : (tget {} s.xp.idle b).idle = false) (hup : s.inStandby b = false) :
    doBayIdle b s = (({ s with xp := { s.xp with idle := tset {} s.xp.idle b { (tget {} s.xp.idle b : IdleState) with idle := true } } }).raise { kind := .bayIdle, unit := bayUid b }) :=
  if_pos ⟨hon, hlive, hdwell, by simp [hbusy], Bool.eq_false_iff.mp hup⟩

theorem doStandbyEntry_due (hidle : (tget {} s.xp.idle b).idle = true) (hup : s.inStandby b = false) (hidx : s.tb.idx = 0) (hopened : (s.bayLink b).opened = true)
    (hlive : s.md.bayLive b = true) (hsteered : s.rd.flywheel = false) :
    doStandbyEntry b s = { s with xp := { s.xp with idle := tset {} s.xp.idle b { (tget {} s.xp.idle b : IdleState) with standby := true, wake := false } } } :=
  if_pos ⟨hidle, Bool.eq_false_iff.mp hup, hidx, hopened, hlive, by simp [hsteered]⟩

theorem doStandbyExit_due (hdown : s.inStandby b = true) (hidx : s.tb.idx = 0) (hwake : (tget {} s.xp.idle b).wake = true) (hsteered : s.rd.flywheel = false) :
    doStandbyExit b s = { s with xp := { s.xp with idle := tset {} s.xp.idle b { held := !s.tb.bnd } }, rd := { s.rd with drive := tdrop (fun k => decide (k / 2400 = b)) s.rd.drive } } :=
  if_pos ⟨hdown, hidx, hwake, by simp [hsteered]⟩

theorem doStandbyEntry_of_flywheel (hfly : s.rd.flywheel = true) : doStandbyEntry b s = s := if_neg (by simp [hfly])

theorem doStandbyExit_of_flywheel (hfly : s.rd.flywheel = true) : doStandbyExit b s = s := if_neg (by simp [hfly])

theorem bayWake_of_standby (hb : b < s.nBays) (hdown : s.inStandby b = true) :
    bayWake (bayUid b) s = ({ s with xp := { s.xp with idle := tmod {} s.xp.idle b (fun i => { i with wake := true }) } }, okAns) := by
  simp only [bayWake, checkLevel_bay s.nBays_le hb, hdown, ne_eq, not_true_eq_false, if_false]

end

/-- Settles O16, row by row. -/
theorem idleAndStandby : Obligations.IdleAndStandby := by
  unfold Obligations.IdleAndStandby
  refine ⟨fun b s hb hon hlive hdwell hbusy hup => ?_, fun b s hb hidle hup hidx hopened hlive hsteered => ?_, fun b s hb hdown hidx hwake hsteered => ?_, fun b s hb hfly => ⟨?_, ?_⟩,
    fun h b s hr hb hdown => ?_⟩
  · rw [exec_bayIdle hb, doBayIdle_due hon hlive hdwell hbusy hup]
  · rw [exec_standbyEntry hb, doStandbyEntry_due hidle hup hidx hopened hlive hsteered]
  · rw [exec_standbyExit hb, doStandbyExit_due hdown hidx hwake hsteered]
  · rw [exec_standbyEntry hb, doStandbyEntry_of_flywheel hfly]
  · rw [exec_standbyExit hb, doStandbyExit_of_flywheel hfly]
  · exact answersJ_same rfl hr rfl (.inl rfl) (bayWake_of_standby hb hdown)

end Sys2Proof.Machine
end

section
/-! SUPPORT. The row-form staging commands: what they refuse, and what the rows they take leave of a bank (R127, R129, R343, R424, R425, R427). -/

namespace Sys2Proof.Machine
open Sys2Proof

/-! ### A bank's rows, written and read back (R424) -/

theorem rowKey_inj {op tgt row op' tgt' row' : Nat} (ht : tgt < 512) (hr : row < 64) (ht' : tgt' < 512) (hr' : row' < 64)
    (hkey : rowKey op' tgt' row' = rowKey op tgt row) : op' = op ∧ tgt' = tgt ∧ row' = row := by
  simp only [rowKey] at hkey
  omega

/-- A bank's nodes, sections and laws: what no row is part of. -/
def Bank.rest (b : Bank) : Tab Node × Tab Biquad × Tab Law := (b.nodes, b.shapes, b.laws)

theorem Bank.row_eq_ite (b : Bank) (op tgt row : Nat) :
    b.row op tgt row = if tget [] b.rows (rowKey op tgt row) = [] then rowDefault op tgt row else tget [] b.rows (rowKey op tgt row) := by
  unfold Bank.row
  cases tget [] b.rows (rowKey op tgt row) <;> rfl

section
variable {b : Bank} {op tgt op' tgt' row' : Nat}

theorem Bank.row_setRow_self {row : Nat} {ws : List Nat} (hb : b.Sorted) (hws : ws ≠ []) : (b.setRow op tgt row ws).row op tgt row = ws := by
  rw [Bank.row_eq_ite, Bank.setRow, tget_tset_self hb]
  by_cases hdefault : ws = rowDefault op tgt row
  · rw [if_pos hdefault, if_pos rfl, hdefault]
  · rw [if_neg hdefault, if_neg hws]

theorem Bank.row_setRow_ne {row : Nat} {ws : List Nat} (hb : b.Sorted) (hkey : rowKey op' tgt' row' ≠ rowKey op tgt row) :
    (b.setRow op tgt row ws).row op' tgt' row' = b.row op' tgt' row' := by
  rw [Bank.row_eq_ite, Bank.row_eq_ite, Bank.setRow, tget_tset_ne hkey hb]

/-- One of a target's rows, written where its mask bit is set (R424). -/
def Bank.applyRow (op tgt mask : Nat) (b : Bank) (r : List Nat × Nat) : Bank := if mask.testBit r.2 then b.setRow op tgt r.2 r.1 else b

theorem Bank.applyRow_sorted {mask : Nat} (hb : b.Sorted) (r : List Nat × Nat) : (b.applyRow op tgt mask r).Sorted := by
  unfold Bank.applyRow
  split
  · exact Bank.setRow_sorted hb _ _ _ _
  · exact hb

/-- A row reads what the mask applies to it, and else what it read. -/
theorem Bank.row_applyRow {mask k : Nat} {ws : List Nat} (hb : b.Sorted) (hws : ws ≠ []) (ht : tgt < 512) (hk : k < 64) (ht' : tgt' < 512) (hr' : row' < 64) :
    (b.applyRow op tgt mask (ws, k)).row op' tgt' row' = if op' = op ∧ tgt' = tgt ∧ row' = k ∧ mask.testBit k = true then ws else b.row op' tgt' row' := by
  unfold Bank.applyRow
  by_cases hbit : mask.testBit k = true
  · by_cases hsame : op' = op ∧ tgt' = tgt ∧ row' = k
    · obtain ⟨rfl, rfl, rfl⟩ := hsame
      simp [hbit, Bank.row_setRow_self hb hws]
    · have hkey : rowKey op' tgt' row' ≠ rowKey op tgt k := fun h => hsame (rowKey_inj ht hk ht' hr' h)
      rw [if_pos hbit, Bank.row_setRow_ne hb hkey, if_neg fun h => hsame ⟨h.1, h.2.1, h.2.2.1⟩]
  · simp [hbit]

/-- The rows from the `n`-th on, written in order. -/
theorem Bank.row_foldl_applyRow {mask : Nat} (rows : List (List Nat)) (n : Nat) (hb : b.Sorted) (hne : ∀ r ∈ rows, r ≠ []) (hfit : n + rows.length ≤ 64) (ht : tgt < 512)
    (ht' : tgt' < 512) (hr' : row' < 64) :
    ((rows.zipIdx n).foldl (Bank.applyRow op tgt mask) b).row op' tgt' row' =
      if op' = op ∧ tgt' = tgt ∧ (n ≤ row' ∧ row' < n + rows.length) ∧ mask.testBit row' = true then rows.getD (row' - n) [] else b.row op' tgt' row' := by
  induction rows generalizing b n with
  | nil => exact (if_neg (by simp)).symm
  | cons ws rows ih =>
    rw [List.length_cons] at hfit
    have hrest := ih (n + 1) (Bank.applyRow_sorted (op := op) (tgt := tgt) (mask := mask) hb (ws, n)) (fun r hr => hne r (List.mem_cons_of_mem _ hr)) (by omega)
    rw [List.zipIdx_cons, List.foldl_cons, hrest, Bank.row_applyRow hb (hne ws List.mem_cons_self) ht (by omega) ht' hr', List.length_cons]
    by_cases hhere : row' = n
    · subst hhere
      simp
    · have hshift : n ≤ row' → row' - n = row' - (n + 1) + 1 := by omega
      have hrange : (n ≤ row' ∧ row' < n + (rows.length + 1)) ↔ n + 1 ≤ row' ∧ row' < n + 1 + rows.length := by omega
      simp only [hrange, hhere, false_and, and_false, if_false]
      split_ifs with hin
      · rw [hshift (by omega), List.getD_cons_succ]
      · rfl

theorem Bank.row_setRows {mask : Nat} {rows : List (List Nat)} (hb : b.Sorted) (hne : ∀ r ∈ rows, r ≠ []) (hfit : rows.length ≤ 64) (ht : tgt < 512) (ht' : tgt' < 512) (hr' : row' < 64) :
    (b.setRows op tgt mask rows).row op' tgt' row' =
      if op' = op ∧ tgt' = tgt ∧ row' < rows.length ∧ mask.testBit row' = true then rows.getD row' [] else b.row op' tgt' row' := by
  have hfold : b.setRows op tgt mask rows = rows.zipIdx.foldl (Bank.applyRow op tgt mask) b := rfl
  rw [hfold, Bank.row_foldl_applyRow rows 0 hb hne (by omega) ht ht' hr']
  simp

theorem Bank.rest_setRows {mask : Nat} (rows : List (List Nat)) : (b.setRows op tgt mask rows).rest = b.rest := by
  suffices h : ∀ (l : List (List Nat × Nat)) (c : Bank), (l.foldl (Bank.applyRow op tgt mask) c).rest = c.rest from h _ b
  intro l c
  induction l generalizing c with
  | nil => rfl
  | cons r l ih =>
    refine (ih _).trans ?_
    unfold Bank.applyRow
    split <;> rfl


/-- The rows of a target after the applied rows of each named target have been written. -/
theorem Bank.row_foldl_setRows {mask : Nat} {rows : List (List Nat)} (tgts : List Nat) (hb : b.Sorted) (hne : ∀ r ∈ rows, r ≠ []) (hfit : rows.length ≤ 64) (ht : ∀ i ∈ tgts, i < 512)
    (ht' : tgt' < 512) (hr' : row' < 64) :
    (tgts.foldl (fun c i => c.setRows op i mask rows) b).row op' tgt' row' =
      if op' = op ∧ tgt' ∈ tgts ∧ row' < rows.length ∧ mask.testBit row' = true then rows.getD row' [] else b.row op' tgt' row' := by
  induction tgts generalizing b with
  | nil => simp
  | cons i tgts ih =>
    have hfirst := Bank.row_setRows (op := op) (op' := op') (mask := mask) hb hne hfit (ht i List.mem_cons_self) ht' hr'
    rw [List.foldl_cons, ih (Bank.setRows_sorted hb _ _ _ _) fun j hj => ht j (List.mem_cons_of_mem _ hj), hfirst]
    simp only [List.mem_cons]
    grind

theorem Bank.rest_foldl_setRows {mask : Nat} {rows : List (List Nat)} (tgts : List Nat) : (tgts.foldl (fun c i => c.setRows op i mask rows) b).rest = b.rest := by
  induction tgts generalizing b with
  | nil => rfl
  | cons i tgts ih => exact ih.trans (Bank.rest_setRows rows)

end

/-! ### Targets and rows of the 27 commands (R424, R427) -/

theorem checkUid_snd (nb w : Nat) : (checkUid nb w).2 = unitFields w := by
  simp only [checkUid, apply_ite Prod.snd, ite_self]

theorem checkLevel_snd (nb level w : Nat) : (checkLevel nb level w).2 = unitFields w := by
  simp only [checkLevel, apply_ite Prod.snd, checkUid_snd, ite_self]

/-- A target kind within the 512 targets of a row's key. -/
def TargetKind.fits : TargetKind → Bool
  | .index n => decide (n ≤ 512)
  | _ => true

theorem stageTargets_lt {nb w i : Nat} {k : TargetKind} (hnb : nb ≤ 144) (hfits : k.fits = true) (hi : i ∈ (stageTargets nb k w).2) : i < 512 := by
  cases k with
  | plant =>
    simp only [stageTargets] at hi
    split_ifs at hi
    · simp at hi; omega
    · cases hi
  | index n =>
    have hn : n ≤ 512 := of_decide_eq_true hfits
    simp only [stageTargets] at hi
    split_ifs at hi
    · simp at hi; omega
    · cases hi
  | bay =>
    have hfield : (unitFields w).bay < 512 := by simp only [unitFields, bits]; omega
    simp only [stageTargets, checkLevel_snd] at hi
    split_ifs at hi
    · simp at hi; omega
    · simp at hi; omega
    · cases hi

/-- A command whose targets and rows have keys of their own, and none of whose rows is empty. -/
def StagedSpec.keyed (sp : StagedSpec) : Bool := sp.target.fits && decide (sp.rows.length ≤ 64) && sp.rows.all (fun r => !r.isEmpty)

theorem rowStagers_keyed : ∀ op ∈ rowStagers.map Prod.snd, ∃ sp, stagedSpec op = some sp ∧ sp.keyed = true := by
  have hall : (rowStagers.map Prod.snd).all (fun op => (stagedSpec op).any StagedSpec.keyed) = true := by decide
  intro op hop
  have hkeyed := List.all_eq_true.mp hall op hop
  cases hspec : stagedSpec op with
  | none => simp [hspec] at hkeyed
  | some sp => exact ⟨sp, rfl, by simpa [hspec] using hkeyed⟩

theorem length_cutRows (specs : List (List WordSpec)) (ws : List Nat) : (cutRows specs ws).length = specs.length := by
  induction specs generalizing ws with
  | nil => rfl
  | cons r specs ih => simp [cutRows, ih]

/-- With a word for each of the rows' words no row that is cut is empty. -/
theorem cutRows_ne_nil {specs : List (List WordSpec)} {ws : List Nat} (hne : ∀ r ∈ specs, r ≠ []) (hlength : ws.length = sumN (specs.map List.length)) :
    ∀ r ∈ cutRows specs ws, r ≠ [] := by
  induction specs generalizing ws with
  | nil => simp [cutRows]
  | cons spec specs ih =>
    have hpos : 0 < spec.length := List.length_pos_iff.mpr (hne spec List.mem_cons_self)
    have hsum : ws.length = spec.length + sumN (specs.map List.length) := by
      simpa only [sumN, ← List.sum_eq_foldl, List.map_cons, List.sum_cons] using hlength
    intro r hr
    rcases List.mem_cons.mp hr with rfl | hr
    · refine List.length_pos_iff.mp ?_
      rw [List.length_take]
      omega
    · exact ih (fun r hr => hne r (List.mem_cons_of_mem _ hr)) (by rw [List.length_drop]; omega) r hr

theorem exec_rowStager {c : (Hdr → Stg → Instr) × Nat} (hc : c ∈ rowStagers) (h : Hdr) (g : Stg) (s : State) : exec (c.1 h g) s = .next (s.host h c.2 (stageRows h.slot c.2 g)) := by
  fin_cases hc <;> rfl

/-! ### What a row-form command refuses (R424) -/

section
variable {slot op : Nat} {g : Stg} {s : State} {sp : StagedSpec}

theorem stageRows_of_length (hspec : stagedSpec op = some sp) (hopen : s.stagingClosed = false) (hlength : g.words.length ≠ stagedWords sp) :
    stageRows slot op g s = (s, refuseAns stBadLength op 255 g.target) := by
  simp only [stageRows, hspec, hopen, Bool.false_eq_true, if_false, if_pos hlength]

theorem stageRows_of_target (hspec : stagedSpec op = some sp) (hopen : s.stagingClosed = false) (hlength : g.words.length = stagedWords sp)
    (htarget : (stageTargets s.nBays sp.target g.target).1 ≠ 0) : stageRows slot op g s = (s, refuseAns (stageTargets s.nBays sp.target g.target).1 op 255 g.target) := by
  simp only [stageRows, hspec, hopen, Bool.false_eq_true, if_false, if_neg (not_not.mpr hlength), if_pos htarget]

/-- With a target that the command takes, the mask and the ranges decide. -/
theorem stageRows_of_taken_target (hspec : stagedSpec op = some sp) (hopen : s.stagingClosed = false) (hlength : g.words.length = stagedWords sp)
    (htarget : (stageTargets s.nBays sp.target g.target).1 = 0) : stageRows slot op g s =
      if 2 ^ sp.rows.length ≤ g.mask then (s, refuseAns stBadParam op 255 g.target) else
      match firstBad sp op g s with
      | some k => (s, refuseAns stRange op k g.target)
      | none => (s.stage slot (stagedBank sp op g s) ((stageTargets s.nBays sp.target g.target).2.flatMap (fun i => rowItems op i g.mask sp.rows.length)), okAns) := by
  simp only [stageRows, hspec, hopen, Bool.false_eq_true, if_false, if_neg (not_not.mpr hlength), if_neg (not_not.mpr htarget)]
  rfl

end

/-! ### The bank that the applied rows leave (R127, R424) -/

section
variable {op : Nat} {g : Stg} {s : State} {sp : StagedSpec}

theorem rest_stagedBank : (stagedBank sp op g s).rest = s.xp.shadow.rest := Bank.rest_foldl_setRows _

theorem row_stagedBank (hkeyed : sp.keyed = true) (hb : s.xp.shadow.Sorted) (hlength : g.words.length = stagedWords sp) {op' i' k' : Nat} (hi : i' < 512) (hk : k' < 64) :
    (stagedBank sp op g s).row op' i' k' =
      if op' = op ∧ i' ∈ (stageTargets s.nBays sp.target g.target).2 ∧ k' < sp.rows.length ∧ g.mask.testBit k' = true then (cutRows sp.rows g.words).getD k' [] else s.xp.shadow.row op' i' k' := by
  simp only [StagedSpec.keyed, Bool.and_eq_true, decide_eq_true_eq, List.all_eq_true, Bool.not_eq_true', List.isEmpty_eq_false_iff] at hkeyed
  obtain ⟨⟨htarget, hfit⟩, hne⟩ := hkeyed
  have hrows := length_cutRows sp.rows g.words
  rw [stagedBank, Bank.row_foldl_setRows _ hb (cutRows_ne_nil hne hlength) (hrows ▸ hfit) (fun i hi => stageTargets_lt s.nBays_le htarget hi) hi hk, hrows]

end

/-- Settles O8: the applied rows of the named targets are written, each under a key of its own. -/
theorem stagedRowsEnterShadow : Obligations.StagedRowsEnterShadow := by
  have hspecs {c : (Hdr → Stg → Instr) × Nat} (hc : c ∈ rowStagers) := rowStagers_keyed c.2 (List.mem_map_of_mem hc)
  refine ⟨fun c hc h g s sp hr hinv htakes => ?takes, fun c hc h g s hr hclosed => ?closed, fun c hc h g s sp hr hspec hopen hlength => ?length,
    fun c hc h g s sp hr hspec hopen hlength htarget => ?target, fun c hc h g s sp hr hspec hopen hlength htarget hmask => ?mask,
    fun c hc h g s sp k hr hspec hopen hlength htarget hmask hbad => ?range⟩
  case takes =>
    intro tgts
    have htaken := htakes
    obtain ⟨hspec, -, hlength, -⟩ := htaken
    obtain ⟨sp', hspec', hkeyed⟩ := hspecs hc
    obtain rfl : sp' = sp := Option.some.inj (hspec'.symm.trans hspec)
    obtain ⟨⟨-, hshadow⟩, -⟩ := rowsInv_iff.mp hinv
    have hrest : (stagedBank sp' c.2 g s).rest = s.xp.shadow.rest := rest_stagedBank
    simp only [Bank.rest, Prod.mk.injEq] at hrest
    obtain ⟨hnodes, hshapes, hlaws⟩ := hrest
    have hfits := hkeyed
    simp only [StagedSpec.keyed, Bool.and_eq_true, decide_eq_true_eq] at hfits
    obtain ⟨⟨htarget, hfit⟩, -⟩ := hfits
    refine ⟨stagedBank sp' c.2 g s, answers_same (exec_rowStager hc h g s) hr rfl (stageRows_of_takes htakes), hnodes, hshapes, hlaws, fun i hi k hk hbit => ?_, fun op' i' k' hi hk hother => ?_⟩
    · rw [row_stagedBank hkeyed hshadow hlength (stageTargets_lt s.nBays_le htarget hi) (by omega), if_pos ⟨rfl, hi, hk, hbit⟩]
    · rw [row_stagedBank hkeyed hshadow hlength hi hk, if_neg hother]
  case closed =>
    obtain ⟨sp, hspec, -⟩ := hspecs hc
    exact answers_same (exec_rowStager hc h g s) hr rfl (stageRows_of_closed hspec (State.stagingClosed_iff.mpr hclosed))
  case length => exact answers_same (exec_rowStager hc h g s) hr rfl (stageRows_of_length hspec hopen hlength)
  case target => exact answers_same (exec_rowStager hc h g s) hr rfl (stageRows_of_target hspec hopen hlength htarget)
  case mask =>
    refine answers_same (exec_rowStager hc h g s) hr rfl ?_
    rw [stageRows_of_taken_target hspec hopen hlength htarget, if_pos hmask]
  case range =>
    refine answers_same (exec_rowStager hc h g s) hr rfl ?_
    rw [stageRows_of_taken_target hspec hopen hlength htarget, if_neg hmask.not_ge, hbad]

end Sys2Proof.Machine
end

section
/-! SUPPORT. The landing of a swap: what it writes of the crosspoint, and what it leaves alone (R129, R130, R135). -/

namespace Sys2Proof.Machine
open Sys2Proof

/-! ### What a landing leaves alone -/

/-- What no landing writes. -/
def State.apart (s : State) : List Instr × Redundancy × Startup × Fuses × SysPage × Nat := (s.pending, s.rd, s.st, s.fu, s.sys, s.freeCtr)

/-- What a landing writes only where a course leaves service: records, links, ledger, slots, events. -/
def State.books (s : State) : Records × Links × Ledger × HostIf × Events := (s.rc, s.lk, s.lg, s.hs, s.ev)

/-- A set that has landed: both banks, the account of staging, the pending swap, the generation, the tick, the glide (R129, R130). -/
def Crosspoint.landed (x : Crosspoint) : Bank × Bank × List Nat × Nat × Option PendSwap × Nat × Nat × Nat :=
  (x.act, x.shadow, x.staged, x.stagers, x.pend, x.generation, x.swapTick, x.glideLeft)

/-- `t` has of `s` what no landing writes, the set that has landed, and the trip path's latch. -/
structure State.Adopts (s t : State) : Prop where
  apart : t.apart = s.apart
  landed : t.xp.landed = s.xp.landed
  latch : t.md.latch = s.md.latch

/-- The same, with the timebase and the books. -/
structure State.AdoptsOnly (s t : State) : Prop extends s.Adopts t where
  tb : t.tb = s.tb
  books : t.books = s.books

namespace State.Adopts
variable {s t u : State}

theorem refl (s : State) : s.Adopts s := ⟨rfl, rfl, rfl⟩

theorem trans (hst : s.Adopts t) (htu : t.Adopts u) : s.Adopts u := ⟨htu.apart.trans hst.apart, htu.landed.trans hst.landed, htu.latch.trans hst.latch⟩

theorem foldl {α : Type} {op : State → α → State} (hop : ∀ u a, Adopts u (op u a)) (l : List α) (s : State) : s.Adopts (l.foldl op s) := by
  induction l generalizing s with
  | nil => exact .refl s
  | cons a l ih => exact (hop s a).trans (ih _)

end State.Adopts

namespace State.AdoptsOnly
variable {s t u : State}

theorem refl (s : State) : s.AdoptsOnly s := ⟨.refl s, rfl, rfl⟩

theorem trans (hst : s.AdoptsOnly t) (htu : t.AdoptsOnly u) : s.AdoptsOnly u := ⟨hst.toAdopts.trans htu.toAdopts, htu.tb.trans hst.tb, htu.books.trans hst.books⟩

theorem ite {p : Prop} [Decidable p] (ht : s.AdoptsOnly t) (hu : s.AdoptsOnly u) : s.AdoptsOnly (if p then t else u) := by
  split
  · exact ht
  · exact hu

theorem foldl {α : Type} {op : State → α → State} (hop : ∀ u a, AdoptsOnly u (op u a)) (l : List α) (s : State) : s.AdoptsOnly (l.foldl op s) := by
  induction l generalizing s with
  | nil => exact .refl s
  | cons a l ih => exact (hop s a).trans (ih _)

end State.AdoptsOnly

theorem State.eq_of_apart {s t : State} (h : t.apart = s.apart) :
    t = { s with tb := t.tb, xp := t.xp, sp := t.sp, ce := t.ce, md := t.md, z := t.z, ld := t.ld, ftg := t.ftg, thm := t.thm, rc := t.rc, lk := t.lk, lg := t.lg, hs := t.hs, ev := t.ev } := by
  simp only [State.apart, Prod.mk.injEq] at h
  obtain ⟨hpending, hrd, hst, hfu, hsys, hfree⟩ := h
  rw [← hpending, ← hrd, ← hst, ← hfu, ← hsys, ← hfree]

/-! ### What is taken up with the new set (R82, R100, R125, R142, R151, R250, R263, R358, R368, R385) -/

section
variable (s : State)

theorem State.setPorts_adoptsOnly (q : Ports) : s.AdoptsOnly { s with sp := q } := ⟨⟨rfl, rfl, rfl⟩, rfl, rfl⟩

theorem State.setProbes_adoptsOnly (l : Tab Probe) : s.AdoptsOnly { s with xp := { s.xp with probes := l } } := ⟨⟨rfl, rfl, rfl⟩, rfl, rfl⟩

theorem State.setControl_adoptsOnly (c : Control) : s.AdoptsOnly { s with ce := c } := ⟨⟨rfl, rfl, rfl⟩, rfl, rfl⟩

theorem State.setImpedance_adoptsOnly (i : Impedance) : s.AdoptsOnly { s with z := i } := ⟨⟨rfl, rfl, rfl⟩, rfl, rfl⟩

theorem State.setLoads_adoptsOnly (l : Loads) : s.AdoptsOnly { s with ld := l } := ⟨⟨rfl, rfl, rfl⟩, rfl, rfl⟩

theorem State.setFooting_adoptsOnly (f : Footing) : s.AdoptsOnly { s with ftg := f } := ⟨⟨rfl, rfl, rfl⟩, rfl, rfl⟩

theorem State.setThermal_adoptsOnly (t : Thermal) : s.AdoptsOnly { s with thm := t } := ⟨⟨rfl, rfl, rfl⟩, rfl, rfl⟩

theorem State.changeMode_adoptsOnly (b : Nat) : s.AdoptsOnly (s.changeMode b) := ⟨⟨rfl, rfl, rfl⟩, rfl, rfl⟩

/-- Up to the courses that no longer fit: plant time's sources are looked at anew where they have changed, and nothing else of the timebase or the books is written. -/
theorem State.takeUp_eq (o : State) (p : PendSwap) : ∃ u : State, s.AdoptsOnly u ∧
    s.takeUp o p = (if o.xp.act.row 0x0302 0 0 != s.xp.act.row 0x0302 0 0 then u.dropDiscipline.requalify else u).dropUnfitted := by
  unfold State.takeUp
  extract_lets old new ch s1 ports s2 crosspoint s3 s4 s5 s6 bays loads s7 footing s8 thermal s9
  have h1 : s.AdoptsOnly s1 := s.setPorts_adoptsOnly _
  have h2 : s1.AdoptsOnly s2 := .ite (s1.setPorts_adoptsOnly _) (.refl _)
  have h3 : s2.AdoptsOnly s3 := s2.setProbes_adoptsOnly _
  have h4 : s3.AdoptsOnly s4 := .ite (.refl _) (s3.setControl_adoptsOnly _)
  have h5 : s4.AdoptsOnly s5 := .foldl State.changeMode_adoptsOnly _ _
  have h6 : s5.AdoptsOnly s6 := .ite (s5.setImpedance_adoptsOnly _) (.refl _)
  have h7 : s6.AdoptsOnly s7 := s6.setLoads_adoptsOnly _
  have h8 : s7.AdoptsOnly s8 := .ite (s7.setFooting_adoptsOnly _) (.refl _)
  have h9 : s8.AdoptsOnly s9 := .ite (s8.setThermal_adoptsOnly _) (.refl _)
  exact ⟨s9, ((((((((h1.trans h2).trans h3).trans h4).trans h5).trans h6).trans h7).trans h8).trans h9), rfl⟩

/-! ### Plant time's sources (R65), the courses that no longer fit (log 125), and the windows (R135) -/

theorem State.rediscipline_adopts : s.Adopts s.dropDiscipline.requalify := ⟨rfl, rfl, rfl⟩

theorem State.rediscipline_clock : s.dropDiscipline.requalify.tb.clock = s.tb.clock := rfl

theorem State.rediscipline_books : s.dropDiscipline.requalify.books = s.books := rfl

theorem State.leaveService_adopts (c : Nat) : s.Adopts (s.leaveService c) := by
  have hleft := State.Adopts.foldl (op := fun t (e : Nat × Rec) => t.departBrick e.1 e.2) (fun _ _ => ⟨rfl, rfl, rfl⟩) (s.departing c) s
  exact hleft.trans ⟨rfl, rfl, rfl⟩

theorem State.dropUnfitted_adopts : s.Adopts s.dropUnfitted := .foldl State.leaveService_adopts _ _

theorem State.dropUnfitted_of_fitted (hfitted : ∀ e ∈ s.lk.courses, e.2.serves = true → s.isFitted e.1 = true) : s.dropUnfitted = s := by
  have hnone : (((s.lk.courses.filter (fun e => e.2.serves)).map (fun e => e.1)).filter (fun c => !s.isFitted c)) = [] := by
    simpa [List.filter_eq_nil_iff] using hfitted
  rw [State.dropUnfitted, hnone, List.foldl_nil]

theorem State.isFitted_congr {s t : State} (hact : t.xp.act = s.xp.act) (c : Nat) : t.isFitted c = s.isFitted c := by
  simp only [State.isFitted, State.prm, hact]

theorem State.turnWin_adoptsOnly (b c w g f : Nat) (split : Bool) : s.AdoptsOnly (s.turnWin b c w g f split) := ⟨⟨rfl, rfl, rfl⟩, rfl, rfl⟩

theorem State.splitWindows_adoptsOnly : s.AdoptsOnly s.splitWindows := by
  have hset (x : Crosspoint) (m : Modulator) (hx : x.landed = s.xp.landed) (hm : m.latch = s.md.latch) : s.AdoptsOnly { s with xp := x, md := m } := ⟨⟨rfl, hx, hm⟩, rfl, rfl⟩
  simp only [State.splitWindows]
  refine .ite (.refl s) (.trans ?_ (.foldl (fun u b => u.turnWin_adoptsOnly b _ _ _ _ _) _ _))
  exact hset _ _ rfl rfl

end

/-! ### The landing -/

section
variable {s : State} {p : PendSwap}

theorem doXpSwapLanding_of_lands (hpend : s.xp.pend = some p) (hlands : s.swapLands p = true) :
    doXpSwapLanding s = (({ s with xp := s.xp.land p (s.absTick + 1) } : State).takeUp s p).splitWindows := by
  simp [doXpSwapLanding, hpend, hlands]

theorem doXpSwapLanding_of_waits (hpend : s.xp.pend = some p) (hlands : s.swapLands p = false) : doXpSwapLanding s = s := by
  simp [doXpSwapLanding, hpend, hlands]

theorem doXpSwapLanding_of_none (hnone : s.xp.pend = none) : doXpSwapLanding s = s := by
  simp [doXpSwapLanding, hnone]

end

/-- What a landing's state has of the state with the new set in it. -/
theorem State.land_spec (s o : State) (p : PendSwap) : ∃ u : State, s.Adopts u ∧ u.books = s.books ∧ u.tb.clock = s.tb.clock ∧
    (o.xp.act.row 0x0302 0 0 = s.xp.act.row 0x0302 0 0 → u.tb = s.tb) ∧ s.takeUp o p = u.dropUnfitted := by
  obtain ⟨v, hv, heq⟩ := s.takeUp_eq o p
  by_cases hsame : o.xp.act.row 0x0302 0 0 = s.xp.act.row 0x0302 0 0
  · have hkept : s.takeUp o p = v.dropUnfitted := by rw [heq, if_neg (by simp [hsame])]
    exact ⟨v, hv.toAdopts, hv.books, congrArg Timebase.clock hv.tb, fun _ => hv.tb, hkept⟩
  · have hanew : s.takeUp o p = v.dropDiscipline.requalify.dropUnfitted := by rw [heq, if_pos (by simp [hsame])]
    exact ⟨_, hv.toAdopts.trans v.rediscipline_adopts, v.rediscipline_books.trans hv.books, v.rediscipline_clock.trans (congrArg Timebase.clock hv.tb), fun h => absurd h hsame, hanew⟩

/-- Settles O12: the landing sets the crosspoint, and of what follows only a course that leaves service writes the books, and only a change of plant time's sources the timebase. -/
theorem swapLandsWhole : Obligations.SwapLandsWhole := by
  unfold Obligations.SwapLandsWhole
  refine ⟨fun s p hpend hlands => ?_, fun s p hpend hlands => congrArg _ (doXpSwapLanding_of_waits hpend hlands), fun s hnone => congrArg _ (doXpSwapLanding_of_none hnone)⟩
  obtain ⟨u, hu, hbooks, hclock, hsources, htaken⟩ := State.land_spec { s with xp := s.xp.land p (s.absTick + 1) } s p
  have hsplit := u.dropUnfitted.splitWindows_adoptsOnly
  have hadopts := hu.trans (u.dropUnfitted_adopts.trans hsplit.toAdopts)
  have htb : u.dropUnfitted.splitWindows.tb = u.tb := hsplit.tb.trans u.dropUnfitted_tb
  have hlanded := hadopts.landed
  simp only [Crosspoint.landed, Crosspoint.land, Prod.mk.injEq] at hlanded
  obtain ⟨hact, hshadow, hstaged, hstagers, hnone, hgeneration, htick, hglide⟩ := hlanded
  have hticks := htb ▸ hclock
  simp only [Timebase.clock, Prod.mk.injEq] at hticks
  obtain ⟨-, hidx, hcycle, -⟩ := hticks
  refine ⟨_, congrArg Host.Outcome.next ((doXpSwapLanding_of_lands hpend hlands).trans (congrArg State.splitWindows htaken)), hact, hshadow, hstaged, hstagers, hnone, hgeneration, htick, hglide,
    State.eq_of_apart hadopts.apart, fun hfitted => ?_, hadopts.latch, fun hsame => htb.trans (hsources hsame), hidx, hcycle⟩
  have hcourses : u.lk.courses = s.lk.courses := congrArg (fun b => b.2.1.courses) hbooks
  have hmask : u.xp.act = s.xp.shadow := congrArg Prod.fst hu.landed
  have hall : u.dropUnfitted = u := u.dropUnfitted_of_fitted fun e he hserves => (State.isFitted_congr hmask e.1).trans (hfitted e (hcourses ▸ he) hserves)
  have hkept := hsplit.books.trans ((congrArg State.books hall).trans hbooks)
  simpa only [State.books, Prod.mk.injEq] using hkept

end Sys2Proof.Machine
end

section
/-! SUPPORT. The control stage: its loops write the control and load records alone, publish the tick, and then fill the drive tables; and the two ends of a plumb declaration (R143, R174, R180, R304, R307, R308). -/

namespace Sys2Proof.Machine
open Sys2Proof

/-! ### What the loops of stage 5 leave alone -/

/-- `t` differs from `s` in the control and load records alone. -/
structure State.InLoops (s t : State) : Prop where
  frame : t = { s with ce := t.ce, ld := t.ld }

namespace State.InLoops
variable {s t u : State}

theorem refl (s : State) : s.InLoops s := ⟨rfl⟩

theorem trans (hst : s.InLoops t) (htu : t.InLoops u) : s.InLoops u := ⟨htu.frame.trans (by rw [hst.frame])⟩

theorem ite {p : Prop} [Decidable p] (ht : s.InLoops t) (hu : s.InLoops u) : s.InLoops (if p then t else u) := by
  split
  · exact ht
  · exact hu

theorem foldl {op : State → Nat → State} (hop : ∀ u b, InLoops u (op u b)) (l : List Nat) (s : State) : s.InLoops (l.foldl op s) := by
  induction l generalizing s with
  | nil => exact .refl s
  | cons b l ih => exact (hop s b).trans (ih _)

theorem tb (h : s.InLoops t) : t.tb = s.tb := by rw [h.frame]
theorem xp (h : s.InLoops t) : t.xp = s.xp := by rw [h.frame]
theorem rd (h : s.InLoops t) : t.rd = s.rd := by rw [h.frame]
theorem fu (h : s.InLoops t) : t.fu = s.fu := by rw [h.frame]

/-- The drive tables filled as well. -/
theorem withDrive (h : s.InLoops t) (drive : Tab (Option Int)) :
    ({ t with rd := { t.rd with drive := drive } } : State) = { s with ce := t.ce, ld := t.ld, rd := { s.rd with drive := drive } } := by
  rw [h.frame]

end State.InLoops

section
variable (s : State)

theorem State.plantLoops_inLoops : s.InLoops s.plantLoops := .ite ⟨rfl⟩ ⟨rfl⟩

theorem State.measure_inLoops : s.InLoops s.measure := ⟨rfl⟩

theorem State.controlBay_inLoops (b : Nat) : s.InLoops (s.controlBay b) := .ite ⟨rfl⟩ ⟨rfl⟩

theorem State.publishCe_inLoops : s.InLoops s.publishCe := ⟨rfl⟩

theorem State.diagStage_inLoops : s.InLoops s.diagStage := ⟨rfl⟩

theorem State.fluxStage_inLoops : s.InLoops s.fluxStage := ⟨rfl⟩

theorem State.trackTick_inLoops : s.InLoops s.trackTick := ⟨rfl⟩

/-! ### What the stage shows -/

/-- What the end of stage 5 shows of the control engine: the tick of the winners, the bays still missed, and the bays of each mode (R180, R182, R183). -/
def Control.shown (c : Control) : Nat × List Nat × Nat × Nat := (c.winTick, c.missNext, c.nGfm, c.nGfl)

/-- What the stage has to show in the state it runs on. -/
def State.toShow (s : State) : Nat × List Nat × Nat × Nat :=
  (s.absTick, [], (s.allBays.filter (fun b => s.bayMode b == 2)).length, (s.allBays.filter (fun b => s.bayMode b == 1)).length)

theorem State.nBays_congr {s t : State} (hfu : t.fu = s.fu) : t.nBays = s.nBays :=
  congrArg (fun f : Fuses => if bits f.policy 2 2 = 1 then 48 else 144) hfu

theorem State.bayMode_congr {s t : State} (hxp : t.xp = s.xp) : t.bayMode = s.bayMode :=
  funext fun b => congrArg (fun x : Crosspoint => x.act.word 0x0601 b 0 0) hxp

/-- What there is to show rests on the time, the crosspoint and the variant alone. -/
theorem State.toShow_congr {s t : State} (htb : t.tb = s.tb) (hxp : t.xp = s.xp) (hfu : t.fu = s.fu) : t.toShow = s.toShow := by
  simp only [State.toShow, State.absTick, State.allBays, htb, State.bayMode_congr hxp, State.nBays_congr hfu]

/-- The status is read off the other fields. -/
theorem Control.statusNow_status (c : Control) (shown nb : Nat) : ({ c with status := shown } : Control).statusNow nb = c.statusNow nb := rfl

theorem State.publishCe_status : s.publishCe.ce.status = s.publishCe.ce.statusNow s.nBays := (Control.statusNow_status _ _ _).symm

/-- Every bay's measurements and loops have run. -/
def State.baysRun (s : State) : State := s.plantLoops.measure.allBays.foldl State.controlBay s.plantLoops.measure

/-- Stage 5 up to the drive tables. -/
def State.loopsRun (s : State) : State := s.baysRun.publishCe.diagStage.fluxStage

theorem State.baysRun_inLoops : s.InLoops s.baysRun :=
  (s.plantLoops_inLoops.trans (measure_inLoops _)).trans (.foldl State.controlBay_inLoops _ _)

theorem State.loopsRun_inLoops : s.InLoops s.loopsRun :=
  ((s.baysRun_inLoops.trans (publishCe_inLoops _)).trans (diagStage_inLoops _)).trans (fluxStage_inLoops _)

theorem State.loopsRun_shown : s.loopsRun.ce.shown = s.toShow := by
  have hloops := s.baysRun_inLoops
  exact State.toShow_congr hloops.tb hloops.xp hloops.fu

theorem State.loopsRun_status : s.loopsRun.ce.status = s.loopsRun.ce.statusNow s.nBays :=
  s.baysRun.publishCe_status.trans (congrArg (Control.statusNow s.baysRun.publishCe.ce) (State.nBays_congr s.baysRun_inLoops.fu))

end

section
variable {s : State}

theorem doControlStage_of_idle (hidle : s.ksRuns = false) : doControlStage s = s := if_pos (by simp [hidle])

/-- The loops run; then a tracking keystone's inner laws take the flywheel's targets, and the live one outside flywheel fills the drive tables (R304, R308). -/
theorem doControlStage_of_runs (hruns : s.ksRuns = true) :
    doControlStage s = if s.rd.tracking then s.loopsRun.trackTick else if s.rd.flywheel then s.loopsRun else s.loopsRun.driveTick := by
  rw [← s.loopsRun_inLoops.rd]
  exact if_neg (by simp [hruns])

/-- The stage's frame: the control and load records, and the drive tables. -/
theorem doControlStage_frame (hruns : s.ksRuns = true) :
    doControlStage s = { s with ce := (doControlStage s).ce, ld := (doControlStage s).ld, rd := { s.rd with drive := (doControlStage s).rd.drive } } := by
  have hloops := s.loopsRun_inLoops
  rw [doControlStage_of_runs hruns]
  split_ifs
  · exact (hloops.trans (State.trackTick_inLoops _)).withDrive _
  · exact hloops.withDrive _
  · exact hloops.withDrive s.loopsRun.driveTick.rd.drive

/-- The drive tables are filled by the live keystone outside flywheel alone (R308). -/
theorem doControlStage_drive (hruns : s.ksRuns = true) (hkept : s.rd.tracking = true ∨ s.rd.flywheel = true) : (doControlStage s).rd.drive = s.rd.drive := by
  have hdrive : s.loopsRun.rd.drive = s.rd.drive := congrArg Redundancy.drive s.loopsRun_inLoops.rd
  rw [doControlStage_of_runs hruns]
  split_ifs with htracking hfly
  · exact hdrive
  · exact hdrive
  · exact absurd hkept (by simp [htracking, hfly])

theorem doControlStage_shown (hruns : s.ksRuns = true) : (doControlStage s).ce.shown = s.toShow := by
  rw [doControlStage_of_runs hruns]
  split_ifs <;> exact s.loopsRun_shown

theorem doControlStage_status (hruns : s.ksRuns = true) (hlive : s.rd.tracking = false) : (doControlStage s).ce.status = (doControlStage s).ce.statusNow s.nBays := by
  rw [doControlStage_of_runs hruns, if_neg (by simp [hlive])]
  split_ifs <;> exact s.loopsRun_status

/-! ### The end of stage 1 (R282) -/

/-- A part of the state that a taken frame does not move, and that holds no held frame, stands at the end of stage 1. -/
theorem State.closeStage1_kept {α : Type} {f : State → α} (hframe : ∀ (u : State) b lane bs, f (u.takeFrame b lane bs) = f u)
    (hheld : ∀ u : State, f { u with lk := { u.lk with held := [] } } = f u) : f s.closeStage1 = f s := by
  have htaken (l : List (Nat × List Nat)) (u : State) : f (l.foldl (fun (t : State) e => if t.frameHere e.1 then t else t.takeFrame e.1 (twin e.1) e.2) u) = f u := by
    induction l generalizing u with
    | nil => rfl
    | cons e l ih =>
      refine (ih _).trans ?_
      dsimp only
      split
      · rfl
      · exact hframe u _ _ _
  exact (hheld _).trans (htaken _ s)

theorem State.closeStage1_xp_fu : s.closeStage1.xp = s.xp ∧ s.closeStage1.fu = s.fu := by
  refine Prod.mk.inj (State.closeStage1_kept (f := fun u => (u.xp, u.fu)) (fun u b lane bs => ?_) fun _ => rfl)
  obtain ⟨-, -, -, hxp, -, hfu, -⟩ := u.acceptFrame_report b lane (getLe bs 4 8 % 2 ^ 58) (getLe bs 12 2) (getLe bs 14 2) bs
  exact Prod.ext hxp hfu

/-! ### Plumb declarations (R174) -/

variable {b k : Nat}

theorem exec_plumbRecovery (hb : b < s.nBays) (hk : k < 3) : exec (.plumbRecovery b k) s = .next (doPlumbRecovery (pierIx b k) s) := if_neg (by omega)

theorem exec_plumbFloat (hb : b < s.nBays) (hk : k < 3) : exec (.plumbFloat b k) s = .next (doPlumbFloat (pierIx b k) s) := if_neg (by omega)

theorem pierIx_bay (hk : k < 3) : pierIx b k / 3 = b := by simp only [pierIx]; omega

variable {p : Nat}

theorem doPlumbRecovery_due (hmodel : (s.pierCtl p).model = true) (hgood : 4 ≤ (s.pierCtl p).goodTicks) (hin : (s.pierCtl p).modelTicks ≤ 16) :
    doPlumbRecovery p s = (({ s with ce := { s.ce with
      piers := tset {} s.ce.piers p (s.pierCtl p).measured
      bays := tmod {} s.ce.bays (p / 3) (fun x => { x with recovered := incSat 32 x.recovered }) } } : State).raise { kind := .plumbRecovered, unit := pierUid p }) :=
  if_pos ⟨hmodel, hgood, hin⟩

theorem doPlumbRecovery_of_measured (hmeasured : (s.pierCtl p).model = false) : doPlumbRecovery p s = s := if_neg (by simp [hmeasured])

theorem doPlumbFloat_of_measured (hmeasured : (s.pierCtl p).model = false) : doPlumbFloat p s = s := if_neg (by simp [hmeasured])

/-- Bay `b` floated by the plumb check, its declarations ended, a synchronisation not yet. -/
def State.plumbFloated (s : State) (b : Nat) : State :=
  { s with
    md := { (s.md.floatBay b : Modulator) with bays := tmod {} (s.md.floatBay b).bays b (fun x => { x with plumbFloat := true }) }
    ce := { s.ce with
      floatNow := true
      piers := iter 3 (fun j (t : Tab PierCtl) => tmod {} t (3 * b + j) PierCtl.measured) s.ce.piers
      bays := tmod {} s.ce.bays b (fun x => { x with floated := incSat 32 x.floated }) } }

theorem doPlumbFloat_due (hk : k < 3) (hmodel : (s.pierCtl (pierIx b k)).model = true) (hlong : 16 ≤ (s.pierCtl (pierIx b k)).modelTicks) (hbad : (s.pierCtl (pierIx b k)).goodTicks < 4) :
    doPlumbFloat (pierIx b k) s = ((s.plumbFloated b).endSyncOf [b]).raise { kind := .plumbFloated, unit := bayUid b } := by
  have hdue : doPlumbFloat (pierIx b k) s = ((s.plumbFloated (pierIx b k / 3)).endSyncOf [pierIx b k / 3]).raise { kind := .plumbFloated, unit := bayUid (pierIx b k / 3) } :=
    if_pos ⟨hmodel, hlong, hbad⟩
  rwa [pierIx_bay hk] at hdue

theorem State.endSyncOf_other (hother : s.syncingBay b = false) : s.endSyncOf [b] = s := if_neg (by simp [hother])

/-- A synchronisation of the bay whose close has not been reported ends: the bay is floated and READY again (R336, R343). -/
theorem State.endSyncOf_syncing {y : Sync} (hsync : s.st.sync = some y) (hbay : y.bay = b) (hopen : y.closed = false) :
    s.endSyncOf [b] = { s with
      md := s.md.floatBay b
      st := { s.st with sync := none, syncPermit := false, bays := tmod {} s.st.bays b (fun x => { x with phase := .ready, reason := 0, age := 0 }) } } := by
  have hends : s.endSyncOf [b] = s.endSync 0 := if_pos (by simp [State.syncingBay, hsync, hbay])
  simp only [hends, State.endSync, hsync, hopen, hbay, Bool.false_eq_true, if_false]

end

/-- Settles O43: the stage from its loops' frame and what they show, and a declaration's two ends. -/
theorem controlStageAndPlumb : Obligations.ControlStageAndPlumb := by
  unfold Obligations.ControlStageAndPlumb
  refine ⟨fun s hidle => ?idle, fun s hruns => ?runs, fun b k s hb hk hmodel hgood hin => ?recovers, fun b k s hb hk hmodel hlong hbad hother => ?floats,
    fun b k s hb hk hmeasured => ⟨?measured, ?measuredFloat⟩, fun b k y s hb hk hmodel hlong hbad hsync hbay hopen => ?syncing⟩
  case idle => exact congrArg Host.Outcome.next (doControlStage_of_idle (s.closeStage1_ksRuns.trans hidle))
  case runs =>
    have hruns' : s.closeStage1.ksRuns = true := s.closeStage1_ksRuns.trans hruns
    obtain ⟨hxp, hfu⟩ := s.closeStage1_xp_fu
    have hshown := (doControlStage_shown hruns').trans (State.toShow_congr s.closeStage1_tb hxp hfu)
    simp only [Control.shown, State.toShow, Prod.mk.injEq] at hshown
    obtain ⟨htick, hmiss, hgfm, hgfl⟩ := hshown
    exact ⟨_, rfl, doControlStage_frame hruns', htick, hmiss, doControlStage_drive hruns', fun hlive => State.nBays_congr hfu ▸ doControlStage_status hruns' hlive, hgfm, hgfl⟩
  case recovers => rw [exec_plumbRecovery hb hk, doPlumbRecovery_due hmodel hgood hin]; rfl
  case floats => rw [exec_plumbFloat hb hk, doPlumbFloat_due hk hmodel hlong hbad, State.endSyncOf_other (s := s.plumbFloated b) hother]; rfl
  case measured => rw [exec_plumbRecovery hb hk, doPlumbRecovery_of_measured hmeasured]
  case measuredFloat => rw [exec_plumbFloat hb hk, doPlumbFloat_of_measured hmeasured]
  case syncing =>
    have hends := State.endSyncOf_syncing (s := s.plumbFloated b) hsync hbay hopen
    refine ⟨(s.plumbFloated b).endSyncOf [b], ?_, ?_⟩
    · rw [exec_plumbFloat hb hk, doPlumbFloat_due hk hmodel hlong hbad]
    · rw [hends]
      exact ⟨rfl, rfl, rfl⟩

end Sys2Proof.Machine
end

section
/-! SUPPORT. The commands of the control engine, case by case (R152, R171, R176, R428, R435). -/

namespace Sys2Proof.Machine
open Sys2Proof

section
variable {b quantity value rate : Nat} {s : State}

/-! ### CE_SETPOINT_SET (R152, R435) -/

/-- A set-point in range: it is taken where the source is the host word, and refused elsewhere. -/
theorem ceSetpointSet_in_range (hquantity : quantity ≤ 1) (hvalue : signedOf 32 value = satQ22 (signedOf 32 value)) (hrate : rate ≤ 8384414) :
    ceSetpointSet quantity value rate s = if s.prm 0x0603 0 0 quantity ≠ 0 then (s, refuseAns stState 0x0604 255 0)
      else ({ s with ce := { s.ce with sets := s.ce.sets ++ [{ quantity := quantity, value := signedOf 32 value, rate := rate, tick := s.absTick }] } }, okAns) :=
  (if_neg hquantity.not_gt).trans (if_neg (by simp [← hvalue, hrate]))

/-! ### Flags, statistics and plumb status of a bay (R171, R176, R428, R435) -/

theorem ceFlagsRead_bay (hb : b < s.nBays) : ceFlagsRead (bayUid b) s =
    (s, okAns (le 2 (sumN ((s.lawStates b).zipIdx.map (fun e => b1 (e.1.any (fun q => q.outSat)) e.2))) ++
      (s.lawStates b).map (fun l => sumN ((List.range 8).map (fun j => b1 (l.any (fun q => (q.secs.getD j {}).sat)) j))) ++ [0] ++ le 4 (s.bayCtl b).clamps)) := by
  simp only [ceFlagsRead, checkLevel_bay s.nBays_le hb, ne_eq, not_true_eq_false, if_false]

theorem ceWinnerStats_bay {h : Hdr} {start max : Nat} (hb : b < s.nBays) :
    ceWinnerStats h (bayUid b) start max s = (s, okAns (cursor h.udp 52 start max ((s.bayCtl b).recs.map WinStat.bytes))) := by
  simp only [ceWinnerStats, checkLevel_bay s.nBays_le hb, ne_eq, not_true_eq_false, if_false]

theorem cePlumbStatus_bay (hb : b < s.nBays) : cePlumbStatus (bayUid b) s =
    (s, okAns (le 4 (s.bayCtl b).declared ++ le 4 (s.bayCtl b).recovered ++ le 4 (s.bayCtl b).floated ++
      [sumN ((List.range 3).map (fun k => b1 (s.pierCtl (3 * b + k)).model k)), 0, 0, 0] ++ ((List.range 16).map (fun k => leS 4 ((s.bayCtl b).recs.getD k {}).rhoMax)).flatten)) := by
  simp only [cePlumbStatus, checkLevel_bay s.nBays_le hb, ne_eq, not_true_eq_false, if_false]

/-! ### CE_FLAGS_CLEAR (R435) -/

theorem checkUid_bay {nb : Nat} (hn : nb ≤ 144) (hb : b < nb) : checkUid nb (bayUid b) = (0, ⟨3, b, 0, 0, 0⟩) :=
  checkUid_uid hn (by decide) hb (by decide) (by decide) (by decide) (fun _ => rfl) (fun _ => rfl) (fun _ => rfl) (by omega)

theorem ceFlagsClear_bay (hb : b < s.nBays) : ceFlagsClear (bayUid b) s = ({ s with ce := { s.ce with clearDue := s.ce.clearDue ++ [b] } }, okAns) := by
  simp [ceFlagsClear, checkUid_bay s.nBays_le hb]

theorem ceFlagsClear_plant : ceFlagsClear plantUid s = ({ s with ce := { s.ce with clearDue := s.allBays } }, okAns) := by
  simp [ceFlagsClear, checkUid_plant s.nBays_pos]

end

/-- Settles O42, command by command. -/
theorem controlCommands : Obligations.ControlCommands := by
  unfold Obligations.ControlCommands
  refine ⟨fun h q v r s hr hq hv hrate hhost => ?taken, fun h q v r s hr hq hv hrate hbound => ?bound, fun h b s hr hb => ?flags, fun h b s hr hb => ?clear,
    fun h s hr => ?clearAll, fun h b start max s hr hb => ?winners, fun h b s hr hb => ?plumb⟩
  case taken => exact answersJ_same rfl hr rfl (.inl rfl) ((ceSetpointSet_in_range hq hv hrate).trans (if_neg (not_not.mpr hhost)))
  case bound => exact answersJ_refused rfl hr (by decide) (by decide) ((ceSetpointSet_in_range hq hv hrate).trans (if_pos hbound))
  case flags => exact answers_same rfl hr rfl (ceFlagsRead_bay hb)
  case clear => exact answersJ_same rfl hr rfl (.inl rfl) (ceFlagsClear_bay hb)
  case clearAll => exact answersJ_same rfl hr rfl (.inl rfl) ceFlagsClear_plant
  case winners => exact answers_same rfl hr rfl (ceWinnerStats_bay hb)
  case plumb => exact answers_same rfl hr rfl (cePlumbStatus_bay hb)

end Sys2Proof.Machine
end

section
/-! SUPPORT. The trip latch: what setting it does, said once, and the rows and commands of the trip path (R208 to R212, R219). -/

namespace Sys2Proof.Machine
open Sys2Proof

/-! ### An event leaves the slots' phases -/

/-- A write to a slot that stays open in its phase. -/
theorem HostIf.set_phase (h : HostIf) {i : Nat} {x : Slot} (hopen : (tget {} h.slots i).phase ≠ .closed) (hx : x.phase = (tget {} h.slots i).phase) (j : Nat) :
    (tget {} (tset {} h.slots i x) j).phase = (tget {} h.slots j).phase := by
  have hlisted : x ≠ {} := fun hempty => hopen (hx.symm.trans (congrArg Slot.phase hempty))
  rw [tget_tset_listed _ hlisted]
  split
  · next hj => rw [hj, hx]
  · rfl

theorem HostIf.deliver_phase (h : HostIf) (i : Nat) (force : Bool) (r : EvRec) (j : Nat) : (tget {} (h.deliver i force r).slots j).phase = (tget {} h.slots j).phase := by
  simp only [HostIf.deliver]
  split_ifs with htold hring
  · exact h.set_phase htold.1 (Slot.deliver_phase _ i r) j
  · exact h.set_phase htold.1 (Slot.deliver_phase _ i r) j
  · rfl

theorem HostIf.merge_phase (h : HostIf) (i : Nat) (force : Bool) (m : Nat) (r : EvRec) (j : Nat) : (tget {} (h.merge i force m r).slots j).phase = (tget {} h.slots j).phase := by
  simp only [HostIf.merge]
  split_ifs with htold hrepeat
  · refine h.set_phase htold.1 ?_ j
    rfl
  · exact h.deliver_phase i force r j
  · rfl

@[simp] theorem State.raise_phase (s : State) (e : Evt) (j : Nat) : ((s.raise e).slot j).phase = (s.slot j).phase := by
  have hfold (slots : List Nat) (h : HostIf) :
      (tget {} (slots.foldl (fun (h : HostIf) i => if s.shedding then h.merge i false (evSources e.kind) (s.stampEvt e) else h.deliver i false (s.stampEvt e)) h).slots j).phase
        = (tget {} h.slots j).phase := by
    induction slots generalizing h with
    | nil => rfl
    | cons i slots ih =>
      refine (ih _).trans ?_
      split_ifs
      · exact h.merge_phase _ _ _ _ j
      · exact h.deliver_phase _ _ _ j
  exact hfold _ s.hs

/-! ### Setting the latch (R209, R211, R219) -/

/-- Floated bays write the piers' and the bays' records. -/
theorem Modulator.floatBays_frame (m : Modulator) (bs : List Nat) : m.floatBays bs = { m with piers := (m.floatBays bs).piers, bays := (m.floatBays bs).bays } := by
  induction bs generalizing m with
  | nil => rfl
  | cons b bs ih => exact ih (m.floatBay b)

/-- The end of a synchronisation writes the start's records and those of the floated bay. -/
theorem State.endSync_frame (s : State) (reason : Nat) : s.endSync reason = { s with
    md := { s.md with piers := (s.endSync reason).md.piers, bays := (s.endSync reason).md.bays }
    st := (s.endSync reason).st } := by
  simp only [State.endSync]
  split
  · rfl
  · split_ifs <;> rfl

/-- The modulator in which the latch is set and a cause is still to be marked: a latch that was clear takes the tick's stamp and no cause. -/
def State.latching (s : State) : Modulator :=
  if s.md.latch then s.md else { s.md with
    latch := true, tripStamp := s.tb.stamp, gsCause := 0, gpioCause := 0, isoCause := false, cmdCause := false, freezeCause := false, resetDue := false }

/-- `t` is `s` with the latch set and a cause marked: it writes the modulator, the start's records, the events' books and the host interface, and leaves the slots' phases. -/
structure State.Latches (mark : Modulator → Modulator) (s t : State) : Prop where
  frame : t = { s with md := t.md, st := t.st, ev := t.ev, hs := t.hs, lg := t.lg }
  modulator : t.md = { mark s.latching with piers := t.md.piers, bays := t.md.bays }
  phase : ∀ j, (t.slot j).phase = (s.slot j).phase

section
variable {s : State} {mark : Modulator → Modulator}

theorem State.latching_of_clear (hclear : s.md.latch = false) : s.latching = { s.md with
    latch := true, tripStamp := s.tb.stamp, gsCause := 0, gpioCause := 0, isoCause := false, cmdCause := false, freezeCause := false, resetDue := false } :=
  if_neg (by simp [hclear])

@[simp] theorem State.latching_latch : s.latching.latch = true := by
  simp only [State.latching]
  split
  · assumption
  · rfl

@[simp] theorem State.latching_gsIn : s.latching.gsIn = s.md.gsIn := by simp only [State.latching]; split <;> rfl
@[simp] theorem State.latching_gpioIn : s.latching.gpioIn = s.md.gpioIn := by simp only [State.latching]; split <;> rfl

theorem State.setLatch_of_set (hset : s.md.latch = true) : s.setLatch mark = { s with md := mark s.md } := if_pos hset

theorem State.setLatch_latches : s.Latches mark (s.setLatch mark) := by
  cases hlatch : s.md.latch
  case true =>
    have hmd : s.latching = s.md := if_pos hlatch
    rw [State.setLatch_of_set hlatch]
    exact ⟨rfl, by rw [hmd], fun _ => rfl⟩
  case false =>
    have hclear : ¬ s.md.latch = true := by simp [hlatch]
    simp only [State.setLatch, if_neg hclear, ← State.latching_of_clear hlatch]
    rw [State.endSync_frame, Modulator.floatBays_frame]
    exact ⟨rfl, rfl, fun j => State.raise_phase _ _ j⟩

end

/-! ### The inputs (R208, R209, R219) -/

section
variable {i : Nat} {s : State} {m : Modulator} {v : Bool}

theorem Modulator.setInput_gs (hi : i < 8) : m.setInput i v = { m with gsIn := setBit m.gsIn i v } := if_pos hi
theorem Modulator.setInput_gpio (hi : 8 ≤ i) : m.setInput i v = { m with gpioIn := setBit m.gpioIn (i - 8) v } := if_neg (Nat.not_lt.mpr hi)
theorem Modulator.setCause_gs (hi : i < 8) : m.setCause i = { m with gsCause := setBit m.gsCause i true } := if_pos hi
theorem Modulator.setCause_gpio (hi : 8 ≤ i) : m.setCause i = { m with gpioCause := setBit m.gpioCause (i - 8) true } := if_neg (Nat.not_lt.mpr hi)
theorem State.trackBall_gs (hi : i < 8) : s.trackBall i v = s := if_pos hi
theorem State.trackBall_gpio (hi : 8 ≤ i) :
    s.trackBall i v = { s with sys := { s.sys with gpioPins := setBit s.sys.gpioPins (i + 4) (v == (s.prm 0x0703 i 1 0 == 1)) } } := if_neg (Nat.not_lt.mpr hi)

theorem exec_tripInputAssert (hi : i < 12) : exec (.tripInputAssert i) s = .next (doTripInputAssert i s) := if_neg (Nat.not_le.mpr hi)
theorem exec_tripInputRelease (hi : i < 12) : exec (.tripInputRelease i) s = .next (doTripInputRelease i s) := if_neg (Nat.not_le.mpr hi)

/-- The input's level taken, its ball tracked. -/
def State.inputTaken (s : State) (i : Nat) (v : Bool) : State := State.trackBall { s with md := s.md.setInput i v } i v

theorem State.inputTaken_gs (hi : i < 8) : s.inputTaken i v = { s with md := { s.md with gsIn := setBit s.md.gsIn i v } } :=
  (State.trackBall_gs hi).trans (by rw [Modulator.setInput_gs hi])

theorem State.inputTaken_gpio (hi : 8 ≤ i) : s.inputTaken i v = { s with
    md := { s.md with gpioIn := setBit s.md.gpioIn (i - 8) v }
    sys := { s.sys with gpioPins := setBit s.sys.gpioPins (i + 4) (v == (s.prm 0x0703 i 1 0 == 1)) } } :=
  (State.trackBall_gpio hi).trans (by rw [Modulator.setInput_gpio hi]; rfl)

theorem doTripInputAssert_enabled (hon : s.tripEnabled i = true) :
    doTripInputAssert i s = (s.inputTaken i true).setLatch (fun m => { m.setCause i with resetDue := false }) :=
  (if_neg (by simp [hon])).trans (if_pos hon)

theorem doTripInputAssert_gs_disabled (hi : i < 8) (hoff : s.tripEnabled i = false) : doTripInputAssert i s = s.inputTaken i true :=
  (if_neg (by omega)).trans (if_neg (by simp [hoff]))

theorem doTripInputAssert_gpio_disabled (hi : 8 ≤ i) (hoff : s.tripEnabled i = false) : doTripInputAssert i s = s := if_pos ⟨hi, by simp [hoff]⟩

/-- An enabled GS_TRIP input: its cause and its level stand, and a ball's pin is not touched. -/
theorem inputLatches_gs {t : State} (hi : i < 8) (hset : (s.inputTaken i true).Latches (fun m => { m.setCause i with resetDue := false }) t) :
    t.md.latch = true ∧ t.md.gsCause.testBit i = true ∧ t.md.gsIn = setBit s.md.gsIn i true ∧ t.xp = s.xp ∧ t.ce = s.ce := by
  obtain ⟨hframe, hmd, -⟩ := hset
  rw [hframe, hmd, Modulator.setCause_gs hi, State.inputTaken_gs hi]
  exact ⟨State.latching_latch, testBit_setBit_self _ _, State.latching_gsIn, rfl, rfl⟩

/-- An enabled GPIO input: its cause, its level and its ball. -/
theorem inputLatches_gpio {t : State} (hi : 8 ≤ i) (hset : (s.inputTaken i true).Latches (fun m => { m.setCause i with resetDue := false }) t) :
    t.md.latch = true ∧ t.md.gpioCause.testBit (i - 8) = true ∧ t.md.gpioIn = setBit s.md.gpioIn (i - 8) true ∧
      t.sys.gpioPins = setBit s.sys.gpioPins (i + 4) (s.prm 0x0703 i 1 0 == 1) ∧ t.xp = s.xp ∧ t.ce = s.ce := by
  obtain ⟨hframe, hmd, -⟩ := hset
  rw [hframe, hmd, Modulator.setCause_gpio hi, State.inputTaken_gpio hi]
  exact ⟨State.latching_latch, testBit_setBit_self _ _, State.latching_gpioIn, by simp, rfl, rfl⟩

end

/-! ### The isolated supply and the reset (R210, R212) -/

section
variable {s : State}

/-- The isolated supply has failed: every grid-sense channel is invalid. -/
def State.isoLost (s : State) : State :=
  { s with sp := { s.sp with isoFault := true, gs := iter 8 (fun k (t : Tab GridSense) => tset {} t k { invalid := true }) s.sp.gs } }

theorem doIsoSupplyLoss_trips (hon : s.anyGsTrip = true) : doIsoSupplyLoss s = s.isoLost.setLatch (fun m => { m with isoCause := true, resetDue := false }) := if_pos hon

theorem doIsoSupplyLoss_disabled (hoff : s.anyGsTrip = false) : doIsoSupplyLoss s = s.isoLost := if_neg (by simp [hoff])

/-- Some enabled input is asserted. -/
def State.tripHeld (s : State) : Bool := (List.range 12).any (fun i => s.tripEnabled i && (if i < 8 then s.md.gsIn.testBit i else s.md.gpioIn.testBit (i - 8)))

theorem State.tripHeld_iff : s.tripHeld = true ↔ ∃ i < 12, s.tripEnabled i = true ∧ (if i < 8 then s.md.gsIn.testBit i else s.md.gpioIn.testBit (i - 8)) = true := by
  simp only [State.tripHeld, List.any_eq_true, List.mem_range, Bool.and_eq_true]

theorem tripReset_held (hheld : s.tripHeld = true ∨ s.sp.isoFault = true) : tripReset s = (s, refuseAns stState 0x070B 255 0) := if_pos hheld

theorem tripReset_free (hfree : s.tripHeld = false) (hsupply : s.sp.isoFault = false) : tripReset s = ({ s with md := { s.md with resetDue := true } }, okAns) :=
  if_neg (not_or.mpr ⟨Bool.eq_false_iff.mp hfree, Bool.eq_false_iff.mp hsupply⟩)

end

theorem Modulator.endReset_due {m : Modulator} (hdue : m.resetDue = true) : m.endReset =
    { m with latch := false, resetDue := false, gsCause := 0, gpioCause := 0, isoCause := false, cmdCause := false, freezeCause := false } := if_pos hdue

/-- Settles O46: each cause from what setting the latch does, the refusals from the inputs held. -/
theorem tripPathRows : Obligations.TripPathRows := by
  unfold Obligations.TripPathRows
  refine ⟨fun h s hr _ => ?command, fun i s hi hon => ?input, fun i s hi hoff => ?gsDisabled, fun i s hi => ?gsRelease, fun i s hlow hi => ?gpioRelease,
    fun i s hlow hi hoff => ?gpioDisabled, fun s hon => ?supply, fun s hoff => ?supplyDisabled, fun s => rfl, fun h s hr hsupply hfree => ?reset,
    fun h i s hr hi hon hasserted => ?held, fun h s hr hsupply => ?fault, fun m hdue => ?ends⟩
  case command =>
    obtain ⟨hframe, hmd, hphase⟩ := State.setLatch_latches (s := s) (mark := fun m => { m with cmdCause := true, resetDue := false })
    refine ⟨_, answersJ_open rfl hr (by rw [hphase]; exact hr.2) (.inl rfl) rfl, ?_⟩
    refine ⟨?latch, ?cause, ?withdrawn, by rw [hframe], by rw [hframe], by rw [hframe], by rw [hframe], State.setLatch_of_set, fun hclear => ?clear⟩
    case latch => rw [hmd]; exact State.latching_latch
    case cause => rw [hmd]
    case withdrawn => rw [hmd]
    case clear =>
      rw [hmd, State.latching_of_clear hclear]
      exact ⟨rfl, rfl, rfl, rfl, rfl⟩
  case input =>
    refine ⟨_, (exec_tripInputAssert hi).trans (congrArg _ (doTripInputAssert_enabled hon)), ?_⟩
    rcases Nat.lt_or_ge i 8 with hgs | hgpio
    · obtain ⟨hlatch, hcause, hin, hxp, hce⟩ := inputLatches_gs hgs State.setLatch_latches
      exact ⟨hlatch, fun _ => ⟨hcause, hin⟩, fun hge => absurd hgs (Nat.not_lt.mpr hge), hxp, hce⟩
    · obtain ⟨hlatch, hcause, hin, hpins, hxp, hce⟩ := inputLatches_gpio hgpio State.setLatch_latches
      exact ⟨hlatch, fun hlt => absurd hlt (Nat.not_lt.mpr hgpio), fun _ => ⟨hcause, hin, hpins⟩, hxp, hce⟩
  case gsDisabled => rw [exec_tripInputAssert (by omega), doTripInputAssert_gs_disabled hi hoff, State.inputTaken_gs hi]
  case gsRelease => exact (exec_tripInputRelease (by omega)).trans (congrArg _ (State.inputTaken_gs hi))
  case gpioRelease =>
    refine (exec_tripInputRelease hi).trans (congrArg _ ((State.inputTaken_gpio hlow).trans ?_))
    rw [Bool.false_beq]
  case gpioDisabled => rw [exec_tripInputAssert hi, doTripInputAssert_gpio_disabled hlow hoff]
  case supply =>
    obtain ⟨hframe, hmd, -⟩ := State.setLatch_latches (s := s.isoLost) (mark := fun m => { m with isoCause := true, resetDue := false })
    refine ⟨_, congrArg Host.Outcome.next (doIsoSupplyLoss_trips hon), ?_, ?_, ?_⟩
    · rw [hmd]; exact State.latching_latch
    · rw [hmd]
    · rw [hframe]; rfl
  case supplyDisabled => exact congrArg Host.Outcome.next (doIsoSupplyLoss_disabled hoff)
  case reset =>
    have hfree' : s.tripHeld = false := by
      refine Bool.eq_false_iff.mpr fun hheld => ?_
      obtain ⟨i, hi, hon, hasserted⟩ := State.tripHeld_iff.mp hheld
      exact Bool.noConfusion (hasserted.symm.trans (hfree i hi hon))
    exact answersJ_same rfl hr rfl (.inl rfl) (tripReset_free hfree' hsupply)
  case held => exact answersJ_refused rfl hr (by decide) (by decide) (tripReset_held (.inl (State.tripHeld_iff.mpr ⟨i, hi, hon, hasserted⟩)))
  case fault => exact answersJ_refused rfl hr (by decide) (by decide) (tripReset_held (.inr hsupply))
  case ends =>
    rw [Modulator.endReset_due hdue]
    exact ⟨rfl, rfl, rfl, rfl⟩

end Sys2Proof.Machine
end

section
/-! SUPPORT. Disabling piers and bays: what each operation does without a synchronisation and with one, and the three commands (R206, R336, R343, R436). -/

namespace Sys2Proof.Machine
open Sys2Proof

section
variable {s t u : State} {b k p mode : Nat} {m : PierMode}

/-! ### What a disable writes (R206) -/

/-- `t` is `s` with another modulator. -/
structure State.Modulates (s t : State) : Prop where
  frame : t = { s with md := t.md }

namespace State.Modulates

theorem refl (s : State) : s.Modulates s := ⟨rfl⟩

theorem trans (hst : s.Modulates t) (htu : t.Modulates u) : s.Modulates u := ⟨htu.frame.trans (by rw [hst.frame])⟩

theorem ite {c : Prop} [Decidable c] (ht : s.Modulates t) (hu : s.Modulates u) : s.Modulates (if c then t else u) := by
  split
  · exact ht
  · exact hu

theorem hs (h : s.Modulates t) : t.hs = s.hs := by rw [h.frame]
theorem sync (h : s.Modulates t) : t.st.sync = s.st.sync := by rw [h.frame]

end State.Modulates

theorem State.endSyncOf_one (s : State) (b : Nat) : s.endSyncOf [b] = if s.syncingBay b then s.endSync 0 else s := by
  simp only [State.endSyncOf, List.any_cons, List.any_nil, Bool.or_false]

/-- A pier's disable, from the state in which a synchronisation of its bay has ended. -/
theorem State.disablePier_eq (hends : s.endSyncOf [p / 3] = t) (m : PierMode) :
    s.disablePier p m = if (t.pierMod p).mode = m ∧ (t.pierMod p).enabling = false then t else { t with md := t.md.setPier p m } := by
  simp only [State.disablePier, ← State.endSyncOf_one, hends, Bool.not_eq_true]

theorem State.disablePier_of_none (hnone : s.st.sync = none) (p : Nat) (m : PierMode) :
    s.disablePier p m = if (s.pierMod p).mode = m ∧ (s.pierMod p).enabling = false then s else { s with md := s.md.setPier p m } :=
  State.disablePier_eq (State.endSyncOf_none hnone [p / 3]) m

theorem State.disablePier_changes (hnone : s.st.sync = none) (hchanges : (s.pierMod p).mode ≠ m) : s.disablePier p m = { s with md := s.md.setPier p m } :=
  (State.disablePier_of_none hnone p m).trans (if_neg fun hsame => hchanges hsame.1)

theorem State.disablePier_modulates (hnone : s.st.sync = none) (p : Nat) (m : PierMode) : s.Modulates (s.disablePier p m) := by
  rw [State.disablePier_of_none hnone]
  exact .ite (.refl s) ⟨rfl⟩

/-- The bay is wholly floated and no pier waits for an enable. -/
def State.allFloated (s : State) (b : Nat) : Prop :=
  (s.pierMod (3 * b)).mode = .floated ∧ (s.pierMod (3 * b + 1)).mode = .floated ∧ (s.pierMod (3 * b + 2)).mode = .floated ∧
    (List.range 3).all (fun k => !(s.pierMod (3 * b + k)).enabling) = true

theorem State.disableFloat_of_allFloated (hnone : s.st.sync = none) (hfloated : s.allFloated b) : s.disableFloat b = s := by
  simp only [State.disableFloat, ← State.endSyncOf_one, State.endSyncOf_none hnone]
  exact if_pos hfloated

theorem State.disableFloat_of_not_allFloated (hnone : s.st.sync = none) (hlive : ¬ s.allFloated b) : s.disableFloat b = { s with md := s.md.floatBay b } := by
  simp only [State.disableFloat, ← State.endSyncOf_one, State.endSyncOf_none hnone]
  exact if_neg hlive

theorem State.disableFloat_enabled (hnone : s.st.sync = none) (hon : (s.pierMod (3 * b)).mode = .enabled) : s.disableFloat b = { s with md := s.md.floatBay b } :=
  State.disableFloat_of_not_allFloated hnone fun hfloated => PierMode.noConfusion (hon.symm.trans hfloated.1)

theorem State.disableFloat_modulates (hnone : s.st.sync = none) (b : Nat) : s.Modulates (s.disableFloat b) := by
  by_cases hfloated : s.allFloated b
  · rw [State.disableFloat_of_allFloated hnone hfloated]
    exact .refl s
  · rw [State.disableFloat_of_not_allFloated hnone hfloated]
    exact ⟨rfl⟩

/-! ### A bay, and the bays in turn -/

/-- A disable of the bay floats it: FLOAT asked for or named by the profile, or the breaker not reported open. -/
def State.takesFloat (s : State) (b mode : Nat) : Bool := s.asksFloat b mode || (s.bayLink b).closed

/-- The three piers of the bay disabled to BYPASS. -/
def State.bypassBay (s : State) (b : Nat) : State := ((s.disablePier (3 * b) .bypassed).disablePier (3 * b + 1) .bypassed).disablePier (3 * b + 2) .bypassed

theorem State.bypassBay_modulates (hnone : s.st.sync = none) (b : Nat) : s.Modulates (s.bypassBay b) := by
  have hone := State.disablePier_modulates hnone (3 * b) .bypassed
  have htwo := hone.trans (State.disablePier_modulates (hone.sync.trans hnone) (3 * b + 1) .bypassed)
  exact htwo.trans (State.disablePier_modulates (htwo.sync.trans hnone) (3 * b + 2) .bypassed)

theorem State.disableBay_eq (s : State) (b mode : Nat) :
    s.disableBay b mode = (if s.takesFloat b mode = true then s.disableFloat b else s.bypassBay b, s.takesFloat b mode) := by
  cases hf : s.takesFloat b mode
  · exact if_neg (by simpa [State.takesFloat] using hf)
  · exact if_pos (by simpa [State.takesFloat] using hf)

theorem State.disableBay_modulates (hnone : s.st.sync = none) (b mode : Nat) : s.Modulates (s.disableBay b mode).1 := by
  rw [State.disableBay_eq]
  exact .ite (State.disableFloat_modulates hnone b) (State.bypassBay_modulates hnone b)

theorem State.disableBays_modulates (mode : Nat) (bs : List Nat) (hnone : s.st.sync = none) : s.Modulates (bs.foldl (fun (u : State) b => (u.disableBay b mode).1) s) := by
  induction bs generalizing s with
  | nil => exact .refl s
  | cons b bs ih =>
    have hstep := State.disableBay_modulates hnone b mode
    exact hstep.trans (ih (hstep.sync.trans hnone))

theorem State.takesFloat_congr (h : s.Modulates t) (b mode : Nat) : t.takesFloat b mode = s.takesFloat b mode := by rw [h.frame]; rfl

/-- Bays disabled in turn, and whether one of them took FLOAT. -/
theorem State.disableBays_eq (mode : Nat) (bs : List Nat) (hnone : s.st.sync = none) (float : Bool) :
    bs.foldl (fun (a : State × Bool) b => let q := a.1.disableBay b mode; (q.1, a.2 || q.2)) (s, float) =
      (bs.foldl (fun (u : State) b => (u.disableBay b mode).1) s, float || bs.any (fun b => s.takesFloat b mode)) := by
  induction bs generalizing s float with
  | nil => simp
  | cons b bs ih =>
    have hstep := State.disableBay_modulates hnone b mode
    have htakes : (s.disableBay b mode).2 = s.takesFloat b mode := congrArg Prod.snd (s.disableBay_eq b mode)
    refine (ih (hstep.sync.trans hnone) _).trans ?_
    simp only [State.takesFloat_congr hstep, htakes, List.foldl_cons, List.any_cons, Bool.or_assoc]

/-! ### The commands (R436) -/

/-- The mode in which a disable leaves a pier. -/
def disabledMode (float : Bool) : PierMode := if float = true then .floated else .bypassed

theorem disabledMode_ne_enabled (float : Bool) : PierMode.enabled ≠ disabledMode float := by cases float <;> exact PierMode.noConfusion

theorem pierDisable_out_of_range (hb : b < s.nBays) (hk : k < 3) (hmode : 2 < mode) :
    pierDisable (pierUid (pierIx b k)) mode s = (s, refuseAns stRange 0x0704 255 (pierUid (pierIx b k))) := by
  simp only [pierDisable, checkLevel_pier s.nBays_le hb hk, ne_eq, not_true_eq_false, if_false, hmode, if_true]

theorem pierDisable_closed (hb : b < s.nBays) (hk : k < 3) (hmode : mode ≤ 2) (hclosed : (s.bayLink b).closed = true) :
    pierDisable (pierUid (pierIx b k)) mode s = (s.disableFloat b, okAns [1, 3]) := by
  simp only [pierDisable, checkLevel_pier s.nBays_le hb hk, ne_eq, not_true_eq_false, if_false, hmode.not_gt, hclosed, if_true]
  rfl

theorem pierDisable_open (hb : b < s.nBays) (hk : k < 3) (hmode : mode ≤ 2) (hopen : (s.bayLink b).closed = false) :
    pierDisable (pierUid (pierIx b k)) mode s = (s.disablePier (pierIx b k) (disabledMode (s.asksFloat b mode)), okAns [bit (s.asksFloat b mode), 2]) := by
  simp only [pierDisable, checkLevel_pier s.nBays_le hb hk, ne_eq, not_true_eq_false, if_false, hmode.not_gt, hopen, Bool.false_eq_true]
  rfl

theorem bayDisable_eq (hb : b < s.nBays) (hmode : mode ≤ 2) :
    bayDisable (bayUid b) mode s = (if s.takesFloat b mode = true then s.disableFloat b else s.bypassBay b, okAns [bit (s.takesFloat b mode), 3]) := by
  simp only [bayDisable, checkLevel_bay s.nBays_le hb, ne_eq, not_true_eq_false, if_false, hmode.not_gt, State.disableBay_eq]
  rfl

theorem plantDisable_eq (hmode : mode ≤ 2) (hnone : s.st.sync = none) :
    plantDisable plantUid mode s = (s.allBays.foldl (fun (u : State) b => (u.disableBay b mode).1) s, okAns [bit (s.allBays.any (fun b => s.takesFloat b mode)), 4]) := by
  simp only [plantDisable, checkLevel_plant s.nBays_pos, ne_eq, not_true_eq_false, if_false, hmode.not_gt, State.disableBays_eq mode _ hnone, Bool.false_or]
  rfl

/-- What a disable asks for, as the statement writes it. -/
theorem State.asksFloat_eq_decide (s : State) (b mode : Nat) : s.asksFloat b mode = decide (mode = 1 ∨ (mode = 2 ∧ s.mdPrm b 11 0 = 1)) := by
  rw [Bool.eq_iff_iff]
  simp [State.asksFloat]

theorem disabledMode_decide (c : Prop) [Decidable c] : disabledMode (decide c) = if c then .floated else .bypassed := by simp [disabledMode]

end

/-- Settles O44, command by command: without a synchronisation only the modulator changes, and a synchronisation of the pier's bay ends first. -/
theorem disableCommands : Obligations.DisableCommands := by
  unfold Obligations.DisableCommands
  refine ⟨fun h b k mode s hr hb hk hmode hopen hnone hon => ?pier, fun h b k mode s hr hb hk hmode => ?range, fun h b s hr hb hnone hon => ?bayFloat,
    fun h b mode s hr hb hmode hnone => ?bay, fun h mode s hr hmode hnone => ?plant, fun h b k mode s hr hb hk hmode hclosed hnone hon => ?closed,
    fun h b k mode y s hr hb hk hmode hopen hsync hbay hunclosed => ?syncing, fun b s hnone hon => State.disableFloat_enabled hnone hon,
    fun p m s hnone hchanges => State.disablePier_changes hnone hchanges⟩
  case pier =>
    have hchanges : (s.pierMod (pierIx b k)).mode ≠ disabledMode (s.asksFloat b mode) := hon ▸ disabledMode_ne_enabled _
    have hcommand := pierDisable_open hb hk hmode hopen
    rw [State.disablePier_changes hnone hchanges, State.asksFloat_eq_decide, disabledMode_decide] at hcommand
    exact answersJ_same rfl hr rfl (.inl rfl) hcommand
  case range => exact answersJ_refused rfl hr (show stRange ≠ stOk by decide) (show stRange ≠ stAccepted by decide) (pierDisable_out_of_range hb hk hmode)
  case bayFloat =>
    have hfloat : s.takesFloat b 1 = true := rfl
    have hcommand := bayDisable_eq (mode := 1) hb (by decide)
    rw [hfloat, if_pos rfl, State.disableFloat_enabled hnone hon] at hcommand
    exact answersJ_same rfl hr rfl (.inl rfl) hcommand
  case bay =>
    have honly : s.Modulates (if s.takesFloat b mode = true then s.disableFloat b else s.bypassBay b) :=
      .ite (State.disableFloat_modulates hnone b) (State.bypassBay_modulates hnone b)
    exact ⟨answersJ_same rfl hr honly.hs (.inl rfl) (bayDisable_eq hb hmode), honly.frame⟩
  case plant =>
    have honly := State.disableBays_modulates mode s.allBays hnone
    exact ⟨answersJ_same rfl hr honly.hs (.inl rfl) (plantDisable_eq hmode hnone), honly.frame⟩
  case closed =>
    have hcommand := pierDisable_closed hb hk hmode hclosed
    rw [State.disableFloat_enabled hnone hon] at hcommand
    exact answersJ_same rfl hr rfl (.inl rfl) hcommand
  case syncing =>
    have hends := (congrArg (fun j => s.endSyncOf [j]) (pierIx_bay hk)).trans (State.endSyncOf_syncing hsync hbay hunclosed)
    have hcommand := pierDisable_open hb hk hmode hopen
    rw [State.disablePier_eq hends] at hcommand
    exact answersJ_same rfl hr (State.Modulates.ite (.refl _) ⟨rfl⟩).hs (.inl rfl) hcommand

end Sys2Proof.Machine
end

section
/-! SUPPORT. Enabling piers and bays, case by case, and the landing of an enable (R207, R337, R343, R371, R436, R442). -/

namespace Sys2Proof.Machine
open Sys2Proof

section
variable {s : State} {b k : Nat}

/-! ### The conditions (R207, R343, R371, R442) -/

/-- No enable of a bay or of the plant is taken: a safe stop runs, the fuses are in MAINTAIN, or the hold-up bank is below ready. -/
def State.enablesShut (s : State) : Bool := s.stopping || s.fu.maint || !s.huReady

theorem State.enablesShut_iff : s.enablesShut = true ↔ s.stopping = true ∨ s.fu.maint = true ∨ s.huReady = false := by
  simp only [State.enablesShut, Bool.or_eq_true, Bool.not_eq_true', or_assoc]

theorem State.enablesShut_of_free (hstop : s.stopping = false) (hmaint : s.fu.maint = false) (hready : s.huReady = true) : s.enablesShut = false := by
  simp only [State.enablesShut, hstop, hmaint, hready, Bool.not_true, Bool.or_false]

theorem State.enablesShut_of_enableOk (hok : s.enableOk b = true) : s.enablesShut = false := by
  simp only [State.enableOk, Bool.and_eq_true, Bool.not_eq_true'] at hok
  obtain ⟨⟨⟨⟨-, hstop⟩, hmaint⟩, hready⟩, -⟩ := hok
  exact State.enablesShut_of_free hstop hmaint hready

/-! ### PIER_ENABLE and PLANT_ENABLE -/

theorem pierEnable_taken (hb : b < s.nBays) (hk : k < 3) (hok : s.enableOk b = true) (hin : (s.bayStart b).excl = .none) :
    pierEnable (pierUid (pierIx b k)) s = ({ s with md := s.md.askEnable (pierIx b k) }, acceptedAns) := by
  simp only [pierEnable, checkLevel_pier s.nBays_le hb hk, ne_eq, not_true_eq_false, if_false, hok, hin, or_self]

theorem pierEnable_refused (hb : b < s.nBays) (hk : k < 3) (hbarred : s.enableOk b = false ∨ (s.bayStart b).excl ≠ .none) :
    pierEnable (pierUid (pierIx b k)) s = (s, refuseAns stState 0x0707 255 (pierUid (pierIx b k))) := by
  simp only [pierEnable, checkLevel_pier s.nBays_le hb hk, ne_eq, not_true_eq_false, if_false]
  exact if_pos (hbarred.imp_left Bool.eq_false_iff.mp)

theorem plantEnable_shut (hshut : s.enablesShut = true) : plantEnable plantUid s = (s, refuseAns stState 0x0709 255 plantUid) := by
  simp only [plantEnable, checkLevel_plant s.nBays_pos]
  exact if_pos hshut

theorem plantEnable_free (hfree : s.enablesShut = false) : plantEnable plantUid s =
    (let ok := s.allBays.filter (fun b => s.enableOk b && (s.bayStart b).excl == .none)
    ({ s with md := ok.foldl Modulator.askBay s.md }, acceptedAns (le 2 ok.length ++ le 2 (s.nBays - ok.length)))) := by
  simp only [plantEnable, checkLevel_plant s.nBays_pos]
  exact if_neg (Bool.eq_false_iff.mp hfree)

/-! ### BAY_ENABLE (R323, R337) -/

theorem bayEnable_shut (hb : b < s.nBays) (hshut : s.enablesShut = true) : bayEnable (bayUid b) s = (s, refuseAns stState 0x0708 255 (bayUid b)) := by
  simp only [bayEnable, checkLevel_bay s.nBays_le hb]
  exact if_pos hshut

theorem bayEnable_free (hb : b < s.nBays) (hfree : s.enablesShut = false) : bayEnable (bayUid b) s =
    if (s.clearExclusion b).enableOk b then ({ s.clearExclusion b with md := (s.clearExclusion b).md.askBay b }, acceptedAns)
    else if (s.bayStart b).excl = .command then (s.clearExclusion b, acceptedAns) else (s, refuseAns stState 0x0708 255 (bayUid b)) := by
  simp only [bayEnable, checkLevel_bay s.nBays_le hb]
  exact if_neg (Bool.eq_false_iff.mp hfree)

theorem State.clearExclusion_of_ne (hother : (s.bayStart b).excl ≠ .command) : s.clearExclusion b = s := if_neg hother

theorem State.clearExclusion_commanded (hexcl : (s.bayStart b).excl = .command) : s.clearExclusion b =
    { s with st := { s.st with bays := tmod {} s.st.bays b (fun x =>
      let waits := x.back = .lane ∨ (x.back = .waitDevice ∧ s.st.devStep = 7)
      { x with excl := .none, phase := if waits then (if s.hubIn b = true then .admitting else .lane) else x.back, reason := if waits ∧ s.hubIn b = true then 0 else x.backReason, age := 0, exclDue := false }) } } :=
  if_pos hexcl

theorem bayEnable_taken (hb : b < s.nBays) (hok : s.enableOk b = true) (hin : (s.bayStart b).excl = .none) :
    bayEnable (bayUid b) s = ({ s with md := s.md.askBay b }, acceptedAns) := by
  have hother : (s.bayStart b).excl ≠ .command := by simp [hin]
  rw [bayEnable_free hb (State.enablesShut_of_enableOk hok), State.clearExclusion_of_ne hother, if_pos hok]

/-- A bay excluded by command: its exclusion ends, and it is enabled where its conditions hold. -/
theorem bayEnable_excluded (hb : b < s.nBays) (hfree : s.enablesShut = false) (hexcl : (s.bayStart b).excl = .command) : bayEnable (bayUid b) s =
    (if (s.clearExclusion b).enableOk b = true then { s.clearExclusion b with md := (s.clearExclusion b).md.askBay b } else s.clearExclusion b, acceptedAns) := by
  rw [bayEnable_free hb hfree, if_pos hexcl]
  split <;> rfl

/-! ### ENABLE_LANDING (R207, R307) -/

theorem exec_enableLanding (hb : b < s.nBays) (hk : k < 3) : exec (.enableLanding b k) s = .next (doEnableLanding b k s) := if_neg (by omega)

theorem doEnableLanding_due (hwaits : (s.pierMod (pierIx b k)).enabling = true) (hidx : s.tb.idx = 0) (hsteered : s.rd.flywheel = false) :
    doEnableLanding b k s = (if s.enableOk b then s.landEnable (pierIx b k)
      else { s with md := { s.md with piers := tmod {} s.md.piers (pierIx b k) (fun q => { q with enabling := false }) } }).raise
        { kind := .enableLanded, unit := pierUid (pierIx b k), detail := bit (s.enableOk b) } :=
  if_pos ⟨hwaits, hidx, by simp [hsteered]⟩

theorem doEnableLanding_of_flywheel (hfly : s.rd.flywheel = true) : doEnableLanding b k s = s := if_neg (by simp [hfly])

end

/-- Settles O45, command by command, and the landing's three ends. -/
theorem enableCommands : Obligations.EnableCommands := by
  unfold Obligations.EnableCommands
  refine ⟨fun h b k s hr hb hk hok hin => ?pier, fun h b k s hr hb hk hbarred => ?pierRefused, fun h b s hr hb hok hin => ?bay, fun h s hr hstop hmaint hready => ?plant,
    fun b k s hb hk hwaits hidx hsteered hok => ?lands, fun b k s hb hk hwaits hidx hsteered hgone => ?drops, fun b k s hb hk hfly => ?flywheel,
    fun h b s hr hb hstop hmaint hready hexcl => ?excluded, fun h b s hrBay hrPlant hb hshut => ⟨?bayShut, ?plantShut⟩⟩
  case pier => exact answersJ_same rfl hr rfl (.inr rfl) (pierEnable_taken hb hk hok hin)
  case pierRefused => exact answersJ_refused rfl hr (show stState ≠ stOk by decide) (show stState ≠ stAccepted by decide) (pierEnable_refused hb hk hbarred)
  case bay => exact answersJ_same rfl hr rfl (.inr rfl) (bayEnable_taken hb hok hin)
  case plant => exact answersJ_same rfl hr rfl (.inr rfl) (plantEnable_free (State.enablesShut_of_free hstop hmaint hready))
  case lands =>
    rw [exec_enableLanding hb hk, doEnableLanding_due hwaits hidx hsteered, hok]
    rfl
  case drops =>
    rw [exec_enableLanding hb hk, doEnableLanding_due hwaits hidx hsteered, hgone]
    rfl
  case flywheel => rw [exec_enableLanding hb hk, doEnableLanding_of_flywheel hfly]
  case excluded =>
    have hcommand := bayEnable_excluded hb (State.enablesShut_of_free hstop hmaint hready) hexcl
    rw [State.clearExclusion_commanded hexcl] at hcommand
    exact answersJ_same rfl hr (State.Modulates.ite ⟨rfl⟩ (.refl _)).hs (.inr rfl) hcommand
  case bayShut =>
    exact answersJ_refused rfl hrBay (show stState ≠ stOk by decide) (show stState ≠ stAccepted by decide) (bayEnable_shut hb (State.enablesShut_iff.mpr hshut))
  case plantShut => exact answersJ_refused rfl hrPlant (by decide) (by decide) (plantEnable_shut (State.enablesShut_iff.mpr hshut))

end Sys2Proof.Machine
end

section
/-! SUPPORT. What stage 2 is given and leaves as it stands: the crosspoint, the detoured frames that wait, and the snapshot, from the frames of stage 1 to the end of the pass (R77, R228, R282). -/

namespace Sys2Proof.Machine
open Sys2Proof

/-! ### Operations in a row -/

/-- `t` has the crosspoint, the detoured frames that wait and the snapshot of `s`. -/
@[simp] abbrev State.SameGiven (t s : State) : Prop :=
  t.xp = s.xp ∧ t.lk.held = s.lk.held ∧ t.rc.snapBricks = s.rc.snapBricks ∧ t.rc.snapTick = s.rc.snapTick

theorem State.SameGiven.trans {s t u : State} (hut : u.SameGiven t) (hts : t.SameGiven s) : u.SameGiven s := by
  obtain ⟨hxp, hheld, hbricks, htick⟩ := hut
  obtain ⟨hxp', hheld', hbricks', htick'⟩ := hts
  exact ⟨hxp.trans hxp', hheld.trans hheld', hbricks.trans hbricks', htick.trans htick'⟩

/-- An operation that leaves all of it alone. -/
def KeepsGiven {α : Type} (op : State → α → State) : Prop := ∀ s a, (op s a).SameGiven s

@[simp] theorem keepsGiven_iff {α : Type} {op : State → α → State} : KeepsGiven op ↔ ∀ s a, (op s a).SameGiven s := Iff.rfl

@[simp] theorem foldl_given {α : Type} {op : State → α → State} (hop : KeepsGiven op) (l : List α) (s : State) : (l.foldl op s).SameGiven s := by
  induction l generalizing s with
  | nil => simp
  | cons a l ih => exact .trans (ih _) (hop _ a)

@[simp] theorem State.ite_held (p : Prop) [Decidable p] (s t : State) : (if p then s else t).lk.held = if p then s.lk.held else t.lk.held :=
  apply_ite (fun u : State => u.lk.held) p s t
@[simp] theorem State.ite_snapBricks (p : Prop) [Decidable p] (s t : State) : (if p then s else t).rc.snapBricks = if p then s.rc.snapBricks else t.rc.snapBricks :=
  apply_ite (fun u : State => u.rc.snapBricks) p s t
@[simp] theorem State.ite_snapTick (p : Prop) [Decidable p] (s t : State) : (if p then s else t).rc.snapTick = if p then s.rc.snapTick else t.rc.snapTick :=
  apply_ite (fun u : State => u.rc.snapTick) p s t

/-- Steps that each leave a part of a value alone leave it alone. -/
theorem foldl_kept {α β γ : Type} {f : β → γ} {op : β → α → β} (hop : ∀ b a, f (op b a) = f b) (l : List α) (b : β) : f (l.foldl op b) = f b := by
  induction l generalizing b with
  | nil => rfl
  | cons a l ih => exact (ih _).trans (hop b a)

section
variable (s : State)

/-! ### Records at admission (R33, R333) -/

@[simp] theorem State.keepImage_given (x : Nat) (image : List Nat) : (s.keepImage x image).SameGiven s := ⟨rfl, rfl, rfl, rfl⟩
@[simp] theorem State.closeRecord_given (x : Nat) (image : List Nat) : (s.closeRecord x image).SameGiven s := ⟨rfl, rfl, rfl, rfl⟩
@[simp] theorem State.closeBound_given (x : Nat) : (s.closeBound x).SameGiven s := by
  simp only [State.closeBound]
  split <;> simp
@[simp] theorem State.putRecord_given (x serial : Nat) (r : Rec) (e : Ext) : (s.putRecord x serial r e).SameGiven s := ⟨rfl, rfl, rfl, rfl⟩
@[simp] theorem State.openRecord_given (x serial : Nat) (marked : Bool) : (s.openRecord x serial marked).SameGiven s := by
  simp only [State.openRecord]
  (repeat' split) <;> simp
@[simp] theorem State.clearRecord_given (x : Nat) : (s.clearRecord x).SameGiven s := ⟨rfl, rfl, rfl, rfl⟩
@[simp] theorem State.openNew_given (x serial : Nat) : (s.openNew x serial).SameGiven s := ⟨rfl, rfl, rfl, rfl⟩
@[simp] theorem State.markRestored_given (b : Nat) : (s.markRestored b).SameGiven s := ⟨rfl, rfl, rfl, rfl⟩
@[simp] theorem State.skipBay_given (b : Nat) : (s.skipBay b).SameGiven s := by simp [State.skipBay]

/-! ### Messages (R271, R286, R291 to R294) -/

@[simp] theorem State.modLink_given (b : Nat) (f : BayLink → BayLink) : (s.modLink b f).SameGiven s := ⟨rfl, rfl, rfl, rfl⟩
@[simp] theorem State.modCourse_given (c : Nat) (f : Course → Course) : (s.modCourse c f).SameGiven s := ⟨rfl, rfl, rfl, rfl⟩
@[simp] theorem State.sendMsg_given (b kind pos : Nat) (payload : List Nat) : (s.sendMsg b kind pos payload).SameGiven s := ⟨rfl, rfl, rfl, rfl⟩
@[simp] theorem State.misroute_given (b n : Nat) : (s.misroute b n).SameGiven s := by simp [State.misroute]
@[simp] theorem State.refuseHub_given (b reason : Nat) : (s.refuseHub b reason).SameGiven s := ⟨rfl, rfl, rfl, rfl⟩
@[simp] theorem State.bindEvent_given (unit kind brick course hub : Nat) : (s.bindEvent unit kind brick course hub).SameGiven s := ⟨rfl, rfl, rfl, rfl⟩
@[simp] theorem doHello_given (b : Nat) (m : HelloMsg) : (doHello b m s).SameGiven s := by simp [doHello]
@[simp] theorem doRing_given (b : Nat) (m : RingMsg) : (doRing b m s).SameGiven s := by simp [doRing]
@[simp] theorem State.refuseCourse_given (c reason : Nat) : (s.refuseCourse c reason).SameGiven s := ⟨rfl, rfl, rfl, rfl⟩
@[simp] theorem State.refuseUnfitted_given (c serial : Nat) : (s.refuseUnfitted c serial).SameGiven s := ⟨rfl, rfl, rfl, rfl⟩
@[simp] theorem State.refuseType_given (c ctype : Nat) : (s.refuseType c ctype).SameGiven s := by simp [State.refuseType]
@[simp] theorem doJoin_given (b : Nat) (m : JoinMsg) : (doJoin b m s).SameGiven s := by simp [doJoin]
@[simp] theorem State.admitHub_given (c : Nat) (serials : List Nat) : (s.admitHub c serials).SameGiven s := by simp [State.admitHub]
@[simp] theorem doSerials_given (b : Nat) (m : SerialsMsg) : (doSerials b m s).SameGiven s := by simp [doSerials]

/-! ### Frames (R274 to R282) -/

@[simp] theorem State.takeSlow_given (c t v : Nat) : (s.takeSlow c t v).SameGiven s := by simp [State.takeSlow]
@[simp] theorem State.blockReports_given (c st : Nat) : (s.blockReports c st).SameGiven s := by simp [State.blockReports]
@[simp] theorem State.withdrawNow_given (c : Nat) : (s.withdrawNow c).SameGiven s := ⟨rfl, rfl, rfl, rfl⟩
@[simp] theorem State.courseSignals_given (c st ctype : Nat) : (s.courseSignals c st ctype).SameGiven s := by simp [State.courseSignals]
@[simp] theorem State.liveSection_given (c t : Nat) (sec : List Nat) (pool : List PoolEntry) : (s.liveSection c t sec pool).SameGiven s := by
  simp [State.liveSection]
@[simp] theorem State.takeSections_given (b t : Nat) (bs : List Nat) (pool : List PoolEntry) : (s.takeSections b t bs pool).SameGiven s := by
  simp [State.takeSections]
@[simp] theorem State.takeCurrents_given (b : Nat) (bs : List Nat) : (s.takeCurrents b bs).SameGiven s := by simp [State.takeCurrents]
@[simp] theorem State.takeMgmt_given (b lane t : Nat) (bs : List Nat) (pool : List PoolEntry) (ms : List Mgmt) : (s.takeMgmt b lane t bs pool ms).SameGiven s := by
  refine .trans (foldl_given (fun u m => doJoin_given u b _) _ _) (foldl_given (fun u m => ?_) _ s)
  split <;> simp
@[simp] theorem State.endSync_given (reason : Nat) : (s.endSync reason).SameGiven s := by
  simp only [State.endSync]
  split <;> simp
@[simp] theorem State.openReport_given (b : Nat) : (s.openReport b).SameGiven s := by simp [State.openReport]
@[simp] theorem State.releaseTrip_given (b : Nat) : (s.releaseTrip b).SameGiven s := by simp [State.releaseTrip]
@[simp] theorem State.breakerReport_given (b : Nat) : (s.breakerReport b).SameGiven s := by
  simp only [State.breakerReport]
  split <;> simp
@[simp] theorem State.acceptFrame_given (b lane t e m : Nat) (bs : List Nat) : (s.acceptFrame b lane t e m bs).SameGiven s := by simp [State.acceptFrame]
@[simp] theorem State.takeFrame_given (b lane : Nat) (bs : List Nat) : (s.takeFrame b lane bs).SameGiven s := s.acceptFrame_given _ _ _ _ _ _

/-- The end of stage 1 leaves the snapshot as it stands. -/
theorem State.closeStage1_snap : s.closeStage1.rc.snapBricks = s.rc.snapBricks ∧ s.closeStage1.rc.snapTick = s.rc.snapTick := by
  refine Prod.mk.inj (State.closeStage1_kept (f := fun u => (u.rc.snapBricks, u.rc.snapTick)) (fun u b lane bs => ?_) fun _ => rfl)
  obtain ⟨-, -, hbricks, htick⟩ := u.takeFrame_given b lane bs
  exact Prod.ext hbricks htick

theorem State.closeStage1_held : s.closeStage1.lk.held = [] := rfl

/-! ### The parts of the pass (R189, R228 to R249) -/

@[simp] theorem State.raiseAll_given (es : List Evt) : (s.raiseAll es).SameGiven s := by simp [State.raiseAll]
@[simp] theorem State.missedFrames_given : s.missedFrames.SameGiven s := ⟨rfl, rfl, rfl, rfl⟩
@[simp] theorem State.formPlant_given : s.formPlant.SameGiven s := by simp [State.formPlant]
@[simp] theorem State.formBay_given (b : Nat) : (s.formBay b).SameGiven s := ⟨rfl, rfl, rfl, rfl⟩
@[simp] theorem State.rekey_given (x : Nat) : (s.rekey x).SameGiven s := by simp [State.rekey]
@[simp] theorem State.repair_given (x : Nat) (code : Option Nat) : (s.repair x code).SameGiven s := by simp [State.repair]
@[simp] theorem State.countEstimated_given (its : List PassItem) : (s.countEstimated its).SameGiven s := ⟨rfl, rfl, rfl, rfl⟩
@[simp] theorem State.rekeyAll_given (its : List PassItem) : (s.rekeyAll its).SameGiven s := by simp [State.rekeyAll]
@[simp] theorem State.passTick_given (facts : Tab PairFact) : (s.passTick facts).SameGiven s := ⟨rfl, rfl, rfl, rfl⟩
@[simp] theorem State.voidPass_given (x : Nat) : (s.voidPass x).SameGiven s := ⟨rfl, rfl, rfl, rfl⟩
@[simp] theorem State.coreTemp_given (x : Nat) (est : Nat → Option (Int × Int)) (len periods : Nat) (r : Rec) : (s.coreTemp x est len periods r).1.SameGiven s := by
  simp only [State.coreTemp]
  split <;> simp
@[simp] theorem State.evalPass_given (x : Nat) (p : BrickPass) (len periods : Nat) : (s.evalPass x p len periods).SameGiven s := by simp [State.evalPass]
@[simp] theorem State.latePasses_given : s.latePasses.SameGiven s := by
  refine foldl_given (fun t e => ?_) _ s
  cases e.2 <;> simp

/-- What is put into the records leaves the snapshot (R230). -/
@[simp] theorem State.putItems_given (its : List PassItem) : (s.putItems its).SameGiven s := by
  unfold State.putItems
  lift_lets
  extract_lets empty rc md
  have hbricks : rc.snapBricks = s.rc.snapBricks := foldl_kept (f := Records.snapBricks) (fun _ _ => by rfl) its _
  have htick : rc.snapTick = s.rc.snapTick := foldl_kept (f := Records.snapTick) (fun _ _ => by rfl) its _
  exact .trans (State.raiseAll_given _ _) ⟨rfl, rfl, hbricks, htick⟩

end

end Sys2Proof.Machine
end

section
/-! SUPPORT. The end of stage 2: the requests it takes up, the sweep of the mirrors, the capture for the ledger; and the pass as a whole (R228, R310, R333, R455). -/

namespace Sys2Proof.Machine
open Sys2Proof

/-! ### The sweep (R310) -/

/-- `t` differs from `s` in the mirrors and the redundancy's state alone. -/
structure State.InSweep (s t : State) : Prop where
  frame : t = { s with rc := { s.rc with mirror := t.rc.mirror, mirrorStale := t.rc.mirrorStale }, rd := t.rd }

namespace State.InSweep
variable {s t u : State}

theorem refl (s : State) : s.InSweep s := ⟨rfl⟩

theorem trans (hst : s.InSweep t) (htu : t.InSweep u) : s.InSweep u := ⟨htu.frame.trans (by rw [hst.frame])⟩

theorem foldl {op : State → Nat → State} (hop : ∀ u k, InSweep u (op u k)) (l : List Nat) (s : State) : s.InSweep (l.foldl op s) := by
  induction l generalizing s with
  | nil => exact .refl s
  | cons k l ih => exact (hop s k).trans (ih _)

end State.InSweep

theorem State.sweepTile_inSweep (s : State) (t : Nat) : s.InSweep (s.sweepTile t) := by
  unfold State.sweepTile
  split_ifs
  · exact ⟨rfl⟩
  · exact ⟨rfl⟩

theorem State.sweepTick_inSweep (s : State) : s.InSweep s.sweepTick :=
  (State.InSweep.foldl State.sweepTile_inSweep (List.range s.nTiles) s).trans ⟨rfl⟩

theorem State.sweepTick_badCopies (s : State) : s.sweepTick.rd.badCopies = [] := rfl

/-! ### The capture (R455 to R458) -/

/-- `t` differs from `s` in the ledger and the events alone. -/
structure State.InCapture (s t : State) : Prop where
  frame : t = { s with lg := t.lg, ev := t.ev, hs := t.hs }

namespace State.InCapture
variable {s t u : State}

theorem refl (s : State) : s.InCapture s := ⟨rfl⟩

theorem trans (hst : s.InCapture t) (htu : t.InCapture u) : s.InCapture u := ⟨htu.frame.trans (by rw [hst.frame])⟩

theorem ite {p : Prop} [Decidable p] (ht : s.InCapture t) (hu : s.InCapture u) : s.InCapture (if p then t else u) := by
  split
  · exact ht
  · exact hu

theorem foldl {op : State → Nat → State} (hop : ∀ u k, InCapture u (op u k)) (l : List Nat) (s : State) : s.InCapture (l.foldl op s) := by
  induction l generalizing s with
  | nil => exact .refl s
  | cons k l ih => exact (hop s k).trans (ih _)

end State.InCapture

section
variable (s : State)

theorem State.issueOne_inCapture : s.InCapture s.issueOne := by
  unfold State.issueOne
  dsimp only
  split
  · exact .refl s
  · exact .ite (.refl s) ⟨rfl⟩

theorem State.issue_inCapture : s.InCapture s.issue := .foldl (op := fun u _ => u.issueOne) (fun u _ => u.issueOne_inCapture) (List.range 8) s

theorem State.newEpoch_inCapture (detail : Nat) : s.InCapture (s.newEpoch detail) := ⟨rfl⟩

theorem State.sealPage_inCapture (p : Page) : s.InCapture (s.sealPage p).1 :=
  (State.InCapture.ite (p := s.lg.seq + 1 < 2 ^ 48) (.refl s) (s.newEpoch_inCapture 1)).trans ⟨rfl⟩

theorem State.sealSnap_inCapture (p : Page) : s.InCapture (s.sealSnap p) := (s.sealPage_inCapture p).trans ⟨rfl⟩

theorem State.sealFrame_inCapture (c : Capture) : s.InCapture (s.sealFrame c) := by
  unfold State.sealFrame
  extract_lets n ledger head s1 s2 stale
  have hhead : s.InCapture s1 := .trans ⟨rfl⟩ (State.sealSnap_inCapture _ _)
  have hentries : s1.InCapture s2 := .foldl (fun u m => u.sealSnap_inCapture _) _ s1
  exact ((hhead.trans hentries).trans (s2.sealSnap_inCapture _)).trans (State.issue_inCapture _)

theorem State.captureTick_inCapture : s.InCapture s.captureTick := by
  unfold State.captureTick
  split
  · exact .refl s
  · exact .ite (s.sealFrame_inCapture _) ⟨rfl⟩

/-! ### The pass -/

/-- Stage 2 has taken up what stage 1 and the commands of earlier ticks have left it (R79, R242, R243). -/
def State.takenUp : State :=
  { s with lk := { s.lk with missNext := [] }
           rc := { s.rc with delivered := [], missNext := [], recalReq := s.rc.recalReq.filter (fun e => decide (s.absTick ≤ e.2)),
                             releaseReq := s.rc.releaseReq.filter (fun e => decide (s.absTick ≤ e.2)) } }

theorem State.takenUp_recal {e : Nat × Nat} (he : e ∈ s.takenUp.rc.recalReq) : s.absTick ≤ e.2 := by
  simpa using (List.mem_filter.mp (show e ∈ s.rc.recalReq.filter (fun e => decide (s.absTick ≤ e.2)) from he)).2

theorem State.takenUp_release {e : Nat × Nat} (he : e ∈ s.takenUp.rc.releaseReq) : s.absTick ≤ e.2 := by
  simpa using (List.mem_filter.mp (show e ∈ s.rc.releaseReq.filter (fun e => decide (s.absTick ≤ e.2)) from he)).2

/-- The pass works on the bricks and their groups; then it takes up the requests, and the mirrors are swept. -/
theorem doRecordPass_split : ∃ t : State, t.SameGiven s ∧ t.tb = s.tb ∧ doRecordPass s = t.takenUp.sweepTick := by
  unfold doRecordPass
  extract_lets s1 bad s2 its s3 s4 facts s5 s6 n
  have hformed : s1.SameGiven s := .trans (State.formPlant_given _) s.missedFrames_given
  have hrepaired : s2.SameGiven s1 := foldl_given (fun u x => u.repair_given x _) bad s1
  have hput : s3.SameGiven s2 := .trans (State.putItems_given _ its) (s2.countEstimated_given its)
  have hkeyed : s4.SameGiven s3 := s3.rekeyAll_given its
  have hpassed : s5.SameGiven s4 := .trans (State.latePasses_given _) (s4.passTick_given facts)
  have hgrouped : s6.SameGiven s5 := foldl_given (fun u b => u.formBay_given b) _ s5
  have htb : s6.tb = s.tb := by simp [s6, s5, s4, s3, s2, s1]
  exact ⟨s6, ((((hgrouped.trans hpassed).trans hkeyed).trans hput).trans hrepaired).trans hformed, htb, rfl⟩

/-- What stage 2 leaves of a state whose stage 1 has ended. -/
structure State.PassDone (s t : State) : Prop where
  given : t.SameGiven s
  tb : t.tb = s.tb
  taken : t.rc.delivered = [] ∧ t.rc.missNext = [] ∧ t.rd.badCopies = []
  recal : ∀ e ∈ t.rc.recalReq, s.absTick ≤ e.2
  release : ∀ e ∈ t.rc.releaseReq, s.absTick ≤ e.2

theorem doRecordPass_done : s.PassDone (doRecordPass s) := by
  obtain ⟨t, hgiven, htb, hsplit⟩ := doRecordPass_split s
  have hnow : t.absTick = s.absTick := congrArg Timebase.absTick htb
  rw [hsplit, t.takenUp.sweepTick_inSweep.frame]
  exact ⟨hgiven, htb, ⟨rfl, rfl, t.takenUp.sweepTick_badCopies⟩, fun e he => hnow ▸ t.takenUp_recal he, fun e he => hnow ▸ t.takenUp_release he⟩

/-- The ledger's capture, after the pass, touches none of it. -/
theorem State.PassDone.capture {s t u : State} (hst : s.PassDone t) (htu : t.InCapture u) : s.PassDone u := by
  rw [htu.frame]
  exact ⟨hst.given, hst.tb, hst.taken, hst.recal, hst.release⟩

/-- Stage 2 begins with the bays whose restore is skipped (R333). -/
def State.baysSkipped : State := s.closeStage1.allBays.foldl State.skipBay s.closeStage1

theorem State.baysSkipped_given : s.baysSkipped.SameGiven s.closeStage1 := foldl_given State.skipBay_given _ _

theorem State.baysSkipped_tb : s.baysSkipped.tb = s.tb := by simp [State.baysSkipped]

theorem doStageTwo_done : s.baysSkipped.PassDone (doStageTwo s) := (doRecordPass_done _).capture (State.captureTick_inCapture _)

end

/-! ### UNIT_READ (R241, R437) -/

section
variable {udp : Bool} {unit scope start max : Nat} {s : State} (hunit : (checkUid s.nBays unit).1 = 0)
include hunit

theorem unitRead_own (hmax : 0 < max) :
    unitRead udp unit 0 start max s = (s, okAns (le 8 s.rc.snapTick ++ le 2 0xFFFF ++ le 2 1 ++ s.rc.snapBytes (checkUid s.nBays unit).2)) := by
  simp [unitRead, hunit, hmax.ne']

theorem unitRead_members (hlevel : (checkUid s.nBays unit).2.level ≠ 0) (hmax : 0 < max) (hstart : start < memberCount s.nBays (checkUid s.nBays unit).2) :
    unitRead udp unit 1 start max s =
      let u := (checkUid s.nBays unit).2
      let n := min (min max (if udp then 22 else 63)) (memberCount s.nBays u - start)
      (s, okAns (le 8 s.rc.snapTick ++ le 2 (if start + n < memberCount s.nBays u then start + n else 0xFFFF) ++ le 2 n ++
        ((List.range n).map (fun i => s.rc.snapBytes (u.member (start + i)))).flatten)) := by
  simp [unitRead, hunit, hlevel, hmax.ne', hstart]

theorem unitRead_scope (hscope : 1 < scope) : unitRead udp unit scope start max s = (s, refuseAns stRange 0x0802 255 unit) := by
  simp [unitRead, hunit, hscope, hscope.ne']

theorem unitRead_brick (hlevel : (checkUid s.nBays unit).2.level = 0) : unitRead udp unit 1 start max s = (s, refuseAns stBadParam 0x0802 255 unit) := by
  simp [unitRead, hunit, hlevel]

/-! ### UNIT_RECAL and UNIT_RELEASE (R236, R243, R437) -/

theorem unitRecal_noted : unitRecal unit s =
    let u := (checkUid s.nBays unit).2
    let xs := ((s.bricksOf u).filter (fun e => u.level == 0 || e.2.state.available)).map (fun e => (e.1, s.absTick))
    ({ s with rc := { s.rc with recalReq := s.rc.recalReq ++ xs } }, okAns (le 4 xs.length)) := by
  simp [unitRecal, hunit]

/-- A release is refused only for a brick that is not quarantined. -/
theorem unitRelease_noted {xs : List (Nat × Nat)}
    (hxs : ((s.bricksOf (checkUid s.nBays unit).2).filter (fun e => e.2.state == .quarantined)).map (fun e => (e.1, s.absTick)) = xs)
    (htaken : (checkUid s.nBays unit).2.level ≠ 0 ∨ xs ≠ []) :
    unitRelease unit s = ({ s with rc := { s.rc with releaseReq := s.rc.releaseReq ++ xs } }, okAns (le 4 xs.length)) := by
  simp only [unitRelease, hunit, hxs, ne_eq, not_true_eq_false, if_false]
  exact if_neg fun ⟨hlevel, hempty⟩ => htaken.elim (· hlevel) (· hempty)

theorem unitRelease_refused (hlevel : (checkUid s.nBays unit).2.level = 0) (hnone : ∀ e ∈ s.bricksOf (checkUid s.nBays unit).2, e.2.state ≠ .quarantined) :
    unitRelease unit s = (s, refuseAns stState 0x0804 255 unit) := by
  have hempty : (s.bricksOf (checkUid s.nBays unit).2).filter (fun e => e.2.state == .quarantined) = [] := by simpa using hnone
  simp [unitRelease, hunit, hlevel, hempty]

end

/-- Settles O48: stage 2 from its parts, then the record commands, form by form. -/
theorem recordRows : Obligations.RecordRows := by
  unfold Obligations.RecordRows
  refine ⟨fun s => ?pass, fun h unit start max s hr hunit hmax => ?own, fun h unit scope start max s hr hunit hscope => ?scope,
    fun h unit start max s hr hunit hlevel hmax hstart => ?members, fun h unit start max s hr hunit hlevel => ?brick, fun h unit s hr hunit => ?recal,
    fun h unit s hr hunit hlevel => ?release, fun h unit s hr hunit hlevel hnone => ?releaseRefused, fun h unit e s hr hunit hlevel hbrick hquarantined => ?releaseBrick⟩
  case pass =>
    have hdone := doStageTwo_done s
    obtain ⟨hxp, hheld, hbricks, htick⟩ := hdone.given.trans s.baysSkipped_given
    obtain ⟨hdelivered, hmiss, hbad⟩ := hdone.taken
    obtain ⟨hbricks', htick'⟩ := s.closeStage1_snap
    have hnow : s.baysSkipped.absTick = s.absTick := congrArg Timebase.absTick s.baysSkipped_tb
    exact ⟨_, rfl, hdelivered, hmiss, hbad, hxp.trans s.closeStage1_xp_fu.1, hdone.tb.trans s.baysSkipped_tb, hheld.trans s.closeStage1_held,
      hnow ▸ hdone.recal, hnow ▸ hdone.release, hbricks.trans hbricks', htick.trans htick'⟩
  case own => exact answers_same rfl hr rfl (unitRead_own hunit hmax)
  case scope => exact answers_same rfl hr rfl (unitRead_scope hunit hscope)
  case members => exact answers_same rfl hr rfl (unitRead_members hunit hlevel hmax hstart)
  case brick => exact answers_same rfl hr rfl (unitRead_brick hunit hlevel)
  case recal => exact answersJ_same rfl hr rfl (.inl rfl) (unitRecal_noted hunit)
  case release => exact answersJ_same rfl hr rfl (.inl rfl) (unitRelease_noted hunit rfl (.inl hlevel))
  case releaseRefused =>
    exact answersJ_refused rfl hr (show stState ≠ stOk by decide) (show stState ≠ stAccepted by decide) (unitRelease_refused hunit hlevel hnone)
  case releaseBrick =>
    have hone : ((s.bricksOf (checkUid s.nBays unit).2).filter (fun e => e.2.state == .quarantined)).map (fun e => (e.1, s.absTick)) = [(e.1, s.absTick)] := by
      simp [hbrick, hquarantined]
    have hcount : le 4 [(e.1, s.absTick)].length = [1, 0, 0, 0] := show le 4 1 = _ by decide
    exact answersJ_same rfl hr rfl (.inl rfl) (hcount ▸ unitRelease_noted hunit hone (.inr (List.cons_ne_nil _ _)))

end Sys2Proof.Machine
end

section
/-! SUPPORT. Impedance passes: the end of a pass writes the records and the impedance unit alone, and a reading draws free values alone; the grid's impedance, from request to result (R246, R249, R252, R255, R256, R438). -/

namespace Sys2Proof.Machine
open Sys2Proof

/-! ### The evaluation of a pass (R248, R249) -/

/-- `t` is `s` with other records and another impedance unit, whose slots and count of passes are the same. -/
structure State.Evaluates (s t : State) : Prop where
  frame : t = { s with z := t.z, rc := t.rc }
  passes : t.z.passes = s.z.passes
  slots : t.z.slots = s.z.slots

namespace State.Evaluates
variable {s t u : State}

theorem refl (s : State) : s.Evaluates s := ⟨rfl, rfl, rfl⟩

theorem trans (hst : s.Evaluates t) (htu : t.Evaluates u) : s.Evaluates u :=
  ⟨htu.frame.trans (by rw [hst.frame]), htu.passes.trans hst.passes, htu.slots.trans hst.slots⟩

theorem ite {c : Prop} [Decidable c] (ht : s.Evaluates t) (hu : s.Evaluates u) : s.Evaluates (if c then t else u) := by
  split
  · exact ht
  · exact hu

theorem foldl {α : Type} {op : State → α → State} (hop : ∀ u a, Evaluates u (op u a)) (l : List α) (s : State) : s.Evaluates (l.foldl op s) := by
  induction l generalizing s with
  | nil => exact .refl s
  | cons a l ih => exact (hop s a).trans (ih _)

end State.Evaluates

section
variable (s : State)

theorem State.voidPass_evaluates (x : Nat) : s.Evaluates (s.voidPass x) := ⟨rfl, rfl, rfl⟩

theorem State.rekey_evaluates (x : Nat) : s.Evaluates (s.rekey x) := .ite ⟨rfl, rfl, rfl⟩ ⟨rfl, rfl, rfl⟩

theorem State.coreTemp_evaluates (x : Nat) (est : Nat → Option (Int × Int)) (len periods : Nat) (r : Rec) : s.Evaluates (s.coreTemp x est len periods r).1 := by
  simp only [State.coreTemp]
  split
  · split_ifs <;> exact ⟨rfl, rfl, rfl⟩
  · exact .refl s

theorem State.evalPass_evaluates (x : Nat) (p : BrickPass) (len periods : Nat) : s.Evaluates (s.evalPass x p len periods) := by
  unfold State.evalPass
  lift_lets
  extract_lets b est r kb parts e bins r1 o s1 rc s2
  have hcore : s.Evaluates s1 := s.coreTemp_evaluates x est len periods r1
  have hstored : s1.Evaluates s2 := ⟨rfl, rfl, rfl⟩
  exact .ite (s.voidPass_evaluates x) (.ite (s.voidPass_evaluates x) ((hcore.trans hstored).trans (s2.rekey_evaluates x)))

/-! ### Z_PASS_END (R246, R249) -/

/-- A brick's part of an ended pass: evaluated with a fresh record, and kept until the record is fresh otherwise. -/
def State.takePart (q : Pass) (s : State) (e : Nat × BrickPass) : State :=
  if s.freshRec e.1 then s.evalPass e.1 e.2 q.len q.periods
  else { s with z := { s.z with late := tset none s.z.late e.1 (some { part := e.2, len := q.len, periods := q.periods }) } }

theorem State.takePart_evaluates (q : Pass) (e : Nat × BrickPass) : s.Evaluates (s.takePart q e) := .ite (s.evalPass_evaluates _ _ _ _) ⟨rfl, rfl, rfl⟩

/-- The ended pass is out of its slot and counted. -/
def State.passOut (s : State) (slot : Nat) : State :=
  { s with z := { s.z with slots := tmod {} s.z.slots slot (fun k => { k with ending := none }), passes := incSat 32 s.z.passes } }

end

section
variable {s : State}

theorem exec_zPassEnd {p : Nat} (hp : p < s.nBays * 3) : exec (.zPassEnd p) s = .next (doZPassEnd p s) := if_neg (Nat.not_le.mpr hp)

/-- The end of a pass that waits in the first slot of its tile. -/
theorem doZPassEnd_first {p : Nat} {q : Pass} (hidx : s.tb.idx = 1) (hending : (tget {} s.z.slots (2 * tileOf (p / 3))).ending = some q) (hpier : q.pier = p) :
    doZPassEnd p s =
      let t := q.parts.foldl (State.takePart q) (s.passOut (2 * tileOf (p / 3)))
      if q.requested = true then t.raise { kind := .zPassDone, unit := pierUid p } else t := by
  have hslot : (tget {} s.z.slots (2 * tileOf (p / 3))).ending.any (fun q => q.pier == p) = true := by simp [hending, hpier]
  have hdue : ¬ (q.pier ≠ p ∨ s.tb.idx ≠ 1) := by simp [hpier, hidx]
  simp only [doZPassEnd, if_pos hslot]
  simp only [hending, if_neg hdue]
  rfl

/-! ### Z_PASS_REQUEST and Z_READ (R246, R252) -/

theorem zPassRequest_taken {b k : Nat} (hb : b < s.nBays) (hk : k < 3) (hon : s.zPrm 0 0 ≠ 0) (hrate : s.halfRate (tileOf b) = false)
    (htile : (s.tile (tileOf b)).phase ≠ .out) (hroom : (tget {} s.z.tiles (tileOf b)).requests.length < 4) :
    zPassRequest (pierUid (pierIx b k)) s =
      ({ s with z := { s.z with tiles := tmod {} s.z.tiles (tileOf b) (fun q => { q with requests := q.requests ++ [pierIx b k] }) } }, acceptedAns) := by
  simp [zPassRequest, checkLevel_pier s.nBays_le hb hk, hon, hrate, htile, hroom.not_ge]

/-- `t` is `s` after at most `m` free values (log 1). -/
def State.Draws (m : Nat) (s t : State) : Prop := ∃ n, s.freeCtr ≤ n ∧ n ≤ s.freeCtr + m ∧ t = { s with freeCtr := n }

theorem State.Draws.hs {m : Nat} {t : State} (h : s.Draws m t) : t.hs = s.hs := by
  obtain ⟨n, -, -, rfl⟩ := h
  rfl

/-- Steps in a row draw no more values than there are steps. -/
theorem foldl_draws {α β : Type} {op : State × β → α → State × β} (hop : ∀ x a, State.Draws 1 x.1 (op x a).1) (l : List α) (x : State × β) :
    x.1.Draws l.length (l.foldl op x).1 := by
  induction l generalizing x with
  | nil => exact ⟨_, le_rfl, le_rfl, rfl⟩
  | cons a l ih =>
    obtain ⟨n, hlow, hhigh, hstep⟩ := hop x a
    obtain ⟨n', hlow', hhigh', hrest⟩ := ih (op x a)
    rw [hstep] at hlow' hhigh' hrest
    refine ⟨n', hlow.trans hlow', hhigh'.trans ?_, hrest⟩
    simp only [List.length_cons]
    omega

theorem State.binPhases_draws (s : State) (r : Rec) : s.Draws 4 (s.binPhases r).1 := by
  refine foldl_draws (fun x k => ?_) (List.range 4) (s, [])
  dsimp only
  split
  · exact ⟨_, Nat.le_succ _, le_rfl, rfl⟩
  · exact ⟨_, le_rfl, Nat.le_succ _, rfl⟩

/-! ### The grid's impedance (R255, R256) -/

theorem gridZMeasure_taken {g pair cycles : Nat} (hgen : g = 6 ∨ g = 7) (hpair : pair ≤ 2) (hlow : 8 ≤ cycles) (hhigh : cycles ≤ 1024)
    (htone : s.prm 0x0504 g 0 0 = 1) (hruns : s.prm 0x0504 g 1 0 ≠ 0) (hwhole : s.prm 0x0504 g 2 0 * 800 * cycles % 2 ^ 32 = 0)
    (hgrid : s.z.grid = none) (hpend : s.z.gridPend = none) :
    gridZMeasure g pair cycles s = ({ s with z := { s.z with gridPend := some (g - 6, pair, cycles) } }, acceptedAns) := by
  have hrange : ¬ ((g ≠ 6 ∧ g ≠ 7) ∨ 2 < pair) := by omega
  have hlength : ¬ (cycles < 8 ∨ 1024 < cycles) := by omega
  have hfree : ¬ (s.prm 0x0504 g 0 0 ≠ 1 ∨ s.prm 0x0504 g 1 0 = 0 ∨ s.z.grid.isSome ∨ s.z.gridPend.isSome) := by simp [htone, hruns, hgrid, hpend]
  simp only [gridZMeasure, if_neg hrange, if_neg hlength, if_neg hfree, hwhole, ne_eq, not_true_eq_false, if_false]

/-- A measurement whose window has ended leaves its result: without current two free values stand for the quotients, with current none is drawn. -/
theorem doGridZResult_ended {g : GridZRun} (hgrid : s.z.grid = some g) (hticks : g.cycles * 800 ≤ g.ticks) :
    ∃ (r : GridZResult) (n : Nat), doGridZResult s = State.raise { s with freeCtr := n, z := { s.z with grid := none, gridResults := (r :: s.z.gridResults).take 8, gridDone := true } }
      { kind := .gridZDone, unit := noUnit, detail := bit (!g.invalid && !g.frozen && decide (((s.zPrm 8 0 * g.ticks * 2 ^ 30) ^ 2 : Nat) ≤ g.iRe * g.iRe + g.iIm * g.iIm)) } ∧
    r.cycle = g.cycle ∧ r.cycles = g.cycles ∧ r.freqWord = g.freqWord ∧ (g.iRe * g.iRe + g.iIm * g.iIm ≠ 0 → n = s.freeCtr ∧
      r.zRe = satS 32 (ratRne (((g.vRe * g.iRe + g.vIm * g.iIm) * 1000000 : Int) / ((2 * (g.iRe * g.iRe + g.iIm * g.iIm) : Int) : Rat))) ∧
      r.zIm = satS 32 (ratRne (((g.vIm * g.iRe - g.vRe * g.iIm) * 1000000 : Int) / ((2 * (g.iRe * g.iRe + g.iIm * g.iIm) : Int) : Rat)))) := by
  simp only [doGridZResult, hgrid, if_neg hticks.not_gt]
  by_cases hcurrent : g.iRe * g.iRe + g.iIm * g.iIm = 0
  · simp only [if_pos hcurrent]
    exact ⟨_, _, rfl, rfl, rfl, rfl, (absurd hcurrent ·)⟩
  · simp only [if_neg hcurrent]
    exact ⟨_, _, rfl, rfl, rfl, rfl, fun _ => ⟨rfl, rfl, rfl⟩⟩

theorem doGridZStart_due {g pair cycles : Nat} (hpend : s.z.gridPend = some (g, pair, cycles)) (hidx : s.tb.idx = 0) :
    doGridZStart s = { s with z := { s.z with
      gridPend := none
      grid := some {
        gen := g, pair := pair, cycles := cycles, cycle := s.tb.cycleNow, freqWord := s.prm 0x0504 (6 + g) 2 0, generation := s.xp.generation
        vRe := 0, vIm := 0, iRe := 0, iIm := 0, ticks := 0, invalid := false, frozen := false, slewing := false } } } := by
  simp [doGridZStart, hpend, hidx]

end

/-- Settles O49: the rows and commands of the passes, then those of the grid's measurement. -/
theorem impedanceRows : Obligations.ImpedanceRows := by
  unfold Obligations.ImpedanceRows
  refine ⟨fun h b k s hr hb hk hon hrate htile hroom => ?request, fun h unit s hr hunit => ?read,
    fun h g pair cycles s hr hgen hpair hlow hhigh htone hruns hwhole hgrid hpend => ?measure, fun h s hr => ?results,
    fun p q s hp hidx hending hpier => ?passEnd, fun g pair cycles s hpend hidx => ?start, fun g s hgrid hticks => ?result⟩
  case request => exact answersJ_same rfl hr rfl (.inr rfl) (zPassRequest_taken hb hk hon hrate htile hroom)
  case read =>
    have hdraws := s.binPhases_draws (tget {} s.rc.snapBricks (posIx (checkLevel s.nBays 0 unit).2.bay (checkLevel s.nBays 0 unit).2.pier
      (checkLevel s.nBays 0 unit).2.course (checkLevel s.nBays 0 unit).2.brick))
    exact ⟨answers_same rfl hr hdraws.hs (if_neg (not_not.mpr hunit)), hdraws⟩
  case measure => exact answersJ_same rfl hr rfl (.inr rfl) (gridZMeasure_taken hgen hpair hlow hhigh htone hruns hwhole hgrid hpend)
  case results => exact answers_same rfl hr rfl rfl
  case passEnd =>
    have hparts := State.Evaluates.foldl (fun u e => u.takePart_evaluates q e) q.parts (s.passOut (2 * tileOf (p / 3)))
    exact ⟨_, (exec_zPassEnd hp).trans (congrArg _ (doZPassEnd_first hidx hending hpier)), hparts.frame, hparts.passes, hparts.slots⟩
  case start => exact congrArg _ (doGridZStart_due hpend hidx)
  case result =>
    obtain ⟨r, n, hdone, hcycle, hcycles, hfreq, hquotient⟩ := doGridZResult_ended hgrid hticks
    exact ⟨r, n, congrArg _ hdone, hcycle, hcycles, hfreq, fun hre => hquotient fun hnone => hre (mul_self_add_mul_self_eq_zero.mp hnone).1⟩

end Sys2Proof.Machine
end

section
/-! SUPPORT. The load models: the ambient and its commands, the reads, the baseline, and the end of a diagnosis window (R257, R263, R264, R266, R438). -/

namespace Sys2Proof.Machine
open Sys2Proof

section
variable {s : State} {b k p temp l r : Nat}

/-! ### LOAD_AMBIENT_SET and AMBIENT_TIMEOUT (R257) -/

theorem ambientSet_bay (hb : b < s.nBays) : ambientSet (bayUid b) temp s =
    if signedOf 16 temp < -6400 ∨ 7680 < signedOf 16 temp then (s, refuseAns stRange 0x0908 255 (bayUid b))
    else ({ s with ld := { s.ld with bays := tmod {} s.ld.bays b (fun x => { x with ambNext := some (signedOf 16 temp) }) } }, okAns) := by
  simp [ambientSet, checkUid_bay s.nBays_le hb]

theorem ambientSet_plant : ambientSet plantUid temp s =
    if signedOf 16 temp < -6400 ∨ 7680 < signedOf 16 temp then (s, refuseAns stRange 0x0908 255 plantUid)
    else ({ s with ld := { s.ld with ambNext := some (signedOf 16 temp) } }, okAns) := by
  simp [ambientSet, checkUid_plant s.nBays_pos]

theorem exec_ambientTimeout (hb : b < s.nBays) : exec (.ambientTimeout b) s = .next (doAmbientTimeout b s) := if_neg (Nat.not_le.mpr hb)

theorem doAmbientTimeout_due (hfirst : (tget {} s.ld.bays b).fallback = false) (haged : s.prm 0x0907 b 12 1 * 1000000000 ≤ (tget {} s.ld.bays b).ambAge) :
    doAmbientTimeout b s = ({ s with ld := { s.ld with bays := tset {} s.ld.bays b { (tget {} s.ld.bays b : BayLoad) with fallback := true }, fallbackSeen := true } } : State).raise
      { kind := .ambientFallback, unit := bayUid b } :=
  if_pos ⟨by simp [hfirst], haged⟩

/-! ### LOAD_BASELINE_SET (R264) -/

theorem baselineSet_given (hb : b < s.nBays) (hk : k < 3) : baselineSet (pierUid (pierIx b k)) 1 l r s =
    ({ s with ld := { s.ld with piers := tset {} s.ld.piers (pierIx b k) { (tget {} s.ld.piers (pierIx b k) : PierLoad) with baseline := some (l, r) } } }, okAns) := by
  simp [baselineSet, checkLevel_pier s.nBays_le hb hk]

theorem baselineSet_lastGood_none (hb : b < s.nBays) (hk : k < 3) (hnone : (tget {} s.ld.piers (pierIx b k)).lastGood = none) :
    baselineSet (pierUid (pierIx b k)) 0 l r s = (s, refuseAns stState 0x090A 255 (pierUid (pierIx b k))) := by
  simp [baselineSet, checkLevel_pier s.nBays_le hb hk, hnone]

/-! ### DIAG_WINDOW_CLOSE (R263, R264) -/

theorem exec_diagWindowClose (hp : p < 3 * s.nBays) : exec (.diagWindowClose p) s = .next (doDiagWindowClose p s) := if_neg (Nat.not_le.mpr hp)

theorem doDiagWindowClose_open (hopen : (tget {} s.ld.piers p).cycles < s.prm 0x0907 (p / 3) 13 0) : doDiagWindowClose p s = s := if_pos hopen

/-- Without a baseline a full window leaves its result, of whatever fit, and is discarded. -/
theorem doDiagWindowClose_no_baseline (hfull : s.prm 0x0907 (p / 3) 13 0 ≤ (tget {} s.ld.piers p).cycles) (hnone : (tget {} s.ld.piers p).baseline = none) :
    ∃ l : PierLoad, doDiagWindowClose p s = { s with ld := { s.ld with piers := tset {} s.ld.piers p l.discard } } ∧ l.result.closed = s.tb.cycleNow := by
  simp only [doDiagWindowClose, if_neg hfull.not_gt, hnone]
  split <;> exact ⟨_, rfl, rfl⟩

end

/-- Settles O50, command by command and row by row. -/
theorem loadRows : Obligations.LoadRows := by
  unfold Obligations.LoadRows
  refine ⟨fun h b temp s hr hb hlow hhigh => ?ambient, fun h b temp s hr hb hout => ?outside, fun h b s hr hb => ?model, fun h b k l r s hr hb hk => ?baseline,
    fun h b k l r s hr hb hk hnone => ?noGood, fun h b s hr hb => ?diag, fun b s hb hfirst haged => ?timeout, fun p s hp hopen => ?stays,
    fun p s hp hfull hnone => ?closes, fun h temp s hr hlow hhigh => ?plant⟩
  case ambient => exact answersJ_same rfl hr rfl (.inl rfl) ((ambientSet_bay hb).trans (if_neg (by omega)))
  case outside =>
    have hok : stRange ≠ stOk := by decide
    have haccepted : stRange ≠ stAccepted := by decide
    exact ⟨answersJ_refused rfl hr hok haccepted (ambientSet_plant.trans (if_pos hout)), answersJ_refused rfl hr hok haccepted ((ambientSet_bay hb).trans (if_pos hout))⟩
  case model => exact answers_same rfl hr rfl (by simp [checkLevel_bay s.nBays_le hb])
  case baseline => exact answersJ_same rfl hr rfl (.inl rfl) (baselineSet_given hb hk)
  case noGood => exact answersJ_refused rfl hr (show stState ≠ stOk by decide) (show stState ≠ stAccepted by decide) (baselineSet_lastGood_none hb hk hnone)
  case diag => exact answers_same rfl hr rfl (by simp [checkLevel_bay s.nBays_le hb])
  case timeout => exact (exec_ambientTimeout hb).trans (congrArg _ (doAmbientTimeout_due hfirst haged))
  case stays => exact (exec_diagWindowClose hp).trans (congrArg _ (doDiagWindowClose_open hopen))
  case closes =>
    obtain ⟨l, hclose, hclosed⟩ := doDiagWindowClose_no_baseline hfull hnone
    exact ⟨l.discard, (exec_diagWindowClose hp).trans (congrArg _ hclose), rfl, rfl, rfl, hclosed⟩
  case plant => exact answersJ_same rfl hr rfl (.inl rfl) (ambientSet_plant.trans (if_neg (by omega)))

end Sys2Proof.Machine
end

section
/-! SUPPORT. LANE_RETRY on a lane whose hub stands admitted: the bay goes to ADMITTING, and its lane is not trained again (R271, R323, log 53). -/

namespace Sys2Proof.Machine
open Sys2Proof

section
variable {b : Nat} {s : State}

theorem exec_laneRetry (hb : b < s.nBays) : exec (.laneRetry b) s = .next (doLaneRetry b s) := if_neg (Nat.not_le.mpr hb)

/-- A bay that has waited 1 s at a trained lane with an admitted hub passes its lane. -/
theorem doLaneRetry_hubIn (hlane : (s.bayStart b).phase = .lane) (hwaited : 1000000000000 ≤ (s.bayStart b).age) (hhub : s.hubIn b = true) :
    doLaneRetry b s = s.startBay b .admitting 0 :=
  (if_pos ⟨hlane, hwaited⟩).trans (if_pos hhub)

end

/-- Bay 0 has waited 1 s at its lane, which is trained and has an admitted hub. A lane that was down when the bay came to step 7, and trains after it, leaves the bay so: LANE_DOWN and LANE_TRAINED keep the hub. -/
def hubInAtLane : State :=
  { State.reset with st.devStep := 7, st.bays := [(0, { phase := .lane, age := 1000000000000 })]
                     lk.bays := [(0, { trained := true, hub := some { serial := 1, fw := 0, twin := 0, turnaround := 0 } })] }

/-- Refutes O51: the bay whose lane is trained and has an admitted hub goes to ADMITTING at its LANE_RETRY, where the statement leaves it at its lane. -/
theorem not_laneRows : ¬ Obligations.LaneRows := by
  unfold Obligations.LaneRows
  rintro ⟨-, -, -, -, -, -, -, -, -, hretry, -⟩
  have hbay : 0 < hubInAtLane.nBays := by decide
  have hpasses : exec (.laneRetry 0) hubInAtLane = .next (hubInAtLane.startBay 0 .admitting 0) :=
    (exec_laneRetry hbay).trans (congrArg _ (doLaneRetry_hubIn rfl (by decide) rfl))
  have hstates := Host.Outcome.next.inj (hpasses.symm.trans (hretry 0 hubInAtLane hbay rfl (by decide)))
  have hphases : StartPhase.admitting = .lane := congrArg (fun t : State => (t.bayStart 0).phase) hstates
  cases hphases

end Sys2Proof.Machine
end

section
/-! SUPPORT. Link windows, COURSE_WITHDRAW and LINK_STATUS_READ: the rows of a window on a bay the variant has, and the commands, case by case (R290, R296, R298, R439). -/

namespace Sys2Proof.Machine
open Sys2Proof

section
variable {s : State} {b kind n unit : Nat}

/-! ### WINDOW_OPEN and WINDOW_CLOSE (R290) -/

theorem exec_windowOpen (hb : b < s.nBays) : exec (.windowOpen b kind) s = .next (doWindowOpen b kind s) := if_neg (Nat.not_le.mpr hb)
theorem exec_windowClose (hb : b < s.nBays) : exec (.windowClose b kind) s = .next (doWindowClose b kind s) := if_neg (Nat.not_le.mpr hb)

theorem doWindowOpen_within_cycle (hlater : s.tb.idx ≠ 0) : doWindowOpen b kind s = s := if_pos hlater
theorem doWindowClose_within_cycle (hlater : s.tb.idx ≠ 0) : doWindowClose b kind s = s := if_pos hlater

section
variable (hboundary : s.tb.idx = 0)
include hboundary

theorem doWindowOpen_startup (hphase : (s.bayStart b).phase = .admitting) : doWindowOpen b 0 s = s.modLink b (fun l => { l with startup := true }) :=
  (if_neg (not_not.mpr hboundary)).trans (if_pos hphase)

theorem doWindowOpen_test (hasked : (s.bayLink b).openTest = some n) :
    doWindowOpen b 1 s = s.modLink b (fun l => { l with test := some (n * 1000000000000), openTest := none }) := by
  simp only [doWindowOpen, hboundary, hasked, ne_eq, not_true_eq_false, if_false]

theorem doWindowOpen_maint (hasked : (s.bayLink b).openMaint = some n) :
    doWindowOpen b 3 s = s.modLink b (fun l => { l with maint := some (n * 1000000000000), openMaint := none }) := by
  simp only [doWindowOpen, hboundary, hasked, ne_eq, not_true_eq_false, if_false]

theorem doWindowClose_startup (hphase : (s.bayStart b).phase = .energised) : doWindowClose b 0 s = s.modLink b (fun l => { l with startup := false }) :=
  (if_neg (not_not.mpr hboundary)).trans (if_pos hphase)

theorem doWindowClose_maint (hover : (s.bayLink b).maint = some 0) :
    doWindowClose b 3 s = s.modLink b (fun l => { l with maint := none, closeDue := l.closeDue && l.test.isSome }) :=
  (if_neg (not_not.mpr hboundary)).trans (if_pos (.inr hover))

end

/-! ### LINK_WINDOW_OPEN, LINK_WINDOW_CLOSE and LINK_STATUS_READ (R290, R298, R439) -/

theorem linkWindowOpen_bay (hb : b < s.nBays) : linkWindowOpen (bayUid b) kind n s =
    if 1 < kind then (s, refuseAns stRange 0x0A02 255 (bayUid b))
    else if n = 0 then (s, refuseAns stRange 0x0A02 255 (bayUid b))
    else if kind = 0 ∧ (s.bayLink b).closed = true then (s, refuseAns stState 0x0A02 255 (bayUid b))
    else (s.modLink b (fun l => if kind = 0 then { l with openTest := some n } else { l with openMaint := some n }), okAns) := by
  simp only [linkWindowOpen, checkLevel_bay s.nBays_le hb, ne_eq, not_true_eq_false, if_false]

theorem linkWindowOpen_other_kind (hb : b < s.nBays) (hkind : 1 < kind) : linkWindowOpen (bayUid b) kind n s = (s, refuseAns stRange 0x0A02 255 (bayUid b)) :=
  (linkWindowOpen_bay hb).trans (if_pos hkind)

/-- A closed breaker keeps a test window from being asked for. -/
theorem linkWindowOpen_closed (hb : b < s.nBays) (hn : n ≠ 0) (hclosed : (s.bayLink b).closed = true) :
    linkWindowOpen (bayUid b) 0 n s = (s, refuseAns stState 0x0A02 255 (bayUid b)) :=
  (linkWindowOpen_bay hb).trans ((if_neg (Nat.not_lt_zero 1)).trans ((if_neg hn).trans (if_pos ⟨rfl, hclosed⟩)))

theorem linkWindowOpen_asked (hb : b < s.nBays) (hkind : kind ≤ 1) (hn : n ≠ 0) (hopen : (s.bayLink b).closed = false) : linkWindowOpen (bayUid b) kind n s =
    (s.modLink b (fun l => if kind = 0 then { l with openTest := some n } else { l with openMaint := some n }), okAns) := by
  have hfree : ¬ (kind = 0 ∧ (s.bayLink b).closed = true) := fun h => Bool.noConfusion (hopen.symm.trans h.2)
  rw [linkWindowOpen_bay hb, if_neg hkind.not_gt, if_neg hn, if_neg hfree]

theorem linkWindowClose_bay (hb : b < s.nBays) : linkWindowClose (bayUid b) s =
    (s.modLink b (fun l => { l with openTest := none, openMaint := none, closeDue := l.test.isSome || l.maint.isSome }), okAns) := by
  simp only [linkWindowClose, checkLevel_bay s.nBays_le hb, ne_eq, not_true_eq_false, if_false]

theorem linkStatusRead_bay (hb : b < s.nBays) : linkStatusRead (bayUid b) s =
    (s, okAns (le 4 (b1 (s.bayLink b).trained 0 + b1 (s.bayLink b).detour 1 + b1 (s.bayLink b).xlinkUp 2 + fld (s.bayLink b).ringSplit 3 3 + fld (s.bayLink b).ringFail 6 3 +
        b1 (s.bayLink b).lost 9) ++ ((s.bayLink b).breaks.map (fun p => [p.1 % 256, p.2 % 256])).flatten ++ [0, 0] ++
      ([(s.bayLink b).nMissed, (s.bayLink b).nDiscarded, (s.bayLink b).nDetours, (s.bayLink b).nEscapes, (s.bayLink b).nMisrouted, (s.bayLink b).nBreaks, (s.bayLink b).nDark,
        (s.bayLink b).nRefused].map (le 4)).flatten)) := by
  simp only [linkStatusRead, checkLevel_bay s.nBays_le hb, ne_eq, not_true_eq_false, if_false]

/-! ### COURSE_WITHDRAW (R296) -/

/-- The course that a course's unit ID names. -/
def State.namedCourse (s : State) (unit : Nat) : Nat :=
  courseIx (checkLevel s.nBays 1 unit).2.bay (checkLevel s.nBays 1 unit).2.pier (checkLevel s.nBays 1 unit).2.course

section
variable (hunit : (checkLevel s.nBays 1 unit).1 = 0)
include hunit

theorem courseWithdraw_out (hout : (s.course (s.namedCourse unit)).phase = .out) : courseWithdraw unit s = (s, refuseAns stState 0x0A04 255 unit) :=
  (if_neg (not_not.mpr hunit)).trans (if_pos hout)

theorem courseWithdraw_service (hserves : (s.course (s.namedCourse unit)).phase = .service) : courseWithdraw unit s =
    (s.modCourse (s.namedCourse unit) (fun k => { k with phase := .withdrawn, withdrawTick := s.absTick, withdrawCycles := 0 }), okAns) :=
  (if_neg (not_not.mpr hunit)).trans ((if_neg (hserves ▸ by decide)).trans (if_neg (hserves ▸ by decide)))

end
end

/-- Settles O53, command by command and row by row. -/
theorem linkCommands : Obligations.LinkCommands := by
  unfold Obligations.LinkCommands
  refine ⟨fun h b kind n s hr hb hkind hn hopen => ?asked, fun h b n s hr hb hn hclosed => ?closedBreaker, fun h b s hr hb => ?close,
    fun b n s hb hboundary hasked => ?testOpens, fun b n s hb hboundary hasked => ?maintOpens, fun b s hb hboundary hover => ?maintCloses,
    fun b k s hb hlater => ⟨?notOpened, ?notClosed⟩, fun h unit s hr hunit hserves => ?withdrawn, fun h unit s hr hunit hout => ?notServing,
    fun h b kind n s hr hb hkind => ?otherKind, fun h b s hr hb => ?status, fun h start max s hr => ?pending,
    fun b s hb hboundary hphase => ?startupOpens, fun b s hb hboundary hphase => ?startupCloses⟩
  case asked => exact answersJ_same rfl hr rfl (.inl rfl) (linkWindowOpen_asked hb hkind hn hopen)
  case closedBreaker => exact answersJ_refused rfl hr (show stState ≠ stOk by decide) (show stState ≠ stAccepted by decide) (linkWindowOpen_closed hb hn hclosed)
  case close => exact answersJ_same rfl hr rfl (.inl rfl) (linkWindowClose_bay hb)
  case testOpens => exact (exec_windowOpen hb).trans (congrArg _ (doWindowOpen_test hboundary hasked))
  case maintOpens => exact (exec_windowOpen hb).trans (congrArg _ (doWindowOpen_maint hboundary hasked))
  case maintCloses => exact (exec_windowClose hb).trans (congrArg _ (doWindowClose_maint hboundary hover))
  case notOpened => exact (exec_windowOpen hb).trans (congrArg _ (doWindowOpen_within_cycle hlater))
  case notClosed => exact (exec_windowClose hb).trans (congrArg _ (doWindowClose_within_cycle hlater))
  case withdrawn => exact answersJ_same rfl hr rfl (.inl rfl) (courseWithdraw_service hunit hserves)
  case notServing => exact answersJ_refused rfl hr (show stState ≠ stOk by decide) (show stState ≠ stAccepted by decide) (courseWithdraw_out hunit hout)
  case otherKind => exact answersJ_refused rfl hr (show stRange ≠ stOk by decide) (show stRange ≠ stAccepted by decide) (linkWindowOpen_other_kind hb hkind)
  case status => exact answers_same rfl hr rfl (linkStatusRead_bay hb)
  case pending => exact answers_same rfl hr rfl rfl
  case startupOpens => exact (exec_windowOpen hb).trans (congrArg _ (doWindowOpen_startup hboundary hphase))
  case startupCloses => exact (exec_windowClose hb).trans (congrArg _ (doWindowClose_startup hboundary hphase))

end Sys2Proof.Machine
end

section
/-! SUPPORT. A slot that closes while its fuse command is under way: the MAINTAIN state stays until that command has ended (R412, R442, R481). -/

namespace Sys2Proof.Machine
open Sys2Proof

section
variable {s : State} {i : Nat} {is : List Nat} {lost : Bool}

@[simp] theorem State.endExport_fu (s : State) (i : Nat) : (s.endExport i).fu = s.fu := by
  simp only [State.endExport]
  split <;> rfl

theorem Fuses.leaveMaint_of_prog {f : Fuses} (hprog : f.prog.isSome = true) : f.leaveMaint = { f with leaveDue := f.maint } := if_pos hprog

/-- While a fuse command is under way, a slot's closing leaves the MAINTAIN state and the command. -/
theorem State.shutSlot_of_prog (hprog : s.fu.prog.isSome = true) : (s.shutSlot i).fu.maint = s.fu.maint ∧ (s.shutSlot i).fu.prog.isSome = true := by
  simp only [State.shutSlot, State.endExport_fu, Option.isSome_map, Fuses.leaveMaint_of_prog hprog]
  split
  · exact ⟨rfl, hprog⟩
  · exact ⟨rfl, hprog⟩

theorem State.tellGones_fu (is : List Nat) (s : State) : (is.foldl (fun (t : State) i => t.tellGone i lost) s).fu = s.fu := by
  induction is generalizing s with
  | nil => rfl
  | cons i is ih => exact ih _

theorem State.foldl_shutSlot_maint_of_prog (hprog : s.fu.prog.isSome = true) : (is.foldl State.shutSlot s).fu.maint = s.fu.maint := by
  induction is generalizing s with
  | nil => rfl
  | cons i is ih =>
    obtain ⟨hmaint, hstill⟩ := State.shutSlot_of_prog (i := i) hprog
    exact (ih hstill).trans hmaint

theorem State.shutSlots_maint_of_prog (hprog : s.fu.prog.isSome = true) : (s.shutSlots is lost).fu.maint = s.fu.maint :=
  (congrArg Fuses.maint (State.tellGones_fu is _)).trans (State.foldl_shutSlot_maint_of_prog hprog)

end

/-- Slot 0 has entered the MAINTAIN state, and its FUSE_PROGRAM is under way. -/
def programmingInMaint : State :=
  { State.reset with
    st.devStep := 7, hs.slots := [(0, { phase := .pcie, rights := 41 })], fu.maint := true, fu.owner := 0
    fu.prog := some { region := 5, entry := 0, off := 0, data := [1], slot := 0, hdr := { slot := 0, tag := 1, gen := 0, udp := false, auth := false, peer := 0 } } }

/-- Refutes O17: slot 0 closes during its fuse command, and the MAINTAIN state it holds does not end with the slot, as the statement's last clause has it, but with the command (R481). -/
theorem not_slotSessionCommands : ¬ Obligations.SlotSessionCommands := by
  unfold Obligations.SlotSessionCommands
  rintro ⟨-, -, -, -, -, -, hshut⟩
  have hsorted : SlotsInv programmingInMaint := by decide
  have howned : ∀ i ∈ [0], i < 8 := by decide
  obtain ⟨-, -, -, hends⟩ := hshut [0] false programmingInMaint hsorted rfl howned
  have hstays : (programmingInMaint.shutSlots [0] false).fu.maint = true := State.shutSlots_maint_of_prog rfl
  exact Bool.noConfusion (hstays.symm.trans hends)

end Sys2Proof.Machine
end

section
/-! SUPPORT. The device steps, row by row: election, boot, self-tests and the timebase's start, each under the condition it waits for (R316, R327 to R330). -/

namespace Sys2Proof.Machine
open Sys2Proof

section
variable {s : State} {k : Nat}

/-! ### Election (R327) -/

theorem exec_keystoneSelfTest (hk : k < 2) (pass : Bool) : exec (.keystoneSelfTest k pass) s = .next (doKeystoneSelfTest k pass s) := if_neg (Nat.not_le.mpr hk)

/-- The preferred keystone is elected as soon as it passes. -/
theorem doKeystoneSelfTest_preferred (hstep : s.st.devStep = 3) (hsound : s.rd.ksFailed.testBit k = false) (hnew : s.rd.candidates.testBit k = false)
    (hpowered : (s.chan (12 + k)).latched = false) (hpreferred : k = s.preferred) :
    doKeystoneSelfTest k true s = ({ s with rd := { s.rd with candidates := setBit s.rd.candidates k true } } : State).elect k := by
  have htested : ¬ (s.st.devStep < 3 ∨ s.st.devStep = 15 ∨ s.rd.ksFailed.testBit k = true ∨ s.rd.candidates.testBit k = true) := by simp [hstep, hsound, hnew]
  rw [doKeystoneSelfTest, if_neg htested, if_neg (by decide), if_neg (by simp [hpowered])]
  exact (if_pos hstep).trans (if_pos (.inl hpreferred))

/-- The preference wait ends without the preferred keystone. -/
theorem doElectionTimeout_other (hstep : s.st.devStep = 3) (hout : s.rd.candidates.testBit s.preferred = false) (hother : s.rd.candidates.testBit (1 - s.preferred) = true) :
    doElectionTimeout false s = ({ s with st := { s.st with prefWaited := true } } : State).elect (1 - s.preferred) := by
  rw [doElectionTimeout, if_neg (not_not.mpr hstep), if_neg (fun h => Bool.noConfusion h.1)]
  exact (if_neg (by simp [hout])).trans (if_pos hother)

/-! ### Boot (R328) -/

theorem exec_signedBoot (hk : k < 2) : exec (.signedBoot k) s = .next (doSignedBoot k s) := if_neg (Nat.not_le.mpr hk)

/-- Both slots have failed: the device stops, and the service UART takes an image. -/
def State.bootFails (s : State) : State := { s.stopFault 0x50 with st := { (s.stopFault 0x50).st with uartOpen := true } }

/-- The active keystone boots: from the slot that was last good, else from the other. -/
theorem doSignedBoot_active (hk : k = s.rd.active) (hactive : s.rd.haveActive = true) (hstep : s.st.devStep = 4 ∨ s.st.devStep = 5) (hdue : s.st.step4 = false) :
    doSignedBoot k s = if s.imageGood s.rd.lastGood then s.bootActive s.rd.lastGood false
      else if s.imageGood (1 - s.rd.lastGood) then s.bootActive (1 - s.rd.lastGood) true else s.bootFails :=
  (if_pos hk).trans (if_pos ⟨hstep, hactive, by simp [hdue]⟩)

section
variable (s) (slot : Nat)

theorem State.bootActive_first_frame : s.bootActive slot false = { s with rd := (s.bootActive slot false).rd, st := (s.bootActive slot false).st } := rfl

/-- What a boot from the other slot leaves of the start's records. -/
theorem State.bootActive_second_st : (s.bootActive slot true).st =
    { s.st with step4 := true, bootSlot := slot, otherSlotBad := true, outputs := s.st.outputs || s.st.step5, devStep := if s.st.step5 then 6 else 5 } := by
  simp [State.bootActive, State.stepSix]

theorem State.bootActive_lastGood (second : Bool) : (s.bootActive slot second).rd.lastGood = slot := by cases second <;> rfl

theorem State.bootFails_st : s.bootFails.st = { s.st with devStep := 15, faultCode := 0x50, uartOpen := true } := by
  simp [State.bootFails, State.stopFault, State.setFault]

end

theorem doServiceUartWrite_first {slot : Nat} {data : List Nat} (hopen : s.st.uartOpen = true) (hslot : slot ≤ 1) (hsize : data.length ≤ slotSize) :
    doServiceUartWrite slot 0 data s = s.writeChunk slot 0 data := if_pos ⟨hopen, hslot, .inl rfl, by simpa using hsize⟩

/-! ### Tiles (R316, R329) -/

theorem exec_tileSelfTest (hk : k < s.nTiles) (pass : Bool) : exec (.tileSelfTest k pass) s = .next (doTileSelfTest k pass s) := if_neg (Nat.not_le.mpr hk)

/-- A tile that passes in step 4 or 5 is tested, and stays in. -/
theorem doTileSelfTest_passes (hstep : s.st.devStep = 4 ∨ s.st.devStep = 5) (hnew : (s.tile k).tested = false) (hpowered : (s.chan k).latched = false) :
    doTileSelfTest k true s = (s.modTile k (fun y => { y with tested := true, failed := false })).endStepFive := by
  have hok : (true && !(s.chan k).latched) = true := by simp [hpowered]
  rw [doTileSelfTest, hok]
  exact if_pos ⟨hstep, by simp [hnew]⟩

/-- A tile that passes in step 7 while it is out has recovered. -/
theorem doTileSelfTest_recovers (hstep : s.st.devStep = 7) (hout : (s.tile k).phase = .out) (hsound : (s.tile k).failed = false) (hpowered : (s.chan k).latched = false) :
    doTileSelfTest k true s = (let u := s.modTile k (fun y => { y with recovered := true })
      if (s.tile k).handedOver = true then u.modChan k (fun x => { x with gate := true, good := true }) else u) := by
  have hok : (true && !(s.chan k).latched) = true := by simp [hpowered]
  have hlater : ¬ ((s.st.devStep = 4 ∨ s.st.devStep = 5) ∧ (!(s.tile k).tested) = true) := by simp [hstep]
  rw [doTileSelfTest, hok]
  refine (if_neg hlater).trans ((if_pos ⟨hstep, hout, by simp [hsound]⟩).trans ?_)
  simp

theorem State.endStepFive_waits (hwaits : ∃ j < s.nTiles, (s.tile j).tested = false) : s.endStepFive = s := by
  obtain ⟨j, hj, huntested⟩ := hwaits
  refine if_neg fun hall => ?_
  simpa [huntested] using List.all_eq_true.mp hall (s.tile j) (List.mem_map.mpr ⟨j, List.mem_range.mpr hj, rfl⟩)

/-- Every tile is tested, and one of them is sound: step 5 is complete. -/
theorem State.endStepFive_ends (htested : ∀ j < s.nTiles, (s.tile j).tested = true) (hk : k < s.nTiles) (hsound : (s.tile k).failed = false) :
    s.endStepFive = ({ s with st := { s.st with step5 := true } } : State).stepSix := by
  have hall : ((List.range s.nTiles).map s.tile).all (fun t => t.tested) = true := by simpa using htested
  have hsome : ¬ ((List.range s.nTiles).map s.tile).all (fun t => t.failed) = true := fun hfailed => by
    simpa [hsound] using List.all_eq_true.mp hfailed (s.tile k) (List.mem_map.mpr ⟨k, List.mem_range.mpr hk, rfl⟩)
  exact (if_pos hall).trans (if_neg hsome)

/-! ### The timebase's start (R330) -/

/-- The tick starts: tick 0 of cycle 0 under FREE, the cycle recorded. -/
def State.startTicks (s : State) : State :=
  (State.setFreq { s with
    st := { s.st with devStep := 7 }
    tb := { s.tb with running := true, idx := 0, cycle := 0, bnd := false, acc := 0, target := .free, snapTarget := .free, hold := false, corr := 0, slewing := false, slewLeft := 0
                      stamp := s.tb.pt.ns, tickReg := 0 } }).recordCycle

/-- The live keystone's first heartbeat, and the tiles that leave flywheel to it. -/
def State.steer (s : State) : State :=
  State.dropBanks { s with rd := { s.rd with beats := tset 0 s.rd.beats s.rd.active s.absTick, flywheel := s.rd.flywheel && s.rd.ramp } }

/-- A keystone that takes the tiles over writes its own records, and the crosspoint where it started without a copy. -/
theorem State.steer_frame (s : State) : ∃ x r, s.steer = { s with xp := x, rd := r } ∧ (s.rd.freshDue = false → x = s.xp) := by
  simp only [State.steer, State.dropBanks]
  split
  · next hfresh => exact ⟨_, _, rfl, fun hcopy => Bool.noConfusion (hcopy.symm.trans hfresh.1)⟩
  · exact ⟨_, _, rfl, fun _ => rfl⟩

/-- Bays that leave WAIT_DEVICE write the start's records of bays. -/
theorem State.foldl_startLane_frame (bs : List Nat) (s : State) : ∃ bays, bs.foldl State.startLane s = { s with st := { s.st with bays := bays } } := by
  induction bs generalizing s with
  | nil => exact ⟨_, rfl⟩
  | cons b bs ih =>
    have hone : ∃ bays, s.startLane b = { s with st := { s.st with bays := bays } } := by
      simp only [State.startLane]
      split <;> exact ⟨_, rfl⟩
    obtain ⟨bays, hone⟩ := hone
    obtain ⟨rest, hrest⟩ := ih (s.startLane b)
    exact ⟨rest, hrest.trans (by rw [hone])⟩

theorem doTimebaseStart_locked (hstep : s.st.devStep = 6) (hstill : s.tb.running = false) : ∃ x r bays,
    doTimebaseStart true s = { s.startTicks with xp := x, rd := r, st := { s.startTicks.st with bays := bays } } ∧ (s.rd.freshDue = false → x = s.xp) := by
  have hstart : doTimebaseStart true s = s.startTicks.steer.allBays.foldl State.startLane s.startTicks.steer := by
    simp only [doTimebaseStart, hstep, hstill, ne_eq, not_true_eq_false, Bool.not_true, Bool.false_eq_true, if_false]
    rfl
  obtain ⟨x, r, hsteer, hcopy⟩ := s.startTicks.steer_frame
  obtain ⟨bays, hlanes⟩ := State.foldl_startLane_frame s.startTicks.steer.allBays s.startTicks.steer
  exact ⟨x, r, bays, (hstart.trans hlanes).trans (by rw [hsteer]), hcopy⟩

end

/-- Settles O23, row by row. -/
theorem deviceStepsComplete : Obligations.DeviceStepsComplete := by
  unfold Obligations.DeviceStepsComplete
  refine ⟨fun k s hk hstep hsound hnew hpowered hpreferred => ?preferred, fun s hstep hout hother => ?waited, fun k s hk hactive hhave hstep hdue => ?boot,
    fun slot data s hopen hslot hsize => ?uart, fun k s hk hstep hout hsound hpowered => ?recovers,
    fun k s hk hstep hnew hpowered => ⟨fun hwaits => ?tested, fun hall hsound => ?complete⟩, fun s hstep hstill => ?starts⟩
  case preferred => exact (exec_keystoneSelfTest hk true).trans (congrArg _ (doKeystoneSelfTest_preferred hstep hsound hnew hpowered hpreferred))
  case waited => exact congrArg _ (doElectionTimeout_other hstep hout hother)
  case boot =>
    refine ⟨_, (exec_signedBoot hk).trans (congrArg _ (doSignedBoot_active hactive hhave hstep hdue)), fun hlast => ?_, fun hlast hother => ?_, fun hlast hother => ?_⟩
    · rw [if_pos hlast]
      exact ⟨State.bootActive_first_frame s _, rfl, rfl, rfl, rfl⟩
    · rw [if_neg (by simp [hlast]), if_pos hother, State.bootActive_second_st]
      exact ⟨rfl, rfl, rfl, State.bootActive_lastGood s _ true⟩
    · rw [if_neg (by simp [hlast]), if_neg (by simp [hother]), State.bootFails_st]
      exact ⟨hdue, rfl, rfl⟩
  case uart => exact congrArg _ (doServiceUartWrite_first hopen hslot hsize)
  case recovers => exact (exec_tileSelfTest hk true).trans (congrArg _ (doTileSelfTest_recovers hstep hout hsound hpowered))
  case tested => exact (exec_tileSelfTest hk true).trans (congrArg _ ((doTileSelfTest_passes hstep hnew hpowered).trans (State.endStepFive_waits hwaits)))
  case complete =>
    refine (exec_tileSelfTest hk true).trans (congrArg _ (((doTileSelfTest_passes hstep hnew hpowered).trans (State.endStepFive_ends hall hk hsound)).trans ?_))
    simp only [State.stepSix, Bool.and_true, if_true]
  case starts =>
    obtain ⟨x, r, bays, hstart, hcopy⟩ := doTimebaseStart_locked hstep hstill
    exact ⟨_, congrArg Host.Outcome.next hstart, rfl, rfl, rfl, rfl, rfl, rfl, rfl, hcopy, rfl⟩

end Sys2Proof.Machine
end

section
/-! SUPPORT. Admission, restore and synchronisation of a bay, row by row, and the records that a restore opens (R307, R308, R332, R333, R335, R336). -/

namespace Sys2Proof.Machine
open Sys2Proof

section
variable {s : State} {b k p : Nat}

/-! ### ADMISSION_END and RESTORE (R332, R333) -/

theorem exec_admissionEnd (hb : b < s.nBays) : exec (.admissionEnd b) s = .next (doAdmissionEnd b s) := if_neg (Nat.not_le.mpr hb)
theorem exec_restore (hb : b < s.nBays) : exec (.restore b) s = .next (doRestore b s) := if_neg (Nat.not_le.mpr hb)

theorem doAdmissionEnd_admitted (hphase : (s.bayStart b).phase = .admitting) (hall : s.allAdmitted b = true) : doAdmissionEnd b s = s.startBay b .restoring 0 :=
  (if_neg (not_not.mpr hphase)).trans (if_pos hall)

theorem doAdmissionEnd_timeout (hphase : (s.bayStart b).phase = .admitting) (hsome : s.allAdmitted b = false)
    (htime : s.prm 0x0103 0 7 0 * 1000000000 ≤ (s.bayStart b).age) : doAdmissionEnd b s = s.startBay b .restoring 2 :=
  (if_neg (not_not.mpr hphase)).trans ((if_neg (by simp [hsome])).trans (if_pos htime))

section
variable (hphase : (s.bayStart b).phase = .restoring) (hdue : (s.bayStart b).restored = false)
include hphase hdue

theorem doRestore_serves (hserves : s.ledgerServes = true) :
    doRestore b s = ((s.toOpen b).foldl (fun (t : State) e => t.openRecord e.1 e.2 (s.course (e.1 / 96)).marked) s).markRestored b :=
  (if_neg (by simp [hphase, hdue])).trans (if_pos hserves)

theorem doRestore_timeout (hout : s.ledgerServes = false) (htime : s.prm 0x0103 0 8 0 * 1000000000 ≤ (s.bayStart b).age) : doRestore b s = s.startBay b .held 3 :=
  (if_neg (by simp [hphase, hdue])).trans ((if_neg (by simp [hout])).trans (if_pos htime))

end

/-- A new serial at a position that is free for it and has no image: a new record, and its event. -/
theorem State.openRecord_new {x serial : Nat} (marked : Bool) (hfree : (tget {} s.rc.bricks x).state = .absent)
    (hplace : tget 0 s.lk.bound x = 0 ∨ tget 0 s.lk.bound x = serial) (himages : tget [] s.lg.images x = []) :
    s.openRecord x serial marked = (s.putRecord x serial { Rec.new serial with recalDue := marked } { fresh := true }).raise { kind := .restoreNew, unit := brickUid x } := by
  have hother : ¬ (tget 0 s.lk.bound x ≠ 0 ∧ tget 0 s.lk.bound x ≠ serial) := fun h => hplace.elim h.1 h.2
  simp only [State.openRecord, hfree, ne_eq, not_true_eq_false, false_and, if_false, if_neg hother, State.imageOf, himages, List.find?_nil, Option.map_none]

/-! ### SYNC_START (R207, R335, R336) -/

/-- The pier is enabled, or stays so. -/
def State.enablePier (s : State) (p : Nat) : State := if s.md.pierOn p then s else s.landEnable p

/-- The bay's piers are enabled, as a synchronisation's start does it. -/
def State.enablePiers (s : State) (b : Nat) : State := (List.range 3).foldl (fun (t : State) k => t.enablePier (3 * b + k)) s

/-- An entry of the drive tables belongs to the bay. -/
def driveOfBay (b k : Nat) : Bool := decide (k / 2400 = b)

/-- `t` is `s` with piers of the bay enabled: the modulator, the links and the bay's drive tables change, and no pier that is on goes off. -/
structure State.Enables (b : Nat) (s t : State) : Prop where
  frame : t = { s with md := t.md, lk := t.lk, rd := { s.rd with drive := t.rd.drive } }
  drive : tdrop (driveOfBay b) t.rd.drive = tdrop (driveOfBay b) s.rd.drive
  stays : ∀ p, s.md.pierOn p = true → t.md.pierOn p = true

theorem State.Enables.refl (b : Nat) (s : State) : s.Enables b s := ⟨rfl, rfl, fun _ hon => hon⟩

theorem State.Enables.trans {t u : State} (hst : s.Enables b t) (htu : t.Enables b u) : s.Enables b u :=
  ⟨htu.frame.trans (by rw [hst.frame]), htu.drive.trans hst.drive, fun p hon => htu.stays p (hst.stays p hon)⟩

/-- Dropping a bay's entries drops those of its piers. -/
theorem tdrop_tdrop_of_imp {α : Type} {p q : Nat → Bool} (hfiner : ∀ k, p k = true → q k = true) (t : Tab α) : tdrop q (tdrop p t) = tdrop q t := by
  simp only [tdrop, List.filter_filter]
  refine List.filter_congr fun e _ => ?_
  cases hp : p e.1
  · simp
  · simp [hfiner _ hp]

theorem State.landEnable_pierOn (s : State) (p j : Nat) : (s.landEnable p).md.pierOn j = if j = p then true else s.md.pierOn j := by
  have hread := tget_tmod_listed (d := ({} : PierMod)) s.md.piers (k := p)
    (f := fun q => { q with mode := .enabled, enabling := false, first := true, stepped := false, residue := 0 })
    (fun hdefault => PierMode.noConfusion (congrArg PierMod.mode hdefault)) j
  refine (congrArg (fun q : PierMod => q.mode == .enabled) hread).trans ?_
  split <;> rfl

theorem State.landEnable_enables (hk : k < 3) : s.Enables b (s.landEnable (3 * b + k)) := by
  have hfiner : ∀ e, decide (e / 800 = 3 * b + k) = true → driveOfBay b e = true := by
    simp only [driveOfBay, decide_eq_true_eq]
    omega
  refine ⟨rfl, tdrop_tdrop_of_imp hfiner s.rd.drive, fun p hon => ?_⟩
  rw [State.landEnable_pierOn, hon, ite_self]

theorem State.enablePier_enables (hk : k < 3) (s : State) : s.Enables b (s.enablePier (3 * b + k)) ∧ (s.enablePier (3 * b + k)).md.pierOn (3 * b + k) = true := by
  unfold State.enablePier
  split
  · next hon => exact ⟨.refl b s, hon⟩
  · exact ⟨State.landEnable_enables hk, by rw [State.landEnable_pierOn, if_pos rfl]⟩

/-- Piers of the bay enabled in turn are on afterwards. -/
theorem State.foldl_enablePier_enables (ks : List Nat) (hks : ∀ k ∈ ks, k < 3) (s : State) :
    s.Enables b (ks.foldl (fun (t : State) k => t.enablePier (3 * b + k)) s) ∧ ∀ k ∈ ks, (ks.foldl (fun (t : State) k => t.enablePier (3 * b + k)) s).md.pierOn (3 * b + k) = true := by
  induction ks generalizing s with
  | nil => exact ⟨.refl b s, List.forall_mem_nil _⟩
  | cons k ks ih =>
    obtain ⟨hk, hks⟩ := List.forall_mem_cons.mp hks
    obtain ⟨hone, hon⟩ := State.enablePier_enables (b := b) hk s
    obtain ⟨hrest, hons⟩ := ih hks (s.enablePier (3 * b + k))
    exact ⟨hone.trans hrest, List.forall_mem_cons.mpr ⟨hrest.stays _ hon, hons⟩⟩

theorem State.enablePiers_enables (s : State) (b : Nat) : s.Enables b (s.enablePiers b) ∧ ∀ k < 3, (s.enablePiers b).md.pierOn (3 * b + k) = true := by
  obtain ⟨henables, hon⟩ := State.foldl_enablePier_enables (b := b) (List.range 3) (fun _ => List.mem_range.mp) s
  exact ⟨henables, fun k hk => hon k (List.mem_range.mpr hk)⟩

/-- The accepted BAY_SYNC of the bay is taken up. -/
def State.takeSync (s : State) (b : Nat) : State := { s with st := { s.st with bays := tmod {} s.st.bays b (fun x => { x with syncDue := false }) } }

/-- The bay enters SYNCING: its drive table anew, the permit not asserted, STOPPED ended for the device and the ledger. -/
def State.enterSync (s : State) (b : Nat) : State :=
  { s with
    rd := { s.rd with drive := tdrop (driveOfBay b) s.rd.drive }
    lg := if s.lg.phase = 4 then { s.lg with phase := if (List.range 8).any s.pairOk then 2 else 3 } else s.lg
    st := { s.st with
      stopped := false, sync := some { bay := b }, syncPermit := false
      bays := tmod {} s.st.bays b (fun x => { x with phase := .syncing, reason := 0, age := 0, opened := false }) } }

/-- The enables before it show in the modulator and the links alone. -/
theorem State.Enables.enterSync {t : State} (henables : s.Enables b t) : t.enterSync b = { s.enterSync b with md := t.md, lk := t.lk } := by
  rw [State.enterSync, henables.drive, henables.frame]
  rfl

theorem State.enterSync_phase (s : State) (b : Nat) : ((s.enterSync b).bayStart b).phase = .syncing := by
  have hread := tget_tmod_listed (d := ({} : BayStart)) s.st.bays (k := b) (f := fun x => { x with phase := .syncing, reason := 0, age := 0, opened := false })
    (fun hdefault => StartPhase.noConfusion (congrArg BayStart.phase hdefault)) b
  exact congrArg BayStart.phase (hread.trans (if_pos rfl))

/-- A synchronisation that starts, its piers enabled. -/
theorem State.beginSync_taken (hok : (s.takeSync b).enableOk b = true) (hnone : s.st.sync = none) :
    ∃ m l, s.beginSync b = { (s.takeSync b).enterSync b with md := m, lk := l } ∧ ∀ k < 3, m.pierOn (3 * b + k) = true := by
  obtain ⟨henables, hon⟩ := (s.takeSync b).enablePiers_enables b
  have hidle : (s.takeSync b).st.sync = none := hnone
  have htaken : ¬ (!(s.takeSync b).enableOk b || (s.takeSync b).st.sync.isSome) = true := by simp only [hok, hidle]; decide
  have hbegin : s.beginSync b = ((s.takeSync b).enablePiers b).enterSync b := by
    simp only [State.takeSync] at htaken
    simp only [State.beginSync, State.enterSync, State.enablePiers, State.enablePier, State.takeSync]
    exact if_neg htaken
  exact ⟨((s.takeSync b).enablePiers b).md, ((s.takeSync b).enablePiers b).lk, hbegin.trans henables.enterSync, hon⟩

theorem doSyncStart_found (hidx : s.tb.idx = 0) (hsteered : s.rd.flywheel = false) (hfound : s.allBays.find? (fun b => (s.bayStart b).syncDue) = some b) :
    doSyncStart s = (s.beginSync b).raise { kind := .syncBegun, unit := bayUid b, detail := bit ((s.beginSync b).syncingBay b) } := by
  simp only [doSyncStart, hidx, hsteered, hfound, ne_eq, not_true_eq_false, Bool.false_eq_true, or_self, if_false]

theorem State.syncingBay_of_sync {y : Sync} (hsync : s.st.sync = some y) (b : Nat) : s.syncingBay b = (y.bay == b) := by simp only [State.syncingBay, hsync]

/-! ### SYNC_PERMIT_ASSERT and SYNC_TIMEOUT (R336) -/

section
variable {y : Sync} (hsync : s.st.sync = some y) (hopen : y.closed = false)
include hsync hopen

theorem doSyncPermitAssert_due (hpass : y.passing = true) (hdwell : s.prm 0x0103 0 4 0 ≤ y.dwell) (hhub : s.energizeIn y.bay = true) (hlow : s.st.syncPermit = false) :
    doSyncPermitAssert s = { s with st := { s.st with syncPermit := true, sync := some { y with permitted := true, permitAge := 0 } } } := by
  simp only [doSyncPermitAssert, hsync]
  exact if_pos ⟨by simp [hopen], hpass, hdwell, hhub, by simp [hlow]⟩

theorem doSyncTimeout_due (hnever : y.permitted = false) (hlimit : s.prm 0x0103 0 5 0 * 800 ≤ y.waited) :
    doSyncTimeout s = (s.endSync 4).raise { kind := .syncTimeout, unit := bayUid y.bay } := by
  simp only [doSyncTimeout, hsync]
  exact if_pos (by simp [hopen, hnever, hlimit])

theorem State.endSync_open (reason : Nat) : s.endSync reason = { s with
    md := s.md.floatBay y.bay
    st := { s.st with sync := none, syncPermit := false, bays := tmod {} s.st.bays y.bay (fun x => { x with phase := .ready, reason := reason, age := 0 }) } } := by
  simp only [State.endSync, hsync]
  exact if_neg (by simp [hopen])

end
end

/-- Settles O24, row by row, and the record that a restore opens. -/
theorem synchronisationRows : Obligations.SynchronisationRows := by
  unfold Obligations.SynchronisationRows
  refine ⟨fun b s hb hphase hall => ?admitted, fun b s hb hphase hsome htime => ?admissionTime, fun b s hb hphase hdue hserves => ?restored,
    fun b s hb hphase hdue hout htime => ?held, fun b s hidx hsteered hfound hok hnone => ?begins, fun y s hsync hopen hpass hdwell hhub hlow => ?permit,
    fun y s hsync hopen hnever hlimit => ⟨?timeout, State.endSync_open hsync hopen 4⟩, fun x serial marked s hfree hplace hserial himages => ?opened⟩
  case admitted => exact (exec_admissionEnd hb).trans (congrArg _ (doAdmissionEnd_admitted hphase hall))
  case admissionTime => exact (exec_admissionEnd hb).trans (congrArg _ (doAdmissionEnd_timeout hphase hsome htime))
  case restored => exact (exec_restore hb).trans (congrArg _ (doRestore_serves hphase hdue hserves))
  case held => exact (exec_restore hb).trans (congrArg _ (doRestore_timeout hphase hdue hout htime))
  case begins =>
    obtain ⟨m, l, hbegin, hon⟩ := State.beginSync_taken hok hnone
    have hstart := doSyncStart_found hidx hsteered hfound
    rw [State.syncingBay_of_sync (congrArg (fun t : State => t.st.sync) hbegin), beq_self_eq_true] at hstart
    refine ⟨congrArg _ hstart, ?_⟩
    rw [hbegin]
    exact ⟨rfl, rfl, rfl, rfl, (s.takeSync b).enterSync_phase b, hon, rfl, rfl⟩
  case permit => exact congrArg _ (doSyncPermitAssert_due hsync hopen hpass hdwell hhub hlow)
  case timeout => exact congrArg _ (doSyncTimeout_due hsync hopen hnever hlimit)
  case opened =>
    refine ⟨_, State.openRecord_new marked hfree hplace himages, rfl, rfl, ?_⟩
    exact (tget_tset_listed s.lk.bound hserial x).trans (if_pos rfl)

end Sys2Proof.Machine
end

section
/-! SUPPORT. Redundancy status, the planned switch, firmware images and updates, case by case (R302, R305, R317, R328, R440). -/

namespace Sys2Proof.Machine
open Sys2Proof

/-- A refusal that still leaves an effect: the effect stands, and the command does not enter the journal (R302). -/
theorem answersJ_refused_effect {i : Instr} {h : Hdr} {op : Nat} {s t : State} {f : State → State × Ans} {a : Ans} (hx : exec i s = .next (s.hostJ i h op f))
    (hr : HostReady h op s) (ht : t.hs = s.hs) (ha : a.status ≠ stOk) (hb : a.status ≠ stAccepted) (hf : f s = (t, a)) : Answers i h op s t a :=
  answers_same hx hr ht (by simp [hf, ha, hb])

section
variable {s : State} {slot off : Nat} {data : List Nat}

/-! ### KEYSTONE_SWITCH and the switch (R302, R305, R317) -/

theorem keystoneSwitch_noted (hvalid : s.rd.shadowValid = true) : keystoneSwitch s = ({ s with rd := { s.rd with switchDue := true } }, acceptedAns) :=
  if_neg (by simp [hvalid])

theorem doPlannedSwitch_due (hdue : s.rd.switchDue = true) (hidx : s.tb.idx = 0) (hvalid : s.rd.shadowValid = true) (hactive : s.rd.haveActive = true)
    (hsteered : s.rd.flywheel = false) : doPlannedSwitch s =
      State.raise { s with rd := { s.rd with active := 1 - s.rd.active, standby := .booting, shadow := none, journal := [], switchDue := false, updatePhase := if s.rd.updatePhase = 3 then 4 else s.rd.updatePhase, updateAge := 0, prevSlot := s.rd.slotOf s.rd.active, beats := tset 0 s.rd.beats (1 - s.rd.active) s.absTick } } { kind := .keystoneSwitched, unit := noUnit, detail := 1 - s.rd.active } :=
  if_pos (by simp [hdue, hidx, hvalid, hactive, hsteered])

/-! ### FW_IMAGE_WRITE (R440) -/

section
variable {udp : Bool} (hslot : slot ≤ 1) (hmin : 4 ≤ data.length) (hmax : data.length ≤ (if udp then 1408 else 4032)) (hwords : data.length % 4 = 0) (hfree : s.runsSlot slot = false)
include hslot hmin hmax hwords hfree

/-- A chunk of a permitted length, for a slot that no keystone runs. -/
theorem fwImageWrite_sound : fwImageWrite udp slot off data s =
    if off ≠ 0 ∧ off ≠ (s.image slot).bytes.length then (s, refuseAns stBadParam 0x0B05 255 slot)
    else if slotSize < off + data.length then (s, refuseAns stRange 0x0B05 255 slot)
    else (s.writeChunk slot off data, okAns (le 4 (off + data.length))) := by
  have hlength : ¬ (data.length < 4 ∨ (if udp = true then 1408 else 4032) < data.length ∨ data.length % 4 ≠ 0) := by
    rw [not_or, not_or, not_not]
    exact ⟨hmin.not_gt, hmax.not_gt, hwords⟩
  exact (if_neg hslot.not_gt).trans ((if_neg hlength).trans (if_neg (by simp [hfree])))

theorem fwImageWrite_taken (hoff : off = 0 ∨ off = (s.image slot).bytes.length) (hfits : off + data.length ≤ slotSize) :
    fwImageWrite udp slot off data s = (s.writeChunk slot off data, okAns (le 4 (off + data.length))) := by
  have hfollows : ¬ (off ≠ 0 ∧ off ≠ (s.image slot).bytes.length) := fun h => hoff.elim h.1 h.2
  rw [fwImageWrite_sound hslot hmin hmax hwords hfree, if_neg hfollows, if_neg hfits.not_gt]

theorem fwImageWrite_elsewhere (hstart : off ≠ 0) (hend : off ≠ (s.image slot).bytes.length) :
    fwImageWrite udp slot off data s = (s, refuseAns stBadParam 0x0B05 255 slot) := by
  rw [fwImageWrite_sound hslot hmin hmax hwords hfree, if_pos ⟨hstart, hend⟩]

end

theorem State.writeChunk_eq (s : State) (slot off : Nat) (data : List Nat) : s.writeChunk slot off data =
    { s with rd := { s.rd with images := tmod {} s.rd.images slot (fun i => { bytes := (if off = 0 then [] else i.bytes) ++ data.map (· % 256), verified := false }) } } := by
  by_cases hoff : off = 0 <;> simp only [State.writeChunk, hoff, if_true, if_false, List.nil_append]

/-! ### FW_IMAGE_VERIFY (R317, R440) -/

/-- The slot's mark as the verification leaves it. -/
def State.markImage (s : State) (slot : Nat) : State := { s with rd := { s.rd with images := tmod {} s.rd.images slot (fun i => { i with verified := s.imageGood slot }) } }

theorem fwImageVerify_running (hslot : slot ≤ 1) (hruns : s.runsSlot slot = true) : fwImageVerify slot s = (s, refuseAns stState 0x0B06 255 slot) :=
  (if_neg hslot.not_gt).trans (if_pos hruns)

section
variable (hslot : slot ≤ 1) (hfree : s.runsSlot slot = false)
include hslot hfree

theorem fwImageVerify_good (hgood : s.imageGood slot = true) : fwImageVerify slot s = (s.markImage slot,
    let i := Config.imageInfo (s.image slot).bytes
    okAns (le 4 i.1 ++ le 2 i.2.1 ++ le 2 i.2.2.1 ++ le 2 i.2.2.2 ++ le 2 0)) := by
  rw [State.markImage, hgood]
  exact (if_neg hslot.not_gt).trans ((if_neg (by simp [hfree])).trans (if_neg (by simp [hgood])))

theorem fwImageVerify_bad (hbad : s.imageGood slot = false) : fwImageVerify slot s = (s.markImage slot, refuseAns stVerify 0x0B06 255 slot) := by
  rw [State.markImage, hbad]
  exact (if_neg hslot.not_gt).trans ((if_neg (by simp [hfree])).trans (if_pos (by simp [hbad])))

end

/-! ### FW_UPDATE (R317) -/

theorem fwUpdate_eq (hvalid : s.rd.shadowValid = true) (hverified : (s.image s.rd.newSlot).verified = true) (hidle : s.rd.xfer = none) (hsteered : s.rd.flywheel = false) :
    fwUpdate s = if s.acceptsShadow then
      ({ s with rd := { s.rd with standby := .booting, shadow := none, journal := [], updatePhase := 1, updateAge := 0, prevSlot := s.rd.slotOf (1 - s.rd.active), backDue := false } }, acceptedAns)
      else (s, refuseAns stState 0x0B07 255 0) := by
  cases haccepts : s.acceptsShadow <;> simp [fwUpdate, hvalid, hverified, hidle, hsteered, haccepts]

theorem doFwUpdateAbort_absent (hphase : s.rd.updatePhase = 1) (habsent : s.rd.standby = .absent) : doFwUpdateAbort s =
    State.raise { s with rd := { s.rd with updatePhase := 6, updateAborted := true, standby := s.rd.otherStands, shadow := none, journal := [], backDue := true } }
      { kind := .updateEnded, unit := noUnit } := if_pos ⟨.inl hphase, .inl habsent⟩

end

/-- Settles O31, command by command and row by row. -/
theorem firmwareAndUpdates : Obligations.FirmwareAndUpdates := by
  unfold Obligations.FirmwareAndUpdates
  refine ⟨fun h s hr => ?status, fun h s hr hvalid => ?noted, fun s hdue hidx hvalid hactive hsteered => ?switched,
    fun h slot off data s hr hslot hmin hmax hwords hfree hoff hfits => ?written, fun h slot s hr hslot hfree => ?verified, fun h slot s hr hslot hruns => ?running,
    fun h s hr hvalid hverified hidle hsteered => ?update, fun s hphase habsent => ?aborted,
    fun h slot off data s hr hslot hmin hmax hwords hfree hstart hend => ?elsewhere⟩
  case status => exact answers_same rfl hr rfl (by simp)
  case noted => exact answersJ_same rfl hr rfl (.inr rfl) (keystoneSwitch_noted hvalid)
  case switched => exact congrArg _ (doPlannedSwitch_due hdue hidx hvalid hactive hsteered)
  case written =>
    have hcommand := fwImageWrite_taken hslot hmin hmax hwords hfree hoff hfits
    rw [State.writeChunk_eq] at hcommand
    exact answersJ_same rfl hr rfl (.inl rfl) hcommand
  case verified =>
    cases hgood : s.imageGood slot
    · have hcommand := fwImageVerify_bad hslot hfree hgood
      rw [State.markImage, hgood] at hcommand
      exact .inr ⟨rfl, answersJ_refused_effect rfl hr rfl (show stVerify ≠ stOk by decide) (show stVerify ≠ stAccepted by decide) hcommand⟩
    · have hcommand := fwImageVerify_good hslot hfree hgood
      rw [State.markImage, hgood] at hcommand
      exact .inl ⟨rfl, answersJ_same rfl hr rfl (.inl rfl) hcommand⟩
  case running => exact answersJ_refused rfl hr (show stState ≠ stOk by decide) (show stState ≠ stAccepted by decide) (fwImageVerify_running hslot hruns)
  case update =>
    have hcommand := fwUpdate_eq hvalid hverified hidle hsteered
    cases haccepts : s.acceptsShadow
    · rw [if_neg (by simp [haccepts])] at hcommand
      exact .inr ⟨rfl, answersJ_refused rfl hr (show stState ≠ stOk by decide) (show stState ≠ stAccepted by decide) hcommand⟩
    · rw [if_pos haccepts] at hcommand
      exact .inl ⟨rfl, answersJ_same rfl hr rfl (.inr rfl) hcommand⟩
  case aborted => exact congrArg _ (doFwUpdateAbort_absent hphase habsent)
  case elsewhere =>
    exact answersJ_refused rfl hr (show stBadParam ≠ stOk by decide) (show stBadParam ≠ stAccepted by decide) (fwImageWrite_elsewhere hslot hmin hmax hwords hfree hstart hend)

end Sys2Proof.Machine
end

section
/-! SUPPORT. A lost keystone: what leaves with the active one, its exports and its slots' backlogs, and what the standby takes over; and a keystone that goes live (R303 to R305, R316, R413, R469). -/

namespace Sys2Proof.Machine
open Sys2Proof

/-! ### An event leaves every slot's waiting commands and held replies -/

/-- What a slot waits with: its queued commands and the replies it holds (R404, R411). -/
def Slot.backlog (x : Slot) : List Queued × List HeldReply := (x.queue, x.held)

/-- A write to a slot that stays open with its backlog. -/
theorem HostIf.set_backlog (h : HostIf) {i : Nat} {x : Slot} (hopen : x.phase ≠ .closed) (hx : x.backlog = (tget {} h.slots i).backlog) (j : Nat) :
    (tget {} (tset {} h.slots i x) j).backlog = (tget {} h.slots j).backlog := by
  have hlisted : x ≠ {} := fun hempty => hopen (congrArg Slot.phase hempty)
  rw [tget_tset_listed _ hlisted]
  split
  · next hj => rw [hj, hx]
  · rfl

theorem Slot.deliver_backlog (x : Slot) (i : Nat) (r : EvRec) : (x.deliver i r).1.backlog = x.backlog := by
  cases hp : x.phase <;> simp only [Slot.deliver, hp]
  case pcie => split_ifs <;> rfl
  case udp => rfl

theorem HostIf.deliver_backlog (h : HostIf) (i : Nat) (force : Bool) (r : EvRec) (j : Nat) : (tget {} (h.deliver i force r).slots j).backlog = (tget {} h.slots j).backlog := by
  have hset (hopen : (tget {} h.slots i).phase ≠ .closed) := h.set_backlog (x := ((tget {} h.slots i).deliver i r).1) (by rwa [Slot.deliver_phase]) (Slot.deliver_backlog _ i r) j
  simp only [HostIf.deliver]
  split_ifs with htold hring
  · exact hset htold.1
  · exact hset htold.1
  · rfl

theorem HostIf.merge_backlog (h : HostIf) (i : Nat) (force : Bool) (m : Nat) (r : EvRec) (j : Nat) : (tget {} (h.merge i force m r).slots j).backlog = (tget {} h.slots j).backlog := by
  simp only [HostIf.merge]
  split_ifs with htold hrepeat
  · refine h.set_backlog ?_ ?_ j
    · exact htold.1
    · rfl
  · exact h.deliver_backlog i force r j
  · rfl

theorem State.publish_backlog (s : State) (e : Evt) (force : Nat → Bool) (j : Nat) : ((s.publish e force).slot j).backlog = (s.slot j).backlog := by
  have hfold (slots : List Nat) (h : HostIf) :
      (tget {} (slots.foldl (fun (h : HostIf) i => if s.shedding then h.merge i (force i) (evSources e.kind) (s.stampEvt e) else h.deliver i (force i) (s.stampEvt e)) h).slots j).backlog
        = (tget {} h.slots j).backlog := by
    induction slots generalizing h with
    | nil => rfl
    | cons i slots ih =>
      refine (ih _).trans ?_
      split_ifs
      · exact h.merge_backlog _ _ _ _ j
      · exact h.deliver_backlog _ _ _ j
  exact hfold _ s.hs

/-! ### The frame of what leaves (R305, R413) -/

/-- `t` is `s` after something of the lost keystone has ended: the books of events, the host interface, the ledger, and the tiles with their transfer. -/
structure State.Ends (s t : State) : Prop where
  frame : t = { s with hs := t.hs, lg := t.lg, ev := t.ev, rd := { s.rd with tiles := t.rd.tiles, xfer := t.rd.xfer } }
  sorted : s.hs.Sorted → t.hs.Sorted

section
variable {s t u : State}

namespace State.Ends

theorem refl (s : State) : s.Ends s := ⟨rfl, id⟩

theorem trans (hst : s.Ends t) (htu : t.Ends u) : s.Ends u := ⟨htu.frame.trans (by rw [hst.frame]), fun hs => htu.sorted (hst.sorted hs)⟩

theorem foldl {op : State → Nat → State} (hop : ∀ u i, Ends u (op u i)) (is : List Nat) (s : State) : s.Ends (is.foldl op s) := by
  induction is generalizing s with
  | nil => exact .refl s
  | cons i is ih => exact (hop s i).trans (ih _)

end State.Ends

theorem State.raise_ends (s : State) (e : Evt) : s.Ends (s.raise e) := by
  have hraised : (s.raise e).hs = (s.publish e (fun _ => false)).hs := rfl
  exact ⟨rfl, fun hs => by rw [hraised]; exact State.publish_sorted hs e _⟩

theorem State.endExport_ends (s : State) (i : Nat) : s.Ends (s.endExport i) := by
  simp only [State.endExport]
  split
  · exact .refl s
  · refine State.Ends.trans ?_ (State.raise_ends _ _)
    exact ⟨rfl, id⟩

theorem State.endRunningTransfer_ends (s : State) : s.Ends s.endRunningTransfer := by
  have habandon : s.Ends s.abandonTransfer := by
    simp only [State.abandonTransfer]
    split
    · exact .refl s
    · refine State.Ends.trans ?_ (State.raise_ends _ _)
      split_ifs <;> exact ⟨rfl, id⟩
  simp only [State.endRunningTransfer]
  split
  · split_ifs
    · exact habandon
    · exact .refl s
  · exact .refl s

/-- A slot without its backlog, its keepalive restarted. -/
def Slot.emptied (x : Slot) : Slot := { x with queue := [], held := [], deficit := 0, idle := 0 }

/-- The slot's backlog is dropped, and `n` commands are counted. -/
def State.emptied (s : State) (i n : Nat) : State :=
  { s with hs := { s.hs with slots := tmod {} s.hs.slots i Slot.emptied, takeoverDrops := tset 0 s.hs.takeoverDrops i n } }

theorem State.dropQueue_eq (s : State) (i : Nat) : s.dropQueue i =
    if (s.slot i).live then
      (s.emptied i (s.unanswered i).1).publish { kind := .hsTakeover, unit := noUnit, detail := (s.unanswered i).1 % 65536 + (s.unanswered i).2 % 65536 * 65536 } (fun j => decide (j = i))
    else s.emptied i (s.unanswered i).1 := rfl

theorem State.dropQueue_ends (s : State) (i : Nat) : s.Ends (s.dropQueue i) := by
  have hwritten (hs : s.hs.Sorted) (n : Nat) : (s.emptied i n).hs.Sorted := ⟨twf_tmod i Slot.emptied hs.1, hs.2⟩
  simp only [State.dropQueue_eq]
  split
  · refine ⟨rfl, fun hs => ?_⟩
    exact State.publish_sorted (hwritten hs _) _ _
  · exact ⟨rfl, fun hs => hwritten hs _⟩

/-- The exports and a transfer that runs have ended. -/
def State.endWork (s : State) : State := s.endExports.endRunningTransfer

/-- What ends before the keystone's own records: the exports, a transfer that runs, the slots' backlogs. -/
def State.leaveWork (s : State) : State := (List.range 8).foldl State.dropQueue s.endWork

theorem State.endWork_ends (s : State) : s.Ends s.endWork := by
  unfold State.endWork State.endExports
  exact (State.Ends.foldl State.endExport_ends _ s).trans (State.endRunningTransfer_ends _)

theorem State.leaveWork_ends (s : State) : s.Ends s.leaveWork := by
  unfold State.leaveWork
  exact s.endWork_ends.trans (.foldl State.dropQueue_ends _ _)

/-! ### The exports (R469) -/

@[simp] theorem State.raise_exports (s : State) (e : Evt) : (s.raise e).lg.exports = s.lg.exports := by
  simp only [State.raise, State.raiseX, Ledger.mergeRecord, Ledger.record, Ledger.hold]
  split_ifs <;> rfl

theorem State.endExport_exports (hexports : twf none s.lg.exports = true) (i : Nat) :
    twf none (s.endExport i).lg.exports = true ∧ ∀ j, tget none (s.endExport i).lg.exports j = if j = i then none else tget none s.lg.exports j := by
  simp only [State.endExport]
  split
  · next hnone => exact ⟨hexports, fun j => by split <;> simp_all⟩
  · rw [State.raise_exports]
    refine ⟨twf_tset _ _ hexports, fun j => ?_⟩
    split
    · next hj => rw [hj]; exact tget_tset_self hexports
    · next hj => exact tget_tset_ne hj hexports

theorem State.foldl_endExport_exports (is : List Nat) (hexports : twf none s.lg.exports = true) (j : Nat) :
    tget none (is.foldl State.endExport s).lg.exports j = if j ∈ is then none else tget none s.lg.exports j := by
  induction is generalizing s with
  | nil => simp
  | cons i is ih =>
    obtain ⟨hsorted, hread⟩ := State.endExport_exports hexports i
    rw [List.foldl_cons, ih hsorted, hread]
    by_cases hj : j = i <;> simp [hj]

theorem State.endRunningTransfer_exports (s : State) : s.endRunningTransfer.lg.exports = s.lg.exports := by
  have habandon : s.abandonTransfer.lg.exports = s.lg.exports := by
    simp only [State.abandonTransfer]
    split
    · rfl
    · rw [State.raise_exports]
      split_ifs <;> rfl
  simp only [State.endRunningTransfer]
  split
  · split_ifs
    · exact habandon
    · rfl
  · rfl

/-! ### The slots' backlogs (R413) -/

theorem State.dropQueue_lg (s : State) (i : Nat) : (s.dropQueue i).lg = s.lg := by
  rw [State.dropQueue_eq]
  split <;> rfl

theorem State.foldl_dropQueue_lg (is : List Nat) (s : State) : (is.foldl State.dropQueue s).lg = s.lg := by
  induction is generalizing s with
  | nil => rfl
  | cons i is ih => exact (ih _).trans (s.dropQueue_lg i)

theorem State.dropQueue_backlog (hs : SlotsInv s) (i j : Nat) : ((s.dropQueue i).slot j).backlog = if j = i then ([], []) else (s.slot j).backlog := by
  have hwritten (n : Nat) : ((s.emptied i n).slot j).backlog = if j = i then ([], []) else (s.slot j).backlog := by
    unfold State.emptied State.slot
    split
    · next hj => rw [hj, tget_tmod_self hs.1]; rfl
    · next hj => rw [tget_tmod_ne hj hs.1]
  rw [State.dropQueue_eq]
  split
  · exact (State.publish_backlog _ _ _ j).trans (hwritten _)
  · exact hwritten _

theorem State.foldl_dropQueue_backlog (is : List Nat) (hs : SlotsInv s) (j : Nat) :
    ((is.foldl State.dropQueue s).slot j).backlog = if j ∈ is then ([], []) else (s.slot j).backlog := by
  induction is generalizing s with
  | nil => simp
  | cons i is ih =>
    rw [List.foldl_cons, ih ((s.dropQueue_ends i).sorted hs), State.dropQueue_backlog hs]
    by_cases hj : j = i <;> simp [hj]

/-! ### The active keystone is lost (R303, R305) -/

theorem State.endWork_exports (hexports : twf none s.lg.exports = true) {i : Nat} (hi : i < 8) : tget none s.endWork.lg.exports i = none := by
  unfold State.endWork State.endExports
  rw [State.endRunningTransfer_exports, State.foldl_endExport_exports _ hexports, if_pos (List.mem_range.mpr hi)]

/-- No slot waits for anything, and no exports run, once the keystone's work has ended. -/
theorem State.leaveWork_empties (hs : SlotsInv s) (hexports : twf none s.lg.exports = true) {i : Nat} (hi : i < 8) :
    (s.leaveWork.slot i).backlog = ([], []) ∧ tget none s.leaveWork.lg.exports i = none := by
  unfold State.leaveWork
  rw [State.foldl_dropQueue_backlog _ (s.endWork_ends.sorted hs), State.foldl_dropQueue_lg, if_pos (List.mem_range.mpr hi)]
  exact ⟨rfl, State.endWork_exports hexports hi⟩

/-- The lost keystone's own records: no active keystone and no copy; its updates, its fuse command's slot and its ledger are dropped. -/
def State.dismiss (s : State) : State :=
  { s with
    rd := { s.rd with haveActive := false, switchDue := false, standby := .absent, shadow := none, journal := [], candidates := setBit s.rd.candidates s.rd.active false
                      updateAborted := s.rd.updateAborted || (s.rd.updatePhase == 1 || s.rd.updatePhase == 2 || s.rd.updatePhase == 3 || s.rd.updatePhase == 4)
                      updatePhase := if s.rd.updatePhase = 1 ∨ s.rd.updatePhase = 2 ∨ s.rd.updatePhase = 3 ∨ s.rd.updatePhase = 4 then 6 else s.rd.updatePhase }
    fu := { s.fu with prog := s.fu.prog.map (fun p => { p with slot := 8 }) }
    lg := { s.lg with takeover := true, phase := if s.lg.phase = 0 then 0 else 1, cap := none, frame := none, queue := [], ops := [], slots := [], due := false } }

theorem State.leaveActive_eq (s : State) : s.leaveActive = s.leaveWork.dismiss := by
  unfold State.leaveActive State.leaveWork State.endWork State.dismiss
  rfl

theorem State.vector16_frame (s : State) (k : Nat) (was : Bool) : ∃ g : HostIf, s.vector16 k was = { s with hs := g } ∧ g.slots = s.hs.slots := by
  simp only [State.vector16]
  split
  · exact ⟨_, rfl, rfl⟩
  · exact ⟨_, rfl, rfl⟩

/-- With a valid shadow, and a bay ENERGISED since the start, the standby takes over from what the lost keystone leaves. -/
theorem State.loseActive_takeOver {h : Shadow} (hvalid : s.rd.shadowValid = true) (hcopy : s.rd.shadow = some h) (honce : s.st.onceEnergised = true) :
    s.loseActive = s.leaveWork.dismiss.takeOver h s.rd.journal := by
  have hready : (if s.rd.shadowValid then s.rd.shadow else none) = some h := (if_pos hvalid).trans hcopy
  simp only [State.loseActive, hready, State.leaveActive_eq]
  exact if_pos honce

theorem doKeystoneLost_of_not_holds {c : LossCause} (hfalse : s.lossHolds c = false) : doKeystoneLost c s = s := by
  simp only [doKeystoneLost, hfalse, Bool.and_false, Bool.false_eq_true, if_false, ite_self]

theorem doKeystoneLost_fatal (hactive : s.rd.haveActive = true) : doKeystoneLost .fatal s = s.loseActive := (if_pos hactive).trans (if_pos rfl)

/-! ### KEYSTONE_LIVE (R304, R309) -/

theorem doKeystoneLive_due (htracks : s.rd.tracking = true) (hticks : 400 ≤ s.rd.trackTicks) (hidx : s.tb.idx = 0) : doKeystoneLive s = { s with
    rd := { s.rd with haveActive := true, tracking := false, flywheel := s.rd.flywheel && s.rd.ramp, beats := tset 0 s.rd.beats s.rd.active s.absTick, standby := s.rd.otherStands }
    ce := { s.ce with piers := (s.ce.piers.map (fun e => (e.1, { e.2 with resumed := 0 }))).filter (fun e => e.2 != {}) } } := if_pos ⟨htracks, hticks, hidx⟩

end

/-- Settles O32: what leaves with the keystone and what takes its place, then the one that goes live. -/
theorem keystoneLossAndLive : Obligations.KeystoneLossAndLive := by
  unfold Obligations.KeystoneLossAndLive
  refine ⟨fun h s hs hexports hactive hvalid hcopy honce => ?lost, fun s htracks hticks hidx => ?live, fun c s hfalse => congrArg _ (doKeystoneLost_of_not_holds hfalse)⟩
  case lost =>
    have hlost := (doKeystoneLost_fatal hactive).trans (State.loseActive_takeOver hvalid hcopy honce)
    have hempties (i : Nat) (hi : i < 8) := State.leaveWork_empties hs hexports hi
    obtain ⟨hframe, -⟩ := s.leaveWork_ends
    generalize s.leaveWork = w at hlost hempties hframe
    obtain ⟨g, hsignal, hslots⟩ := State.vector16_frame _ 2 w.dismiss.ev.takeover
    refine ⟨_, congrArg Host.Outcome.next (hlost.trans hsignal), fun i hi => ?_, ?_⟩
    · obtain ⟨hbacklog, hexport⟩ := hempties i hi
      have hslot : tget {} g.slots i = w.slot i := congrArg (fun t : Tab Slot => tget {} t i) hslots
      exact ⟨(congrArg Slot.queue hslot).trans (congrArg Prod.fst hbacklog), (congrArg Slot.held hslot).trans (congrArg Prod.snd hbacklog), hexport⟩
    · rw [hframe]
      exact ⟨rfl, rfl, rfl, rfl, rfl, rfl, rfl, rfl, rfl, rfl, rfl, rfl, rfl, rfl, rfl, rfl, rfl⟩
  case live => exact congrArg _ (doKeystoneLive_due htracks hticks hidx)

end Sys2Proof.Machine
end

section
/-! SUPPORT. Tables whose listed entries all change at once, those that fall to the default being dropped. -/

namespace Sys2Proof.Machine
open Sys2Proof

section
variable {α : Type} [DecidableEq α] {d : α}

/-- Every listed entry changed by `f`, those that then read the default dropped. -/
def tabMap (d : α) (f : Nat × α → α) (t : Tab α) : Tab α := (t.map (fun e => (e.1, f e))).filter (fun e => e.2 != d)

theorem tabMap_cons (f : Nat × α → α) (e : Nat × α) (t : Tab α) : tabMap d f (e :: t) = if f e = d then tabMap d f t else (e.1, f e) :: tabMap d f t := by
  by_cases he : f e = d <;> simp [tabMap, he]

theorem twfFrom_tabMap {f : Nat × α → α} {t : Tab α} {a : Nat} (w : twfFrom d a t = true) : twfFrom d a (tabMap d f t) = true := by
  induction t generalizing a with
  | nil => rfl
  | cons e t ih =>
    simp only [twfFrom, Bool.and_eq_true, decide_eq_true_eq] at w
    obtain ⟨⟨hle, -⟩, hrest⟩ := w
    rw [tabMap_cons]
    split
    · exact ih (twfFrom_mono (by omega) hrest)
    · next hlisted => simp [twfFrom, hle, hlisted, ih hrest]

theorem twf_tabMap {f : Nat × α → α} {t : Tab α} (w : twf d t = true) : twf d (tabMap d f t) = true := twfFrom_tabMap w

/-- A key of the changed table reads what `f` makes of its entry, where `f` leaves the default. -/
theorem tget_tabMap {f : Nat × α → α} (hf : ∀ k, f (k, d) = d) {t : Tab α} (w : twf d t = true) (k : Nat) : tget d (tabMap d f t) k = f (k, tget d t k) := by
  suffices hfrom : ∀ (t : Tab α) (a : Nat), twfFrom d a t = true → tget d (tabMap d f t) k = f (k, tget d t k) from hfrom t 0 w
  intro t
  induction t with
  | nil => exact fun _ _ => (hf k).symm
  | cons e t ih =>
    intro a w
    have hkept := ih (e.1 + 1)
    simp only [twfFrom, Bool.and_eq_true, decide_eq_true_eq] at w
    rw [tabMap_cons]
    rcases Nat.lt_trichotomy k e.1 with hlt | rfl | hgt
    · have hout := hkept w.2
      rw [tget_of_lt (by omega) w.2, hf] at hout
      have hne : k ≠ e.1 := by omega
      split <;> simp [tget, hne, hlt, hf, hout]
    · have hout := hkept w.2
      rw [tget_of_lt (by omega) w.2, hf] at hout
      split
      · next hdropped => rw [hout, ← hdropped]; simp [tget]
      · simp [tget]
    · have hne : k ≠ e.1 := by omega
      have hnlt : ¬ k < e.1 := by omega
      split <;> simp [tget, hne, hnlt, hkept w.2]

end

end Sys2Proof.Machine
end

section
/-! SUPPORT. What the operations do to the queue and to the tables of the host interface (R394, R412). -/

namespace Sys2Proof.Machine
open Sys2Proof

/-! ### Operations in a row -/

/-- `g` has its tables in canonical form if `h` has. -/
def HostIf.Leads (h g : HostIf) : Prop := h.Sorted → g.Sorted

@[simp] theorem HostIf.Leads.refl (h : HostIf) : h.Leads h := id

theorem HostIf.Leads.trans {f g h : HostIf} (hfg : f.Leads g) (hgh : g.Leads h) : f.Leads h := hgh ∘ hfg

@[simp] theorem HostIf.leads_ite {p : Prop} [Decidable p] {f g h : HostIf} : f.Leads (if p then g else h) ↔ if p then f.Leads g else f.Leads h := by
  split <;> rfl

/-- `t` has the queue and the host interface of `s`. -/
@[simp] abbrev State.SameHost (t s : State) : Prop := t.pending = s.pending ∧ t.hs = s.hs

/-- `t` has the queue of `s`, and its host tables are in canonical form where those of `s` are; said of every interface that leads to that of `s`, so that `simp` may go back operation by operation. -/
@[simp] abbrev State.Carries (t s : State) : Prop := t.pending = s.pending ∧ ∀ h : HostIf, h.Leads s.hs → h.Leads t.hs

theorem State.Carries.of {s t : State} (h : t.pending = s.pending ∧ s.hs.Leads t.hs) : t.Carries s := ⟨h.1, fun _ hw => hw.trans h.2⟩

theorem State.Carries.of_same {s t : State} (h : t.SameHost s) : t.Carries s := ⟨h.1, fun _ hw => h.2 ▸ hw⟩

theorem State.Carries.refl (s : State) : s.Carries s := ⟨rfl, fun _ => id⟩

theorem State.Carries.after {s t u : State} (hut : u.Carries t) (hts : t.SameHost s) : u.Carries s := ⟨hut.1.trans hts.1, fun h hw => hut.2 h (hts.2 ▸ hw)⟩

theorem State.Carries.before {s t u : State} (hut : u.SameHost t) (hts : t.Carries s) : u.Carries s := ⟨hut.1.trans hts.1, fun h hw => hut.2 ▸ hts.2 h hw⟩

theorem State.Carries.trans {s t u : State} (hut : u.Carries t) (hts : t.Carries s) : u.Carries s := ⟨hut.1.trans hts.1, fun h hw => hut.2 h (hts.2 h hw)⟩

theorem State.Carries.ite {s t u : State} {p : Prop} [Decidable p] (ht : t.Carries s) (hu : u.Carries s) : (if p then t else u).Carries s := by
  split
  · exact ht
  · exact hu

/-- An operation that leaves the queue and the host interface alone. -/
def KeepsHost {α : Type} (op : State → α → State) : Prop := ∀ s a, (op s a).SameHost s

@[simp] theorem keepsHost_iff {α : Type} {op : State → α → State} : KeepsHost op ↔ ∀ s a, (op s a).SameHost s := Iff.rfl

/-- An operation that carries the queue and the form of the host tables. -/
def CarriesHost {α : Type} (op : State → α → State) : Prop := ∀ s a, (op s a).pending = s.pending ∧ s.hs.Leads (op s a).hs

@[simp] theorem carriesHost_iff {α : Type} {op : State → α → State} : CarriesHost op ↔ ∀ s a, (op s a).pending = s.pending ∧ s.hs.Leads (op s a).hs := Iff.rfl

/-- The same of an operation with a result beside the state. -/
def KeepsHostFst {α β : Type} (op : State × β → α → State × β) : Prop := ∀ x a, (op x a).1.SameHost x.1

@[simp] theorem keepsHostFst_iff {α β : Type} {op : State × β → α → State × β} : KeepsHostFst op ↔ ∀ x a, (op x a).1.SameHost x.1 := Iff.rfl

def CarriesHostFst {α β : Type} (op : State × β → α → State × β) : Prop := ∀ x a, (op x a).1.pending = x.1.pending ∧ x.1.hs.Leads (op x a).1.hs

@[simp] theorem carriesHostFst_iff {α β : Type} {op : State × β → α → State × β} : CarriesHostFst op ↔ ∀ x a, (op x a).1.pending = x.1.pending ∧ x.1.hs.Leads (op x a).1.hs := Iff.rfl

@[simp] theorem State.ite_pending (p : Prop) [Decidable p] (s t : State) : (if p then s else t).pending = if p then s.pending else t.pending := apply_ite State.pending p s t
@[simp] theorem State.ite_hs (p : Prop) [Decidable p] (s t : State) : (if p then s else t).hs = if p then s.hs else t.hs := apply_ite State.hs p s t

@[simp] theorem foldl_host {α : Type} {op : State → α → State} (hop : KeepsHost op) (l : List α) (s : State) : (l.foldl op s).SameHost s := by
  induction l generalizing s with
  | nil => simp
  | cons a l ih => exact ⟨(ih _).1.trans (hop s a).1, (ih _).2.trans (hop s a).2⟩

@[simp] theorem foldl_carries {α : Type} {op : State → α → State} (hop : CarriesHost op) (l : List α) (s : State) : (l.foldl op s).Carries s := by
  induction l generalizing s with
  | nil => exact .refl s
  | cons a l ih => exact .trans (ih _) (.of (hop s a))

@[simp] theorem foldl_fst_host {α β : Type} {op : State × β → α → State × β} (hop : KeepsHostFst op) (l : List α) (x : State × β) : (l.foldl op x).1.SameHost x.1 := by
  induction l generalizing x with
  | nil => simp
  | cons a l ih => exact ⟨(ih _).1.trans (hop x a).1, (ih _).2.trans (hop x a).2⟩

@[simp] theorem foldl_fst_carries {α β : Type} {op : State × β → α → State × β} (hop : CarriesHostFst op) (l : List α) (x : State × β) : (l.foldl op x).1.Carries x.1 := by
  induction l generalizing x with
  | nil => exact .refl x.1
  | cons a l ih => exact .trans (ih _) (.of (hop x a))

@[simp] theorem iter_host {op : Nat → State → State} (hop : KeepsHost (fun s k => op k s)) (n : Nat) (s : State) : (iter n op s).SameHost s := by
  induction n with
  | zero => simp [iter]
  | succ n ih =>
    rw [iter_succ]
    exact ⟨(hop _ n).1.trans ih.1, (hop _ n).2.trans ih.2⟩

@[simp] theorem iter_carries {op : Nat → State → State} (hop : CarriesHost (fun s k => op k s)) (n : Nat) (s : State) : (iter n op s).Carries s := by
  induction n with
  | zero => exact .refl s
  | succ n ih =>
    rw [iter_succ]
    exact .trans (.of (hop _ n)) ih

section
variable (s : State)

/-! ### The shared operations -/

@[simp] theorem HostIf.Leads.set {h g : HostIf} (hw : h.Leads g) (i : Nat) (x : Slot) : h.Leads { g with slots := tset {} g.slots i x } := fun hs => ⟨twf_tset i x (hw hs).1, (hw hs).2⟩
@[simp] theorem HostIf.Leads.flags {h g : HostIf} (hw : h.Leads g) (commitErr authFail refused evqOverflow : Bool) : h.Leads { g with commitErr := commitErr, authFail := authFail, refused := refused, evqOverflow := evqOverflow } := hw
@[simp] theorem HostIf.Leads.post {h g : HostIf} (hw : h.Leads g) (i : Nat) (udp : Bool) (c : HeldReply) : h.Leads (g.post i udp c) := fun hs => HostIf.post_sorted (hw hs) i udp c
@[simp] theorem HostIf.Leads.flush {h g : HostIf} (hw : h.Leads g) (i : Nat) : h.Leads (g.flush i) := fun hs => HostIf.flush_sorted (hw hs) i
@[simp] theorem HostIf.Leads.announce {h g : HostIf} (hw : h.Leads g) (i : Nat) : h.Leads (g.announce i) := fun hs => HostIf.announce_sorted (hw hs) i
@[simp] theorem HostIf.Leads.slot {h g : HostIf} (hw : h.Leads g) (i : Nat) (f : Slot → Slot) : h.Leads { g with slots := tmod {} g.slots i f } := fun hs => ⟨twf_tmod i f (hw hs).1, (hw hs).2⟩

@[simp] theorem State.modSlot_carries (i : Nat) (f : Slot → Slot) : (s.modSlot i f).Carries s := ⟨rfl, fun _ hw => hw.slot i f⟩
@[simp] theorem HostIf.leads_signal {h g : HostIf} (v : Nat) : h.Leads (g.signal v) ↔ h.Leads g := Iff.rfl
@[simp] theorem State.vector16_carries (k : Nat) (was : Bool) : (s.vector16 k was).Carries s := .of (by simp [State.vector16])
@[simp] theorem State.publish_carries (e : Evt) (force : Nat → Bool) : (s.publish e force).Carries s := ⟨rfl, fun _ hw hs => State.publish_sorted (hw hs) e force⟩
theorem State.raiseX_hs (e : Evt) (x : List (List Nat)) : (s.raiseX e x).hs = (s.publish e (fun _ => false)).hs := rfl
@[simp] theorem State.raiseX_carries (e : Evt) (x : List (List Nat)) : (s.raiseX e x).Carries s := ⟨rfl, fun _ hw => by rw [s.raiseX_hs]; exact (s.publish_carries e _).2 _ hw⟩
@[simp] theorem State.raise_carries (e : Evt) : (s.raise e).Carries s := s.raiseX_carries e []
@[simp] theorem State.raiseTo_carries (i : Nat) (e : Evt) : (s.raiseTo i e).Carries s := s.publish_carries e _
@[simp] theorem State.raiseLive_carries (e : Evt) : (s.raiseLive e).Carries s := s.publish_carries e _
@[simp] theorem State.assertFault_carries : s.assertFault.Carries s := .of (by simp [State.assertFault])

@[simp] theorem State.modChan_host (c : Nat) (f : Chan → Chan) : (s.modChan c f).SameHost s := ⟨rfl, rfl⟩
@[simp] theorem State.modCourse_host (c : Nat) (f : Course → Course) : (s.modCourse c f).SameHost s := ⟨rfl, rfl⟩
@[simp] theorem State.modDie_host (d : Nat) (f : Die → Die) : (s.modDie d f).SameHost s := ⟨rfl, rfl⟩
@[simp] theorem State.modExport_host (i : Nat) (f : Export → Export) : (s.modExport i f).SameHost s := ⟨rfl, rfl⟩
@[simp] theorem State.modLink_host (b : Nat) (f : BayLink → BayLink) : (s.modLink b f).SameHost s := ⟨rfl, rfl⟩
@[simp] theorem State.modTile_host (t : Nat) (f : Tile → Tile) : (s.modTile t f).SameHost s := ⟨rfl, rfl⟩
@[simp] theorem State.free_host (w : Nat) : (s.free w).2.SameHost s := ⟨rfl, rfl⟩
@[simp] theorem State.stage_host (k : Nat) (b : Bank) (l : List Nat) : (s.stage k b l).SameHost s := ⟨rfl, rfl⟩
@[simp] theorem State.setCharger_host (c : ChargerPhase) (mv : Nat) : (s.setCharger c mv).SameHost s := ⟨rfl, rfl⟩
@[simp] theorem State.startBay_host (b : Nat) (p : StartPhase) (r : Nat) : (s.startBay b p r).SameHost s := ⟨rfl, rfl⟩

/-! ### Events, staging and replies -/

@[simp] theorem State.journal_host (i : Instr) : (s.journal i).SameHost s := ⟨rfl, rfl⟩
@[simp] theorem State.raiseAll_carries (es : List Evt) : (s.raiseAll es).Carries s := .of (by simp [State.raiseAll])
@[simp] theorem State.writeReplyUnder_carries (key : List Nat) (h : Hdr) (op qualifier : Nat) (a : Ans) (use : ReplyUse) : (s.writeReplyUnder key h op qualifier a use).Carries s := by
  have hposted (x : Slot) (c : HeldReply) : ({ s with hs := ({ s.hs with slots := tset {} s.hs.slots h.slot x } : HostIf).post h.slot h.udp c } : State).Carries s := ⟨rfl, fun _ hw => (hw.set _ x).post _ _ c⟩
  simp only [State.writeReplyUnder]
  exact .ite (.trans (State.vector16_carries _ 4 _) (hposted _ _)) (hposted _ _)
@[simp] theorem State.endSync_host (reason : Nat) : (s.endSync reason).SameHost s := by
  simp only [State.endSync]
  split <;> simp
@[simp] theorem State.startStop_host (cause : Nat) (immediate reset noFlush : Bool) : (s.startStop cause immediate reset noFlush).SameHost s := by simp [State.startStop]
@[simp] theorem State.setLatch_carries (mark : Modulator → Modulator) : (s.setLatch mark).Carries s := .of (by simp [State.setLatch])

/-! ### Ports and waveform slots -/

@[simp] theorem doChannelQualify_host (i : Nat) : (doChannelQualify i s).SameHost s := by simp [doChannelQualify]
@[simp] theorem doChannelLost_host (i : Nat) : (doChannelLost i s).SameHost s := by simp [doChannelLost]
@[simp] theorem doSlotRampEnd_host (i : Nat) : (doSlotRampEnd i s).SameHost s := by simp [doSlotRampEnd]
@[simp] theorem State.rebindSlots_host : s.rebindSlots.SameHost s := by simp [State.rebindSlots]
@[simp] theorem streamAsk_host (bitNo slots : Nat) : (streamAsk bitNo slots s).1.SameHost s := ⟨rfl, rfl⟩
@[simp] theorem doSspRxFrame_host (port : Nat) (words : List Nat) : (doSspRxFrame port words s).SameHost s := by simp [doSspRxFrame]
@[simp] theorem doSspRxSlip_host (port : Nat) (full : Bool) : (doSspRxSlip port full s).SameHost s := by simp [doSspRxSlip]
@[simp] theorem State.txPort_host (port : Nat) : (s.txPort port).SameHost s := by simp [State.txPort]
@[simp] theorem doSpDmaInProd_host (index : Nat) : (doSpDmaInProd index s).SameHost s := by simp [doSpDmaInProd]
@[simp] theorem doSpDmaOutCons_host (index : Nat) : (doSpDmaOutCons index s).SameHost s := by simp [doSpDmaOutCons]
@[simp] theorem doDmaInputBlock_host (block : List Nat) : (doDmaInputBlock block s).SameHost s := by
  simp only [doDmaInputBlock]
  (repeat' split) <;> simp
@[simp] theorem State.dmaRow_host : s.dmaRow.SameHost s := by simp [State.dmaRow]
@[simp] theorem doDmaOutputBlock_carries : (doDmaOutputBlock s).Carries s := by
  refine .of ?_
  simp only [doDmaOutputBlock]
  (repeat' split) <;> simp
@[simp] theorem doSetpointQualify_host : (doSetpointQualify s).SameHost s := by simp [doSetpointQualify]
@[simp] theorem doSetpointLost_host : (doSetpointLost s).SameHost s := by simp [doSetpointLost]
@[simp] theorem State.latchSense_host (xs : List SenseIn) : (s.latchSense xs).SameHost s := by simp [State.latchSense]
@[simp] theorem State.latchPorts_host (clocks : List RxClk) (currents edges : List Nat) : (s.latchPorts clocks currents edges).SameHost s := ⟨rfl, rfl⟩
@[simp] theorem State.latchSlots_host : s.latchSlots.SameHost s := by simp [State.latchSlots]
@[simp] theorem State.stage3_host (inp : TickIn) : (s.stage3 inp).SameHost s := by simp [State.stage3]

/-! ### The crosspoint -/

@[simp] theorem State.destStage_host (d : Nat) : (s.destStage d).SameHost s := ⟨rfl, rfl⟩
@[simp] theorem doProbeBurstEnd_host (k : Nat) : (doProbeBurstEnd k s).SameHost s := by simp [doProbeBurstEnd]
@[simp] theorem State.dampStage_host (k : Nat) : (s.dampStage k).SameHost s := ⟨rfl, rfl⟩
@[simp] theorem State.idleTick_host (b : Nat) : (s.idleTick b).SameHost s := ⟨rfl, rfl⟩
@[simp] theorem doBayIdle_carries (b : Nat) : (doBayIdle b s).Carries s := .of (by simp [doBayIdle])
@[simp] theorem doStandbyEntry_host (b : Nat) : (doStandbyEntry b s).SameHost s := by simp [doStandbyEntry]
@[simp] theorem doStandbyExit_host (b : Nat) : (doStandbyExit b s).SameHost s := by simp [doStandbyExit]
@[simp] theorem bayWake_host (unit : Nat) : (bayWake unit s).1.SameHost s := by simp [bayWake]
@[simp] theorem doCrosspointStage_host : (doCrosspointStage s).SameHost s := by simp [doCrosspointStage]
@[simp] theorem xpStats_host (h : Hdr) (dest start max : Nat) : (xpStats h dest start max s).1.SameHost s := by simp [xpStats]

/-! ### Bases, loads and the control engine -/

@[simp] theorem State.endSyncOf_host (bs : List Nat) : (s.endSyncOf bs).SameHost s := by simp [State.endSyncOf]
@[simp] theorem ambientSet_host (unit temp : Nat) : (ambientSet unit temp s).1.SameHost s := by simp [ambientSet]
@[simp] theorem doAmbientTimeout_carries (b : Nat) : (doAmbientTimeout b s).Carries s := .of (by simp [doAmbientTimeout])
@[simp] theorem State.heatCycle_carries (tc : Int) : (s.heatCycle tc).Carries s := .of (by simp [State.heatCycle])
@[simp] theorem State.fluxStage_host : s.fluxStage.SameHost s := ⟨rfl, rfl⟩
@[simp] theorem doDiagWindowClose_carries (p : Nat) : (doDiagWindowClose p s).Carries s := by
  refine .of ?_
  simp only [doDiagWindowClose]
  (repeat' split) <;> simp
@[simp] theorem baselineSet_host (pier source l r : Nat) : (baselineSet pier source l r s).1.SameHost s := by
  simp only [baselineSet]
  (repeat' split) <;> simp
@[simp] theorem doPlumbRecovery_carries (p : Nat) : (doPlumbRecovery p s).Carries s := .of (by simp [doPlumbRecovery])
@[simp] theorem doPlumbFloat_carries (p : Nat) : (doPlumbFloat p s).Carries s := .of (by simp [doPlumbFloat])
@[simp] theorem State.plantLoops_host : s.plantLoops.SameHost s := by simp [State.plantLoops]
@[simp] theorem State.measure_host : s.measure.SameHost s := ⟨rfl, rfl⟩
@[simp] theorem State.putBay_host (b : Nat) (x : BayCtl) (c0 c1 c2 : PierCtl) : (s.putBay b x c0 c1 c2).SameHost s := ⟨rfl, rfl⟩
@[simp] theorem State.controlBay_host (b : Nat) : (s.controlBay b).SameHost s := by simp [State.controlBay]
@[simp] theorem State.driveTick_host : s.driveTick.SameHost s := ⟨rfl, rfl⟩
@[simp] theorem State.trackTick_host : s.trackTick.SameHost s := ⟨rfl, rfl⟩
@[simp] theorem State.publishCe_host : s.publishCe.SameHost s := ⟨rfl, rfl⟩
@[simp] theorem State.diagStage_host : s.diagStage.SameHost s := ⟨rfl, rfl⟩
@[simp] theorem doControlStage_host : (doControlStage s).SameHost s := by simp [doControlStage]
@[simp] theorem ceSetpointSet_host (quantity value rate : Nat) : (ceSetpointSet quantity value rate s).1.SameHost s := by simp [ceSetpointSet]
@[simp] theorem ceFlagsRead_host (unit : Nat) : (ceFlagsRead unit s).1.SameHost s := by simp [ceFlagsRead]
@[simp] theorem ceFlagsClear_host (unit : Nat) : (ceFlagsClear unit s).1.SameHost s := by simp [ceFlagsClear]
@[simp] theorem State.clearBayFlags_host (b : Nat) : (s.clearBayFlags b).SameHost s := ⟨rfl, rfl⟩
@[simp] theorem State.clearCeFlags_host : s.clearCeFlags.SameHost s := by simp [State.clearCeFlags]
@[simp] theorem ceWinnerStats_host (h : Hdr) (unit start max : Nat) : (ceWinnerStats h unit start max s).1.SameHost s := by simp [ceWinnerStats]
@[simp] theorem cePlumbStatus_host (unit : Nat) : (cePlumbStatus unit s).1.SameHost s := by simp [cePlumbStatus]
@[simp] theorem State.turnWin_host (b : Nat) (cycle window generation first : Nat) (split : Bool) : (s.turnWin b cycle window generation first split).SameHost s := ⟨rfl, rfl⟩
@[simp] theorem State.limitEvent_carries : s.limitEvent.Carries s := .of (by simp [State.limitEvent])

/-! ### Missed work, records and impedance passes -/

@[simp] theorem State.dropWork_host (stage : Nat) (units : List Nat) : (s.dropWork stage units).SameHost s := by
  simp only [State.dropWork]
  split <;> simp
@[simp] theorem State.rekey_host (x : Nat) : (s.rekey x).SameHost s := by simp [State.rekey]
@[simp] theorem State.repair_carries (x : Nat) (code : Option Nat) : (s.repair x code).Carries s := .of (by simp [State.repair])
@[simp] theorem State.passTick_host (facts : Tab PairFact) : (s.passTick facts).SameHost s := ⟨rfl, rfl⟩
@[simp] theorem State.coreTemp_host (x : Nat) (est : Nat → Option (Int × Int)) (len periods : Nat) (r : Rec) : (s.coreTemp x est len periods r).1.SameHost s := by
  simp only [State.coreTemp]
  split <;> simp
@[simp] theorem State.voidPass_host (x : Nat) : (s.voidPass x).SameHost s := ⟨rfl, rfl⟩
@[simp] theorem State.evalPass_host (x : Nat) (p : BrickPass) (len periods : Nat) : (s.evalPass x p len periods).SameHost s := by simp [State.evalPass]
@[simp] theorem State.latePasses_host : s.latePasses.SameHost s := by
  refine foldl_host (fun t e => ?_) _ s
  cases e.2 <;> simp
@[simp] theorem doZPassEnd_carries (p : Nat) : (doZPassEnd p s).Carries s := by
  refine .of ?_
  simp only [doZPassEnd]
  split <;> simp
@[simp] theorem State.takeRequest_carries (t slot : Nat) (ps : List Nat) : (s.takeRequest t slot ps).1.Carries s := by
  induction ps generalizing s with
  | nil => exact .of (by simp [State.takeRequest])
  | cons p ps ih =>
    simp only [State.takeRequest, ite_fst_state]
    exact .ite ((ih _).trans (.of (by simp))) (.of (by simp))
@[simp] theorem State.takeSlot_carries (t slot : Nat) : (s.takeSlot t slot).Carries s := by
  refine .of ?_
  simp only [State.takeSlot]
  (repeat' split) <;> simp
@[simp] theorem State.passCycle_carries : s.passCycle.Carries s := .of (by simp [State.passCycle])
@[simp] theorem State.medians_host : s.medians.SameHost s := ⟨rfl, rfl⟩
@[simp] theorem zPassRequest_host (unit : Nat) : (zPassRequest unit s).1.SameHost s := by simp [zPassRequest]
@[simp] theorem State.binPhases_host (r : Rec) : (s.binPhases r).1.SameHost s := by simp [State.binPhases]
@[simp] theorem zRead_host (unit : Nat) : (zRead unit s).1.SameHost s := by simp [zRead]
@[simp] theorem gridZMeasure_host (gen pair cycles : Nat) : (gridZMeasure gen pair cycles s).1.SameHost s := by simp [gridZMeasure]
@[simp] theorem doGridZStart_host : (doGridZStart s).SameHost s := by
  simp only [doGridZStart]
  split <;> simp
@[simp] theorem State.gridZTick_host : s.gridZTick.SameHost s := by
  simp only [State.gridZTick]
  split <;> simp
@[simp] theorem doGridZResult_carries : (doGridZResult s).Carries s := by
  refine .of ?_
  simp only [doGridZResult]
  split <;> simp

/-! ### Modulation -/

@[simp] theorem State.commitPlan_host (p : Nat) (pl0 : Plan) (hold missed : Bool) : (s.commitPlan p pl0 hold missed).SameHost s := ⟨rfl, rfl⟩
@[simp] theorem State.modulatePier_host (p : Nat) : (s.modulatePier p).SameHost s := by
  simp only [State.modulatePier]
  (repeat' split) <;> simp
@[simp] theorem State.flyFloat_host (bs : List Nat) : (s.flyFloat bs).SameHost s := by simp [State.flyFloat]
@[simp] theorem State.flyTick_host : s.flyTick.SameHost s := by simp [State.flyTick]
@[simp] theorem State.freezeTick_host : s.freezeTick.SameHost s := by simp [State.freezeTick]
@[simp] theorem State.heartbeat_host : s.heartbeat.SameHost s := ⟨rfl, rfl⟩
@[simp] theorem doModulationStage_host : (doModulationStage s).SameHost s := by simp [doModulationStage]
@[simp] theorem State.disablePier_host (p : Nat) (mode : PierMode) : (s.disablePier p mode).SameHost s := by simp [State.disablePier]
@[simp] theorem State.disableFloat_host (b : Nat) : (s.disableFloat b).SameHost s := by simp [State.disableFloat]
@[simp] theorem State.disableBay_host (b mode : Nat) : (s.disableBay b mode).1.SameHost s := by simp [State.disableBay]
@[simp] theorem pierDisable_host (unit mode : Nat) : (pierDisable unit mode s).1.SameHost s := by simp [pierDisable]
@[simp] theorem bayDisable_host (unit mode : Nat) : (bayDisable unit mode s).1.SameHost s := by simp [bayDisable]
@[simp] theorem plantDisable_host (unit mode : Nat) : (plantDisable unit mode s).1.SameHost s := by simp [plantDisable]
@[simp] theorem pierEnable_host (unit : Nat) : (pierEnable unit s).1.SameHost s := by simp [pierEnable]
@[simp] theorem State.clearExclusion_host (b : Nat) : (s.clearExclusion b).SameHost s := by simp [State.clearExclusion]
@[simp] theorem bayEnable_host (unit : Nat) : (bayEnable unit s).1.SameHost s := by simp [bayEnable]
@[simp] theorem plantEnable_host (unit : Nat) : (plantEnable unit s).1.SameHost s := by simp [plantEnable]
@[simp] theorem State.landEnable_host (p : Nat) : (s.landEnable p).SameHost s := ⟨rfl, rfl⟩
@[simp] theorem doEnableLanding_carries (bay pier : Nat) : (doEnableLanding bay pier s).Carries s := .of (by simp [doEnableLanding])
@[simp] theorem State.trackBall_host (i : Nat) (v : Bool) : (s.trackBall i v).SameHost s := by simp [State.trackBall]
@[simp] theorem doTripInputAssert_carries (i : Nat) : (doTripInputAssert i s).Carries s := .of (by simp [doTripInputAssert])
@[simp] theorem doTripInputRelease_host (i : Nat) : (doTripInputRelease i s).SameHost s := by simp [doTripInputRelease]
@[simp] theorem doIsoSupplyLoss_carries : (doIsoSupplyLoss s).Carries s := .of (by simp [doIsoSupplyLoss])
@[simp] theorem tripAssert_carries : (tripAssert s).1.Carries s := .of (by simp [tripAssert])
@[simp] theorem tripReset_host : (tripReset s).1.SameHost s := by simp [tripReset]
@[simp] theorem doFreezeReq_host (halt : Bool) : (doFreezeReq halt s).SameHost s := by simp [doFreezeReq]
@[simp] theorem State.endFreeze_host : s.endFreeze.SameHost s := by simp [State.endFreeze]
@[simp] theorem doFreezeEnd_host (halt : Bool) : (doFreezeEnd halt s).SameHost s := by simp [doFreezeEnd]
@[simp] theorem doFreezeLimit_carries : (doFreezeLimit s).Carries s := .of (by simp [doFreezeLimit])
@[simp] theorem mdStatsRead_host (h : Hdr) (pier start max : Nat) : (mdStatsRead h pier start max s).1.SameHost s := by simp [mdStatsRead]

/-! ### Stage 2 -/

@[simp] theorem State.missedFrames_host : s.missedFrames.SameHost s := ⟨rfl, rfl⟩
@[simp] theorem State.formBay_host (b : Nat) : (s.formBay b).SameHost s := ⟨rfl, rfl⟩
@[simp] theorem State.formPlant_host : s.formPlant.SameHost s := by simp [State.formPlant]
@[simp] theorem State.putItems_carries (its : List PassItem) : (s.putItems its).Carries s := .of (by simp [State.putItems])
@[simp] theorem State.rekeyAll_host (its : List PassItem) : (s.rekeyAll its).SameHost s := by simp [State.rekeyAll]
@[simp] theorem State.countEstimated_host (its : List PassItem) : (s.countEstimated its).SameHost s := ⟨rfl, rfl⟩
@[simp] theorem State.sweepTile_host (t : Nat) : (s.sweepTile t).SameHost s := by simp [State.sweepTile]
@[simp] theorem State.sweepTick_host : s.sweepTick.SameHost s := by simp [State.sweepTick]
@[simp] theorem State.foldl_repair_carries (xs : List Nat) : (xs.foldl (fun (t : State) x => t.repair x (tget {} t.rc.samples x).code) s).Carries s := foldl_carries (by simp) xs s
@[simp] theorem doRecordPass_carries : (doRecordPass s).Carries s := .of (by simp [doRecordPass])
@[simp] theorem State.freezeRank_host : s.freezeRank.SameHost s := ⟨rfl, rfl⟩
@[simp] theorem State.copyFill_host : s.copyFill.SameHost s := by
  simp only [State.copyFill]
  split <;> simp
@[simp] theorem doRankSnapshot_host : (doRankSnapshot s).SameHost s := by simp [doRankSnapshot]
@[simp] theorem unitRead_host (udp : Bool) (unit scope start max : Nat) : (unitRead udp unit scope start max s).1.SameHost s := by simp [unitRead]
@[simp] theorem unitRecal_host (unit : Nat) : (unitRecal unit s).1.SameHost s := by simp [unitRecal]
@[simp] theorem unitRelease_host (unit : Nat) : (unitRelease unit s).1.SameHost s := by simp [unitRelease]

/-! ### Links -/

@[simp] theorem State.sendMsg_host (b kind pos : Nat) (payload : List Nat) : (s.sendMsg b kind pos payload).SameHost s := ⟨rfl, rfl⟩
@[simp] theorem State.misroute_host (b n : Nat) : (s.misroute b n).SameHost s := by simp [State.misroute]
@[simp] theorem doLaneTrained_host (b : Nat) : (doLaneTrained b s).SameHost s := by simp [doLaneTrained]
@[simp] theorem doTickMarkerEcho_host (b delay : Nat) : (doTickMarkerEcho b delay s).SameHost s := by simp [doTickMarkerEcho]
@[simp] theorem State.refuseHub_carries (b reason : Nat) : (s.refuseHub b reason).Carries s := .of (by simp [State.refuseHub])
@[simp] theorem State.bindEvent_carries (unit kind brick course hub : Nat) : (s.bindEvent unit kind brick course hub).Carries s := .of (by simp [State.bindEvent])
@[simp] theorem doHello_carries (b : Nat) (m : HelloMsg) : (doHello b m s).Carries s := by
  have hbound (f : BayLink → BayLink) : ((s.modLink b f).bindEvent (bayUid b) 1 0 0 m.serial).Carries s := (State.bindEvent_carries _ _ _ _ _ _).after (s.modLink_host b f)
  exact .ite (.refl s) (.ite (s.refuseHub_carries b 7) (.ite (s.refuseHub_carries b 6) (.ite (s.refuseHub_carries b 9) (.ite (.before (State.startBay_host _ _ _ _) (hbound _)) (hbound _)))))
@[simp] theorem doRing_carries (b : Nat) (m : RingMsg) : (doRing b m s).Carries s := .ite (.of_same (s.modLink_host b _)) ((State.raise_carries _ _).after (s.modLink_host b _))
@[simp] theorem doWindowOpen_host (b kind : Nat) : (doWindowOpen b kind s).SameHost s := by
  simp only [doWindowOpen]
  (repeat' split) <;> simp
@[simp] theorem doWindowClose_host (b kind : Nat) : (doWindowClose b kind s).SameHost s := by
  simp only [doWindowClose]
  (repeat' split) <;> simp
@[simp] theorem State.keepImage_host (x : Nat) (image : List Nat) : (s.keepImage x image).SameHost s := ⟨rfl, rfl⟩
@[simp] theorem State.closeRecord_carries (x : Nat) (image : List Nat) : (s.closeRecord x image).Carries s := .of (by simp [State.closeRecord])
@[simp] theorem State.closeBound_carries (x : Nat) : (s.closeBound x).Carries s := by
  refine .of ?_
  simp only [State.closeBound]
  split <;> simp
@[simp] theorem State.putRecord_host (x serial : Nat) (r : Rec) (e : Ext) : (s.putRecord x serial r e).SameHost s := ⟨rfl, rfl⟩
@[simp] theorem State.openRecord_carries (x serial : Nat) (marked : Bool) : (s.openRecord x serial marked).Carries s := by
  refine .of ?_
  simp only [State.openRecord]
  (repeat' split) <;> simp
@[simp] theorem State.clearRecord_host (x : Nat) : (s.clearRecord x).SameHost s := ⟨rfl, rfl⟩
@[simp] theorem State.departBrick_carries (x : Nat) (r : Rec) : (s.departBrick x r).Carries s := .of (by simp [State.departBrick])
@[simp] theorem State.leaveService_carries (c : Nat) : (s.leaveService c).Carries s := .of (by simp [State.leaveService])
@[simp] theorem doCourseDark_host (c : Nat) : (doCourseDark c s).SameHost s := by simp [doCourseDark]
@[simp] theorem doCourseLeaveService_carries (c : Nat) : (doCourseLeaveService c s).Carries s := .of (by simp [doCourseLeaveService])
@[simp] theorem doWithdraw_carries (c : Nat) : (doWithdraw c s).Carries s := .of (by simp [doWithdraw])
@[simp] theorem doBayLinkLost_carries (b : Nat) : (doBayLinkLost b s).Carries s := .of (by simp [doBayLinkLost])
@[simp] theorem State.refuseCourse_host (c reason : Nat) : (s.refuseCourse c reason).SameHost s := ⟨rfl, rfl⟩
@[simp] theorem State.refuseUnfitted_carries (c serial : Nat) : (s.refuseUnfitted c serial).Carries s := .of (by simp [State.refuseUnfitted])
@[simp] theorem State.refuseType_carries (c ctype : Nat) : (s.refuseType c ctype).Carries s := .of (by simp [State.refuseType])
@[simp] theorem doJoin_carries (b : Nat) (m : JoinMsg) : (doJoin b m s).Carries s := by
  refine .ite (.of_same (s.misroute_host b 1)) (.ite ?unfitted (.ite ?waits (.ite (.of_same (by simp)) (.ite (.of_same (by simp)) (.ite ?typed (.ite (.of_same (by simp)) (.ite (.of_same (by simp))
    (.ite (.of_same (by simp)) (.ite (.of_same (by simp)) (.of_same (by simp)))))))))))
  case unfitted => exact (State.refuseUnfitted_carries _ _ _).after (s.modCourse_host _ _)
  case waits => exact .ite (.of_same (by simp)) ((State.raise_carries _ _).after (by simp))
  case typed => exact (State.refuseType_carries _ _ _).after (by simp)
@[simp] theorem State.admitHub_carries (c : Nat) (serials : List Nat) : (s.admitHub c serials).Carries s := .of (by simp [State.admitHub])
@[simp] theorem doSerials_carries (b : Nat) (m : SerialsMsg) : (doSerials b m s).Carries s := .of (by simp [doSerials])
@[simp] theorem State.takeSlow_host (c t v : Nat) : (s.takeSlow c t v).SameHost s := by simp [State.takeSlow]
@[simp] theorem State.blockReports_carries (c st : Nat) : (s.blockReports c st).Carries s := .of (by simp [State.blockReports])
@[simp] theorem State.withdrawNow_host (c : Nat) : (s.withdrawNow c).SameHost s := ⟨rfl, rfl⟩
@[simp] theorem State.courseSignals_carries (c st ctype : Nat) : (s.courseSignals c st ctype).Carries s := by
  suffices hbutton : ∀ u : State, u.Carries s → (if !st.testBit 5 then u else if s.buttonActs c then (if (u.course c).phase = .service then u.withdrawNow c else u) else u.raise { kind := .button, unit := courseUid c }).Carries s from
    hbutton _ (.ite (.refl s) (.ite (.ite (.of_same (s.withdrawNow_host c)) (.refl s)) (.ite (.refl s) ((State.raise_carries _ _).after (s.modCourse_host c _)))))
  exact fun u hu => .ite hu (.ite (.ite (.before (u.withdrawNow_host c) hu) hu) (.trans (u.raise_carries _) hu))
@[simp] theorem State.liveSection_carries (c t : Nat) (sec : List Nat) (pool : List PoolEntry) : (s.liveSection c t sec pool).Carries s := .before (State.takeSlow_host _ _ _ _) (.trans (State.courseSignals_carries _ _ _ _) ((State.blockReports_carries _ _ _).after (by simp)))
@[simp] theorem State.takeSections_carries (b t : Nat) (bs : List Nat) (pool : List PoolEntry) : (s.takeSections b t bs pool).Carries s := .of (by simp [State.takeSections])
@[simp] theorem State.takeCurrents_host (b : Nat) (bs : List Nat) : (s.takeCurrents b bs).SameHost s := by simp [State.takeCurrents]
@[simp] theorem State.takeMgmt_carries (b lane t : Nat) (bs : List Nat) (pool : List PoolEntry) (ms : List Mgmt) : (s.takeMgmt b lane t bs pool ms).Carries s := by
  refine State.Carries.trans (foldl_carries (fun u m => ?_) _ _) (foldl_carries (fun u m => ?_) _ s)
  · exact ⟨(doJoin_carries u b _).1, (doJoin_carries u b _).2 _ (.refl _)⟩
  · split <;> simp
@[simp] theorem State.openReport_host (b : Nat) : (s.openReport b).SameHost s := by simp [State.openReport]
@[simp] theorem State.releaseTrip_host (b : Nat) : (s.releaseTrip b).SameHost s := by simp [State.releaseTrip]
@[simp] theorem State.breakerReport_carries (b : Nat) : (s.breakerReport b).Carries s := by
  refine .of ?_
  simp only [State.breakerReport]
  split <;> simp
@[simp] theorem State.acceptFrame_carries (b lane t e m : Nat) (bs : List Nat) : (s.acceptFrame b lane t e m bs).Carries s := by
  refine .before (State.releaseTrip_host _ b) (.trans (State.breakerReport_carries _ b) (.trans (State.takeMgmt_carries _ _ _ _ _ _ _) (.trans (State.takeSections_carries _ _ _ _ _) (.before (State.takeCurrents_host _ _ _) (.before (State.misroute_host _ _ _) ?_)))))
  exact .ite (.of_same (by simp)) ((State.raise_carries _ _).after (by simp))
@[simp] theorem State.takeFrame_carries (b lane : Nat) (bs : List Nat) : (s.takeFrame b lane bs).Carries s := .of (by simp [State.takeFrame])
@[simp] theorem State.closeStage1_carries : s.closeStage1.Carries s := .of (by simp [State.closeStage1])
@[simp] theorem State.composeDown_host (b : Nat) : (s.composeDown b).SameHost s := by simp [State.composeDown]
@[simp] theorem State.sendLane_host (b : Nat) : (s.sendLane b).SameHost s := ⟨rfl, rfl⟩
@[simp] theorem doModulationFrames_host : (doModulationFrames s).SameHost s := by simp [doModulationFrames]
@[simp] theorem doUpstreamFrame_carries (f : UpFrame) : (doUpstreamFrame f s).Carries s := .of (by simp [doUpstreamFrame])
@[simp] theorem doLaneRetry_host (b : Nat) : (doLaneRetry b s).SameHost s := by simp [doLaneRetry]
@[simp] theorem linkWindowOpen_host (unit kind seconds : Nat) : (linkWindowOpen unit kind seconds s).1.SameHost s := by simp [linkWindowOpen]
@[simp] theorem linkWindowClose_host (unit : Nat) : (linkWindowClose unit s).1.SameHost s := by simp [linkWindowClose]
@[simp] theorem courseWithdraw_host (unit : Nat) : (courseWithdraw unit s).1.SameHost s := by simp [courseWithdraw]
@[simp] theorem linkStatusRead_host (unit : Nat) : (linkStatusRead unit s).1.SameHost s := by simp [linkStatusRead]

/-! ### Redundancy -/

@[simp] theorem doFlywheelRampStart_host : (doFlywheelRampStart s).SameHost s := by simp [doFlywheelRampStart]
@[simp] theorem State.abandonTransfer_carries : s.abandonTransfer.Carries s := by
  refine .of ?_
  simp only [State.abandonTransfer]
  split <;> simp
@[simp] theorem tileHandover_host (t : Nat) : (tileHandover t s).1.SameHost s := by simp [tileHandover]
@[simp] theorem tileHandback_host (t : Nat) : (tileHandback t s).1.SameHost s := by simp [tileHandback]
@[simp] theorem doTransferCycleStart_host : (doTransferCycleStart s).SameHost s := by
  simp only [doTransferCycleStart]
  split <;> simp
@[simp] theorem State.moveSlots_host (t : Nat) : (s.moveSlots t).SameHost s := ⟨rfl, rfl⟩
@[simp] theorem State.gateOff_host (c : Nat) : (s.gateOff c).SameHost s := ⟨rfl, rfl⟩
@[simp] theorem doTransferComplete_carries : (doTransferComplete s).Carries s := by
  refine .of ?_
  simp only [doTransferComplete]
  split <;> simp
@[simp] theorem State.endTransferOf_carries (t : Nat) : (s.endTransferOf t).Carries s := by
  refine .of ?_
  simp only [State.endTransferOf]
  split <;> simp
@[simp] theorem State.tileOut_host (t : Nat) : (s.tileOut t).SameHost s := by simp [State.tileOut]
@[simp] theorem State.excludeTile_host (t : Nat) : (s.excludeTile t).SameHost s := by simp [State.excludeTile]
@[simp] theorem State.carry_host (t u : Nat) : (s.carry t u).SameHost s := by simp [State.carry]
@[simp] theorem State.takeCarries_host : s.takeCarries.SameHost s := by simp [State.takeCarries]
@[simp] theorem State.declareTakeover_host (u : Nat) : (s.declareTakeover u).SameHost s := ⟨rfl, rfl⟩
@[simp] theorem State.loseTile_carries (t : Nat) : (s.loseTile t).Carries s := .of (by simp [State.loseTile])
@[simp] theorem keystoneSwitch_host : (keystoneSwitch s).1.SameHost s := by simp [keystoneSwitch]
@[simp] theorem State.writeChunk_host (slot offset : Nat) (data : List Nat) : (s.writeChunk slot offset data).SameHost s := ⟨rfl, rfl⟩
@[simp] theorem fwImageWrite_host (udp : Bool) (slot offset : Nat) (data : List Nat) : (fwImageWrite udp slot offset data s).1.SameHost s := by simp [fwImageWrite]
@[simp] theorem fwImageVerify_host (slot : Nat) : (fwImageVerify slot s).1.SameHost s := by simp [fwImageVerify]

/-! ### The start and the safe stop -/

@[simp] theorem State.setFault_host (code : Nat) : (s.setFault code).SameHost s := ⟨rfl, rfl⟩
@[simp] theorem State.stopFault_carries (code : Nat) : (s.stopFault code).Carries s := .of (by simp [State.stopFault])
@[simp] theorem State.elect_host (k : Nat) : (s.elect k).SameHost s := ⟨rfl, rfl⟩
@[simp] theorem doKeystoneSelfTest_host (k : Nat) (pass : Bool) : (doKeystoneSelfTest k pass s).SameHost s := by simp [doKeystoneSelfTest]
@[simp] theorem doElectionTimeout_carries (limit : Bool) : (doElectionTimeout limit s).Carries s := .of (by simp [doElectionTimeout])
@[simp] theorem State.stepSix_host : s.stepSix.SameHost s := ⟨rfl, rfl⟩
@[simp] theorem State.bootActive_carries (slot : Nat) (second : Bool) : (s.bootActive slot second).Carries s := .of (by simp [State.bootActive])
@[simp] theorem State.bootStandby_host : s.bootStandby.SameHost s := by simp [State.bootStandby]
@[simp] theorem doSignedBoot_carries (k : Nat) : (doSignedBoot k s).Carries s := .of (by simp [doSignedBoot])
@[simp] theorem doServiceUartWrite_host (slot offset : Nat) (data : List Nat) : (doServiceUartWrite slot offset data s).SameHost s := by simp [doServiceUartWrite]
@[simp] theorem State.endStepFive_carries : s.endStepFive.Carries s := .of (by simp [State.endStepFive])
@[simp] theorem doTileSelfTest_carries (t : Nat) (pass : Bool) : (doTileSelfTest t pass s).Carries s := .of (by simp [doTileSelfTest])
@[simp] theorem State.startLane_host (b : Nat) : (s.startLane b).SameHost s := by simp [State.startLane]
@[simp] theorem doAdmissionEnd_host (b : Nat) : (doAdmissionEnd b s).SameHost s := by simp [doAdmissionEnd]
@[simp] theorem State.markRestored_host (b : Nat) : (s.markRestored b).SameHost s := ⟨rfl, rfl⟩
@[simp] theorem doRestore_carries (b : Nat) : (doRestore b s).Carries s := .of (by simp [doRestore])
@[simp] theorem State.openNew_carries (x serial : Nat) : (s.openNew x serial).Carries s := .of (by simp [State.openNew])
@[simp] theorem State.skipBay_carries (b : Nat) : (s.skipBay b).Carries s := .of (by simp [State.skipBay])
@[simp] theorem State.startTick_host (ps : Nat) : (s.startTick ps).SameHost s := ⟨rfl, rfl⟩
@[simp] theorem State.syncTick_host (ps : Nat) : (s.syncTick ps).SameHost s := by
  simp only [State.syncTick]
  split <;> simp
@[simp] theorem State.syncRest_host (ps : Nat) : (s.syncRest ps).SameHost s := by
  simp only [State.syncRest]
  split <;> simp
@[simp] theorem baySync_host (unit : Nat) : (baySync unit s).1.SameHost s := by simp [baySync]
@[simp] theorem State.beginSync_host (b : Nat) : (s.beginSync b).SameHost s := by simp [State.beginSync]
@[simp] theorem doSyncStart_carries : (doSyncStart s).Carries s := by
  refine .of ?_
  simp only [doSyncStart]
  (repeat' split) <;> simp
@[simp] theorem doSyncPermitAssert_host : (doSyncPermitAssert s).SameHost s := by
  simp only [doSyncPermitAssert]
  split <;> simp
@[simp] theorem doSyncTimeout_carries : (doSyncTimeout s).Carries s := by
  refine .of ?_
  simp only [doSyncTimeout]
  split <;> simp
@[simp] theorem bayExclude_host (unit : Nat) : (bayExclude unit s).1.SameHost s := by simp [bayExclude]
@[simp] theorem State.excludeCycle_host : s.excludeCycle.SameHost s := by simp [State.excludeCycle]
@[simp] theorem startStatusRead_host (first count : Nat) : (startStatusRead first count s).1.SameHost s := by simp [startStatusRead]
@[simp] theorem startRestoreSkip_host (unit : Nat) : (startRestoreSkip unit s).1.SameHost s := by simp [startRestoreSkip]
@[simp] theorem safeStop_host : (safeStop s).1.SameHost s := by simp [safeStop]
@[simp] theorem doSafeStopFloat_host : (doSafeStopFloat s).SameHost s := by simp [doSafeStopFloat]

/-! ### The ledger -/

@[simp] theorem State.newEpoch_carries (detail : Nat) : (s.newEpoch detail).Carries s := .of (by simp [State.newEpoch])
@[simp] theorem State.sealPage_carries (p : Page) : (s.sealPage p).1.Carries s := .of (by simp [State.sealPage])
@[simp] theorem State.putRing_carries (i : Nat) (key : Option Nat) (marker : List Nat) : (s.putRing i key marker).Carries s := .of (by simp [State.putRing])
@[simp] theorem State.countUnreadable_host (k : Nat) (q : Stored) : (s.countUnreadable k q).SameHost s := by simp [State.countUnreadable]
@[simp] theorem State.pumpStep_carries (i : Nat) : (State.pumpStep i s).Carries s := by
  have hset (f : Export → Export) : (s.modExport i f).Carries s := .of_same (s.modExport_host i f)
  simp only [State.pumpStep]
  split
  · exact .refl s
  · refine .ite (.refl s) ?_
    split
    · exact .trans (State.putRing_carries _ _ _ _) (hset _)
    · refine .ite (.refl s) ?_
      split
      · exact hset _
      · exact .ite (.ite (.refl s) (hset _)) (.ite (hset _) (.ite (.before (State.countUnreadable_host _ _ _) (hset _)) (.trans (State.putRing_carries _ _ _ _) (hset _))))
@[simp] theorem State.pump_carries (i : Nat) : (s.pump i).Carries s := .of (by simp [State.pump])
@[simp] theorem State.offerTo_carries (k i : Nat) : (s.offerTo k i).Carries s := by
  simp only [State.offerTo]
  split
  · exact .refl s
  · exact .ite (s.pump_carries i) (.ite (.of_same (s.modExport_host i _)) (.ite ((State.putRing_carries _ _ _ _).after (s.modExport_host i _)) (.of_same ⟨rfl, rfl⟩)))
@[simp] theorem State.offer_carries (k : Nat) : (s.offer k).Carries s := .of (by simp [State.offer])
@[simp] theorem State.endExport_carries (i : Nat) : (s.endExport i).Carries s := by
  refine .of ?_
  simp only [State.endExport]
  split <;> simp
@[simp] theorem State.endExports_carries : s.endExports.Carries s := .of (by simp [State.endExports])
@[simp] theorem ledgerExport_carries (udp : Bool) (i base order start seq : Nat) : (ledgerExport udp i base order start seq s).1.Carries s := .of (by simp [ledgerExport])
@[simp] theorem ledgerExportAck_carries (i cons : Nat) : (ledgerExportAck i cons s).1.Carries s := by
  have hpumped (f : Export → Export) : ((s.modExport i f).pump i).Carries s := (State.pump_carries _ i).after (s.modExport_host i f)
  simp only [ledgerExportAck]
  split
  · exact .refl s
  · split
    · exact .refl s
    · dsimp only
      exact hpumped _
@[simp] theorem ledgerExportStop_carries (i : Nat) : (ledgerExportStop i s).1.Carries s := by
  refine .of ?_
  simp only [ledgerExportStop]
  split <;> simp
@[simp] theorem State.ledgerPhase_host : s.ledgerPhase.SameHost s := by simp [State.ledgerPhase]
@[simp] theorem State.trimLog_host : s.trimLog.SameHost s := ⟨rfl, rfl⟩
@[simp] theorem State.issueOne_host : s.issueOne.SameHost s := by
  simp only [State.issueOne]
  split <;> simp
@[simp] theorem State.issue_host : s.issue.SameHost s := by simp [State.issue]
@[simp] theorem State.issueFlush_host (p : Nat) : (s.issueFlush p).SameHost s := ⟨rfl, rfl⟩
@[simp] theorem State.finishOp_carries (o : NvmeOp) : (s.finishOp o).Carries s := .of (by simp [State.finishOp])
@[simp] theorem State.loseOp_host (o : NvmeOp) : (s.loseOp o).SameHost s := ⟨rfl, rfl⟩
@[simp] theorem State.clearOp_carries (d : Nat) (o : NvmeOp) : (State.clearOp d s o).Carries s := .of (by simp [State.clearOp])
theorem State.foldl_clearOp_carries (d : Nat) (os : List NvmeOp) : (os.foldl (State.clearOp d) s).Carries s := foldl_carries (by simp) os s
@[simp] theorem State.failDrive_carries (d extra : Nat) : (s.failDrive d extra).Carries s := by
  have hraised (u : State) (p : Prop) [Decidable p] (e : Evt) (hu : u.Carries s) : (if p then u.raise e else u).Carries s := .ite (.trans (u.raise_carries e) hu) hu
  exact .ite (.refl s) (.before (State.issue_host _) (.before (State.ledgerPhase_host _) (.trans (State.foldl_clearOp_carries _ d _) (hraised _ _ _ ((State.raise_carries _ _).after ⟨rfl, rfl⟩)))))
@[simp] theorem doNvmeCompletion_carries (ident d : Nat) (ok : Bool) : (doNvmeCompletion ident d ok s).Carries s := by
  refine .of ?_
  simp only [doNvmeCompletion]
  split <;> simp
@[simp] theorem doDriveTimeout_carries (d : Nat) : (doDriveTimeout d s).Carries s := .of (by simp [doDriveTimeout])
@[simp] theorem doSmartPoll_carries (d warning : Nat) : (doSmartPoll d warning s).Carries s := .of (by simp [doSmartPoll])
@[simp] theorem doResilverComplete_carries (p : Nat) : (doResilverComplete p s).Carries s := .of (by simp [doResilverComplete])
@[simp] theorem ledgerDriveBind_carries (p : Nat) : (ledgerDriveBind p s).1.Carries s := .of (by simp [ledgerDriveBind])
@[simp] theorem doEventPageSeal_carries : (doEventPageSeal s).Carries s := .of (by simp [doEventPageSeal])
@[simp] theorem State.skipSnapshot_carries : s.skipSnapshot.Carries s := .of (by simp [State.skipSnapshot])
@[simp] theorem doSnapshotDue_carries : (doSnapshotDue s).Carries s := .of (by simp [doSnapshotDue])
@[simp] theorem State.beginCapture_host (flags : Nat) : (s.beginCapture flags).SameHost s := ⟨rfl, rfl⟩
@[simp] theorem doSnapshotCapture_carries : (doSnapshotCapture s).Carries s := .of (by simp [doSnapshotCapture])
@[simp] theorem State.sealSnap_carries (p : Page) : (s.sealSnap p).Carries s := .of (by simp [State.sealSnap])
@[simp] theorem State.sealFrame_carries (c : Capture) : (s.sealFrame c).Carries s := .before (State.issue_host _) (.trans (State.sealSnap_carries _ _) (.trans (foldl_carries (by simp) _ _) ((State.sealSnap_carries _ _).after ⟨rfl, rfl⟩)))
@[simp] theorem State.captureTick_carries : s.captureTick.Carries s := by
  refine .of ?_
  simp only [State.captureTick]
  split <;> simp
@[simp] theorem doStageTwo_carries : (doStageTwo s).Carries s := .trans (State.captureTick_carries _) (.trans (doRecordPass_carries _) (.of (by simp)))
@[simp] theorem State.closeFrame_carries (h status : Nat) : (s.closeFrame h status).Carries s := by
  refine .of ?_
  simp only [State.closeFrame]
  split <;> simp
@[simp] theorem State.withdrawPages_host (ks : List Nat) : (s.withdrawPages ks).SameHost s := by simp [State.withdrawPages]
@[simp] theorem State.abandonFrame_carries : s.abandonFrame.Carries s := by
  refine .of ?_
  simp only [State.abandonFrame]
  split <;> simp
@[simp] theorem doSafeStopFlush_carries : (doSafeStopFlush s).Carries s := .of (by simp [doSafeStopFlush])
@[simp] theorem State.resumeChain_host (p : Page) (ps : List Page) : (s.resumeChain p ps).SameHost s := ⟨rfl, rfl⟩
@[simp] theorem State.mountStart_carries (ps : List Page) : (s.mountStart ps).Carries s := by
  refine .of ?_
  simp only [State.mountStart]
  split <;> simp
@[simp] theorem State.mountTakeover_carries (ps : List Page) : (s.mountTakeover ps).Carries s := by
  refine .of ?_
  simp only [State.mountTakeover]
  (repeat' split) <;> simp
@[simp] theorem doLedgerMount_carries (m : MountIn) : (doLedgerMount m s).Carries s := .of (by simp [doLedgerMount])
@[simp] theorem State.ledgerTick_carries (ps : Nat) : (s.ledgerTick ps).Carries s := .of (by simp [State.ledgerTick])

/-! ### Takeovers -/

@[simp] theorem State.dropQueue_carries (i : Nat) : (s.dropQueue i).Carries s := by
  have hemptied (n : Nat) : (s.emptied i n).Carries s := ⟨rfl, fun _ hw hs => ⟨twf_tmod i Slot.emptied (hw hs).1, (hw hs).2⟩⟩
  rw [State.dropQueue_eq]
  exact .ite (.trans (State.publish_carries _ _ _) (hemptied _)) (hemptied _)
@[simp] theorem State.endRunningTransfer_carries : s.endRunningTransfer.Carries s := by
  refine .of ?_
  simp only [State.endRunningTransfer]
  split <;> simp
@[simp] theorem State.restartOther_host : s.restartOther.SameHost s := by simp [State.restartOther]
@[simp] theorem doKeystoneLive_host : (doKeystoneLive s).SameHost s := by simp [doKeystoneLive]

/-! ### The footing -/

@[simp] theorem State.disablePosition_host (p : Nat) : (s.disablePosition p).SameHost s := by simp [State.disablePosition]
@[simp] theorem State.countChan_host (c k : Nat) : (s.countChan c k).SameHost s := by simp [State.countChan]
@[simp] theorem State.footingTick_host (ps : Nat) : (s.footingTick ps).SameHost s := ⟨rfl, rfl⟩
@[simp] theorem State.enablePosition_host (p : Nat) : (s.enablePosition p).SameHost s := by simp [State.enablePosition]
@[simp] theorem State.footingHold_carries (code : Nat) : (s.footingHold code).Carries s := .of (by simp [State.footingHold, -List.foldl_reverse])
@[simp] theorem doPositionReady_host : (doPositionReady s).SameHost s := by simp [doPositionReady]
@[simp] theorem doPositionTimeout_carries (off : Bool) : (doPositionTimeout off s).Carries s := .of (by simp [doPositionTimeout])
@[simp] theorem doPositionRetry_host : (doPositionRetry s).SameHost s := by simp [doPositionRetry]
@[simp] theorem State.sequenceBack_carries (cs : List Nat) : (s.sequenceBack cs).Carries s := .of (by simp [State.sequenceBack, -List.foldl_reverse])
@[simp] theorem doWarningExcursion_host (c : Nat) (high : Bool) : (doWarningExcursion c high s).SameHost s := by simp [doWarningExcursion]
@[simp] theorem doRailReturn_carries (c : Nat) : (doRailReturn c s).Carries s := by
  refine .of ?_
  simp only [doRailReturn]
  split <;> simp
@[simp] theorem State.countTrip_carries (c : Nat) (high : Bool) : (s.countTrip c high).Carries s := .of (by simp [State.countTrip])
@[simp] theorem State.footingStop_host : s.footingStop.SameHost s := by simp [State.footingStop]
@[simp] theorem doRetryOffEnd_host (c : Nat) : (doRetryOffEnd c s).SameHost s := by simp [doRetryOffEnd]
@[simp] theorem State.keystoneBack_host (k : Nat) : (s.keystoneBack k).SameHost s := by simp [State.keystoneBack]
@[simp] theorem doRetryRailCheck_host (c : Nat) (held : Bool) : (doRetryRailCheck c held s).SameHost s := by simp [doRetryRailCheck]
@[simp] theorem State.bankLow_carries : s.bankLow.Carries s := .of (by simp [State.bankLow])
@[simp] theorem State.measureBank_carries (mv : Option Nat) : (s.measureBank mv).Carries s := by
  refine .of ?_
  simp only [State.measureBank]
  split <;> simp
@[simp] theorem doBankBelowReady_carries : (doBankBelowReady s).Carries s := .of (by simp [doBankBelowReady])
@[simp] theorem doChargerPrecharge_host : (doChargerPrecharge s).SameHost s := by simp [doChargerPrecharge]
@[simp] theorem doChargerCc_host : (doChargerCc s).SameHost s := by simp [doChargerCc]
@[simp] theorem doChargerCv_host : (doChargerCv s).SameHost s := by simp [doChargerCv]
@[simp] theorem doChargerDone_host : (doChargerDone s).SameHost s := by simp [doChargerDone]
@[simp] theorem doChargerFault_carries : (doChargerFault s).Carries s := .of (by simp [doChargerFault])
@[simp] theorem doCapEstimate_carries (ms : Nat) : (doCapEstimate ms s).Carries s := .of (by simp [doCapEstimate])
@[simp] theorem footingCountersClear_host (channels : Nat) : (footingCountersClear channels s).1.SameHost s := by simp [footingCountersClear]
@[simp] theorem footingRailRestore_host (c : Nat) : (footingRailRestore c s).1.SameHost s := by simp [footingRailRestore]

/-! ### Fuses -/

@[simp] theorem State.markEntry_carries (r e : Nat) : (s.markEntry r e).Carries s := .of (by simp [State.markEntry])
@[simp] theorem State.settleEntry_carries (jt : JournalTest) (r e : Nat) : (s.settleEntry jt r e).Carries s := by
  refine .of ?_
  simp only [State.settleEntry]
  (repeat' split) <;> simp
@[simp] theorem State.settleJournal_carries (jt : JournalTest) : (s.settleJournal jt).Carries s := .of (by simp [State.settleJournal])
@[simp] theorem State.countMarginal_carries (r n : Nat) : (s.countMarginal r n).Carries s := .of (by simp [State.countMarginal])
@[simp] theorem doFuseLoad_carries (marginal : List Nat) (ids : List (Nat × Nat)) (jt : JournalTest) : (doFuseLoad marginal ids jt s).Carries s := by
  have hsettled : (((List.range 6).foldl (fun (t : State) r => t.countMarginal r (marginal.getD r 0)) s).settleJournal jt).Carries s := .trans (State.settleJournal_carries _ jt) (foldl_carries (by simp) _ s)
  simp only [doFuseLoad]
  generalize ((List.range 6).foldl (fun (t : State) r => t.countMarginal r (marginal.getD r 0)) s).settleJournal jt = u at hsettled
  refine .ite (.refl s) ?_
  split
  · exact .before ⟨rfl, rfl⟩ hsettled
  · exact .ite (.trans (State.stopFault_carries _ _) (.before ⟨rfl, rfl⟩ hsettled)) (.before ⟨rfl, rfl⟩ hsettled)
@[simp] theorem maintEnter_host (slot : Nat) : (maintEnter slot s).1.SameHost s := by simp [maintEnter]
@[simp] theorem fuseRead_host (region offset words : Nat) : (fuseRead region offset words s).1.SameHost s := by simp [fuseRead]
@[simp] theorem State.openEntry_host (h : Hdr) (region off : Nat) (data : List Nat) : (s.openEntry h region off data).SameHost s := ⟨rfl, rfl⟩
@[simp] theorem State.takeRoot_carries : s.takeRoot.Carries s := .of (by simp [State.takeRoot])
@[simp] theorem fuseLock_carries (slot r kind : Nat) : (fuseLock slot r kind s).1.Carries s := .of (by simp [fuseLock])

/-! ### Registers -/

@[simp] theorem doBadAccess_host (write : Bool) : (doBadAccess write s).SameHost s := ⟨rfl, rfl⟩
@[simp] theorem State.clearRc_carries (o : Nat) : (s.clearRc o).Carries s := .of (by simp [State.clearRc])
@[simp] theorem doRcRead_carries (offset : Nat) : (doRcRead offset s).Carries s := .of (by simp [doRcRead])
@[simp] theorem doStagedRegisterWrite_carries (offset value : Nat) : (doStagedRegisterWrite offset value s).Carries s := by
  have hstaged (i stagedSlots lateSlots : Nat) (f : Slot → Slot) : ({ s with hs := { s.hs with slots := tmod {} s.hs.slots i f, stagedSlots := stagedSlots, lateSlots := lateSlots } } : State).Carries s :=
    ⟨rfl, fun _ hw => hw.slot i f⟩
  have hsame (y : SysPage) : ({ s with sys := y } : State).Carries s := ⟨rfl, fun _ => id⟩
  exact .ite (.of_same (by simp)) (.ite (hsame _) (.ite (hsame _) (.ite (hsame _) (.ite (hsame _) (.ite (hstaged _ _ _ _) (.refl s))))))
@[simp] theorem State.landPage0_host : s.landPage0.SameHost s := by
  simp only [State.landPage0]
  split <;> simp
@[simp] theorem doSysCommit_host (value : Nat) : (doSysCommit value s).SameHost s := by simp [doSysCommit]
@[simp] theorem doSysCommitLanding_host : (doSysCommitLanding s).SameHost s := by
  simp only [doSysCommitLanding]
  split <;> simp
@[simp] theorem State.refuseCommit_carries (i : Nat) : (s.refuseCommit i).Carries s := .trans (State.raiseTo_carries _ i _) (.trans (State.vector16_carries _ 3 _) ⟨rfl, fun _ => id⟩)
@[simp] theorem State.landPage12_carries : s.landPage12.Carries s := by
  simp only [State.landPage12]
  split
  · exact .refl s
  · next set _ =>
    split
    · exact s.refuseCommit_carries _
    · exact ⟨rfl, fun _ hw hs => ⟨twf_iter_tmod (hw hs).1 (fun i (x : Slot) => { x with rings := tget {} set i }) 8, (hw hs).2⟩⟩
@[simp] theorem doHsCommit_carries (value : Nat) : (doHsCommit value s).Carries s := .ite (.refl s) (.ite ⟨rfl, fun _ => id⟩ (.trans (State.landPage12_carries _) ⟨rfl, fun _ => id⟩))
@[simp] theorem doHsCommitLanding_carries : (doHsCommitLanding s).Carries s := by
  refine .of ?_
  simp only [doHsCommitLanding]
  split <;> simp
@[simp] theorem State.landPage8_host : s.landPage8.SameHost s := by
  simp only [State.landPage8]
  split <;> simp
@[simp] theorem doUrCommit_host (value : Nat) : (doUrCommit value s).SameHost s := by simp [doUrCommit]
@[simp] theorem doUrCommitLanding_host : (doUrCommitLanding s).SameHost s := by
  simp only [doUrCommitLanding]
  split <;> simp
@[simp] theorem doUrFillPublish_host : (doUrFillPublish s).SameHost s := by
  simp only [doUrFillPublish]
  split <;> simp
@[simp] theorem State.writeFreeze_host (v : Nat) : (s.writeFreeze v).SameHost s := by simp [State.writeFreeze]

/-! ### Dies -/

@[simp] theorem doThermalConversion_host (codes : List DieCode) : (doThermalConversion codes s).SameHost s := by simp [doThermalConversion]
@[simp] theorem doSensorBroken_carries (d : Nat) : (doSensorBroken d s).Carries s := .of (by simp [doSensorBroken])
@[simp] theorem doSensorRecovered_host (d : Nat) : (doSensorRecovered d s).SameHost s := by simp [doSensorRecovered]
@[simp] theorem State.enterThrottle_carries (d : Nat) : (s.enterThrottle d).Carries s := .of (by simp [State.enterThrottle])
@[simp] theorem doThrottleGraceEnd_host (d : Nat) : (doThrottleGraceEnd d s).SameHost s := by simp [doThrottleGraceEnd]
@[simp] theorem doThrottleEnforce_host (d : Nat) : (doThrottleEnforce d s).SameHost s := by simp [doThrottleEnforce]
@[simp] theorem doThrottleRelease_host (d : Nat) : (doThrottleRelease d s).SameHost s := by simp [doThrottleRelease]
@[simp] theorem State.thermalTick_host (ps : Nat) : (s.thermalTick ps).SameHost s := ⟨rfl, rfl⟩
@[simp] theorem thermalStatusRead_host : (thermalStatusRead s).1.SameHost s := ⟨rfl, rfl⟩

/-! ### Host slots -/

@[simp] theorem State.shutSlot_carries (i : Nat) : (s.shutSlot i).Carries s := .of (by simp [State.shutSlot])
@[simp] theorem State.tellGone_carries (i : Nat) (lost : Bool) : (s.tellGone i lost).Carries s := .of (by simp [State.tellGone])
@[simp] theorem State.shutSlots_carries (is : List Nat) (lost : Bool) : (s.shutSlots is lost).Carries s := .trans (foldl_carries (by simp) _ _) (foldl_carries (by simp) _ s)
@[simp] theorem doSlotLost_carries (i : Nat) : (doSlotLost i s).Carries s := .of (by simp [doSlotLost])
@[simp] theorem doPcieLinkDown_carries : (doPcieLinkDown s).Carries s := .of (by simp [doPcieLinkDown])
@[simp] theorem State.rotate_carries : s.rotate.Carries s := .of (by simp [State.rotate])
@[simp] theorem slotOpen_carries (h : Hdr) (grant : List Nat) : (slotOpen h grant s).1.Carries s := .of (by simp [slotOpen])
@[simp] theorem slotRightsDrop_carries (slot mask : Nat) : (slotRightsDrop slot mask s).1.Carries s := .of (by simp [slotRightsDrop])
@[simp] theorem doGrantExpiry_carries (i : Nat) : (doGrantExpiry i s).Carries s := .of (by simp [doGrantExpiry])
@[simp] theorem slotEventsSet_carries (slot mask moderation : Nat) : (slotEventsSet slot mask moderation s).1.Carries s := .of (by simp [slotEventsSet])
@[simp] theorem slotStatusRead_carries (slot : Nat) (udp : Bool) (resend tag : Nat) : (slotStatusRead slot udp resend tag s).1.Carries s := by
  have hresent : s.hs.Leads (s.hs.resend slot udp (tag % 65536)).1 := by
    simp only [HostIf.resend]
    split
    · exact .refl s.hs
    · exact ((HostIf.Leads.refl s.hs).set slot _).post slot udp _
  refine .of ⟨rfl, ?_⟩
  simp only [slotStatusRead]
  split
  · exact hresent
  · exact .refl s.hs
@[simp] theorem eventFetch_host (slot : Nat) (udp : Bool) (start max : Nat) : (eventFetch slot udp start max s).1.SameHost s := ⟨rfl, rfl⟩
@[simp] theorem doHsRplCons_carries (i index : Nat) : (doHsRplCons i index s).Carries s := .of (by simp [doHsRplCons])
@[simp] theorem State.overflowEvent_carries (i : Nat) : (s.overflowEvent i).Carries s := .of (by simp [State.overflowEvent])
@[simp] theorem doHsEvqCons_carries (i index : Nat) : (doHsEvqCons i index s).Carries s := .of (by simp [doHsEvqCons])
@[simp] theorem doMsiModerationEnd_carries (v : Nat) : (doMsiModerationEnd v s).Carries s := .of (by simp [doMsiModerationEnd])
@[simp] theorem doArp_carries (port target vlan : Nat) : (doArp port target vlan s).Carries s := .ite ⟨rfl, fun _ => id⟩ (.refl s)
@[simp] theorem doIcmpEcho_carries (port dst vlan ident seq : Nat) : (doIcmpEcho port dst vlan ident seq s).Carries s := .ite ⟨rfl, fun _ => id⟩ (.refl s)

/-! ### Swaps -/

@[simp] theorem xpSwap_host (mode glide cycle : Nat) : (xpSwap mode glide cycle s).1.SameHost s := by
  simp only [xpSwap]
  (repeat' split) <;> simp
@[simp] theorem State.splitWindows_host : s.splitWindows.SameHost s := by simp [State.splitWindows]
@[simp] theorem State.changeMode_host (b : Nat) : (s.changeMode b).SameHost s := ⟨rfl, rfl⟩
@[simp] theorem State.dropUnfitted_carries : s.dropUnfitted.Carries s := .of (by simp [State.dropUnfitted])
@[simp] theorem State.swapEvent_carries : s.swapEvent.Carries s := by
  refine .of ?_
  simp only [State.swapEvent]
  split <;> simp

/-! ### Margins, packets and the boundary -/

@[simp] theorem State.floatMargin_carries (b : Nat) : (s.floatMargin b).Carries s := .of (by simp [State.floatMargin])
@[simp] theorem State.headroom_carries (p : Nat) : (s.headroom p).Carries s := .of (by simp [State.headroom])
@[simp] theorem State.marginsCycle_carries : s.marginsCycle.Carries s := by
  refine foldl_carries (fun u b => ?_) _ s
  have hrooms : ((((u.floatMargin b).headroom (3 * b)).headroom (3 * b + 1)).headroom (3 * b + 2)).Carries u :=
    .trans (State.headroom_carries _ _) (.trans (State.headroom_carries _ _) (.trans (State.headroom_carries _ _) (u.floatMargin_carries b)))
  exact ⟨hrooms.1, hrooms.2 _ (.refl _)⟩
@[simp] theorem State.countStep_carries (i k : Nat) (udp : Bool) : (s.countStep i k udp).Carries s := .of (by simp [State.countStep])
@[simp] theorem State.writeReply_carries (h : Hdr) (op qualifier : Nat) (a : Ans) (use : ReplyUse) : (s.writeReply h op qualifier a use).Carries s := s.writeReplyUnder_carries _ h op qualifier a use
@[simp] theorem State.refuseStep_carries (h : Hdr) (op k : Nat) (a : Ans) : (s.refuseStep h op k a).Carries s := .trans (State.writeReply_carries _ _ _ _ _ _) (State.countStep_carries _ _ _ _)
@[simp] theorem State.tileCycle_carries : s.tileCycle.Carries s := .of (by simp [State.tileCycle])
@[simp] theorem State.turnPiers_host : s.turnPiers.SameHost s := ⟨rfl, rfl⟩
@[simp] theorem State.turnWindows_host : s.turnWindows.SameHost s := by simp [State.turnWindows]
@[simp] theorem State.crosspointCycle_host : s.crosspointCycle.SameHost s := ⟨rfl, rfl⟩
@[simp] theorem State.engineCycle_carries : s.engineCycle.Carries s := .of (by simp [State.engineCycle])
@[simp] theorem State.ageCurrents_host : s.ageCurrents.SameHost s := ⟨rfl, rfl⟩
@[simp] theorem State.referTick_host : s.referTick.SameHost s := ⟨rfl, rfl⟩
@[simp] theorem State.countTick_host (ps : Nat) : (s.countTick ps).SameHost s := ⟨rfl, rfl⟩
@[simp] theorem State.hostTick_carries (ps : Nat) : (s.hostTick ps).Carries s := by
  have hfilled (fill : Nat → Slot → Slot) (v : Tab Vector17) : ({ s with hs := { s.hs with slots := iter 8 (fun i (t : Tab Slot) => tmod {} t i (fill i)) s.hs.slots, vectors := v } } : State).Carries s :=
    ⟨rfl, fun _ hw hs => ⟨twf_iter_tmod (hw hs).1 fill 8, (hw hs).2⟩⟩
  exact hfilled _ _
@[simp] theorem State.sampleBalls_carries (inp : TickIn) : (s.sampleBalls inp).Carries s := .of (by simp [State.sampleBalls])
@[simp] theorem State.freshSwaps_host : s.freshSwaps.SameHost s := by simp [State.freshSwaps]

/-! ### The timebase's own operations -/

@[simp] theorem State.setFreq_host : s.setFreq.SameHost s := ⟨rfl, rfl⟩
@[simp] theorem State.followFreq_host : s.followFreq.SameHost s := by simp [State.followFreq]
@[simp] theorem State.requalify_host : s.requalify.SameHost s := ⟨rfl, rfl⟩
@[simp] theorem State.selectTick_host : s.selectTick.SameHost s := by simp [State.selectTick]
@[simp] theorem State.selectCycle_carries : s.selectCycle.Carries s := .of (by simp [State.selectCycle])
@[simp] theorem State.pllTick_host (g v : PllIn) : (s.pllTick g v).SameHost s := ⟨rfl, rfl⟩
@[simp] theorem State.meanVolts_host : s.meanVolts.SameHost s := ⟨rfl, rfl⟩
@[simp] theorem State.recordCycle_host : s.recordCycle.SameHost s := ⟨rfl, rfl⟩
@[simp] theorem State.openCycle_host : s.openCycle.SameHost s := ⟨rfl, rfl⟩
@[simp] theorem State.wholeCycle_carries : s.wholeCycle.Carries s := by
  refine .ite (.before (State.recordCycle_host _) ?opened) (.before (State.recordCycle_host _) (.before (State.excludeCycle_host _) (.trans (State.marginsCycle_carries _) (.trans (State.limitEvent_carries _)
    (.trans (State.selectCycle_carries _) (.before (State.crosspointCycle_host _) (.before (State.turnWindows_host _) (.trans (State.engineCycle_carries _) ?opened'))))))))
  all_goals exact .before (State.turnPiers_host _) ((State.tileCycle_carries _).after (by simp))
@[simp] theorem doCycleBoundary_carries : (doCycleBoundary s).Carries s := .of (by simp [doCycleBoundary])
@[simp] theorem doGridPllLock_host : (doGridPllLock s).SameHost s := by simp [doGridPllLock]
@[simp] theorem doGridPllLockLoss_host : (doGridPllLockLoss s).SameHost s := by simp [doGridPllLockLoss]
@[simp] theorem doPllFreeze_host : (doPllFreeze s).SameHost s := by simp [doPllFreeze]
@[simp] theorem doPllFreezeExit_host : (doPllFreezeExit s).SameHost s := by simp [doPllFreezeExit]
@[simp] theorem doSourceEligible_host (k : SrcName) : (doSourceEligible k s).SameHost s := by
  cases k <;> simp [doSourceEligible]
@[simp] theorem doSvStreamTimeout_host (k : Nat) : (doSvStreamTimeout k s).SameHost s := by simp [doSvStreamTimeout]
@[simp] theorem State.countMisses_host (stage : Nat) (us : List Nat) : (s.countMisses stage us).SameHost s := by simp [State.countMisses]
@[simp] theorem doStageDeadlineMiss_host (stage : Nat) (us : List Nat) : (doStageDeadlineMiss stage us s).SameHost s := by simp [doStageDeadlineMiss]
@[simp] theorem State.rewriteMiss_carries (m : MissRec) : (s.rewriteMiss m).Carries s := ⟨rfl, fun _ hw hs => ⟨twf_tmapAll (hw hs).1, (hw hs).2⟩⟩
@[simp] theorem State.missEvent_carries : s.missEvent.Carries s := by
  have hfresh (u : State) (e : Evt) (hu : u.SameHost s) : (u.raise e).Carries s := .trans (u.raise_carries e) (.of_same hu)
  simp only [State.missEvent]
  split
  · exact ⟨rfl, fun _ => id⟩
  · split
    · exact .ite (.trans (State.rewriteMiss_carries _ _) ⟨rfl, fun _ => id⟩) (hfresh _ _ ⟨rfl, rfl⟩)
    · exact hfresh _ _ ⟨rfl, rfl⟩
@[simp] theorem State.endTick_carries (ps : Nat) : (s.endTick ps).Carries s := .of (by simp [State.endTick])
@[simp] theorem State.advanceTick_host : s.advanceTick.SameHost s := ⟨rfl, rfl⟩
@[simp] theorem State.keystoneTick_host (inp : TickIn) (ps : Nat) : (s.keystoneTick inp ps).SameHost s := by simp [State.keystoneTick]

/-! ### Plant time -/

@[simp] theorem State.discipline_carries (pps : Bool) (offset : Int) : (s.discipline pps offset).Carries s := .of (by simp [State.discipline])
@[simp] theorem State.dropDiscipline_host : s.dropDiscipline.SameHost s := ⟨rfl, rfl⟩
@[simp] theorem doPtpSync_carries (offset interval : Int) : (doPtpSync offset interval s).Carries s := .of (by simp [doPtpSync])
@[simp] theorem doPtpAnnounce_host (identity rank interval : Nat) : (doPtpAnnounce identity rank interval s).SameHost s := by simp [doPtpAnnounce]
@[simp] theorem doPtpLost_host : (doPtpLost s).SameHost s := by simp [doPtpLost]
@[simp] theorem doPpsEdge_carries (after : Nat) : (doPpsEdge after s).Carries s := by
  have hraised (pt : PlantTime) (e : Evt) : (({ s with tb := { s.tb with pt := pt } } : State).raise e).Carries s := .trans (State.raise_carries _ e) ⟨rfl, fun _ => id⟩
  have hset (pt : PlantTime) : ({ s with tb := { s.tb with pt := pt } } : State).Carries s := ⟨rfl, fun _ => id⟩
  simp only [doPpsEdge]
  split
  · exact .ite (.ite (hraised _ _) (hraised _ _)) (hraised _ _)
  · exact .ite (.ite (hset _) (.trans (.of_same (State.requalify_host _)) (hset _))) (.ite (.trans (State.discipline_carries _ _ _) (hset _)) (hset _))
@[simp] theorem doPpsLost_host : (doPpsLost s).SameHost s := by simp [doPpsLost]
@[simp] theorem doPlantTimeSetLapse_carries : (doPlantTimeSetLapse s).Carries s := .of (by simp [doPlantTimeSetLapse])
@[simp] theorem doPlantTimeLocked_host : (doPlantTimeLocked s).SameHost s := by simp [doPlantTimeLocked]
@[simp] theorem doPpsOutPulse_host (rise : Bool) : (doPpsOutPulse rise s).SameHost s := by simp [doPpsOutPulse]
@[simp] theorem doRefclkFault_host : (doRefclkFault s).SameHost s := by simp [doRefclkFault]
@[simp] theorem plantTimeSet_carries (time atPps : Nat) : (plantTimeSet time atPps s).1.Carries s := by
  have hraised (pt : PlantTime) (e : Evt) : (({ s with tb := { s.tb with pt := pt } } : State).raise e).Carries s := .trans (State.raise_carries _ e) ⟨rfl, fun _ => id⟩
  simp only [plantTimeSet]
  split_ifs
  · exact .refl s
  · exact ⟨rfl, fun _ => id⟩
  · exact .refl s
  · exact hraised _ _
  · exact hraised _ _
  · exact ⟨rfl, fun _ => id⟩

/-! ### Registers -/

@[simp] theorem State.writeLow_host (o v : Nat) : (s.writeLow o v).SameHost s := by
  simp only [State.writeLow]
  split <;> simp
@[simp] theorem State.writeHigh_carries (o v : Nat) : (s.writeHigh o v).Carries s := by
  refine .of ?_
  simp only [State.writeHigh]
  split <;> simp
@[simp] theorem doRegisterWrite_carries (o v : Nat) : (doRegisterWrite o v s).Carries s := .of (by simp [doRegisterWrite])
end
end Sys2Proof.Machine

end

section
/-! SUPPORT. Every command carries the form of the host tables and leaves the queue (R394, R412). -/

namespace Sys2Proof.Machine
open Sys2Proof

theorem State.Ends.carries {s t : State} (h : s.Ends t) : t.Carries s := ⟨by rw [h.frame], fun _ hw hs => h.sorted (hw hs)⟩

namespace State.Carries
variable {s t u : State}

theorem foldl {α : Type} {op : State → α → State} (hop : ∀ u a, (op u a).Carries u) (l : List α) (s : State) : (l.foldl op s).Carries s := by
  induction l generalizing s with
  | nil => exact .refl s
  | cons a l ih => exact .trans (ih _) (hop s a)

/-- A host command's effect, and its reply. -/
theorem host {h : Hdr} {op : Nat} {f : State → State × Ans} (hf : (f s).1.Carries s) : (s.host h op f).Carries s := by
  have hans : (if s.opAllowed op then f s else (s, refuseAns stState op 255 0)).1.Carries s := by
    split
    · exact hf
    · exact .refl s
  exact .ite hans (.trans (State.writeReply_carries _ _ _ _ _ _) hans)

theorem hostJ {i : Instr} {h : Hdr} {op : Nat} {f : State → State × Ans} (hf : (f s).1.Carries s) : (s.hostJ i h op f).Carries s := by
  refine host ?_
  dsimp only
  split
  · exact .before (t := (f s).1) ⟨rfl, rfl⟩ hf
  · exact hf

end State.Carries

section
variable (s : State)

/-! ### Staging, discarding and landing (R127, R129, R428) -/

theorem stageRows_host (slot op : Nat) (g : Stg) : (stageRows slot op g s).1.SameHost s := by
  simp only [stageRows]
  split
  · exact ⟨rfl, rfl⟩
  · split_ifs
    · exact ⟨rfl, rfl⟩
    · exact ⟨rfl, rfl⟩
    · exact ⟨rfl, rfl⟩
    · exact ⟨rfl, rfl⟩
    · split <;> exact ⟨rfl, rfl⟩

theorem stageDma_host (slot : Nat) (g : Stg) : (stageDma slot g s).1.SameHost s := by
  have hrows := stageRows_host s slot 0x0406 g
  simp only [stageDma]
  split_ifs
  · simp
  · exact hrows
  · exact hrows

theorem gainSet_host (h : Hdr) (es : List GainEntry) : (gainSet h es s).1.SameHost s := by
  simp only [gainSet, ite_fst_state]
  split_ifs
  · exact ⟨rfl, rfl⟩
  · exact ⟨rfl, rfl⟩
  · split <;> exact ⟨rfl, rfl⟩
  · exact ⟨rfl, rfl⟩
  · split <;> exact ⟨rfl, rfl⟩

theorem shapeSet_host (h : Hdr) (dest first count : Nat) (coefs : List Nat) : (shapeSet h dest first count coefs s).1.SameHost s := by simp [shapeSet]
theorem lawSet_host (h : Hdr) (bay law count shift : Nat) (coefs : List Nat) : (lawSet h bay law count shift coefs s).1.SameHost s := by simp [lawSet]
theorem shadowDiscard_host : (shadowDiscard s).1.SameHost s := by simp [shadowDiscard]
theorem State.takeUp_carries (o : State) (p : PendSwap) : (s.takeUp o p).Carries s := by
  obtain ⟨u, hu, htaken⟩ := s.takeUp_eq o p
  have hsame : u.SameHost s := ⟨congrArg Prod.fst hu.apart, congrArg (fun b => b.2.2.2.1) hu.books⟩
  rw [htaken]
  exact (State.dropUnfitted_carries _).after (by split <;> simpa using hsame)

theorem doXpSwapLanding_carries : (doXpSwapLanding s).Carries s := by
  simp only [doXpSwapLanding]
  split
  · exact .refl s
  · exact .ite (.refl s) (.before (State.splitWindows_host _) ((State.takeUp_carries _ s _).after ⟨rfl, rfl⟩))

/-! ### The standby's copy (R302 to R305, R317) -/

theorem State.copyStandby_host : s.copyStandby.SameHost s := by simp [State.copyStandby]
theorem fwUpdate_host : (fwUpdate s).1.SameHost s := by simp [fwUpdate]
theorem doFwUpdateAbort_carries : (doFwUpdateAbort s).Carries s := .of (by simp [doFwUpdateAbort])
theorem doPlannedSwitch_carries : (doPlannedSwitch s).Carries s := .of (by simp [doPlannedSwitch])
@[simp] theorem State.dropBanks_host : s.dropBanks.SameHost s := by simp [State.dropBanks]
theorem doFlywheelFloat_carries : (doFlywheelFloat s).Carries s := .of (by simp [doFlywheelFloat])
theorem State.dismiss_host : s.dismiss.SameHost s := ⟨rfl, rfl⟩

theorem State.leaveActive_carries : s.leaveActive.Carries s := by
  rw [State.leaveActive_eq]
  exact .before s.leaveWork.dismiss_host s.leaveWork_ends.carries

@[simp] theorem State.replay_host (i : Instr) : (s.replay i).SameHost s := by
  simp only [State.replay]
  split <;> simp

@[simp] theorem State.loadShadow_host (h : Shadow) (j : List Instr) : (s.loadShadow h j).SameHost s := by
  have hcopied : (s.loadCopy h).SameHost s := ⟨rfl, rfl⟩
  have hreplayed := foldl_host (op := State.replay) (by simp) j.reverse (s.loadCopy h)
  exact ⟨hreplayed.1.trans hcopied.1, hreplayed.2.trans hcopied.2⟩

theorem State.takeOver_carries (h : Shadow) (j : List Instr) : (s.takeOver h j).Carries s := .of (by simp [State.takeOver])

theorem State.beginTracking_host : s.beginTracking.SameHost s := by
  simp only [State.beginTracking]
  split
  · simp
  · split <;> simp

@[simp] theorem State.trackCount_host : s.trackCount.SameHost s := by
  have hbegun := s.beginTracking_host
  simp [State.trackCount, hbegun]

/-! ### A keystone that is lost (R303, R331, R361, R389) -/

/-- The slots that a keystone holds when it starts without a copy. -/
theorem HostIf.freshSlots_sorted {h : HostIf} (w : h.Sorted) : ({ ({} : HostIf) with mem := h.mem, slots := tabMap {} (fun e => { topSerial := e.2.topSerial }) h.slots } : HostIf).Sorted := ⟨twf_tabMap w.1, w.2⟩

theorem State.freshKeystone_carries : s.freshKeystone.Carries s := ⟨rfl, fun _ hw hs => HostIf.freshSlots_sorted (hw hs)⟩

theorem State.loseActive_carries : s.loseActive.Carries s := by
  have hleft := s.leaveActive_carries
  simp only [State.loseActive]
  split
  · exact .ite (.trans (State.takeOver_carries _ _ _) hleft) (.before (State.restartOther_host _) (.before (State.loadShadow_host _ _ _) hleft))
  · exact .before (State.restartOther_host _) (.trans (State.freshKeystone_carries _) hleft)

theorem State.loseKeystone_carries (k : Nat) : (s.loseKeystone k).Carries s :=
  .ite s.loseActive_carries (.ite ((State.freshKeystone_carries _).after ⟨rfl, rfl⟩) (.ite (.of_same ⟨rfl, rfl⟩) (.of_same ⟨rfl, rfl⟩)))

theorem doKeystoneLost_carries (c : LossCause) : (doKeystoneLost c s).Carries s := .ite (.ite s.loseActive_carries (.refl s)) (.ite (s.loseKeystone_carries _) (.refl s))

theorem State.stopDie_carries (c : Nat) : (s.stopDie c).Carries s := .ite (.of (by simp)) (s.loseKeystone_carries _)

theorem State.openGate_carries (latch : Bool) (c : Nat) : (s.openGate latch c).Carries s := (State.stopDie_carries _ c).after (by simp)

theorem State.enterShutdown_carries (d : Nat) : (s.enterShutdown d).Carries s := by
  refine .ite (.before (State.startStop_host _ _ _ _ _) ?_) ?_
  all_goals exact (State.stopDie_carries _ d).after (by simp)

theorem doThermalLevelChange_carries (d : Nat) : (doThermalLevelChange d s).Carries s := by
  have hraised (f : Die → Die) (e : Evt) : ((s.modDie d f).raise e).Carries s := (State.raise_carries _ e).after (s.modDie_host d f)
  simp only [doThermalLevelChange]
  refine .ite (.refl s) ?_
  split
  · exact .trans (State.raise_carries _ _) ((State.enterShutdown_carries _ d).after (by simp))
  · exact .trans (State.enterThrottle_carries _ d) (hraised _ _)
  · exact .ite (.before (State.modDie_host _ _ _) (hraised _ _)) (.before (State.modDie_host _ _ _) (hraised _ _))
  · exact hraised _ _

theorem doSupervisorTrip_carries (channels : List Nat) (high : Bool) : (doSupervisorTrip channels high s).Carries s := by
  have hcounted (cs : List Nat) (f : Footing) : ({ cs.foldl (fun (t : State) c => t.countTrip c high) s with ftg := f } : State).Carries s := .before (t := cs.foldl (fun (t : State) c => t.countTrip c high) s) ⟨rfl, rfl⟩ (foldl_carries (by simp) cs s)
  exact .ite (.refl s) (.ite (.ite (.refl s) (s.sequenceBack_carries _)) (.ite (.refl s) (.ite (hcounted _ _) (.ite (.trans (.foldl (fun u c => u.openGate_carries _ c) _ _) (hcounted _ _))
    (.before (State.footingStop_host _) (hcounted _ _))))))

/-! ### Resets -/

theorem State.wipe_carries (f : Footing) (st : Startup) (thm : Thermal) : (s.wipe f st thm).Carries s := ⟨rfl, fun _ hw hs => HostIf.freshSlots_sorted (hw hs)⟩

theorem State.deviceReset_carries (causes : Nat) : (s.deviceReset causes).Carries s := s.wipe_carries _ _ _
theorem State.powerOn_carries : s.powerOn.Carries s := s.wipe_carries _ _ _
theorem State.releaseRails_host : s.releaseRails.SameHost s := by simp [State.releaseRails, -List.foldl_reverse]
theorem State.powerDown_carries : s.powerDown.Carries s := (State.wipe_carries _ _ _ _).after s.releaseRails_host

end

section
variable (s : State)

theorem doDeviceReset_carries (h : Hdr) (force : Nat) : (doDeviceReset h force s).Carries s := by
  simp only [doDeviceReset]
  exact .ite (.host (.refl s)) (.ite (.host (.refl s)) (.ite (.hostJ (.of (by simp))) (.trans (State.deviceReset_carries _ _) (.host (.refl s)))))

theorem doXpSwap_carries (h : Hdr) (mode glide cycle : Nat) : (doXpSwap h mode glide cycle s).Carries s :=
  .ite (.hostJ (.of_same (xpSwap_host _ _ _ _))) (.host (.of_same (xpSwap_host _ _ _ _)))

theorem doFuseProgram_carries (h : Hdr) (region offset words : Nat) (data : List Nat) : (doFuseProgram h region offset words data s).Carries s :=
  .ite (.host (.refl s)) (.of (by simp))

theorem doSlotOpen_carries (h : Hdr) (grant : List Nat) : (doSlotOpen h grant s).Carries s := .of (by simp [doSlotOpen])

theorem runCommand_carries (i : Instr) : (runCommand i s).Carries s := by
  cases i with
  | deviceReset h force => exact doDeviceReset_carries s h force
  | xpSwap h mode glide cycle => exact doXpSwap_carries s h mode glide cycle
  | fuseProgram h region offset words data => exact doFuseProgram_carries s h region offset words data
  | slotOpen h grant => exact doSlotOpen_carries s h grant
  | netConfig h g | startConfig h g | footingConfig h g | tickSourceSet h g | plantTimeConfig h g | streamRoute h g | streamPortConfig h g | svSubscribe h g
  | setpointInputConfig h g | gridSenseConfig h g | xpDestConfig h g | xpProbeSet h g | xpDampSet h g | xpIdleConfig h g | ceBayConfig h g | cePlantConfig h g
  | mdBayConfig h g | bayProfileSet h g | tripConfig h g | unitProfileSet h g | zConfig h g | zTempTableSet h g | loadModelConfig h g | linkConfig h g
  | ledgerConfig h g | slotLimitsSet h g | thermalConfig h g => exact .host (.of_same (stageRows_host s _ _ g))
  | streamDmaConfig h g => exact .host (.of_same (stageDma_host s _ g))
  | xpGainSet h es => exact .host (.of_same (gainSet_host s h es))
  | xpShapeSet h dest first count coefs => exact .host (.of_same (shapeSet_host s h dest first count coefs))
  | ceLawSet h bay law count shift coefs => exact .host (.of_same (lawSet_host s h bay law count shift coefs))
  | xpShadowDiscard => exact .hostJ (.of_same (shadowDiscard_host s))
  | fwUpdate => exact .hostJ (.of_same (fwUpdate_host s))
  | sysInfoRead | footingStatusRead | timebaseStatus | streamStatusRead | xpStatus | gridZRead | linkPendingRead | rdStatusRead | ledgerStatusRead
  | identityRead | fuseStatusRead =>
    simp only [runCommand, doSysInfoRead, doFootingStatusRead, doTimebaseStatus, doStreamStatusRead, doXpStatus, doGridZRead, doLinkPendingRead,
      doRdStatusRead, doLedgerStatusRead, doIdentityRead, doFuseStatusRead]
    refine .host ?_
    exact .refl s
  | startStatusRead | xpStatsRead | ceFlagsRead | ceWinnerStats | cePlumbStatus | mdStatsRead | unitRead | zRead | linkStatusRead | fuseRead | slotStatusRead
  | eventFetch | thermalStatusRead =>
    exact .host (.of (by simp))
  | plantTimeSet | startRestoreSkip | baySync | bayExclude | safeStop | footingCountersClear | footingRailRestore | streamStart | streamStop
  | bayWake | ceSetpointSet | ceFlagsClear | pierDisable | bayDisable | plantDisable | pierEnable | bayEnable | plantEnable | tripAssert
  | tripReset | unitRecal | unitRelease | zPassRequest | gridZMeasure | loadAmbientSet | loadBaselineSet | linkWindowOpen | linkWindowClose
  | courseWithdraw | tileHandover | tileHandback | keystoneSwitch | fwImageWrite | fwImageVerify | ledgerExport | ledgerExportAck
  | ledgerExportStop | ledgerDriveBind | fuseMaintEnter | fuseLock | slotRightsDrop | slotEventsSet =>
    exact .hostJ (.of (by simp))
  | loadModelRead | loadDiagRead | slotKeepalive =>
    simp only [runCommand, doLoadModelRead, doLoadDiagRead, doSlotKeepalive]
    exact .host (.of (by simp))
  | xpFlagsClear | fuseMaintExit | slotClose =>
    simp only [runCommand, doXpFlagsClear, doFuseMaintExit, doSlotClose]
    exact .hostJ (.of (by simp))
  | _ => exact .refl s

/-! ### Commands that arrive, and the command window (R402, R406, R407, R411, R413) -/

theorem State.admitCmd_carries (h : Hdr) (op cost : Nat) (c : Instr) : (s.admitCmd h op cost c).Carries s := by
  simp only [State.admitCmd]
  exact .ite (.trans (runCommand_carries _ c) (s.modSlot_carries _ _)) (.ite (s.refuseStep_carries _ _ _ _) (.ite (s.refuseStep_carries _ _ _ _) (s.modSlot_carries _ _)))

theorem State.checkCmd_carries (h : Hdr) (p : Pkt) (boot : Bool) : (s.checkCmd h p boot).Carries s := by
  have hrefused (k : Nat) (a : Ans) : (s.refuseStep h p.opcode k a).Carries s := s.refuseStep_carries _ _ _ _
  simp only [State.checkCmd]
  refine .ite (hrefused _ _) (.ite (hrefused _ _) ?_)
  split
  · exact hrefused _ _
  · refine .ite (hrefused _ _) ?_
    split
    · exact hrefused _ _
    · exact .ite (.ite (s.countStep_carries _ _ _) (hrefused _ _)) (s.admitCmd_carries _ _ _ _)

theorem State.takePacket_carries (udp : Bool) (ring peer : Nat) (bs : List Nat) : (s.takePacket udp ring peer bs).Carries s := by
  have hrefused (h : Hdr) (op k : Nat) (a : Ans) : (s.refuseStep h op k a).Carries s := s.refuseStep_carries _ _ _ _
  have hcounted (i k : Nat) (u : Bool) : (s.countStep i k u).Carries s := s.countStep_carries _ _ _
  simp only [State.takePacket]
  refine .ite (.ite ⟨rfl, fun _ => id⟩ (hcounted _ _ _)) (.ite (.ite (hcounted _ _ _) (hrefused _ _ _ _)) (.ite (.ite (hcounted _ _ _) (hrefused _ _ _ _)) (.ite (.ite (hcounted _ _ _) (hrefused _ _ _ _)) (.ite (hcounted _ _ _) ?_))))
  exact .trans (State.checkCmd_carries _ _ _ _) (s.modSlot_carries _ _)

theorem State.pumpRing_carries (i : Nat) : (s.pumpRing i).Carries s := by
  simp only [State.pumpRing]
  exact .trans (.foldl (fun u e => u.takePacket_carries false i 0 e) _ _) ⟨rfl, fun _ hw => (hw.slot _ _).announce _⟩

theorem doHsCmdProd_carries (i index : Nat) (entries : List (List Nat)) : (doHsCmdProd i index entries s).Carries s := by
  simp only [doHsCmdProd]
  exact .ite (s.modSlot_carries _ _) (.ite (.trans (State.pumpRing_carries _ i) (s.modSlot_carries _ _)) (s.modSlot_carries _ _))

theorem doUdpDatagram_carries (port peer dst vlan : Nat) (fragment : Bool) (bytes : List Nat) : (doUdpDatagram port peer dst vlan fragment bytes s).Carries s :=
  .ite (.refl s) (s.takePacket_carries _ _ _ _)

theorem WindowRun.charge_carries (x : WindowRun) (i : Nat) (q : Queued) : (x.charge i q).state.Carries x.state := by
  simp only [WindowRun.charge]
  split
  · exact .trans (runCommand_carries _ q.cmd) (State.modSlot_carries _ _ _)
  · exact State.modSlot_carries _ _ _

theorem serveSlot_carries (i n : Nat) (x : WindowRun) : (serveSlot i n x).state.Carries x.state := by
  induction n generalizing x with
  | zero => exact .refl _
  | succ n ih =>
    simp only [serveSlot]
    split
    · split
      · exact State.modSlot_carries _ _ _
      · exact .refl _
    · split
      · exact .trans (ih _) (x.charge_carries i _)
      · exact .refl _

theorem windowRound_carries (x : WindowRun) (i : Nat) : (windowRound x i).state.Carries x.state := by
  simp only [windowRound]
  split
  · exact .refl _
  · exact .trans (serveSlot_carries i 17 _) (State.modSlot_carries _ _ _)

theorem foldl_windowRound_carries (order : List Nat) (x : WindowRun) : (order.foldl windowRound x).state.Carries x.state := by
  induction order generalizing x with
  | nil => exact .refl _
  | cons i order ih => exact .trans (ih _) (windowRound_carries x i)

theorem windowRounds_carries (order : List Nat) (n : Nat) (x : WindowRun) : (windowRounds order n x).Carries x.state := by
  induction n generalizing x with
  | zero => exact .refl _
  | succ n ih => exact .ite (.trans (ih _) (foldl_windowRound_carries order x)) (.refl _)

theorem State.commandWindow_carries : s.commandWindow.Carries s := .trans (windowRounds_carries _ _ _) ⟨rfl, fun _ => id⟩

theorem State.serveHosts_carries : s.serveHosts.Carries s := by
  refine .ite (.refl s) (.trans (State.commandWindow_carries _) ?_)
  exact .foldl (fun u i => .ite (.refl u) (u.pumpRing_carries i)) (List.range 8) s

theorem State.idleTime_carries : s.idleTime.Carries s := by
  have htimed : ((s.footingTick s.nominalPs).rotate.takeRoot.hostTick s.nominalPs).Carries s :=
    .trans (State.hostTick_carries _ _) (.trans (State.takeRoot_carries _) ((State.rotate_carries _).after (s.footingTick_host _)))
  exact .trans (State.serveHosts_carries _) (.trans (State.ledgerTick_carries _ _) (.before (State.thermalTick_host _ _) htimed))

/-! ### The boundary and other rows -/

theorem State.tickBegins_carries (inp : TickIn) (ps : Nat) : (s.tickBegins inp ps).Carries s := by
  have hopened (u : State) (c : Nat) : ({ u with tb := { u.tb with cyclePs := c } } : State).swapEvent.takeRoot.takeCarries.ageCurrents.Carries u := .of (by simp)
  have hran (u : State) : (let t := ((u.keystoneTick inp ps).countTick ps).hostTick ps
      ((((({ t with lk := t.lk.tick ps }).txPort 0).txPort 1).thermalTick ps).ledgerTick ps)).Carries u := .of (by simp)
  have htracked := State.Carries.before (State.trackCount_host _) ((hopened s.freshSwaps (s.freshSwaps.tb.cyclePs + ps)).after s.freshSwaps_host)
  exact .trans (State.serveHosts_carries _) (.trans (hran _) htracked)

theorem State.tickEnds_carries (ps : Nat) : (s.tickEnds ps).Carries s :=
  .before (t := (s.endTick ps).copyStandby) ⟨rfl, rfl⟩ (.before (State.copyStandby_host _) (s.endTick_carries ps))

theorem doTickBoundary_carries (inp : TickIn) : (doTickBoundary inp s).Carries s := by
  cases hrun : s.tb.running
  · simp only [doTickBoundary, State.sampleBalls_tb, hrun]
    exact .trans (State.idleTime_carries _) (s.sampleBalls_carries inp)
  · have hworked : (s.sampleBalls inp).workDone.Carries s := .of (by simp [State.workDone])
    rw [doTickBoundary_of_running s inp hrun]
    exact .trans ((State.tickBegins_carries _ inp _).after (State.advanceTick_host _)) (.trans (State.tickEnds_carries _ _) hworked)

theorem doTimebaseStart_carries (locked : Bool) : (doTimebaseStart locked s).Carries s := by
  simp only [doTimebaseStart]
  exact .ite (.refl s) (.ite (.of (by simp)) (.of_same (by simp)))

theorem doFuseProgramComplete_carries (bad weak : List Nat) : (doFuseProgramComplete bad weak s).Carries s := by
  simp only [doFuseProgramComplete]
  split
  · exact .refl s
  · have hraised (u : State) (p : Prop) [Decidable p] (e f : Evt) : u.Carries s → (if p then u.raise e else u.raise f).Carries s :=
      fun hu => .trans (.ite (u.raise_carries e) (u.raise_carries f)) hu
    refine .ite (hraised _ _ _ _ ?_) (.trans (.host (.refl _)) (hraised _ _ _ _ ?_))
    all_goals exact .of (by simp)

theorem doSafeStopComplete_carries (flushed : Bool) : (doSafeStopComplete flushed s).Carries s :=
  .ite (.refl s) (.ite (.ite ((State.deviceReset_carries _ _).after ⟨rfl, rfl⟩) ((State.powerDown_carries _).after ⟨rfl, rfl⟩)) (.of_same ⟨rfl, rfl⟩))

theorem doVinLoss_carries : (doVinLoss s).Carries s :=
  .ite (.refl s) (.ite (.of_same ⟨rfl, rfl⟩) (.ite ((State.powerDown_carries _).after ⟨rfl, rfl⟩) (.of (by simp))))

theorem doVinReturn_carries : (doVinReturn s).Carries s := .ite (.refl s) (.ite s.powerOn_carries (.of_same ⟨rfl, rfl⟩))

theorem doFootingReset_carries : (doFootingReset s).Carries s := .ite (.ite (s.deviceReset_carries _) s.powerDown_carries) (.refl s)

end

/-! ### Every command -/

/-- An outcome whose next state, where there is one, carries the queue and the form of the host tables of `s`. -/
def State.CarriesOn (s : State) (o : Host.Outcome State Fault Refusal) : Prop := ∀ t, o = .next t → t.Carries s

namespace State.CarriesOn
variable {s t : State}

theorem next (h : t.Carries s) : s.CarriesOn (.next t) := fun _ heq => Host.Outcome.next.inj heq ▸ h

/-- A row that stops on a missing unit. -/
theorem guard {p : Prop} [Decidable p] {f : Fault} (h : t.Carries s) : s.CarriesOn (if p then .fault f else .next t) := by
  split
  · exact fun _ heq => nomatch heq
  · exact next h

end State.CarriesOn

section
variable (s : State)

theorem exec_carries (i : Instr) : s.CarriesOn (exec i s) := by
  have hrun := runCommand_carries s i
  cases i with
  | tickBoundary inp => exact .next (doTickBoundary_carries s inp)
  | timebaseStart locked => exact .next (doTimebaseStart_carries s locked)
  | hsCmdProd slot index entries => exact .guard (doHsCmdProd_carries s slot index entries)
  | udpDatagram port peer dst vlan fragment bytes => exact .guard (doUdpDatagram_carries s port peer dst vlan fragment bytes)
  | xpSwapLanding => exact .next (doXpSwapLanding_carries s)
  | flywheelFloat => exact .next (doFlywheelFloat_carries s)
  | fwUpdateAbort => exact .next (doFwUpdateAbort_carries s)
  | plannedSwitch => exact .next (doPlannedSwitch_carries s)
  | keystoneLost cause => exact .next (doKeystoneLost_carries s cause)
  | supervisorTrip channels high => exact .next (doSupervisorTrip_carries s channels high)
  | thermalLevelChange die => exact .guard (doThermalLevelChange_carries s die)
  | fuseProgramComplete bad weak => exact .next (doFuseProgramComplete_carries s bad weak)
  | safeStopComplete flushed => exact .next (doSafeStopComplete_carries s flushed)
  | powerOn => exact .next (.ite s.powerOn_carries (.refl s))
  | sysResetN => exact .next (.ite (.refl s) (s.deviceReset_carries _))
  | bankCutoff => exact .next (.ite ((State.powerDown_carries _).after ⟨rfl, rfl⟩) (.refl s))
  | vaonLoss => exact .next (s.wipe_carries _ _ _)
  | vinLoss => exact .next (doVinLoss_carries s)
  | vinReturn => exact .next (doVinReturn_carries s)
  | footingReset => exact .next (doFootingReset_carries s)
  | hsRplCons | hsEvqCons | arp | icmpEcho | msiModerationEnd | slotLost | grantExpiry | plumbRecovery | plumbFloat | tickMarkerEcho | upstreamFrame |
  bayLinkLost | courseDark | courseLeaveService | withdraw | hello | join | serials | ring | laneTrained | laneRetry | windowOpen | windowClose |
  sspRxFrame | sspRxSlip | channelQualify | channelLost | slotRampEnd | probeBurstEnd | tripInputAssert | bayIdle | standbyEntry | standbyExit |
  enableLanding | tileTakeover | zPassEnd | ambientTimeout | diagWindowClose | keystoneSelfTest | signedBoot | tileSelfTest | admissionEnd | restore |
  warningExcursion | retryOffEnd | retryRailCheck | sensorBroken | sensorRecovered | throttleGraceEnd | throttleEnforce | throttleRelease |
  nvmeCompletion | driveTimeout | smartPoll | resilverComplete | railReturn | tripInputRelease | stageDeadlineMiss | svStreamTimeout =>
    exact .guard (.of (by simp))
  | hsCommit | hsCommitLanding | sysCommit | sysCommitLanding | urCommit | urCommitLanding | urFillPublish | stagedRegisterWrite | rcRead | spDmaInProd |
  spDmaOutCons | freezeReq | freezeEnd | freezeLimit | pcieLinkDown | recordPass | rankSnapshot | crosspointStage | controlStage | modulationStage |
  dmaInputBlock | dmaOutputBlock | setpointQualify | setpointLost | isoSupplyLoss | keystoneLive | flywheelRampStart |
  transferCycleStart | transferComplete | gridZStart | gridZResult | syncStart | syncPermitAssert | syncTimeout | safeStopFloat |
  safeStopFlush | positionReady | positionTimeout | positionRetry | fuseLoad | electionTimeout | serviceUartWrite | ledgerMount | bankBelowReady |
  chargerPrecharge | chargerCc | chargerCv | chargerDone | chargerFault | capEstimate | thermalConversion | snapshotDue | snapshotCapture |
  eventPageSeal | cycleBoundary | registerWrite | ptpSync | ptpAnnounce | ptpLost | ppsEdge | ppsLost | plantTimeSetLapse | plantTimeLocked | ppsOutPulse |
  refclkFault | gridPllLock | gridPllLockLoss | pllFreeze | pllFreezeExit | sourceEligible =>
    exact .next (.of (by simp))
  | laneDown | gridSenseInvalid => exact .guard (.of_same ⟨rfl, rfl⟩)
  | badAccess | tickMarker | svAsdu | footingI2cRead | jtagInstruction | isoSupplyReturn | ptpPdelay => exact .next (.of_same ⟨rfl, rfl⟩)
  | _ => exact .next hrun

end

/-- Settles O6: every command carries the form of the slots' table and of the writes to host memory, operation by operation. -/
theorem slotTableInvariantKept : Obligations.SlotTableInvariantKept := by
  unfold Obligations.SlotTableInvariantKept
  intro s t hs hstep
  unfold step at hstep
  split at hstep
  next => cases hstep; exact hs
  next i rest _ =>
    obtain ⟨-, hled⟩ := exec_carries { s with pending := rest } i t hstep
    exact hled s.hs (.refl s.hs) hs

/-- Settles O3: no row writes the queue, and the resets and takeovers copy it. -/
theorem execLeavesQueue : Obligations.ExecLeavesQueue := by
  unfold Obligations.ExecLeavesQueue
  intro i s t hexec
  exact (exec_carries s i t hexec).1

/-- Settles O1: both cases are what `step` says. -/
theorem stepRunsFrontCommand : Obligations.StepRunsFrontCommand := by
  unfold Obligations.StepRunsFrontCommand
  refine ⟨fun c rest s hp => ?_, fun s hp => ?_⟩
  · unfold step
    rw [hp]
  · unfold step
    rw [hp]

end Sys2Proof.Machine

end

section
/-! SUPPORT. Where a reply or an event goes, and what an index write takes (R402, R404, R405, R414, R415). -/

namespace Sys2Proof.Machine
open Sys2Proof

section
variable {α : Type} [DecidableEq α] {d : α}

/-- Writing what a key reads changes nothing. -/
theorem tset_tget {t : Tab α} {k : Nat} (w : twf d t = true) : tset d t k (tget d t k) = t := by
  suffices hfrom : ∀ (t : Tab α) (a : Nat), twfFrom d a t = true → tset d t k (tget d t k) = t from hfrom t 0 w
  intro t
  induction t with
  | nil => simp [tset, tget]
  | cons e t ih =>
    intro a w
    simp only [twfFrom, Bool.and_eq_true, decide_eq_true_eq] at w
    obtain ⟨⟨-, hlisted⟩, hrest⟩ := w
    rcases Nat.lt_trichotomy k e.1 with hlt | rfl | hgt
    · simp [tset, tget, hlt, hlt.ne]
    · simp [tset, tget, hlisted]
    · simp [tset, tget, hgt.ne', Nat.not_lt.mpr hgt.le, ih _ hrest]

/-- The second of two writes to a key stands. -/
theorem tset_tset {t : Tab α} {k : Nat} {v v' : α} (w : twf d t = true) : tset d (tset d t k v) k v' = tset d t k v' := by
  suffices hfrom : ∀ (t : Tab α) (a : Nat), twfFrom d a t = true → tset d (tset d t k v) k v' = tset d t k v' from hfrom t 0 w
  intro t
  induction t with
  | nil =>
    intro a w
    by_cases hv : v = d <;> simp [tset, hv]
  | cons e t ih =>
    intro a w
    simp only [twfFrom, Bool.and_eq_true, decide_eq_true_eq] at w
    obtain ⟨-, hrest⟩ := w
    rcases Nat.lt_trichotomy k e.1 with hlt | rfl | hgt
    · by_cases hv : v = d <;> simp [tset, hlt, hv]
    · have hfresh : tset d t e.1 v' = if v' = d then t else (e.1, v') :: t := by
        cases t with
        | nil => rfl
        | cons e' t =>
          simp only [twfFrom, Bool.and_eq_true, decide_eq_true_eq] at hrest
          have hlt : e.1 < e'.1 := by omega
          simp [tset, hlt]
      by_cases hv : v = d <;> simp [tset, hv, hfresh]
    · simp [tset, hgt.ne', Nat.not_lt.mpr hgt.le, ih _ hrest]

theorem tmod_tmod {t : Tab α} {k : Nat} {f g : α → α} (w : twf d t = true) : tmod d (tmod d t k f) k g = tmod d t k (fun x => g (f x)) := by
  simp [tmod, tget_tset_self w, tset_tset w]

end

theorem State.modSlot_modSlot {s : State} (w : SlotsInv s) (i : Nat) (f g : Slot → Slot) : (s.modSlot i f).modSlot i g = s.modSlot i (fun x => g (f x)) := by
  simp [State.modSlot, tmod_tmod w.1]

theorem State.modSlot_slot_self {s : State} (w : SlotsInv s) (i : Nat) (f : Slot → Slot) : (s.modSlot i f).slot i = f (s.slot i) := tget_tmod_self w.1

theorem State.modSlot_sorted {s : State} (w : SlotsInv s) (i : Nat) (f : Slot → Slot) : SlotsInv (s.modSlot i f) := ⟨twf_tmod i f w.1, w.2⟩

/-! ### Where a reply goes -/

/-- A slot that a packet is sent on, or held for. -/
def Slot.posted (x : Slot) (i : Nat) (udp : Bool) (c : HeldReply) : Slot :=
  if udp then { x with sent := c.reply.packet i 2 c.key } else if x.replyFull then { x with held := x.held ++ [c] }
  else { x with sent := c.reply.packet i 2 c.key, rplProd := incWrap 32 x.rplProd }

theorem HostIf.post_slot {h : HostIf} (w : h.Sorted) (i : Nat) (udp : Bool) (c : HeldReply) : tget {} (h.post i udp c).slots i = (tget {} h.slots i).posted i udp c := by
  rw [HostIf.post_slots, tget_tset_self w.1, Slot.posted]

theorem HostIf.post_slot_ne {h : HostIf} (w : h.Sorted) {i j : Nat} (hj : j ≠ i) (udp : Bool) (c : HeldReply) : tget {} (h.post i udp c).slots j = tget {} h.slots j := by
  rw [HostIf.post_slots, tget_tset_ne hj w.1]

/-- The reply that an answer becomes. -/
def State.replyOf (s : State) (h : Hdr) (op q : Nat) (a : Ans) : Reply :=
  { opcode := op, tag := h.tag, status := a.status, seq := (s.slot h.slot).devSeq, gen := (s.slot h.slot).gen, qualifier := q, retryAfter := a.retry, tick := s.absTick % pow32,
    params := a.params, auth := h.auth }

/-- A slot keeps a reply under its tag. -/
def Slot.kept (x : Slot) (r : Reply) : Slot := { x with devSeq := incWrap 32 x.devSeq, replies := tset none x.replies r.tag (some r), lastReply := some r }

/-- The host interface after a reply, but for the vectors. -/
def State.replied (s : State) (h : Hdr) (r : Reply) (use : ReplyUse) : HostIf :=
  ({ s.hs with slots := tset {} s.hs.slots h.slot ((s.slot h.slot).kept r) } : HostIf).post h.slot h.udp { reply := r, key := (s.slot h.slot).key, use := use }

/-- A reply is kept and posted; only ST_INTERNAL also shows in the events page. -/
theorem State.writeReply_eq (s : State) (h : Hdr) (op q : Nat) (a : Ans) (use : ReplyUse) : ∃ v e,
    s.writeReply h op q a use = { s with hs := { s.replied h (s.replyOf h op q a) use with vectors := v }, ev := e } ∧ (a.status ≠ stInternal → e = s.ev) := by
  by_cases hi : a.status = stInternal
  · unfold State.writeReply State.writeReplyUnder State.vector16
    simp only [if_pos hi]
    split
    · exact ⟨_, _, rfl, fun hne => absurd hi hne⟩
    · exact ⟨_, _, rfl, fun hne => absurd hi hne⟩
  · unfold State.writeReply State.writeReplyUnder
    simp only [if_neg hi]
    exact ⟨_, _, rfl, fun _ => rfl⟩

section
variable {s : State} (w : SlotsInv s) (h : Hdr) (r : Reply) (use : ReplyUse)
include w

theorem State.replied_slot : tget {} (s.replied h r use).slots h.slot = ((s.slot h.slot).kept r).posted h.slot h.udp { reply := r, key := (s.slot h.slot).key, use := use } := by
  rw [State.replied, HostIf.post_slot (HostIf.set_sorted w _ _), tget_tset_self w.1]

theorem State.replied_slot_ne {j : Nat} (hj : j ≠ h.slot) : tget {} (s.replied h r use).slots j = s.slot j := by
  rw [State.replied, HostIf.post_slot_ne (HostIf.set_sorted w _ _) hj, tget_tset_ne hj w.1]
  rfl

/-- What host memory holds after a reply. -/
theorem State.replied_mem : (s.replied h r use).mem =
    let x := (s.slot h.slot).kept r
    if h.udp then s.hs.mem else if x.replyFull then s.hs.mem
    else tset [] (tset [] s.hs.mem (x.replyAddr x.rplProd) (r.packet h.slot 2 (s.slot h.slot).key)) x.rings.wb ({ x with rplProd := incWrap 32 x.rplProd } : Slot).writeBack := by
  rw [State.replied, HostIf.post_mem _ _ (HostIf.set_sorted w _ _).1, tget_tset_self w.1]

end

/-- Settles O20: the reply is kept, then posted as `Slot.posted` and `HostIf.post_mem` say. -/
theorem repliesReachTheirSlot : Obligations.RepliesReachTheirSlot := by
  unfold Obligations.RepliesReachTheirSlot
  intro s h op q a use w
  obtain ⟨v, e, heq, hev⟩ := s.writeReply_eq h op q a use
  have hself := State.replied_slot w h (s.replyOf h op q a) use
  have hothers := fun j hj => State.replied_slot_ne w h (s.replyOf h op q a) use (j := j) hj
  have hmem := State.replied_mem w h (s.replyOf h op q a) use
  have hslot (j : Nat) : (s.writeReply h op q a use).slot j = tget {} (s.replied h (s.replyOf h op q a) use).slots j := by rw [heq]; rfl
  have hmem' : (s.writeReply h op q a use).hs.mem = (s.replied h (s.replyOf h op q a) use).mem := by rw [heq]
  refine ⟨by rw [heq], fun ha => by rw [heq]; exact hev ha, fun j hj => (hslot j).trans (hothers j hj), ?_⟩
  rw [hslot, hself, hmem', hmem]
  cases hu : h.udp
  · cases hf : (s.slot h.slot).replyFull
    · have hroom : ((s.slot h.slot).kept (s.replyOf h op q a)).replyFull = false := hf
      simp only [Slot.posted, hroom, Bool.false_eq_true, if_false]
      refine ⟨rfl, rfl, by simp [incWrap, Slot.kept], fun _ => ⟨rfl, rfl⟩, by simp, fun _ _ => ⟨tget_tset_self (twf_tset _ _ w.2), fun hne => ?_⟩, rfl, rfl⟩
      exact (tget_tset_ne (Ne.symm hne) (twf_tset _ _ w.2)).trans (tget_tset_self w.2)
    · have hfull : ((s.slot h.slot).kept (s.replyOf h op q a)).replyFull = true := hf
      simp only [Slot.posted, hfull, Bool.false_eq_true, if_false, if_true]
      exact ⟨rfl, rfl, by simp [Slot.kept], by simp, fun _ _ => ⟨rfl, trivial⟩, by simp, rfl, rfl⟩
  · simp only [Slot.posted, if_true]
    exact ⟨rfl, rfl, by simp [Slot.kept], fun _ => ⟨rfl, rfl⟩, by simp, by simp, rfl, rfl⟩

/-! ### Where an event goes -/

/-- A slot that an event is handed to. -/
def Slot.told (x : Slot) (i : Nat) (force : Bool) (r : EvRec) : Slot := if x.phase ≠ .closed ∧ (force ∨ x.mask.testBit (r.code / 256)) then (x.deliver i r).1 else x

theorem HostIf.deliver_slot {h : HostIf} (w : h.Sorted) (i : Nat) (force : Bool) (r : EvRec) : tget {} (h.deliver i force r).slots i = (tget {} h.slots i).told i force r := by
  simp only [HostIf.deliver, Slot.told]
  split
  · split <;> exact tget_tset_self w.1
  · rfl

theorem HostIf.deliver_slot_ne {h : HostIf} (w : h.Sorted) {i j : Nat} (hj : j ≠ i) (force : Bool) (r : EvRec) : tget {} (h.deliver i force r).slots j = tget {} h.slots j := by
  simp only [HostIf.deliver]
  split
  · split <;> exact tget_tset_ne hj w.1
  · rfl

/-- The slots below `n` each get the event; the others do not. -/
theorem HostIf.foldl_deliver_slot {h : HostIf} (w : h.Sorted) (force : Nat → Bool) (r : EvRec) (n : Nat) :
    ((List.range n).foldl (fun (g : HostIf) i => g.deliver i (force i) r) h).Sorted ∧
    ∀ i, tget {} ((List.range n).foldl (fun (g : HostIf) i => g.deliver i (force i) r) h).slots i = if i < n then (tget {} h.slots i).told i (force i) r else tget {} h.slots i := by
  induction n with
  | zero => exact ⟨w, fun i => by simp⟩
  | succ n ih =>
    obtain ⟨wn, hn⟩ := ih
    simp only [List.range_succ, List.foldl_append, List.foldl_cons, List.foldl_nil]
    refine ⟨HostIf.deliver_sorted wn _ _ _, fun i => ?_⟩
    rcases Nat.lt_trichotomy i n with hlt | rfl | hgt
    · rw [HostIf.deliver_slot_ne wn hlt.ne, hn, if_pos hlt, if_pos (by omega)]
    · rw [HostIf.deliver_slot wn, hn, if_neg (by omega), if_pos (by omega)]
    · rw [HostIf.deliver_slot_ne wn hgt.ne', hn, if_neg (by omega), if_neg (by omega)]

/-- While the keystone sheds nothing, each of the eight slots gets the event as `Slot.told` says. -/
theorem State.publish_slot {s : State} (w : SlotsInv s) (hshed : s.shedding = false) (e : Evt) (force : Nat → Bool) {i : Nat} (hi : i < 8) :
    (s.publish e force).slot i = (s.slot i).told i (force i) (s.stampEvt e) := by
  have hall := (HostIf.foldl_deliver_slot w force (s.stampEvt e) 8).2 i
  rw [if_pos hi] at hall
  simpa only [State.slot, State.publish, hshed, Bool.false_eq_true, if_false] using hall

/-- A live slot keeps the event first among at most 1,024, under its own event sequence. -/
theorem Slot.deliver_keeps {x : Slot} (hopen : x.phase ≠ .closed) (i : Nat) (r : EvRec) :
    (x.deliver i r).1.events.length ≤ 1024 ∧ (x.deliver i r).1.evSeq = incWrap 32 x.evSeq ∧ (x.deliver i r).1.events = { r with seq := x.evSeq } :: x.events.take 1023 := by
  have hkept : ({ r with seq := x.evSeq } :: x.events).take 1024 = { r with seq := x.evSeq } :: x.events.take 1023 := rfl
  have hlength : ({ r with seq := x.evSeq } :: x.events.take 1023).length ≤ 1024 := by simp
  simp only [Slot.deliver, hkept]
  split
  case h_1 hclosed => exact absurd hclosed hopen
  case h_2 => exact ⟨hlength, rfl, rfl⟩
  case h_3 => split <;> exact ⟨hlength, rfl, rfl⟩

/-- Settles O21: `State.publish_slot` for each slot, with the forced slots of `raiseTo` and `raiseLive`. -/
theorem eventsReachLiveSlots : Obligations.EventsReachLiveSlots := by
  unfold Obligations.EventsReachLiveSlots
  refine ⟨fun s e w hshed => ?_, fun s e i w hshed hi hopen => ?_⟩
  · have hslot {i : Nat} (hi : i < 8) : (s.raise e).slot i = (s.slot i).told i false (s.stampEvt e) := s.publish_slot w hshed e (fun _ => false) hi
    have hlast : (s.raise e).ev.last = { s.stampEvt e with seq := (s.raise e).ev.seq } := by simp [State.raise, State.raiseX, State.publish, hshed]
    refine ⟨rfl, rfl, by rw [hlast]; rfl, by rw [hlast]; rfl, by rw [hlast], by rw [hlast]; rfl, by rw [hlast]; rfl, fun hbook => by simp [State.raise, State.raiseX, hbook], ?_, ?_⟩
    · intro i hi hnot
      rw [hslot hi, Slot.told, if_neg]
      rcases hnot with hclosed | hmask
      · simp [hclosed]
      · simp [hmask, State.stampEvt]
    · intro i hi hopen hmask
      obtain ⟨hlength, hseq, hevents⟩ := Slot.deliver_keeps hopen i (s.stampEvt e)
      rw [hslot hi, Slot.told, if_pos ⟨hopen, .inr hmask⟩]
      exact ⟨hlength, hseq, _, _, hevents, rfl, rfl, rfl, rfl⟩
  · obtain ⟨-, -, hevents⟩ := Slot.deliver_keeps hopen i (s.stampEvt e)
    have hto : ((s.raiseTo i e).slot i) = ((s.slot i).deliver i (s.stampEvt e)).1 := by
      rw [State.raiseTo, s.publish_slot w hshed e _ hi, Slot.told, if_pos ⟨hopen, .inl (by simp)⟩]
    have hlive : ((s.raiseLive e).slot i) = ((s.slot i).deliver i (s.stampEvt e)).1 := by
      rw [State.raiseLive, s.publish_slot w hshed e _ hi, Slot.told, if_pos ⟨hopen, .inl rfl⟩]
    refine ⟨_, _, _, _, hto ▸ hevents, hlive ▸ hevents, rfl, rfl, fun j hj hne hmask => ?_, rfl, rfl⟩
    rw [State.raiseTo, s.publish_slot w hshed e _ hj, Slot.told, if_neg]
    simp [hne, State.stampEvt, hmask]

/-! ### Ring indices and interrupts (R404, R405) -/

theorem Slot.with_held_nil {x : Slot} (hnone : x.held = []) : { x with held := [] } = x := by
  cases x
  cases hnone
  rfl

/-- A slot that sends nothing it holds is as it was. -/
theorem State.flush_empty {s : State} (w : SlotsInv s) {i : Nat} (hnone : (s.slot i).held = []) : ({ s with hs := s.hs.flush i } : State) = s := by
  have hheld : (tget {} s.hs.slots i).held = [] := hnone
  have hsame : ({ tget {} s.hs.slots i with held := [] } : Slot) = tget {} s.hs.slots i := Slot.with_held_nil hheld
  have hflush : s.hs.flush i = s.hs := by simp only [HostIf.flush, hheld, hsame, List.foldl_nil, tset_tget w.1]
  rw [hflush]

/-- The entries of the reply ring that are taken. -/
def Slot.outstanding (x : Slot) : Nat := (x.rplProd + pow32 - x.rplCons) % pow32

/-- A full reply ring holds each further packet, in order. -/
theorem HostIf.foldl_post_full {h : HostIf} (w : h.Sorted) {i : Nat} (hfull : (tget {} h.slots i).replyFull = true) (cs : List HeldReply) :
    tget {} (cs.foldl (fun (g : HostIf) c => g.post i false c) h).slots i = { tget {} h.slots i with held := (tget {} h.slots i).held ++ cs } := by
  induction cs generalizing h with
  | nil => simp
  | cons c cs ih =>
    have hslot : tget {} (h.post i false c).slots i = { tget {} h.slots i with held := (tget {} h.slots i).held ++ [c] } := by
      simp [HostIf.post_slot w, Slot.posted, hfull]
    rw [List.foldl_cons, ih (HostIf.post_sorted w _ _ _) (by rw [hslot]; exact hfull), hslot]
    simp

/-- One more packet in the reply ring. -/
theorem Slot.outstanding_succ {x : Slot} (hprod : x.rplProd < 2 ^ 32) (hcons : x.rplCons < 2 ^ 32) (hsmall : x.outstanding < 256) (sent : List Nat) :
    ({ x with sent := sent, rplProd := incWrap 32 x.rplProd } : Slot).outstanding = x.outstanding + 1 := by
  simp only [Slot.outstanding, incWrap, pow32] at *
  omega

theorem Slot.replyFull_iff (x : Slot) : x.replyFull = decide (2 ^ x.rings.rplOrder ≤ x.outstanding) := rfl

/-- How many of `k` packets the reply ring has entries for. -/
def Slot.takes (x : Slot) (k : Nat) : Nat := Nat.min (2 ^ x.rings.rplOrder - x.outstanding) k

theorem Slot.takes_full {x : Slot} (hfull : x.replyFull = true) (k : Nat) : x.takes k = 0 := by
  have hno : 2 ^ x.rings.rplOrder - x.outstanding = 0 := by simpa [Slot.replyFull_iff, Nat.sub_eq_zero_iff_le] using hfull
  rw [Slot.takes, hno]
  exact Nat.zero_min k

theorem Slot.takes_succ {x y : Slot} (hroom : x.replyFull = false) (hrings : y.rings = x.rings) (hnext : y.outstanding = x.outstanding + 1) (k : Nat) : x.takes (k + 1) = y.takes k + 1 := by
  have hlt : x.outstanding < 2 ^ x.rings.rplOrder := by simpa [Slot.replyFull_iff] using hroom
  simp only [Slot.takes, hrings, hnext, Nat.min_def]
  split <;> split <;> omega

theorem incWrap_lt (x : Nat) : incWrap 32 x < 2 ^ 32 := Nat.mod_lt _ (Nat.two_pow_pos 32)

theorem eq_wrap {x : Nat} (hx : x < 2 ^ 32) : x = (x + 0) % 2 ^ 32 := by omega

theorem incWrap_add (x k : Nat) : (incWrap 32 x + k) % 2 ^ 32 = (x + (k + 1)) % 2 ^ 32 := by
  simp only [incWrap]
  omega

/-- Packets take the free entries of the reply ring in order; the rest is held. -/
theorem HostIf.foldl_post {h : HostIf} (w : h.Sorted) {i : Nat} {x : Slot} (hx : tget {} h.slots i = x) (horder : x.rings.rplOrder ≤ 8) (hprod : x.rplProd < 2 ^ 32)
    (hcons : x.rplCons < 2 ^ 32) (hnone : x.held = []) (cs : List HeldReply) :
    (tget {} (cs.foldl (fun (g : HostIf) c => g.post i false c) h).slots i).held = cs.drop (x.takes cs.length) ∧
    (tget {} (cs.foldl (fun (g : HostIf) c => g.post i false c) h).slots i).rplProd = (x.rplProd + x.takes cs.length) % 2 ^ 32 := by
  induction cs generalizing h x with
  | nil =>
    have hno : x.takes 0 = 0 := Nat.min_zero _
    rw [List.foldl_nil, hx, List.length_nil, hno]
    exact ⟨hnone, eq_wrap hprod⟩
  | cons c cs ih =>
    cases hfull : x.replyFull
    · obtain ⟨y, hy⟩ : ∃ y : Slot, y = { x with sent := c.reply.packet i 2 c.key, rplProd := incWrap 32 x.rplProd } := ⟨_, rfl⟩
      have hslot : tget {} (h.post i false c).slots i = y := by simp [HostIf.post_slot w, Slot.posted, hx, hfull, hy]
      have hsize : 2 ^ x.rings.rplOrder ≤ 2 ^ 8 := Nat.pow_le_pow_right (by omega) horder
      have hlt : x.outstanding < 2 ^ x.rings.rplOrder := by simpa [Slot.replyFull_iff] using hfull
      have hnext : y.outstanding = x.outstanding + 1 := hy ▸ Slot.outstanding_succ hprod hcons (by omega) _
      have hindex : y.rplProd = incWrap 32 x.rplProd := by rw [hy]
      have hfields : y.rings = x.rings ∧ y.rplCons = x.rplCons ∧ y.held = x.held := by rw [hy]; exact ⟨rfl, rfl, rfl⟩
      obtain ⟨hrings, hconsumer, hheld⟩ := hfields
      obtain ⟨hrest, htaken⟩ := ih (HostIf.post_sorted w _ _ _) hslot (hrings ▸ horder) (hindex ▸ incWrap_lt _) (hconsumer ▸ hcons) (hheld.trans hnone)
      rw [List.foldl_cons, List.length_cons, Slot.takes_succ hfull hrings hnext, List.drop_succ_cons, htaken, hindex]
      exact ⟨hrest, incWrap_add _ _⟩
    · rw [HostIf.foldl_post_full w (by rw [hx]; exact hfull), hx, Slot.takes_full hfull]
      exact ⟨by simp [hnone], eq_wrap hprod⟩

/-- What a slot holds takes the entries that free, each with the rights generation now in force. -/
theorem HostIf.flush_slot {h : HostIf} (w : h.Sorted) {i : Nat} {x : Slot} (hx : tget {} h.slots i = x) (horder : x.rings.rplOrder ≤ 8) (hprod : x.rplProd < 2 ^ 32) (hcons : x.rplCons < 2 ^ 32) :
    (tget {} (h.flush i).slots i).held = (x.held.drop (x.takes x.held.length)).map (fun c => c.now x.gen) ∧
    (tget {} (h.flush i).slots i).rplProd = (x.rplProd + x.takes x.held.length) % 2 ^ 32 := by
  have hposted := HostIf.foldl_post (HostIf.set_sorted w i { x with held := [] }) (i := i) (tget_tset_self w.1) horder hprod hcons rfl (x.held.map (fun c => c.now x.gen))
  rw [List.foldl_map, List.length_map] at hposted
  simp only [HostIf.flush, hx, List.map_drop]
  exact hposted

/-- A single reply that is held takes the entry that frees, with the rights generation now in force. -/
theorem HostIf.flush_sends {h : HostIf} (w : h.Sorted) {i : Nat} {x : Slot} {c : HeldReply} (hx : tget {} h.slots i = x) (hheld : x.held = [c]) (hroom : x.replyFull = false)
    (hwb : x.rings.wb ≠ x.replyAddr x.rplProd) :
    (tget {} (h.flush i).slots i).held = [] ∧ (tget {} (h.flush i).slots i).sent = (c.now x.gen).reply.packet i 2 (c.now x.gen).key ∧
    (tget {} (h.flush i).slots i).rplProd = incWrap 32 x.rplProd ∧ tget [] (h.flush i).mem (x.replyAddr x.rplProd) = (c.now x.gen).reply.packet i 2 (c.now x.gen).key := by
  have hflush : h.flush i = ({ h with slots := tset {} h.slots i { x with held := [] } } : HostIf).post i false (c.now x.gen) := by
    simp only [HostIf.flush, hx, hheld, List.foldl_cons, List.foldl_nil]
  have wt := HostIf.set_sorted w i { x with held := [] }
  have hself := HostIf.post_slot wt i false (c.now x.gen)
  have hmem := HostIf.post_mem _ i wt.1 false (c.now x.gen)
  have hposted : ({ x with held := [] } : Slot).replyFull = false := hroom
  rw [tget_tset_self w.1] at hself hmem
  simp only [Slot.posted, hposted, Bool.false_eq_true, if_false] at hself hmem
  rw [hflush, hself, hmem]
  exact ⟨rfl, rfl, rfl, (tget_tset_ne (Ne.symm hwb) (twf_tset _ _ w.2)).trans (tget_tset_self w.2)⟩

/-- A packet leaves its slot open. -/
theorem HostIf.post_open {h : HostIf} {i : Nat} (hopen : (tget {} h.slots i).phase ≠ .closed) (udp : Bool) (c : HeldReply) : (tget {} (h.post i udp c).slots i).phase ≠ .closed := by
  have hphase : ((tget {} h.slots i).posted i udp c).phase = (tget {} h.slots i).phase := by
    simp only [Slot.posted]
    split_ifs <;> rfl
  have hset := h.set_phase hopen hphase i
  rw [HostIf.post_slots]
  exact hset ▸ hopen

/-- A live slot that an event concerns. -/
theorem Slot.told_forced {x : Slot} (hopen : x.phase ≠ .closed) (i : Nat) (r : EvRec) : x.told i true r = (x.deliver i r).1 := by
  simp [Slot.told, hopen]

/-- A PCIe slot whose event ring has space. -/
theorem Slot.deliver_space {x : Slot} (hpcie : x.phase = .pcie) (hspace : (x.evqProd + 2 ^ 32 - x.evqCons) % 2 ^ 32 < 2 ^ x.rings.evqOrder) (i : Nat) (r : EvRec) :
    (x.deliver i r).1.evqCons = x.evqCons ∧ (x.deliver i r).1.dropped = x.dropped ∧ (x.deliver i r).1.evqProd = incWrap 32 x.evqProd := by
  simp only [Slot.deliver, hpcie, if_neg (Nat.not_le.mpr hspace)]
  exact ⟨trivial, trivial, trivial⟩

/-- Settles O18: reads leave the block, indices that go forwards free entries as `HostIf.foldl_post` says, and the overflow event follows. -/
theorem slotReadsAndIndices : Obligations.SlotReadsAndIndices := by
  unfold Obligations.SlotReadsAndIndices
  have hmod {index : Nat} (hx : index < 2 ^ 32) : index % 2 ^ 32 = index := Nat.mod_eq_of_lt hx
  have hrpl {i index : Nat} (s : State) (hi : i < 8) (hx : index < 2 ^ 32) : exec (.hsRplCons i index) s = .next (if backwards (s.slot i).rplCons index then
      s.modSlot i (fun x => { x with malformed := incSat 32 x.malformed }) else let t := s.modSlot i (fun x => { x with rplCons := index }); { t with hs := t.hs.flush i }) := by
    have hopen : ¬ 8 ≤ i := by omega
    simp only [exec, execHsRplCons, if_neg hopen, doHsRplCons, hmod hx]
  have hevq {i index : Nat} (s : State) (hi : i < 8) (hx : index < 2 ^ 32) : exec (.hsEvqCons i index) s = .next (if backwards (s.slot i).evqCons index then
      s.modSlot i (fun x => { x with malformed := incSat 32 x.malformed }) else (s.modSlot i (fun x => { x with evqCons := index })).overflowEvent i) := by
    have hopen : ¬ 8 ≤ i := by omega
    simp only [exec, execHsEvqCons, if_neg hopen, doHsEvqCons, hmod hx]
  refine ⟨?status, ?fetch, ?noneHeld, ?oneHeld, ?back, ?noneDropped, ?moderation, ?resend, ?held, ?evBack, ?overflow, ?noSpace⟩
  case status =>
    intro h resend tag s hr hnone
    refine answers_same (f := slotStatusRead h.slot h.udp resend tag) rfl hr rfl ?_
    have hno : (if resend ≠ 0 ∧ (s.slot h.slot).live then s.hs.resend h.slot h.udp (tag % 65536) else (s.hs, false)) = (s.hs, false) := by
      rcases hnone with hzero | hnone
      · simp [hzero]
      · have hnot : s.hs.resend h.slot h.udp (tag % 65536) = (s.hs, false) := by
          simp only [HostIf.resend]
          rw [show tget none (tget {} s.hs.slots h.slot).replies (tag % 65536) = none from hnone]
        simp [hnot]
    simp only [slotStatusRead, hno]
    rfl
  case fetch => exact fun h start max s hr => answers_same (f := eventFetch h.slot h.udp start max) rfl hr rfl rfl
  case noneHeld =>
    intro i index s hi hx w hfwd hnone
    have hheld : ((s.modSlot i (fun x => { x with rplCons := index })).slot i).held = [] := by rw [State.modSlot_slot_self w]; exact hnone
    rw [hrpl s hi hx, if_neg (by simp [hfwd])]
    exact congrArg _ (State.flush_empty (State.modSlot_sorted w i _) hheld)
  case oneHeld =>
    intro i index c s hi hx w hfwd hheld huse hroom hwb
    have hslot : tget {} (s.modSlot i (fun x => { x with rplCons := index })).hs.slots i = { s.slot i with rplCons := index } := State.modSlot_slot_self w i _
    have hsends := HostIf.flush_sends (State.modSlot_sorted w i _) hslot hheld hroom hwb
    have hnow : c.now (s.slot i).gen = { c with reply := { c.reply with gen := (s.slot i).gen } } := by simp [HeldReply.now, huse]
    rw [hnow] at hsends
    rw [hrpl s hi hx, if_neg (by simp [hfwd])]
    exact ⟨_, rfl, rfl, hsends⟩
  case back =>
    intro i index s hi hx hback
    rw [hrpl s hi hx, if_pos hback]
  case noneDropped =>
    intro i index s hi hx w hfwd hnone
    have hdropped : ((s.modSlot i (fun x => { x with evqCons := index })).slot i).dropped = 0 := by rw [State.modSlot_slot_self w]; exact hnone
    rw [hevq s hi hx, if_neg (by simp [hfwd]), State.overflowEvent]
    simp [hdropped]
  case moderation =>
    intro v s hv hpending hleft
    have hvector : ¬ 17 ≤ v := by omega
    simp [exec, execMsiModerationEnd, doMsiModerationEnd, hvector, hpending, hleft]
  case resend =>
    intro h resend tag r s hr hne hkept
    have hopen : (s.slot h.slot).live = true := by simpa [Slot.live] using hr.2
    refine answers_open (f := slotStatusRead h.slot h.udp resend tag) rfl hr ?_ ?_
    · have hkeeps (y : Slot) (hy : y.phase = (s.slot h.slot).phase) : (tget {} (tset {} s.hs.slots h.slot y) h.slot).phase ≠ .closed := by
        rw [s.hs.set_phase hr.2 hy]
        exact hr.2
      exact HostIf.post_open (hkeeps { s.slot h.slot with devSeq := incWrap 32 (s.slot h.slot).devSeq, lastReply := some { r with seq := (s.slot h.slot).devSeq } } rfl) _ _
    · have hfound : tget none (tget {} s.hs.slots h.slot).replies (tag % 65536) = some r := hkept
      simp only [slotStatusRead, hne, ne_eq, not_false_eq_true, hopen, and_self, if_true, HostIf.resend, hfound]
      rfl
  case held =>
    intro i index s hi hx w hfwd horder hprod
    have hslot : tget {} (s.modSlot i (fun x => { x with rplCons := index })).hs.slots i = { s.slot i with rplCons := index } := State.modSlot_slot_self w i _
    obtain ⟨hheld, htaken⟩ := HostIf.flush_slot (State.modSlot_sorted w i _) hslot horder hprod hx
    rw [hrpl s hi hx, if_neg (by simp [hfwd])]
    exact ⟨_, rfl, rfl, hheld, htaken⟩
  case evBack =>
    intro i index s hi hx hback
    rw [hevq s hi hx, if_pos hback]
  case overflow =>
    intro i index s hi hx w hfwd hpcie hdropped hshed hspace
    have hslot := State.modSlot_slot_self w i (fun x => { x with evqCons := index })
    rw [hevq s hi hx, if_neg (by simp [hfwd]), State.overflowEvent, hslot]
    simp only [hpcie, hdropped, hspace, and_self, if_true, State.modSlot_modSlot w]
    have htaken := State.modSlot_slot_self w i (fun x => { x with evqCons := index, dropped := 0 })
    have htold := State.publish_slot (s := s.modSlot i (fun x => { x with evqCons := index, dropped := 0 })) (State.modSlot_sorted w i _) hshed
      { kind := .eventOverflow, unit := noUnit, detail := (s.slot i).dropped } (fun j => decide (j = i)) hi
    rw [htaken, decide_eq_true rfl, Slot.told_forced (by simp [hpcie])] at htold
    obtain ⟨hcons, hgone, hprod⟩ := Slot.deliver_space (x := { s.slot i with evqCons := index, dropped := 0 }) hpcie hspace i _
    exact ⟨_, rfl, (congrArg Slot.evqCons htold).trans hcons, (congrArg Slot.dropped htold).trans hgone, (congrArg Slot.evqProd htold).trans hprod, rfl⟩
  case noSpace =>
    intro i index s hi hx w hfwd hfull
    rw [hevq s hi hx, if_neg (by simp [hfwd]), State.overflowEvent, State.modSlot_slot_self w, if_neg]
    rintro ⟨-, -, hspace⟩
    exact absurd hspace (Nat.not_lt.mpr hfull)

end Sys2Proof.Machine
end

section
/-! SUPPORT. Slots that are lost, and how commands arrive (R400, R402, R406 to R412). -/

namespace Sys2Proof.Machine
open Sys2Proof

/-- Settles O19: each row's condition holds or fails, and its effect is the one it names. -/
theorem slotsLostAndPortAnswers : Obligations.SlotsLostAndPortAnswers := by
  unfold Obligations.SlotsLostAndPortAnswers
  refine ⟨fun i s hi hout => ?lost, fun s => rfl, fun i s hi hout => ?expired, fun port target vlan s hport => ?arp, fun port dst vlan ident seq s hport => ?echo⟩
  case lost =>
    have hslot : ¬ 8 ≤ i := by omega
    simp only [exec, execSlotLost, doSlotLost, if_neg hslot, hout, if_true]
  case expired =>
    have hslot : ¬ 8 ≤ i := by omega
    simp only [exec, execGrantExpiry, doGrantExpiry, if_neg hslot, hout, if_true]
  case arp =>
    have hunit : ¬ 2 ≤ port := by omega
    simp only [exec, execArp, doArp, if_neg hunit]
  case echo =>
    have hunit : ¬ 2 ≤ port := by omega
    simp only [exec, execIcmpEcho, doIcmpEcho, if_neg hunit]

/-! ### How commands arrive (R402, R406, R407, R409, R410) -/

/-- A producer index that goes forwards: the entries it announces wait. -/
def State.announced (s : State) (i index : Nat) (es : List (List Nat)) : State :=
  s.modSlot i (fun x => { x with cmdProd := index % pow32, ringWait := if x.rings.valid then x.ringWait ++ es.take (Nat.min ((index + pow32 - (s.slot i).cmdProd) % pow32) (2 ^ (s.slot i).rings.cmdOrder)) else x.ringWait })

theorem exec_hsCmdProd {i : Nat} (hi : i < 8) (index : Nat) (es : List (List Nat)) (s : State) : exec (.hsCmdProd i index es) s = .next (if backwards (s.slot i).cmdProd (index % pow32) then
    s.modSlot i (fun x => { x with malformed := incSat 32 x.malformed }) else if (s.announced i index es).answers then (s.announced i index es).pumpRing i else s.announced i index es) := by
  simp only [exec, execHsCmdProd, if_neg (Nat.not_le.mpr hi)]
  rfl

theorem exec_udpDatagram {port : Nat} (hport : port < 2) (peer dst vlan : Nat) (fragment : Bool) (bytes : List Nat) (s : State) :
    exec (.udpDatagram port peer dst vlan fragment bytes) s = .next (doUdpDatagram port peer dst vlan fragment bytes s) := by
  simp only [exec, execUdpDatagram, if_neg (Nat.not_le.mpr hport)]

/-- A whole datagram for the port, while a keystone answers. -/
theorem doUdpDatagram_taken {port dst vlan : Nat} {bytes : List Nat} {s : State} (hport : s.portIs port dst vlan = true) (hlen : bytes.length ≤ 1472) (hans : s.answers = true) (peer : Nat) :
    doUdpDatagram port peer dst vlan false bytes s = s.takePacket true 0 peer bytes := by
  simp [doUdpDatagram, hport, hans, Nat.not_lt.mpr hlen]

/-- Step 1 of R407 fails. -/
theorem State.takePacket_malformed {bs : List Nat} (hbad : bs.length < 32 ∨ (Pkt.parse bs).magic ≠ 0x4F48 ∨ (Pkt.parse bs).kind ≠ 1) (s : State) (udp : Bool) (ring peer : Nat) :
    s.takePacket udp ring peer bs = if udp then { s with hs := { s.hs with malformed := incSat 32 s.hs.malformed } } else s.countStep ring 1 false := by
  simp only [State.takePacket, if_pos hbad]

/-- The header of a packet's replies. -/
def Pkt.hdr (p : Pkt) (udp : Bool) (ring peer : Nat) : Hdr := { slot := if udp then p.slot else ring, tag := p.tag, gen := p.gen, udp := udp, auth := p.auth, peer := peer }

/-- A step that fails: it is counted, and answered where the packet came over PCIe. -/
def State.failsAt (s : State) (h : Hdr) (op k : Nat) (a : Ans) : State :=
  if h.udp = true then s.countStep h.slot k true else (s.countStep h.slot k false).writeReply h op 0 a .refusal

theorem State.failsAt_eq (s : State) (h : Hdr) (op k : Nat) (a : Ans) : (if h.udp = true then s.countStep h.slot k true else s.refuseStep h op k a) = s.failsAt h op k a := by
  cases hudp : h.udp <;> simp [State.failsAt, State.refuseStep, hudp]

/-- Steps 2 to 5 of R407. -/
def State.packetSteps (s : State) (p : Pkt) (udp : Bool) (ring peer len : Nat) : State :=
  if p.version ≠ 1 then s.failsAt (p.hdr udp ring peer) p.opcode 2 { status := stBadVersion }
  else if !s.bound udp ring peer p then s.failsAt (p.hdr udp ring peer) p.opcode 3 (refuseAns stBadParam p.opcode 255 p.slot)
  else if !s.trailerOk udp (p.hdr udp ring peer).slot p len then s.failsAt (p.hdr udp ring peer) p.opcode 4 { status := stAuth }
  else if !(s.slot (p.hdr udp ring peer).slot).fresh p.seq then s.countStep (p.hdr udp ring peer).slot 5 udp
  else (s.modSlot (p.hdr udp ring peer).slot (fun x => x.consume p.seq)).checkCmd (p.hdr udp ring peer) p (s.bootOpen udp p)

/-- A packet that step 1 lets pass. -/
theorem State.takePacket_wellFormed {bs : List Nat} {p : Pkt} (hlen : 32 ≤ bs.length) (hparse : Pkt.parse bs = p) (hmagic : p.magic = 0x4F48) (hkind : p.kind = 1) (s : State) (udp : Bool) (ring peer : Nat) :
    s.takePacket udp ring peer bs = s.packetSteps p udp ring peer bs.length := by
  have hgood : ¬ (bs.length < 32 ∨ p.magic ≠ 0x4F48 ∨ p.kind ≠ 1) := by simp [hmagic, hkind, hlen]
  simp only [State.takePacket, hparse, if_neg hgood, State.packetSteps, ← State.failsAt_eq]
  rfl

section
variable (s : State) {p : Pkt} {udp : Bool} {ring peer len : Nat}

theorem State.packetSteps_version (hver : p.version ≠ 1) : s.packetSteps p udp ring peer len = s.failsAt (p.hdr udp ring peer) p.opcode 2 { status := stBadVersion } := by
  rw [State.packetSteps, if_pos hver]

theorem State.packetSteps_bound (hver : p.version = 1) (hbound : s.bound udp ring peer p = false) :
    s.packetSteps p udp ring peer len = s.failsAt (p.hdr udp ring peer) p.opcode 3 (refuseAns stBadParam p.opcode 255 p.slot) := by
  rw [State.packetSteps, if_neg (by simp [hver]), if_pos (by simp [hbound])]

theorem State.packetSteps_trailer (hver : p.version = 1) (hbound : s.bound udp ring peer p = true) (htrailer : s.trailerOk udp (p.hdr udp ring peer).slot p len = false) :
    s.packetSteps p udp ring peer len = s.failsAt (p.hdr udp ring peer) p.opcode 4 { status := stAuth } := by
  rw [State.packetSteps, if_neg (by simp [hver]), if_neg (by simp [hbound]), if_pos (by simp [htrailer])]

theorem State.packetSteps_stale (hver : p.version = 1) (hbound : s.bound udp ring peer p = true) (htrailer : s.trailerOk udp (p.hdr udp ring peer).slot p len = true)
    (hstale : (s.slot (p.hdr udp ring peer).slot).fresh p.seq = false) : s.packetSteps p udp ring peer len = s.countStep (p.hdr udp ring peer).slot 5 udp := by
  rw [State.packetSteps, if_neg (by simp [hver]), if_neg (by simp [hbound]), if_neg (by simp [htrailer]), if_pos (by simp [hstale])]

theorem State.packetSteps_fresh (hver : p.version = 1) (hbound : s.bound udp ring peer p = true) (htrailer : s.trailerOk udp (p.hdr udp ring peer).slot p len = true)
    (hfresh : (s.slot (p.hdr udp ring peer).slot).fresh p.seq = true) : s.packetSteps p udp ring peer len =
      (s.modSlot (p.hdr udp ring peer).slot (fun x => x.consume p.seq)).checkCmd (p.hdr udp ring peer) p (s.bootOpen udp p) := by
  rw [State.packetSteps, if_neg (by simp [hver]), if_neg (by simp [hbound]), if_neg (by simp [htrailer]), if_neg (by simp [hfresh])]

end

theorem Slot.fresh_iff (x : Slot) (seq : Nat) : x.fresh seq = true ↔ x.hiSeq < seq + 64 ∧ seq ∉ x.window := by simp [Slot.fresh]

theorem Slot.stale {x : Slot} {seq : Nat} (hold : seq + 64 ≤ x.hiSeq ∨ seq ∈ x.window) : x.fresh seq = false := by
  rw [← Bool.not_eq_true, Slot.fresh_iff]
  rintro ⟨hhigh, hnew⟩
  rcases hold with hlow | hseen
  · omega
  · exact hnew hseen

theorem Slot.openOn_iff (x : Slot) (udp : Bool) : x.openOn udp = true ↔ x.phase = (if udp = true then SlotPhase.udp else SlotPhase.pcie) := by simp [Slot.openOn]

section
variable {h : Hdr} {p : Pkt} {boot : Bool} {s : State}

/-- Step 8 of R407 is reached. -/
theorem State.checkCmd_row (hin : p.opcode = 0x0E01 ∨ ((s.slot h.slot).openOn h.udp = true ∧ p.gen = (s.slot h.slot).gen)) :
    s.checkCmd h p boot = match opRow p.opcode with
    | none => s.refuseStep h p.opcode 8 { status := stBadOpcode }
    | some r =>
      if (match r.right with | some k => !(s.slot h.slot).rights.testBit k | none => false) then s.refuseStep h p.opcode 9 { status := stDenied }
      else match (if p.params.length = p.plen ∧ p.plen ≤ (if h.udp then 1424 else 4048) then parseCmd h boot p.opcode p.params else none) with
        | none => s.refuseStep h p.opcode 10 { status := stBadLength }
        | some c =>
          if s.tagOut h.slot p.tag then (if h.udp then s.countStep h.slot 11 true else s.refuseStep h p.opcode 11 (refuseAns stBadParam p.opcode 255 p.tag))
          else s.admitCmd h p.opcode r.cost c := by
  have h6 : ¬ (p.opcode ≠ 0x0E01 ∧ ¬ (s.slot h.slot).openOn h.udp = true) := by rintro ⟨hop, hnot⟩; rcases hin with heq | ⟨hopen, -⟩; exacts [hop heq, hnot hopen]
  have h7 : ¬ (p.opcode ≠ 0x0E01 ∧ p.gen ≠ (s.slot h.slot).gen) := by rintro ⟨hop, hnot⟩; rcases hin with heq | ⟨-, hgen⟩; exacts [hop heq, hnot hgen]
  simp only [State.checkCmd, if_neg h6, if_neg h7] <;> rfl

end

/-- Settles O60: an announced entry or datagram goes through `takePacket`, `checkCmd` and `admitCmd`, whose steps fail in the order of R407. -/
theorem arrivalRows : Obligations.ArrivalRows := by
  unfold Obligations.ArrivalRows
  refine ⟨?backwards, ?waits, ?index, ?taken, ?dropped, ?short, ?datagram, ?queued, ?malformed, ?packet, fun i k udp s => rfl, ?checked, ?admitted⟩
  case backwards =>
    intro i index es s hi hback
    rw [exec_hsCmdProd hi, if_pos hback]
    rfl
  case waits =>
    intro i index es s hi hfwd hnone
    have hsilent : (s.announced i index es).answers = false := hnone
    rw [exec_hsCmdProd hi, if_neg (by simp [hfwd]), if_neg (by simp [hsilent])]
    rfl
  case index =>
    intro i index s hi w hfwd hempty
    have hslot : (s.announced i index []).slot i = { s.slot i with cmdProd := index % pow32, ringWait := [] } := by
      rw [State.announced, State.modSlot_slot_self w]
      simp [hempty]
    have ws : SlotsInv (s.announced i index []) := State.modSlot_sorted w i _
    rw [exec_hsCmdProd hi, if_neg (by simp [hfwd])]
    cases hans : s.answers
    · have hsilent : (s.announced i index []).answers = false := hans
      rw [if_neg (by simp [hsilent])]
      exact ⟨_, rfl, congrArg Slot.cmdProd hslot, congrArg Slot.ringWait hslot, by simp, rfl⟩
    · have hanswers : (s.announced i index []).answers = true := hans
      have hpumped := State.modSlot_slot_self ws i (fun x => { x with ringWait := [], cmdCons := x.cmdProd })
      rw [hslot] at hpumped
      rw [if_pos hanswers, State.pumpRing, hslot]
      exact ⟨_, rfl, congrArg Slot.cmdProd hpumped, congrArg Slot.ringWait hpumped, fun _ => congrArg Slot.cmdCons hpumped, rfl⟩
  case taken =>
    intro i index es s hi hfwd hans
    have hanswers : (s.announced i index es).answers = true := hans
    rw [exec_hsCmdProd hi, if_neg (by simp [hfwd]), if_pos hanswers]
    rfl
  case dropped =>
    intro port peer dst vlan frag bytes s hport hno
    rw [exec_udpDatagram hport]
    rcases hno with hno | hno | hno | hno <;> simp [doUdpDatagram, hno]
  case short =>
    intro port peer dst vlan bytes s hport his hlen hans hshort
    rw [exec_udpDatagram hport, doUdpDatagram_taken his hlen hans, State.takePacket_malformed (.inl hshort)]
    rfl
  case datagram =>
    intro port peer dst vlan bytes s hport his hlen hans
    rw [exec_udpDatagram hport, doUdpDatagram_taken his hlen hans]
  case queued =>
    intro i op cost h c s hi hcost hbucket hqueue
    subst hi
    simp only [State.admitCmd, if_neg hcost, if_neg (Nat.not_lt.mpr hbucket), if_neg (Nat.not_le.mpr hqueue)]
    rfl
  case malformed =>
    intro ring peer bs s hbad
    refine ⟨s.takePacket_malformed hbad true 0 peer, (s.takePacket_malformed hbad false ring peer).trans ?_⟩
    simp [State.countStep, State.modSlot]
  case packet =>
    intro udp ring peer bs s hlen hmagic hkind
    have hsteps := s.takePacket_wellFormed hlen rfl hmagic hkind udp ring peer
    refine ⟨fun hver => ?_, fun hver hbound => ?_, fun hver hbound htrailer => ?_, fun hver hbound htrailer => ⟨fun hold => ?_, fun hhigh hnew => ?_⟩⟩
    · exact hsteps.trans (s.packetSteps_version hver)
    · exact hsteps.trans (s.packetSteps_bound hver hbound)
    · exact hsteps.trans (s.packetSteps_trailer hver hbound htrailer)
    · exact hsteps.trans (s.packetSteps_stale hver hbound htrailer (Slot.stale hold))
    · exact hsteps.trans (s.packetSteps_fresh hver hbound htrailer ((Slot.fresh_iff _ _).mpr ⟨hhigh, hnew⟩))
  case checked =>
    intro h p boot s
    dsimp only
    refine ⟨fun hop hclosed => ?_, fun hop hopen hgen => ?_, fun hin => ?_⟩
    · rw [← Slot.openOn_iff] at hclosed
      simp only [State.checkCmd, if_pos (And.intro hop hclosed)]
      rfl
    · rw [← Slot.openOn_iff] at hopen
      simp only [State.checkCmd, hop, hopen, hgen, not_true_eq_false, and_false, if_false, ne_eq, not_false_eq_true, and_self, if_true]
      rfl
    · rw [← Slot.openOn_iff] at hin
      rw [State.checkCmd_row hin]
      refine ⟨fun hrow => by rw [hrow]; rfl, fun r hrow => ⟨fun k hk hdenied => ?_, fun hright => ?_⟩⟩
      · rw [hrow]
        simp only [hk, hdenied, Bool.not_false, if_true]
        rfl
      · have hgranted : (match r.right with | some k => !(s.slot h.slot).rights.testBit k | none => false) = false := by
          cases hk : r.right with
          | none => rfl
          | some k => simp [hright k hk]
        rw [hrow]
        simp only [hgranted, Bool.false_eq_true, if_false]
        refine ⟨fun hbad => ?_, fun c hlen hfit hparse => ⟨fun hout => ?_, fun hfree => ?_⟩⟩
        · have hnone : (if p.params.length = p.plen ∧ p.plen ≤ (if h.udp then 1424 else 4048) then parseCmd h boot p.opcode p.params else none) = none := by
            rw [ite_eq_right_iff]
            rintro ⟨hlen, hfit⟩
            rcases hbad with hother | hlong | hnone
            · exact absurd hlen hother
            · exact absurd hfit (Nat.not_le.mpr hlong)
            · exact hnone
          rw [hnone]
          rfl
        · simp only [hlen, hfit, hparse, and_self, if_true, hout]
          rfl
        · simp only [hlen, hfit, hparse, and_self, if_true, hfree, Bool.false_eq_true, if_false]
  case admitted =>
    intro h op cost c s
    dsimp only
    refine ⟨fun hzero => ?_, fun hpoor => ?_, fun hcost hbucket hqueue => ?_⟩
    · simp only [State.admitCmd, if_pos hzero]
      rfl
    · have hcost : cost ≠ 0 := by rintro rfl; omega
      simp only [State.admitCmd, if_neg hcost, if_pos hpoor]
      rfl
    · simp only [State.admitCmd, if_neg hcost, if_neg (Nat.not_lt.mpr hbucket), if_pos hqueue]
      rfl

end Sys2Proof.Machine
end

section
/-! SUPPORT. The start, the safe stop and the resets, and the supply of the footing (R324, R339 to R372, R505). -/

namespace Sys2Proof.Machine
open Sys2Proof

/-! ### The start's commands (R324, R333, R335, R337, R430) -/

section
variable {s : State} {b : Nat}

theorem startRestoreSkip_taken (hb : b < s.nBays) (hphase : (s.bayStart b).phase = .restoring ∨ ((s.bayStart b).phase = .held ∧ (s.bayStart b).reason = 3)) :
    startRestoreSkip (bayUid b) s = ({ s with st := { s.st with bays := tmod {} s.st.bays b (fun x => { x with skipDue := true }) } }, okAns) := by
  have hskip : ((s.bayStart b).phase == .restoring || ((s.bayStart b).phase == .held && (s.bayStart b).reason == 3)) = true := by simpa using hphase
  simp only [startRestoreSkip, checkLevel_bay s.nBays_le hb, hskip, ne_eq, not_true_eq_false, Bool.not_true, Bool.false_eq_true, if_false]

theorem baySync_taken (hb : b < s.nBays) (hphase : (s.bayStart b).phase = .ready ∨ ((s.bayStart b).phase = .energised ∧ (s.bayStart b).opened = true)) (hnone : s.st.sync = none)
    (halone : ∀ k < s.nBays, (s.bayStart k).syncDue = false) (hok : s.enableOk b = true) (hgrid : s.tb.target = .grid) (hslew : s.tb.slewing = false) (hv : one22 / 2 ≤ s.vBar b) :
    baySync (bayUid b) s = ({ s with st := { s.st with bays := tmod {} s.st.bays b (fun x => { x with syncDue := true }) } }, acceptedAns) := by
  have hstart : ((s.bayStart b).phase == .ready || ((s.bayStart b).phase == .energised && (s.bayStart b).opened)) = true := by simpa using hphase
  have hothers : s.allBays.any (fun k => (s.bayStart k).syncDue) = false := by simpa [State.allBays] using halone
  have hvolts : ¬ s.vBar b < one22 / 2 := not_lt.mpr hv
  simp [baySync, checkLevel_bay s.nBays_le hb, hstart, hnone, hothers, hok, hgrid, hslew, hvolts]

theorem bayExclude_taken (hb : b < s.nBays) (hphase : (s.bayStart b).phase ≠ .energised) :
    bayExclude (bayUid b) s = ({ s with st := { s.st with bays := tmod {} s.st.bays b (fun x => { x with exclDue := true }) } }, okAns) := by
  simp only [bayExclude, checkLevel_bay s.nBays_le hb, if_neg hphase, ne_eq, not_true_eq_false, if_false]

end

/-- Settles O22: each command passes its checks, as `…_taken` says of the last three. -/
theorem startCommands : Obligations.StartCommands := by
  unfold Obligations.StartCommands
  refine ⟨fun h s hr => answers_same rfl hr rfl rfl, fun h first count s hr hone hmax hfit => ?_, fun h b s hr hb hphase => ?_, fun h b s hr hb hphase hnone halone hok hgrid hslew hv => ?_,
    fun h b s hr hb hphase => ?_⟩
  · refine answers_same (f := startStatusRead first count) rfl hr rfl ?_
    have hgood : ¬ (count = 0 ∨ 144 < count ∨ s.nBays < first + count) := by omega
    simp only [startStatusRead, if_neg hgood]
  · exact answersJ_same rfl hr rfl (.inl rfl) (startRestoreSkip_taken hb hphase)
  · exact answersJ_same rfl hr rfl (.inr rfl) (baySync_taken hb hphase hnone halone hok hgrid hslew hv)
  · exact answersJ_same rfl hr rfl (.inl rfl) (bayExclude_taken hb hphase)

/-! ### The safe stop (R339 to R344, R430) -/

section
variable {s : State}

theorem State.stopping_iff : s.stopping = true ↔ s.st.stopPhase = 1 ∨ s.st.stopPhase = 2 := by simp [State.stopping]

theorem setBit_zero (k : Nat) : setBit 0 k true = 2 ^ k := by simp [setBit]

variable (cause : Nat) (immediate reset noFlush : Bool)

/-- A further cause joins the stop that runs. -/
theorem State.startStop_joins (hrun : s.stopping = true) :
    s.startStop cause immediate reset noFlush = { s with st := { s.st with stopCauses := setBit s.st.stopCauses cause true, resetAfter := s.st.resetAfter || reset, noFlush := s.st.noFlush || noFlush, immediate := s.st.immediate || immediate, rampLeft := if immediate = true then 0 else s.st.rampLeft, resetBits := if reset = true then setBit s.st.resetBits (stopResetBit cause) true else s.st.resetBits } } := by
  simp only [State.startStop, if_pos (State.stopping_iff.mp hrun)]

/-- The first cause ends a synchronisation and starts the ramp, with the tiles where they carry it. -/
theorem State.startStop_starts (hrun : s.stopping = false) :
    s.startStop cause immediate reset noFlush =
      { s.endSync 0 with
        st := { (s.endSync 0).st with stopPhase := 1, stopCauses := 2 ^ cause, rampLeft := if immediate = true then 0 else 8000, resetAfter := reset, immediate := immediate, noFlush := noFlush,
                                      flushDue := false, resetBits := if reset = true then 2 ^ stopResetBit cause else 0 }
        rd := if (s.ksLive = false ∨ s.rd.flywheel = true) ∧ immediate = false then { (s.endSync 0).rd with stopRamp := true, ramp := true, rampTicks := if (s.endSync 0).rd.ramp = true then (s.endSync 0).rd.rampTicks else 0 } else (s.endSync 0).rd } := by
  have hidle : ¬ (s.st.stopPhase = 1 ∨ s.st.stopPhase = 2) := by rw [← State.stopping_iff]; simp [hrun]
  have hcarry : ((!s.ksLive || s.rd.flywheel) && !immediate) = true ↔ (s.ksLive = false ∨ s.rd.flywheel = true) ∧ immediate = false := by simp
  simp only [State.startStop, if_neg hidle, setBit_zero, hcarry]

theorem State.endSync_none (reason : Nat) (hnone : s.st.sync = none) : s.endSync reason = s := by simp only [State.endSync, hnone]

end

@[simp] theorem State.raise_lgPhase (s : State) (e : Evt) : (s.raise e).lg.phase = s.lg.phase := by
  simp only [State.raise, State.raiseX, Ledger.mergeRecord]
  split_ifs <;> rfl

/-- A bay's start state once the device is STOPPED. -/
def BayStart.stopped (x : BayStart) : BayStart :=
  if x.phase ≠ .energised then x else if x.opened = true then { x with phase := .ready, reason := 0, age := 0, opened := false } else { x with stopFloat := true }

theorem State.stopDone_bays {s : State} (flushed : Bool) : (s.stopDone flushed).st.bays = tabMap {} (fun e => e.2.stopped) s.st.bays := by
  have hentry (e : Nat × BayStart) : (if e.2.phase = .energised then (e.1, if e.2.opened then { e.2 with phase := .ready, reason := 0, age := 0, opened := false } else { e.2 with stopFloat := true }) else e) = (e.1, e.2.stopped) := by
    by_cases hphase : e.2.phase = .energised
    · simp only [BayStart.stopped, hphase, if_true, ne_eq, not_true_eq_false, if_false]
    · simp only [BayStart.stopped, hphase, ne_eq, not_false_eq_true, if_true, if_false]
  simp only [State.stopDone, hentry]
  rfl

theorem State.stopDone_bayStart {s : State} (w : twf {} s.st.bays = true) (flushed : Bool) (b : Nat) : (s.stopDone flushed).bayStart b = (s.bayStart b).stopped := by
  rw [State.bayStart, State.stopDone_bays, tget_tabMap (fun _ => rfl) w]
  rfl

/-- DEVICE_RESET, where the device step allows it. -/
theorem exec_deviceReset {h : Hdr} {s : State} (hr : HostReady h 0x0109 s) (force : Nat) : exec (.deviceReset h force) s = .next (
    if s.anyEnergised = true ∧ force = 0 then s.host h 0x0109 (fun t => (t, refuseAns stState 0x0109 255 0))
    else if s.anyEnergised = true ∨ s.stopping = true then s.hostJ (.deviceReset h force) h 0x0109 (fun t => (t.startStop 1 false true false, acceptedAns))
    else (s.host h 0x0109 (fun t => (t, acceptedAns))).deviceReset 4) := by
  simp only [exec, execDeviceReset, doDeviceReset, hr.1, Bool.not_true, Bool.false_eq_true, if_false, Bool.or_eq_true]

/-- Settles O25: `startStop` joins or starts, `stopDone` maps the bays, and DEVICE_RESET has its three outcomes. -/
theorem safeStopRuns : Obligations.SafeStopRuns := by
  unfold Obligations.SafeStopRuns
  refine ⟨?command, ?floats, ?flush, ?ends, ?refused, ?joined, ?atOnce, ?starts, ?syncEnds, fun cause immediate reset noFlush s hrun => s.startStop_joins cause immediate reset noFlush hrun, ?report⟩
  case command =>
    intro h s hr hrun hnone
    have hstart := s.startStop_starts 1 false false false hrun
    rw [s.endSync_none 0 hnone] at hstart
    refine ⟨s.startStop 1 false false false, answersJ_same (f := safeStop) rfl hr (s.startStop_host 1 false false false).2 (.inr rfl) (by simp [safeStop, hrun]), ?_⟩
    rw [hstart]
    exact ⟨rfl, rfl, rfl, rfl, rfl, rfl, rfl, rfl, rfl⟩
  case floats =>
    intro s hphase hleft
    simp only [exec, execSafeStopFloat, doSafeStopFloat, hphase, hleft, and_self, if_true]
  case flush =>
    intro s hphase hdue hidx
    have hruns : ¬ (s.st.stopPhase ≠ 2 ∨ (!s.st.flushDue) = true ∨ s.tb.idx ≠ 0) := by simp [hphase, hdue, hidx]
    simp only [exec, execSafeStopFlush, doSafeStopFlush, if_neg hruns, State.raise_st, State.raise_lgPhase]
  case ends =>
    intro flushed s hphase hflushed
    have hruns : ¬ (s.st.stopPhase ≠ 2 ∨ s.st.flushDue = true) := by simp [hphase, hflushed]
    refine ⟨fun hreset => ?_, fun hreset => ?_, rfl, rfl, rfl, rfl, fun w b => s.stopDone_bayStart w flushed b⟩
    · simp only [exec, execSafeStopComplete, doSafeStopComplete, if_neg hruns, hreset, Bool.false_eq_true, if_false]
    · simp only [exec, execSafeStopComplete, doSafeStopComplete, if_neg hruns, hreset, if_true]
  case refused =>
    intro h s hr hlive
    rw [Answers, exec_deviceReset hr, if_pos ⟨hlive, rfl⟩]
    exact congrArg _ (host_same hr rfl rfl)
  case joined =>
    intro h force s hr hforced hcause
    have hnot : ¬ (s.anyEnergised = true ∧ force = 0) := fun ⟨hlive, hzero⟩ => hforced hlive hzero
    rw [AnswersJ, Answers, exec_deviceReset hr, if_neg hnot, if_pos hcause]
    exact congrArg _ (hostJ_same hr rfl (.inr rfl) (s.startStop_host 1 false true false).2)
  case atOnce =>
    intro h force s hr hlive hrun
    rw [exec_deviceReset hr, if_neg (by simp [hlive]), if_neg (by simp [hlive, hrun]), host_same hr rfl rfl]
  case starts =>
    intro cause immediate reset noFlush s hrun hnone
    have hstart := s.startStop_starts cause immediate reset noFlush hrun
    rw [s.endSync_none 0 hnone] at hstart
    exact hstart
  case syncEnds =>
    intro cause immediate reset noFlush y s hrun hsync hopen
    dsimp only
    rw [s.startStop_starts cause immediate reset noFlush hrun, State.endSync_open hsync hopen 0]
    exact ⟨rfl, rfl, rfl, rfl, rfl⟩
  case report =>
    intro b s hphase hopened
    simp only [State.openReport, hphase, hopened, and_self, if_true]

/-! ### Resets (R323, R339, R347, R356, R505) -/

section
variable {s : State}

/-- A slot keeps the serial of its grants through a reset. -/
theorem State.wipe_slot (w : twf {} s.hs.slots = true) (f : Footing) (st : Startup) (thm : Thermal) (i : Nat) : (s.wipe f st thm).slot i = { topSerial := (s.slot i).topSerial } := by
  have hslots : (s.wipe f st thm).hs.slots = tabMap {} (fun e => { topSerial := e.2.topSerial }) s.hs.slots := rfl
  rw [State.slot, hslots, tget_tabMap (fun _ => rfl) w]
  rfl

/-- A die keeps a SHUTDOWN through a reset. -/
theorem Thermal.kept_die {t : Thermal} (w : twf {} t.dies = true) (d : Nat) : tget {} t.kept.dies d = if (tget {} t.dies d).level = .shutdown then { level := .shutdown } else {} := by
  have hdies : t.kept.dies = tabMap {} (fun e => if e.2.level = .shutdown then { level := .shutdown } else {}) t.dies := rfl
  rw [hdies, tget_tabMap (fun _ => rfl) w]

/-- A channel keeps its counters and latches through a reset. -/
theorem Footing.kept_chan {f : Footing} (w : twf {} f.chans = true) (c : Nat) : tget {} f.kept.chans c = (tget {} f.chans c).kept := by
  have hchans : f.kept.chans = tabMap {} (fun e => e.2.kept) f.chans := rfl
  rw [hchans, tget_tabMap (fun _ => rfl) w]

end

/-- What the release of the rails leaves of a footing: its supplies, and each channel's counters and latches. -/
structure Footing.Releases (f g : Footing) : Prop where
  supplies : g = { f with enabled := g.enabled, ready := g.ready, chans := g.chans }
  sorted : twf {} f.chans = true → twf {} g.chans = true
  chans : twf {} f.chans = true → ∀ c, (tget {} g.chans c).kept = (tget {} f.chans c).kept

namespace Footing.Releases

theorem refl (f : Footing) : f.Releases f := ⟨rfl, id, fun _ _ => rfl⟩

theorem trans {f g k : Footing} (hfg : f.Releases g) (hgk : g.Releases k) : f.Releases k :=
  ⟨by rw [hgk.supplies, hfg.supplies], fun w => hgk.sorted (hfg.sorted w), fun w c => (hgk.chans (hfg.sorted w) c).trans (hfg.chans w c)⟩

/-- A channel changed in what no reset keeps. -/
theorem chan {f : Footing} {i : Nat} {op : Chan → Chan} (hop : ∀ x, (op x).kept = x.kept) : f.Releases { f with chans := tmod {} f.chans i op } := by
  refine ⟨rfl, twf_tmod i op, fun w c => ?_⟩
  by_cases hc : c = i
  · subst hc
    rw [tget_tmod_self w, hop]
  · rw [tget_tmod_ne hc w]

/-- A position's enable and ready bits are no reset's. -/
theorem bits (f : Footing) (enabled ready : Nat) : f.Releases { f with enabled := enabled, ready := ready } := ⟨rfl, id, fun _ _ => rfl⟩

/-- A gate is no reset's. -/
theorem gates (f : Footing) (n : Nat) : f.Releases { f with chans := iter n (fun c (t : Tab Chan) => tmod {} t c (fun x => { x with gate := true })) f.chans } := by
  refine ⟨rfl, fun w => twf_iter_tmod w _ n, fun w c => ?_⟩
  rw [tget_iter_tmod w (fun _ x => { x with gate := true }) n c]
  split <;> rfl

end Footing.Releases

/-- The rest of the block, and its footing as the release of the rails leaves it. -/
def State.Releases (s t : State) : Prop := ∃ f, t = { s with ftg := f } ∧ s.ftg.Releases f

theorem State.Releases.foldl {α : Type} {op : State → α → State} (hop : ∀ u a, State.Releases u (op u a)) (l : List α) (s : State) : s.Releases (l.foldl op s) := by
  induction l generalizing s with
  | nil => exact ⟨_, rfl, .refl _⟩
  | cons a l ih =>
    obtain ⟨f, hone, hf⟩ := hop s a
    obtain ⟨g, hrest, hg⟩ := ih (op s a)
    rw [hone] at hrest hg
    exact ⟨g, by rw [List.foldl_cons, hone, hrest], hf.trans hg⟩

theorem State.disablePosition_releases (s : State) (p : Nat) : s.Releases (s.disablePosition p) := by
  obtain ⟨f, hoff, hf⟩ := State.Releases.foldl (fun u c => ⟨_, rfl, Footing.Releases.chan fun _ => rfl⟩) (positionChans p)
    ({ s with ftg := { s.ftg with enabled := setBit s.ftg.enabled p false, ready := setBit s.ftg.ready p false } }) (op := fun u c => u.modChan c (fun x => { x with gate := false, good := false, rail := .inBand }))
  exact ⟨f, hoff, (Footing.Releases.bits s.ftg _ _).trans hf⟩

/-- With the rails released the power gates are closed; counters and latches stay. -/
theorem State.releaseRails_releases (s : State) : ∃ f, s.releaseRails = { s with ftg := f } ∧ s.ftg.Releases f ∧ (twf {} s.ftg.chans = true → ∀ c < 14, (tget {} f.chans c).gate = true) := by
  obtain ⟨f, hrows, hf⟩ := State.Releases.foldl State.disablePosition_releases ((List.range 10).reverse) s
  refine ⟨{ f with chans := iter 14 (fun c (t : Tab Chan) => tmod {} t c (fun x => { x with gate := true })) f.chans }, by simp only [State.releaseRails, hrows], hf.trans (.gates f 14), fun w c hc => ?_⟩
  dsimp only
  rw [tget_iter_tmod (hf.sorted w) (fun _ x => { x with gate := true }) 14 c, if_pos hc]

/-- Settles O26: a reset is `State.wipe` of what its kind keeps, read entry by entry. -/
theorem resetsKeepWhatTheSpecKeeps : Obligations.ResetsKeepWhatTheSpecKeeps := by
  unfold Obligations.ResetsKeepWhatTheSpecKeeps
  refine ⟨?powerOn, ?sysReset, ?deviceReset, ?powerDown, ?jtag⟩
  case powerOn =>
    intro s hoff
    refine ⟨s.powerOn, by simp only [exec, execPowerOn, doPowerOn, hoff, if_true], ?_⟩
    exact ⟨rfl, rfl, rfl, rfl, rfl, rfl, rfl, rfl, rfl, rfl, fun w i => State.wipe_slot w _ _ _ i, rfl, rfl, rfl, rfl, rfl, rfl, rfl, rfl, rfl, rfl, rfl⟩
  case sysReset =>
    intro s hon
    simp only [exec, execSysResetN, doSysResetN, hon, Bool.false_eq_true, if_false]
  case deviceReset =>
    intro causes s
    exact ⟨_, rfl, rfl, rfl, fun w c => Footing.kept_chan w c, fun w d => Thermal.kept_die w d, rfl, rfl, rfl, rfl, rfl, rfl, fun w i => State.wipe_slot w _ _ _ i,
      rfl, rfl, rfl, rfl, rfl, rfl, rfl, rfl, rfl, rfl, rfl⟩
  case powerDown =>
    intro s
    obtain ⟨f, hreleased, hf, hgates⟩ := s.releaseRails_releases
    have hdown : s.powerDown = ({ s with ftg := f } : State).wipe
        { f.kept with chans := tabMap {} (fun e => { e.2.kept with gate := e.2.gate }) f.chans, phase := .powerdown, enabled := 0, vinOk := false, onBank := false, inPath := false, charger := .off }
        { cause := s.st.cause, resets := s.st.resets, laneSeen := s.st.laneSeen, jtag := s.st.jtag, scan := s.st.scan } s.thm.kept := by
      simp only [State.powerDown, hreleased]
      rfl
    have hchan (w : twf {} s.ftg.chans = true) (c : Nat) : s.powerDown.chan c = { (s.chan c).kept with gate := (tget {} f.chans c).gate } := by
      rw [hdown]
      exact (tget_tabMap (fun _ => rfl) (hf.sorted w) c).trans (by rw [hf.chans w c]; rfl)
    have hkept : f.aonFault = s.ftg.aonFault ∧ f.lastTrip = s.ftg.lastTrip ∧ f.bankMv = s.ftg.bankMv ∧ f.switchovers = s.ftg.switchovers := by
      rw [hf.supplies]
      exact ⟨rfl, rfl, rfl, rfl⟩
    obtain ⟨hfault, htrip, hbank, hswitch⟩ := hkept
    refine ⟨_, rfl, ?_⟩
    have hchans : twf {} s.ftg.chans = true → ∀ c, (s.powerDown.chan c).trip = (s.chan c).trip ∧ (s.powerDown.chan c).latched = (s.chan c).latched ∧ (s.powerDown.chan c).good = false ∧
        (c < 14 → (s.powerDown.chan c).gate = true) := by
      intro w c
      rw [hchan w]
      exact ⟨rfl, rfl, rfl, fun hc => hgates w c hc⟩
    rw [hdown] at hchans ⊢
    exact ⟨rfl, rfl, rfl, rfl, rfl, rfl, rfl, hfault, htrip, hbank, hswitch, hchans, fun w d => Thermal.kept_die w d, rfl, rfl, rfl, rfl, rfl, rfl, fun w i => State.wipe_slot (s := { s with ftg := f }) w _ _ _ i,
      rfl, rfl, rfl, rfl, rfl, rfl, rfl, rfl, rfl, rfl, rfl⟩
  case jtag =>
    intro l s
    have hdrives : (jtagDrives l.ins && s.st.laneSeen) = true ↔ (l.ins = .extest ∨ l.ins = .clamp ∨ l.ins = .highz) ∧ s.st.laneSeen = true := by simp [jtagDrives, or_assoc]
    simp only [exec, execJtagInstruction, doJtagInstruction, hdrives, jtagCells]

/-! ### Input, hold-up bank and charger (R351, R352, R367 to R372) -/

section
variable {s : State}

/-- The input is lost: what it tells goes, and an excursion of it ends. -/
def State.inputLost (s : State) : State :=
  { s with ftg := { s.ftg with vinPresent := false, vinOk := false, chans := tmod {} s.ftg.chans 22 (fun x => { x with rail := .inBand }) } }

theorem doVinLoss_present (hvin : s.ftg.vinPresent = true) : doVinLoss s =
    if s.ftg.phase = .powerdown then s.inputLost
    else if s.ftg.bankMv < 2000 then s.inputLost.powerDown
    else
      (({ s.inputLost with ftg := { s.inputLost.ftg with inPath := false, onBank := true, phase := .holdup, switchovers := incSat 16 s.ftg.switchovers, sat := s.ftg.sat || decide (s.ftg.switchovers = 0xFFFF)
                                                         charger := if s.ftg.charger = .fault then .fault else .off } } : State).startStop 0 false false false).endExports := by
  simp only [doVinLoss, hvin, Bool.not_true, Bool.false_eq_true, if_false]
  rfl

theorem doVinReturn_absent (hvin : s.ftg.vinPresent = false) (hphase : s.ftg.phase = .holdup) : doVinReturn s =
    if s.st.devStep = 15 ∧ s.ftg.enabled = 0 then s.powerOn
    else { s with ftg := { s.ftg with vinPresent := true, vinOk := true, onBank := false, inPath := true, phase := if s.st.devStep = 1 then .sequencing else .running } } := by
  simp [doVinReturn, hvin, hphase]

/-- The bank falls below its ready level. -/
theorem State.bankLow_ready (hready : s.huReady = true) : s.bankLow =
    if s.anyEnergised = true ∧ s.ftg.vinPresent = true then ({ s with ftg := { s.ftg with bankMv := s.ftgWord 5 1 - 1, huLow := true } } : State).raise { kind := .holdupLow, unit := noUnit }
    else { s with ftg := { s.ftg with bankMv := s.ftgWord 5 1 - 1 } } := by
  simp only [State.bankLow, hready, Bool.not_true, Bool.false_eq_true, if_false]

theorem doCapEstimate_cc (ms : Nat) (hcc : s.ftg.charger = .cc) : doCapEstimate ms s =
    let est := Nat.min 0xFFFE (divRne (s.ftgWord 4 0 * ms : Nat) 30000).toNat
    if est * 5 < s.ftgWord 6 0 * 4 then ({ s with ftg := { s.ftg with capEst := est, bankMv := 13000, capLow := true } } : State).raise { kind := .capacityLow, unit := noUnit, detail := est }
    else { s with ftg := { s.ftg with capEst := est, bankMv := 13000 } } := by
  have hruns : ¬ s.ftg.charger ≠ .cc := fun hne => hne hcc
  unfold doCapEstimate
  rw [if_neg hruns]
  extract_lets est low f t
  by_cases hlow : est * 5 < s.ftgWord 6 0 * 4
  · have htrue : low = true := decide_eq_true hlow
    simp only [t, f, htrue, if_true, if_pos hlow, Bool.or_true]
  · have hfalse : low = false := decide_eq_false hlow
    simp only [t, f, hfalse, Bool.false_eq_true, if_false, if_neg hlow, Bool.or_false]

end

/-- Settles O56: each row's condition picks its branch. -/
theorem footingSupplyRows : Obligations.FootingSupplyRows := by
  unfold Obligations.FootingSupplyRows
  have hloss (s : State) : exec .vinLoss s = .next (doVinLoss s) := rfl
  have hreturn (s : State) : exec .vinReturn s = .next (doVinReturn s) := rfl
  have hlow (s : State) : exec .bankBelowReady s = .next s.bankLow := rfl
  refine ⟨?_, ?_, ?_, ?_, ?_, ?_, ?_, ?_, ?_, fun s => ⟨_, rfl, rfl, rfl, rfl, rfl, rfl, rfl⟩, ?_, ?_, ?_, ?_, ?_, ?_, ?_, ?_, ?_, ?_, ?_, ?_, ?_⟩
  · intro s hvin
    simp [hloss, doVinLoss, hvin]
  · intro s hvin hphase hbank
    rw [hloss, doVinLoss_present hvin, if_neg hphase, if_pos hbank]
    rfl
  · intro s hvin hbank hphase
    rw [hloss, doVinLoss_present hvin, if_neg hphase, if_neg (Nat.not_lt.mpr hbank)]
    rfl
  · intro s hvin hphase hstep
    rw [hreturn, doVinReturn_absent hvin hphase, if_neg (by simp [hstep])]
  · intro s hvin hphase hstep hoff
    rw [hreturn, doVinReturn_absent hvin hphase, if_pos ⟨hstep, hoff⟩]
  · intro s hvin hphase
    rw [hloss, doVinLoss_present hvin, if_pos hphase]
    rfl
  · intro s hvin
    simp [hreturn, doVinReturn, hvin]
  · intro s hbank hvin
    simp [exec, execBankCutoff, doBankCutoff, hbank, hvin]
  · intro s hbank
    simp [exec, execBankCutoff, doBankCutoff, hbank]
  · intro s hready hnone
    rw [hlow, State.bankLow_ready hready, if_neg (by simp [hnone])]
  · intro s hready hlive hvin
    rw [hlow, State.bankLow_ready hready, if_pos ⟨hlive, hvin⟩]
  · intro s hready
    simp [hlow, State.bankLow, hready]
  · intro s hoff hmay
    simp [exec, execChargerPrecharge, doChargerPrecharge, hoff, hmay, State.setCharger]
  · intro s hoff hbank hmay
    simp [exec, execChargerCc, doChargerCc, hoff, hmay, hbank, State.setCharger]
  · intro s hdone
    simp [exec, execChargerCv, doChargerCv, hdone, State.setCharger]
  · intro s hpre hmay
    simp [exec, execChargerCc, doChargerCc, hpre, hmay, State.setCharger]
  · intro s hcc
    simp [exec, execChargerCv, doChargerCv, hcc, State.setCharger]
  · intro s hcv
    simp [exec, execChargerDone, doChargerDone, hcv, State.setCharger]
  · intro s hcc
    simp [exec, execChargerFault, doChargerFault, hcc]
  · intro s hoff
    simp [exec, execChargerFault, doChargerFault, hoff]
  · intro ms s hcc
    exact congrArg _ (doCapEstimate_cc ms hcc)
  · intro ms s hne
    simp [exec, execCapEstimate, doCapEstimate, hne]

end Sys2Proof.Machine
end

section
/-! SUPPORT. The rails of the footing: the cascade, supervision and the commands (R354 to R374, R431). -/

namespace Sys2Proof.Machine
open Sys2Proof

/-! ### What stops a die leaves the footing, the dies and the phase of the safe stop (R303, R312, R331) -/

/-- `t` has the footing, the dies and the phase of the safe stop of `s`. -/
@[simp] abbrev State.SamePower (t s : State) : Prop := t.ftg = s.ftg ∧ t.thm = s.thm ∧ t.st.stopPhase = s.st.stopPhase

theorem State.SamePower.refl (s : State) : s.SamePower s := ⟨rfl, rfl, rfl⟩

theorem State.SamePower.trans {s t u : State} (hut : u.SamePower t) (hts : t.SamePower s) : u.SamePower s := ⟨hut.1.trans hts.1, hut.2.1.trans hts.2.1, hut.2.2.trans hts.2.2⟩

theorem State.SamePower.ite {s t u : State} {p : Prop} [Decidable p] (ht : t.SamePower s) (hu : u.SamePower s) : (if p then t else u).SamePower s := by
  split
  · exact ht
  · exact hu

theorem State.SamePower.foldl {α : Type} {op : State → α → State} (hop : ∀ u a, State.SamePower (op u a) u) (l : List α) (s : State) : (l.foldl op s).SamePower s := by
  induction l generalizing s with
  | nil => exact .refl s
  | cons a l ih => exact (ih _).trans (hop s a)

section
variable (s : State)

theorem State.Ends.power {s t : State} (h : s.Ends t) : t.SamePower s := by
  rw [h.frame]
  exact ⟨rfl, rfl, rfl⟩

theorem State.replay_power (i : Instr) : (s.replay i).SamePower s := by
  simp only [State.replay]
  split
  · simp only [ceSetpointSet]
    split_ifs <;> exact ⟨rfl, rfl, rfl⟩
  · simp only [ambientSet]
    split_ifs <;> exact ⟨rfl, rfl, rfl⟩
  · simp only [baselineSet]
    split_ifs
    · exact ⟨rfl, rfl, rfl⟩
    · exact ⟨rfl, rfl, rfl⟩
    · split <;> exact ⟨rfl, rfl, rfl⟩
    · split <;> exact ⟨rfl, rfl, rfl⟩
  · exact ⟨rfl, rfl, rfl⟩
  · exact ⟨rfl, rfl, rfl⟩
  · exact .refl s

theorem State.loadCopy_power (h : Shadow) : (s.loadCopy h).SamePower s := ⟨rfl, rfl, rfl⟩

theorem State.loadShadow_power (h : Shadow) (j : List Instr) : (s.loadShadow h j).SamePower s :=
  (State.SamePower.foldl (fun u i => u.replay_power i) _ _).trans (s.loadCopy_power h)

theorem State.vector16_power (k : Nat) (was : Bool) : (s.vector16 k was).SamePower s := .ite ⟨rfl, rfl, rfl⟩ (.refl s)

theorem State.takeOver_power (h : Shadow) (j : List Instr) : (s.takeOver h j).SamePower s := (State.vector16_power _ 2 _).trans ⟨rfl, rfl, rfl⟩

theorem State.restartOther_power : s.restartOther.SamePower s := .ite ⟨rfl, rfl, rfl⟩ ⟨rfl, rfl, rfl⟩

theorem State.dismiss_power : s.dismiss.SamePower s := ⟨rfl, rfl, rfl⟩

theorem State.freshKeystone_power : s.freshKeystone.SamePower s := ⟨rfl, rfl, rfl⟩

theorem State.leaveActive_power : s.leaveActive.SamePower s := by
  rw [State.leaveActive_eq]
  exact (State.dismiss_power _).trans s.leaveWork_ends.power

theorem State.loseActive_power : s.loseActive.SamePower s := by
  have hleft := s.leaveActive_power
  simp only [State.loseActive]
  generalize s.leaveActive = u at hleft ⊢
  split
  · split
    · exact (u.takeOver_power _ _).trans hleft
    · exact (State.restartOther_power _).trans ((u.loadShadow_power _ _).trans hleft)
  · exact (State.restartOther_power _).trans (u.freshKeystone_power.trans hleft)

theorem State.loseKeystone_power (k : Nat) : (s.loseKeystone k).SamePower s := .ite s.loseActive_power (.ite ⟨rfl, rfl, rfl⟩ (.ite ⟨rfl, rfl, rfl⟩ ⟨rfl, rfl, rfl⟩))

theorem State.endSync_power (reason : Nat) : (s.endSync reason).SamePower s := by
  simp only [State.endSync]
  split
  · exact .refl s
  · exact .ite ⟨rfl, rfl, rfl⟩ ⟨rfl, rfl, rfl⟩

theorem State.endSyncOf_power (bs : List Nat) : (s.endSyncOf bs).SamePower s := .ite (s.endSync_power 0) (.refl s)

theorem State.setStartup_power {st : Startup} (hphase : st.stopPhase = s.st.stopPhase) : ({ s with st := st } : State).SamePower s := ⟨rfl, rfl, hphase⟩

theorem State.excludeTile_power (t : Nat) : (s.excludeTile t).SamePower s := (State.setStartup_power _ rfl).trans (s.endSyncOf_power _)

theorem State.modTile_power (t : Nat) (f : Tile → Tile) : (s.modTile t f).SamePower s := ⟨rfl, rfl, rfl⟩

theorem State.modLink_power (b : Nat) (f : BayLink → BayLink) : (s.modLink b f).SamePower s := ⟨rfl, rfl, rfl⟩

theorem State.setPasses_power (z : Impedance) : ({ s with z := z } : State).SamePower s := ⟨rfl, rfl, rfl⟩

theorem State.tileOut_power (t : Nat) : (s.tileOut t).SamePower s := by
  have hdark (u : State) := State.SamePower.foldl (fun v b => v.modLink_power b (fun l => { l with trained := false, trips := [] })) (tileBays t) u
  exact (State.setPasses_power _ _).trans ((hdark _).trans (s.modTile_power t _))

theorem State.raise_power (e : Evt) : (s.raise e).SamePower s := ⟨rfl, rfl, rfl⟩

theorem State.setRedundancy_power (r : Redundancy) : ({ s with rd := r } : State).SamePower s := ⟨rfl, rfl, rfl⟩

theorem State.abandonTransfer_power : s.abandonTransfer.SamePower s := by
  simp only [State.abandonTransfer]
  split
  · exact .refl s
  · exact (State.raise_power _ _).trans ((State.setRedundancy_power _ _).trans (.ite ⟨rfl, rfl, rfl⟩ (.refl s)))

theorem State.endTransferOf_power (t : Nat) : (s.endTransferOf t).SamePower s := by
  simp only [State.endTransferOf]
  split
  · exact .ite s.abandonTransfer_power (.refl s)
  · exact .refl s

theorem State.declareTakeover_power (t : Nat) : (s.declareTakeover t).SamePower s := ⟨rfl, rfl, rfl⟩

theorem State.setModulator_power (m : Modulator) : ({ s with md := m } : State).SamePower s := ⟨rfl, rfl, rfl⟩

theorem State.loseTile_power (t : Nat) : (s.loseTile t).SamePower s := by
  have hout := (State.tileOut_power (s.endTransferOf t) t).trans (s.endTransferOf_power t)
  simp only [State.loseTile]
  generalize (s.endTransferOf t).tileOut t = u at hout ⊢
  split_ifs
  · exact .refl s
  · exact (State.excludeTile_power _ _).trans ((State.excludeTile_power u _).trans hout)
  · exact (State.excludeTile_power u _).trans hout
  · exact (State.declareTakeover_power u _).trans hout
  · exact (State.endSyncOf_power _ _).trans ((State.setModulator_power _ _).trans ((State.declareTakeover_power u _).trans hout))

theorem State.stopDie_power (c : Nat) : (s.stopDie c).SamePower s := .ite (s.loseTile_power c) (s.loseKeystone_power _)

end

/-! ### The cascade (R353 to R356, R325) -/

/-- Channels changed in a row. -/
theorem State.foldl_modChan (f : Nat → Chan → Chan) (l : List Nat) (s : State) :
    l.foldl (fun (t : State) c => t.modChan c (f c)) s = { s with ftg := { s.ftg with chans := l.foldl (fun cs c => tmod {} cs c (f c)) s.ftg.chans } } := by
  induction l generalizing s with
  | nil => rfl
  | cons c l ih => exact ih _

/-- Channels marked by a mask. -/
theorem State.foldl_modChan_if (p : Nat → Bool) (f : Chan → Chan) (l : List Nat) (s : State) :
    l.foldl (fun (t : State) c => if p c then t.modChan c f else t) s = { s with ftg := { s.ftg with chans := l.foldl (fun cs c => if p c then tmod {} cs c f else cs) s.ftg.chans } } := by
  induction l generalizing s with
  | nil => rfl
  | cons c l ih =>
    rw [List.foldl_cons, List.foldl_cons, ih]
    split <;> rfl

theorem State.enablePosition_eq (s : State) (p : Nat) : ∃ cs, s.enablePosition p = { s with ftg := { s.ftg with enabled := setBit s.ftg.enabled p true, position := p, waiting := false, chans := cs } } :=
  ⟨_, State.foldl_modChan (fun c x => { x with gate := decide (c < 14) && !x.latched, good := false, rail := .inBand }) _ _⟩

theorem State.disablePosition_eq (s : State) (p : Nat) : ∃ cs, s.disablePosition p = { s with ftg := { s.ftg with enabled := setBit s.ftg.enabled p false, ready := setBit s.ftg.ready p false, chans := cs } } :=
  ⟨_, State.foldl_modChan (fun _ x => { x with gate := false, good := false, rail := .inBand }) _ _⟩

/-- A position's channels are good. -/
theorem State.markGood_eq (s : State) (l : List Nat) : ∃ cs, l.foldl (fun (t : State) c => t.modChan c (fun x => { x with good := true })) s = { s with ftg := { s.ftg with chans := cs } } :=
  ⟨_, State.foldl_modChan (fun _ x => { x with good := true }) l s⟩

theorem State.assertFault_frame (s : State) : ∃ g, s.assertFault = { s with hs := g, ev := { s.ev with faultN := true, faultEdge := true } } := by
  obtain ⟨g, hg, -⟩ := ({ s with ev := { s.ev with faultN := true, faultEdge := true } } : State).vector16_frame 1 s.ev.faultEdge
  exact ⟨g, hg⟩

/-- The footing holds with a fault code. -/
theorem State.footingHold_frame (s : State) (code : Nat) : ∃ (f : Footing) (g : HostIf), s.footingHold code = { s with
    ftg := { f with phase := .hold, aonFault := code, aonRetries := 3, waiting := false }, st := { s.st with devStep := 15, faultCode := code }, hs := g, ev := { s.ev with faultN := true, faultEdge := true } } := by
  obtain ⟨f, hoff, -⟩ := State.Releases.foldl State.disablePosition_releases ((List.range 10).reverse) s
  obtain ⟨g, hg⟩ := ({ s with ftg := { f with phase := .hold, aonFault := code, aonRetries := 3, waiting := false }, st := { s.st with devStep := 15, faultCode := code } } : State).assertFault_frame
  exact ⟨f, g, by rw [State.footingHold, hoff]; exact hg⟩

section
variable {s : State}

theorem doPositionReady_ready (hseq : s.sequencing = true) (hwait : s.ftg.waiting = false) (hon : s.ftg.enabled.testBit s.ftg.position = true) : ∃ cs,
    doPositionReady s = let t : State := { s with ftg := { s.ftg with ready := setBit s.ftg.ready s.ftg.position true, chans := cs } }
      if s.ftg.position = 9 then { t with ftg := { t.ftg with phase := if t.ftg.onBank then .holdup else .running }, st := { t.st with devStep := 2 } } else t.enablePosition (nextPosition s.ftg.position) := by
  obtain ⟨cs, hgood⟩ := ({ s with ftg := { s.ftg with ready := setBit s.ftg.ready s.ftg.position true } } : State).markGood_eq (positionChans s.ftg.position)
  have hruns : (!s.sequencing || s.ftg.waiting || !s.ftg.enabled.testBit s.ftg.position) = false := by simp [hseq, hwait, hon]
  refine ⟨cs, ?_⟩
  simp only [doPositionReady, hruns, hgood, Bool.false_eq_true, if_false]

theorem doPositionTimeout_late (off : Bool) (hseq : s.sequencing = true) (hwait : s.ftg.waiting = false) : doPositionTimeout off s =
    if 3 ≤ tget 0 s.ftg.posRetries s.ftg.position then s.footingHold (if s.ftg.position = 9 then (if off then 0x21 else 0x20) else 0x10 + s.ftg.position)
    else { s.disablePosition s.ftg.position with ftg := { (s.disablePosition s.ftg.position).ftg with waiting := true, posRetries := tmod 0 (s.disablePosition s.ftg.position).ftg.posRetries s.ftg.position (· + 1) } } := by
  simp only [doPositionTimeout, hseq, hwait, Bool.not_true, Bool.or_self, Bool.false_eq_true, if_false]

/-! ### Supervision (R357 to R363) -/

theorem State.senses_chan {c : Nat} (hc : c < 22) : s.senses c = s.watched c := if_neg (by omega)

/-- An excursion of a rail that is watched and in band. -/
theorem exec_warningExcursion {c : Nat} (hc : c ≤ 22) (high : Bool) (hsensed : s.senses c = true) (hband : (s.chan c).rail = .inBand) : exec (.warningExcursion c high) s = .next (
    (({ s with ftg := { s.ftg with vinOk := s.ftg.vinOk && c != 22, chans := tmod {} s.ftg.chans c (fun x => { x with rail := if high then .high else .low }) } } : State).countChan c (if high then 1 else 0))) := by
  simp only [exec, execWarningExcursion, doWarningExcursion, if_neg (Nat.not_lt.mpr hc), hsensed, hband, Bool.not_true, bne_self_eq_false, Bool.or_self, Bool.false_eq_true, if_false]
  rfl

theorem exec_warningExcursion_unwatched {c : Nat} (hc : c ≤ 22) (high : Bool) (hsensed : s.senses c = false) : exec (.warningExcursion c high) s = .next s := by
  simp [exec, execWarningExcursion, doWarningExcursion, Nat.not_lt.mpr hc, hsensed]

theorem exec_railReturn {c : Nat} (hc : c ≤ 22) : exec (.railReturn c) s = .next (doRailReturn c s) := by
  simp only [exec, execRailReturn, if_neg (Nat.not_lt.mpr hc)]

theorem State.reactionCode_other {c : Nat} (hc : 14 ≤ c) : s.reactionCode c = 5 := if_pos hc

section
variable {c : Nat} (hc : c < 14)
include hc

theorem State.reactionCode_ignore (hr : s.reaction c = 0) : s.reactionCode c = 1 := by
  simp only [State.reactionCode, if_neg (Nat.not_le.mpr hc), hr]

theorem State.reactionCode_retry (hr : s.reaction c = 1) : s.reactionCode c = if (s.chan c).retries.length < 3 then 2 else 3 := by
  rw [State.reactionCode, if_neg (Nat.not_le.mpr hc), hr]
  by_cases hfew : (s.chan c).retries.length < 3
  · exact (if_neg (Nat.not_le.mpr hfew)).trans (if_pos hfew).symm
  · exact (if_pos (Nat.not_lt.mp hfew)).trans (if_neg hfew).symm

theorem State.reactionCode_group (hr : s.reaction c = 2) : s.reactionCode c = 3 := by
  simp only [State.reactionCode, if_neg (Nat.not_le.mpr hc), hr]

theorem State.reactionCode_system {k : Nat} (hr : s.reaction c = k + 3) : s.reactionCode c = 4 := by
  simp only [State.reactionCode, if_neg (Nat.not_le.mpr hc), hr]

end

theorem State.reactionCode_pos (c : Nat) : 1 ≤ s.reactionCode c := by
  by_cases hc : c < 14
  · match hr : s.reaction c with
    | 0 => simp [State.reactionCode_ignore hc hr]
    | 1 =>
      rw [State.reactionCode_retry hc hr]
      split <;> decide
    | 2 => simp [State.reactionCode_group hc hr]
    | k + 3 => simp [State.reactionCode_system hc hr]
  · simp [State.reactionCode_other (Nat.not_lt.mp hc)]

end

theorem le_maxN {l : List Nat} {x : Nat} (hx : x ∈ l) : x ≤ maxN l := by
  have hfrom (l : List Nat) (a : Nat) : a ≤ l.foldl Nat.max a ∧ ∀ x ∈ l, x ≤ l.foldl Nat.max a := by
    induction l generalizing a with
    | nil => simp
    | cons y l ih =>
      obtain ⟨hle, hall⟩ := ih (Nat.max a y)
      refine ⟨(Nat.le_max_left a y).trans hle, fun x hx => ?_⟩
      rcases List.mem_cons.mp hx with rfl | hx
      · exact (Nat.le_max_right a x).trans hle
      · exact hall x hx
  exact (hfrom l 0).2 x hx

theorem maxN_mem {l : List Nat} (hne : l ≠ []) : maxN l ∈ l := by
  have hfrom (l : List Nat) (a : Nat) : l.foldl Nat.max a = a ∨ l.foldl Nat.max a ∈ l := by
    induction l generalizing a with
    | nil => exact .inl rfl
    | cons y l ih =>
      rcases ih (Nat.max a y) with heq | hmem
      · rw [List.foldl_cons, heq]
        rcases le_total a y with hle | hle
        · have hmax : a.max y = y := Nat.max_eq_right hle
          exact .inr (by rw [hmax]; exact List.mem_cons_self)
        · exact .inl (Nat.max_eq_left hle)
      · exact .inr (List.mem_cons_of_mem _ hmem)
  rcases hfrom l 0 with hzero | hmem
  · obtain ⟨x, hx⟩ := List.exists_mem_of_ne_nil l hne
    have hle := le_maxN hx
    have hnil : maxN l = 0 := hzero
    have heq : x = maxN l := by omega
    exact heq ▸ hx
  · exact hmem

/-- The first of the severest. -/
theorem find_severest {cs : List Nat} (hne : cs ≠ []) (f : Nat → Nat) : ∃ w ∈ cs, (∀ c ∈ cs, f c ≤ f w) ∧ maxN (cs.map f) = f w ∧ cs.find? (fun c => f c == maxN (cs.map f)) = some w := by
  obtain ⟨c, hc, hmax⟩ := List.mem_map.mp (maxN_mem (l := cs.map f) (by simpa using hne))
  obtain ⟨w, hw⟩ := Option.isSome_iff_exists.mp ((List.find?_isSome (p := fun c => f c == maxN (cs.map f))).mpr ⟨c, hc, beq_iff_eq.mpr hmax⟩)
  have heq : f w = maxN (cs.map f) := beq_iff_eq.mp (List.find?_some (p := fun c => f c == maxN (cs.map f)) hw)
  exact ⟨w, List.mem_of_find?_eq_some hw, fun c hc => heq ▸ le_maxN (List.mem_map_of_mem hc), heq.symm, hw⟩

section
variable {s : State} {cs : List Nat}

/-- What the severest reaction of channels that trip together leaves, before it acts. -/
def State.tripped (s : State) (cs : List Nat) (high : Bool) (w : Nat) : State :=
  let u := cs.foldl (fun (t : State) c => t.countTrip c high) s
  { u with ftg := { u.ftg with lastTrip := w, lastReaction := s.reactionCode w, tripSeen := u.ftg.tripSeen || cs.any (fun c => decide (c < 14)) } }

/-- Of channels that trip together the severest reaction acts for all. -/
theorem exec_supervisorTrip (high : Bool) (hne : cs ≠ []) (hnodup : cs.Nodup) (hwatched : ∀ c ∈ cs, c < 22 ∧ s.watched c = true) (hphase : s.ftg.phase = .running ∨ s.ftg.phase = .holdup)
    (hstep : s.st.devStep ≠ 1) : ∃ w ∈ cs, (∀ c ∈ cs, s.reactionCode c ≤ s.reactionCode w) ∧ exec (.supervisorTrip cs high) s = .next (
      if s.reactionCode w = 1 then s.tripped cs high w
      else if s.reactionCode w ≤ 3 then cs.foldl (fun (t : State) c => t.openGate (s.reactionCode w == 3) c) (s.tripped cs high w) else (s.tripped cs high w).footingStop) := by
  obtain ⟨w, hw, hall, hmax, hfind⟩ := find_severest hne s.reactionCode
  have hcs : (cs.dedup).filter (fun c => decide (c < 22) && s.watched c) = cs := by
    rw [List.dedup_eq_self.mpr hnodup, List.filter_eq_self]
    intro c hc
    simp [hwatched c hc]
  have hruns : ¬ (s.ftg.phase = .sequencing ∨ s.st.devStep = 1) := by rcases hphase with h | h <;> simp [h, hstep]
  have hpowered : ¬ (s.ftg.phase ≠ .running ∧ s.ftg.phase ≠ .holdup) := by rcases hphase with h | h <;> simp [h]
  have hpos := s.reactionCode_pos w
  have hdone : doSupervisorTrip cs high s = if s.reactionCode w = 1 then s.tripped cs high w
      else if s.reactionCode w ≤ 3 then cs.foldl (fun (t : State) c => t.openGate (s.reactionCode w == 3) c) (s.tripped cs high w) else (s.tripped cs high w).footingStop := by
    unfold doSupervisorTrip
    rw [hcs]
    extract_lets tripping back act worst s1 f s2
    have hact : act = s.reactionCode w := hmax
    have hworst : worst = w := by simp only [worst, act, tripping, hfind, Option.getD_some]
    have htripped : s2 = s.tripped cs high w := by simp only [s2, f, s1, tripping, hact, hworst, State.tripped]
    rw [if_neg hne, if_neg hruns, if_neg hpowered, htripped, hact]
    by_cases hone : s.reactionCode w = 1
    · rw [if_pos hone, if_pos hone]
    · have hacts : (s.reactionCode w = 2 ∨ s.reactionCode w = 3) ↔ s.reactionCode w ≤ 3 := by omega
      simp only [if_neg hone, hacts, tripping]
  exact ⟨w, hw, hall, congrArg _ hdone⟩

/-- The same of a single channel. -/
theorem exec_supervisorTrip_one {c : Nat} (high : Bool) (hc : c < 22) (hwatched : s.watched c = true) (hphase : s.ftg.phase = .running ∨ s.ftg.phase = .holdup) (hstep : s.st.devStep ≠ 1) :
    exec (.supervisorTrip [c] high) s = .next (if s.reactionCode c = 1 then s.tripped [c] high c
      else if s.reactionCode c ≤ 3 then (s.tripped [c] high c).openGate (s.reactionCode c == 3) c else (s.tripped [c] high c).footingStop) := by
  obtain ⟨w, hw, -, hexec⟩ := exec_supervisorTrip (cs := [c]) high (by simp) (by simp) (by simp [hc, hwatched]) hphase hstep
  obtain rfl := List.mem_singleton.mp hw
  exact hexec

theorem State.tripped_one (high : Bool) (c : Nat) : s.tripped [c] high c =
    { s.countTrip c high with ftg := { (s.countTrip c high).ftg with lastTrip := c, lastReaction := s.reactionCode c, tripSeen := (s.countTrip c high).ftg.tripSeen || decide (c < 14) } } := by
  simp [State.tripped]

end

theorem incSat_pos (x : Nat) : incSat 16 x ≠ 0 := by
  simp only [incSat, satU]
  split <;> omega

/-- A channel with a count. -/
def Chan.counted (x : Chan) (k : Nat) : Chan := { (x.setCounter k (incSat 16 (x.counter k))) with tick := x.tick.set k (incSat 16 (x.tick.getD k 0)) }

theorem Chan.counted_listed (x : Chan) (k : Nat) : x.counted k ≠ {} := by
  have hcounter : (x.counted k).counter k = incSat 16 (x.counter k) := by
    match k with
    | 0 => rfl
    | 1 => rfl
    | 2 => rfl
    | k + 3 => rfl
  have hzero : ({} : Chan).counter k = 0 := by
    match k with
    | 0 => rfl
    | 1 => rfl
    | 2 => rfl
    | k + 3 => rfl
  exact fun hempty => incSat_pos _ (hcounter.symm.trans (hempty ▸ hzero))

/-- A count changes the footing alone, of its channel the counter and the tick's counts. -/
theorem State.countChan_eq (s : State) (c k : Nat) : ∃ sat, s.countChan c k = { s with ftg := { s.ftg with chans := tmod {} s.ftg.chans c (fun x => x.counted k), sat := sat } } := by
  simp only [State.countChan]
  split
  · exact ⟨true, rfl⟩
  · exact ⟨s.ftg.sat, rfl⟩

/-- A trip is counted before it is reported. -/
theorem State.countTrip_eq (s : State) (c : Nat) (high : Bool) : ∃ f : Footing, s.countTrip c high = ({ s with ftg := f } : State).raise { kind := .railTrip, unit := noUnit, detail := c + 256 * s.reactionCode c } ∧
    (tget {} f.chans c).rail = (if high then .tripHigh else .tripLow) ∧ (tget {} f.chans c).trip = incSat 16 (s.chan c).trip ∧ (tget {} f.chans c).retries = (s.chan c).retries ∧ f.config = s.ftg.config := by
  obtain ⟨f, hfirst, htrip, hretries, hconfig⟩ : ∃ f : Footing, (if (s.chan c).rail = .inBand then s.countChan c (if high then 1 else 0) else s) = { s with ftg := f } ∧
      (tget {} f.chans c).trip = (s.chan c).trip ∧ (tget {} f.chans c).retries = (s.chan c).retries ∧ f.config = s.ftg.config := by
    split
    · obtain ⟨sat, heq⟩ := s.countChan_eq c (if high then 1 else 0)
      refine ⟨_, heq, ?_, ?_, rfl⟩
      all_goals
        rw [tget_tmod_listed _ (Chan.counted_listed _ _), if_pos rfl]
        cases high <;> rfl
    · exact ⟨s.ftg, rfl, rfl, rfl, rfl⟩
  obtain ⟨sat, hcount⟩ := ({ s with ftg := f } : State).countChan_eq c 3
  have hlisted (t : Tab Chan) : ({ tget {} t c with rail := if high then .tripHigh else .tripLow } : Chan) ≠ {} := by
    intro hempty
    have hrail : (if high = true then RailPhase.tripHigh else .tripLow) = .inBand := congrArg Chan.rail hempty
    cases high <;> simp at hrail
  have hchan (t : Tab Chan) : tget {} (tmod {} (tmod {} t c (fun x => x.counted 3)) c (fun x => { x with rail := if high then .tripHigh else .tripLow })) c =
      { (tget {} t c).counted 3 with rail := if high then .tripHigh else .tripLow } := by
    rw [tget_tmod_listed _ (hlisted _), if_pos rfl, tget_tmod_listed _ (Chan.counted_listed _ _), if_pos rfl]
  refine ⟨{ f with chans := tmod {} (tmod {} f.chans c (fun x => x.counted 3)) c (fun x => { x with rail := if high then .tripHigh else .tripLow }), sat := sat }, ?_, ?_⟩
  · simp only [State.countTrip, hfirst, hcount]
    rfl
  · rw [hchan]
    exact ⟨rfl, congrArg (incSat 16) htrip, hretries, hconfig⟩

/-- A gate that is opened. -/
def Chan.opened (x : Chan) (latch : Bool) : Chan := { x with gate := false, good := false, rail := .inBand, checking := false, offTime := !latch, latched := x.latched || latch }

theorem Chan.opened_listed (x : Chan) (latch : Bool) : x.opened latch ≠ {} := by
  intro hempty
  have hoff : (!latch) = false := congrArg Chan.offTime hempty
  have hlatch : (x.latched || latch) = false := congrArg Chan.latched hempty
  simp_all

theorem State.opened_chan (s : State) (latch : Bool) (c : Nat) : (s.modChan c (fun x => x.opened latch)).chan c = (s.chan c).opened latch := by
  rw [State.modChan, State.chan, tget_tmod_listed _ (Chan.opened_listed _ _), if_pos rfl]
  rfl

theorem State.stopDie_keystone (s : State) {c : Nat} (hc : 12 ≤ c) : s.stopDie c = s.loseKeystone (c - 12) := if_neg (by omega)

/-- The standby's die stops. -/
theorem State.loseKeystone_standby {s : State} {k : Nat} (hactive : s.rd.active ≠ k) (hlive : s.rd.haveActive = true) : s.loseKeystone k = s.loseStandby := by
  simp [State.loseKeystone, hactive, hlive]

theorem State.loseKeystone_active {s : State} (hlive : s.rd.haveActive = true) : s.loseKeystone s.rd.active = s.loseActive := by simp [State.loseKeystone, hlive]

/-- A tile whose heartbeat goes missing stops. -/
theorem exec_tileTakeover {s : State} {c : Nat} (htile : c < 12) (hfits : c < s.nTiles) : exec (.tileTakeover c) s = .next (s.stopDie c) := by
  have hstops : s.stopDie c = s.loseTile c := if_pos htile
  rw [hstops]
  exact if_neg (Nat.not_le.mpr hfits)

/-- The active keystone that is lost stops. -/
theorem exec_keystoneLost_fatal {s : State} (hlive : s.rd.haveActive = true) : exec (.keystoneLost .fatal) s = .next (s.stopDie (12 + s.rd.active)) := by
  rw [s.stopDie_keystone (by omega), Nat.add_sub_cancel_left, State.loseKeystone_active hlive]
  exact congrArg _ ((if_pos hlive).trans (if_pos rfl))

/-- The standby keystone stops. -/
theorem State.stopDie_standby {s : State} {c : Nat} (hks : 12 ≤ c) (hactive : c ≠ 12 + s.rd.active) (hlive : s.rd.haveActive = true) : s.stopDie c = s.loseStandby := by
  rw [s.stopDie_keystone hks]
  exact State.loseKeystone_standby (by omega) hlive

theorem State.keystoneBack_standby {s : State} {k : Nat} (hlive : s.rd.haveActive = true) (hactive : s.rd.active ≠ k) (hstep : s.st.step4 = true) :
    s.keystoneBack k = if s.rd.ksFailed.testBit k = true then s else { s with rd := { s.rd with candidates := setBit s.rd.candidates k true, standby := .booting } } := by
  simp [State.keystoneBack, hlive, hactive, hstep]

theorem State.startStop_ftg (s : State) (cause : Nat) (immediate reset noFlush : Bool) : (s.startStop cause immediate reset noFlush).ftg = s.ftg := by
  cases hrun : s.stopping
  · rw [s.startStop_starts cause immediate reset noFlush hrun]
    exact (s.endSync_power 0).1
  · rw [s.startStop_joins cause immediate reset noFlush hrun]

/-- Settles O57: the rows of the cascade, of supervision and of the footing's commands, branch by branch. -/
theorem footingRailRows : Obligations.FootingRailRows := by
  unfold Obligations.FootingRailRows
  have hchan {c : Nat} (hc : c < 14) : ¬ 14 ≤ c := Nat.not_le.mpr hc
  refine ⟨?last, ?next, ?late, ?holds, ?again, ?running, ?excursion, ?inputFalls, ?inputGone, ?counted, ?unwatched, ?returnsLow, ?returnsHigh, ?inputReturns, ?inBand, ?noneWatched, ?ignored,
    ?gates, ?stops, ?otherCode, ?gateCode, ?offEnds, ?noOffTime, ?latches, ?tileHolds, ?keystoneHolds, ?keystoneBack, ?resets, ?powersDown, ?notYet, ?notDue, ?i2c, ?status, ?clear, ?restore,
    ?refused, ?range, ?severest, ?trip, ?openGate, ?footingStop⟩
  case last =>
    intro s hseq hwait hpos hon
    obtain ⟨cs, hready⟩ := doPositionReady_ready hseq hwait (by rw [hpos]; exact hon)
    dsimp only at hready
    rw [if_pos hpos] at hready
    refine ⟨_, congrArg Host.Outcome.next hready, ?_⟩
    simp only [hpos]
  case next =>
    intro s hseq hwait hpos hon
    obtain ⟨cs, hready⟩ := doPositionReady_ready hseq hwait hon
    obtain ⟨cs', hnext⟩ := ({ s with ftg := { s.ftg with ready := setBit s.ftg.ready s.ftg.position true, chans := cs } } : State).enablePosition_eq (nextPosition s.ftg.position)
    simp only [if_neg hpos.ne, hnext, ← hwait] at hready
    exact ⟨_, congrArg Host.Outcome.next hready, rfl⟩
  case late =>
    intro off s hseq hwait hfew
    obtain ⟨cs, hoff⟩ := s.disablePosition_eq s.ftg.position
    have hlate := doPositionTimeout_late off hseq hwait
    rw [if_neg (Nat.not_le.mpr hfew), hoff] at hlate
    exact ⟨_, congrArg Host.Outcome.next hlate, rfl⟩
  case holds =>
    intro off s hseq hwait hmany
    have hlate := doPositionTimeout_late off hseq hwait
    rw [if_pos hmany] at hlate
    obtain ⟨f, g, hheld⟩ := s.footingHold_frame (if s.ftg.position = 9 then (if off then 0x21 else 0x20) else 0x10 + s.ftg.position)
    refine ⟨_, congrArg Host.Outcome.next (hlate.trans hheld), rfl, rfl, rfl, rfl, rfl, rfl, rfl⟩
  case again =>
    intro s hseq hwait
    obtain ⟨cs, hon⟩ := s.enablePosition_eq s.ftg.position
    have hretry : doPositionRetry s = s.enablePosition s.ftg.position := by simp [doPositionRetry, hseq, hwait]
    exact ⟨_, congrArg Host.Outcome.next (hretry.trans hon), rfl⟩
  case running =>
    intro s hphase off
    have hidle : s.sequencing = false := by simp [State.sequencing, hphase]
    simp [exec, execPositionReady, execPositionTimeout, execPositionRetry, doPositionReady, doPositionTimeout, doPositionRetry, hidle]
  case excursion =>
    intro c high s hc hwatched hband
    have hinput : (s.ftg.vinOk && c != 22) = s.ftg.vinOk := by simp [hc.ne]
    rw [exec_warningExcursion hc.le high (by rw [State.senses_chan hc, hwatched]) hband, hinput]
  case inputFalls =>
    intro high s hvin hband
    have hinput : (s.ftg.vinOk && (22 : Nat) != 22) = false := by simp
    rw [exec_warningExcursion (le_refl 22) high hvin hband, hinput]
  case inputGone => exact fun high s hvin => exec_warningExcursion_unwatched (le_refl 22) high hvin
  case counted =>
    intro c k s hroom
    simp only [State.countChan, if_neg hroom]
    rfl
  case unwatched => exact fun c high s hc hwatched => exec_warningExcursion_unwatched hc.le high (by rw [State.senses_chan hc, hwatched])
  case returnsLow =>
    intro c s hc hrail
    have hinput : (c == 22) = false := by simp [hc.ne]
    rw [exec_railReturn hc.le]
    simp [doRailReturn, hrail, hinput, bne, State.modChan]
  case returnsHigh =>
    intro c s hc hrail
    have hinput : (c == 22) = false := by simp [hc.ne]
    have hfell : (RailPhase.high == RailPhase.low) = false := rfl
    rw [exec_railReturn hc.le]
    simp [hfell, doRailReturn, hrail, hinput, bne, State.modChan]
  case inputReturns =>
    intro s hrail hvin
    rw [exec_railReturn (le_refl 22)]
    simp [doRailReturn, hrail, hvin, State.modChan]
  case inBand =>
    intro c s hc hrail
    rw [exec_railReturn hc.le]
    simp [doRailReturn, hrail]
  case noneWatched =>
    intro cs high s hnone
    have hcs : (cs.dedup).filter (fun c => decide (c < 22) && s.watched c) = [] := by
      rw [List.filter_eq_nil_iff]
      intro c hc
      simp [hnone c (List.mem_dedup.mp hc)]
    simp only [exec, execSupervisorTrip, doSupervisorTrip, hcs, if_true]
  case ignored =>
    intro c high s hc hwatched hphase hstep hcode
    rw [exec_supervisorTrip_one high hc hwatched hphase hstep, if_pos hcode, State.tripped_one, hcode]
  case gates =>
    intro c high s hc hwatched hphase hstep hcode
    have hopens : s.reactionCode c ≠ 1 ∧ s.reactionCode c ≤ 3 := by omega
    have hseen : ((s.countTrip c high).ftg.tripSeen || decide (c < 14)) = true := by simp [hc]
    rw [exec_supervisorTrip_one high (by omega) hwatched hphase hstep, if_neg hopens.1, if_pos hopens.2, State.tripped_one, hseen]
  case stops =>
    intro c high s hc hwatched hphase hstep hcode
    rw [exec_supervisorTrip_one high hc hwatched hphase hstep, if_neg (by omega), if_neg (by omega), State.tripped_one]
  case otherCode => exact fun c s hc => State.reactionCode_other hc
  case gateCode =>
    intro c s hc
    match hr : s.reaction c with
    | 0 => exact State.reactionCode_ignore hc hr
    | 1 => exact State.reactionCode_retry hc hr
    | 2 => exact State.reactionCode_group hc hr
    | k + 3 => exact State.reactionCode_system hc hr
  case offEnds =>
    intro c s hc hoff
    simp only [exec, execRetryOffEnd, if_neg (hchan hc), doRetryOffEnd, hoff, Bool.not_true, Bool.false_eq_true, if_false]
    rfl
  case noOffTime =>
    intro c s hc hoff
    simp [exec, execRetryOffEnd, hchan hc, doRetryOffEnd, hoff]
  case latches =>
    intro c s hc hcheck
    simp only [exec, execRetryRailCheck, if_neg (hchan hc), doRetryRailCheck, hcheck, Bool.not_true, Bool.false_eq_true, if_false]
    rfl
  case tileHolds =>
    intro c s hc hcheck
    simp only [exec, execRetryRailCheck, if_neg (hchan (hc.trans (by decide))), doRetryRailCheck, hcheck, Bool.not_true, Bool.false_eq_true, if_false, if_true, if_pos hc]
    rfl
  case keystoneHolds =>
    intro c s hc hcheck
    have hks : ¬ 14 ≤ c ∧ ¬ c < 12 := by omega
    simp only [exec, execRetryRailCheck, if_neg hks.1, doRetryRailCheck, hcheck, Bool.not_true, Bool.false_eq_true, if_false, if_true, if_neg hks.2]
    rfl
  case keystoneBack => exact fun k s hlive hactive hstep => State.keystoneBack_standby hlive hactive hstep
  case resets =>
    intro s hdue hwhen hvin
    simp only [exec, execFootingReset, doFootingReset, if_pos (And.intro hdue hwhen), hvin, if_true]
  case powersDown =>
    intro s hdue hwhen hvin
    simp only [exec, execFootingReset, doFootingReset, if_pos (And.intro hdue hwhen), hvin, Bool.false_eq_true, if_false]
  case notYet =>
    intro s hphase hage
    have hwaits : ¬ (s.ftg.resetDue = true ∧ (2 ≤ s.st.stopPhase ∨ 16 ≤ s.ftg.resetAge)) := by omega
    simp only [exec, execFootingReset, doFootingReset, if_neg hwaits]
  case notDue =>
    intro s hdue
    simp [exec, execFootingReset, doFootingReset, hdue]
  case i2c => exact fun index s => rfl
  case status => exact fun h s hr => answers_same rfl hr rfl rfl
  case clear =>
    intro h m s hr
    have hmarked := State.foldl_modChan_if (fun c => m.testBit c) (fun x => { x with clearDue := true }) (List.range 22) s
    exact answersJ_same (f := footingCountersClear m) rfl hr rfl (.inl rfl) (congrArg (fun t => (t, okAns)) hmarked)
  case restore =>
    intro h c s hr hc hcarry hlatched hthermal
    have hrange : ¬ (14 ≤ c ∨ (c < 12 ∧ s.nTiles ≤ c)) := by
      rintro (hbig | ⟨htile, hnone⟩)
      · omega
      · exact absurd (hcarry htile).1 (Nat.not_lt.mpr hnone)
    have hgood : (!(s.chan c).latched || (s.chan c).thermal || (decide (c < 12) && (s.tile (neighbour c)).phase != .carrying)) = false := by
      by_cases htile : c < 12
      · simp [hlatched, hthermal, (hcarry htile).2]
      · simp [hlatched, hthermal, htile]
    refine answersJ_same (f := footingRailRestore c) rfl hr rfl (.inl rfl) ?_
    simp only [footingRailRestore, if_neg hrange, hgood, Bool.false_eq_true, if_false]
    rfl
  case refused =>
    intro h c s hr hc hfits hbad
    have hrange : ¬ (14 ≤ c ∨ (c < 12 ∧ s.nTiles ≤ c)) := by omega
    have hrefuses : (!(s.chan c).latched || (s.chan c).thermal || (decide (c < 12) && (s.tile (neighbour c)).phase != .carrying)) = true := by
      rcases hbad with hbad | hbad | ⟨htile, hbad⟩
      · simp [hbad]
      · simp [hbad]
      · simp [htile, hbad]
    exact answersJ_refused (f := footingRailRestore c) rfl hr (show stState ≠ stOk by decide) (show stState ≠ stAccepted by decide) (by simp only [footingRailRestore, if_neg hrange, hrefuses, if_true])
  case range =>
    intro h c s hr hbad
    exact answersJ_refused (f := footingRailRestore c) rfl hr (show stRange ≠ stOk by decide) (show stRange ≠ stAccepted by decide) (by simp only [footingRailRestore, if_pos hbad])
  case severest => exact fun cs high s hne hnodup hwatched hphase hstep => exec_supervisorTrip high hne hnodup hwatched hphase hstep
  case trip =>
    intro c high s
    obtain ⟨f, heq, hrail, htrip, hretries, hconfig⟩ := s.countTrip_eq c high
    have hcode : ({ s with ftg := f } : State).reactionCode c = s.reactionCode c := by
      simp only [State.reactionCode, State.reaction, State.ftgWord, hconfig, State.chan, hretries] <;> rfl
    exact ⟨{ s with ftg := f }, by rw [hcode]; exact heq, rfl, hrail, htrip⟩
  case openGate =>
    intro latch c s
    have hopened := s.opened_chan latch c
    refine ⟨⟨?_, congrArg Chan.gate hopened, congrArg Chan.offTime hopened, congrArg Chan.latched hopened⟩, fun htile hfits => ?_, fun hactive hlive => ?_, fun hks hactive hlive => ?_⟩
    · exact congrArg (fun f : Footing => tget {} f.chans c) (State.stopDie_power _ c).1
    · exact exec_tileTakeover htile hfits
    · rw [hactive]
      exact exec_keystoneLost_fatal hlive
    · exact State.stopDie_standby hks hactive hlive
  case footingStop =>
    intro s
    have hftg (reason : Bool) : (s.startStop 4 true true reason).ftg = s.ftg := s.startStop_ftg 4 true true reason
    refine ⟨by simp only [State.footingStop, hftg], rfl, ?_⟩
    cases hrun : s.stopping
    · simp only [State.footingStop, s.startStop_starts 4 true true _ hrun]
      simp
    · simp only [State.footingStop, s.startStop_joins 4 true true _ hrun]
      exact ⟨Bool.or_true _, Bool.or_true _, rfl, State.stopping_iff.mp hrun, by simp⟩

end Sys2Proof.Machine
end

section
/-! SUPPORT. The temperatures of the dies (R381 to R389, R444). -/

namespace Sys2Proof.Machine
open Sys2Proof

/-! ### Die thermal (R381 to R389, R444) -/

/-- A fold changes the dies alone where every step does. -/
theorem State.foldl_modDie {α : Type} (k : α → Nat) (f : State → α → Die → Die) (l : List α) (s : State) :
    ∃ dies, l.foldl (fun (t : State) a => t.modDie (k a) (f t a)) s = { s with thm := { s.thm with dies := dies } } := by
  induction l generalizing s with
  | nil => exact ⟨s.thm.dies, rfl⟩
  | cons a l ih =>
    obtain ⟨dies, heq⟩ := ih (s.modDie (k a) (f s a))
    exact ⟨dies, heq⟩

/-- A reading of a sensor that is not broken is shown and judged. -/
theorem State.convert_shows {x : Die} {c : DieCode} (s : State) (hbad : x.bad = false) (hread : c.broken = false) :
    (s.convert x c).temp = some c.code ∧ (s.convert x c).outRange = (if codeInRange c = true then 0 else min 4 (x.outRange + 1)) ∧ (s.convert x c).peak = peakOf x.peak c.code ∧ (s.convert x c).peakCmd = peakOf x.peakCmd c.code := by
  simp only [State.convert, hbad, hread, Bool.false_eq_true, if_false]
  exact ⟨rfl, rfl, rfl, rfl⟩

/-- An open or a shorted diode gives no reading and ends the runs. -/
theorem State.convert_broken {x : Die} {c : DieCode} (s : State) (hbad : x.bad = false) (hopen : c.broken = true) :
    (s.convert x c).temp = x.temp ∧ (s.convert x c).outRange = Nat.min 4 (x.outRange + 1) ∧ (s.convert x c).above = [0, 0, 0] := by
  have hout : codeInRange c = false := by simp [codeInRange, hopen]
  simp only [State.convert, hbad, hopen, hout, Bool.false_eq_true, if_false, if_true, and_self]

/-- A domain whose die has shut down. -/
def Chan.shut (c : Chan) : Chan := { c with gate := false, good := false, rail := .inBand, latched := true, thermal := true, offTime := false, checking := false }

theorem Chan.shut_listed (c : Chan) : c.shut ≠ {} := fun hempty => Bool.noConfusion (congrArg Chan.latched hempty)

/-- A die that has shut down is latched off and has no request. -/
def State.shutDie (s : State) (d : Nat) : State :=
  (s.modDie d (fun x => { x with request := false, grace := none, enforceDue := false, releaseDue := false, enforced := false })).modChan d Chan.shut

/-- The domain's die stops; where both keystones have shut down the safe stop starts. -/
theorem State.enterShutdown_eq (s : State) (d : Nat) :
    s.enterShutdown d = if 12 ≤ d ∧ ((s.shutDie d).die (25 - d)).level = .shutdown then ((s.shutDie d).stopDie d).startStop 2 false false true else (s.shutDie d).stopDie d := by
  have hdie : ((s.shutDie d).stopDie d).die (25 - d) = (s.shutDie d).die (25 - d) := congrArg (fun t : Thermal => tget {} t.dies (25 - d)) ((s.shutDie d).stopDie_power d).2.1
  rw [← hdie]
  rfl

theorem State.enterShutdown_stops {s : State} {d : Nat} (hone : ¬ (12 ≤ d ∧ ((s.shutDie d).die (25 - d)).level = .shutdown)) : s.enterShutdown d = (s.shutDie d).stopDie d := by
  rw [s.enterShutdown_eq d, if_neg hone]

theorem State.enterShutdown_ftg (s : State) (d : Nat) : (s.enterShutdown d).ftg = (s.shutDie d).ftg := by
  rw [s.enterShutdown_eq d]
  split
  · rw [State.startStop_ftg]
    exact ((s.shutDie d).stopDie_power d).1
  · exact ((s.shutDie d).stopDie_power d).1

theorem State.shutDie_chan (s : State) (d : Nat) : (s.shutDie d).chan d = (s.chan d).shut := by
  rw [State.shutDie, State.modChan, State.chan, tget_tmod_listed _ (Chan.shut_listed _), if_pos rfl]
  rfl

theorem State.enterShutdown_chan (s : State) (d : Nat) : (s.enterShutdown d).chan d = (s.chan d).shut := by
  rw [State.chan, s.enterShutdown_ftg d]
  exact s.shutDie_chan d

/-- Settles O59: the rows of the dies' temperatures, branch by branch. -/
theorem Thermal.thermalRows : Obligations.ThermalRows := by
  unfold Obligations.ThermalRows
  have hdie {d : Nat} (hd : d < 14) : ¬ 14 ≤ d := Nat.not_le.mpr hd
  refine ⟨?converts, ?unfitted, ?fitted, ?shown, ?noReading, ?breaks, ?broken, ?recovers, ?steady, ?warns, ?latched, ?throttles, ?shutsDown, ?graceEnds, ?enforces, ?releases, ?offBoundary, ?status,
    fun x => rfl, fun d s => rfl, ?shutdown⟩
  case converts =>
    intro codes s
    obtain ⟨dies, heq⟩ := State.foldl_modDie DieCode.die (fun t c x => t.convert x c) (codes.filter (fun c => s.dieFitted c.die)) s
    refine ⟨_, congrArg _ heq, fun hnone => ?_⟩
    subst hnone
    exact (congrArg (fun t : State => t.thm.dies) heq).symm
  case unfitted =>
    intro c s hfit
    simp [exec, execThermalConversion, doThermalConversion, hfit]
  case fitted =>
    intro c s hfit
    simp [exec, execThermalConversion, doThermalConversion, hfit, State.modDie]
  case shown =>
    intro x c s hbad hread
    exact s.convert_shows hbad hread
  case noReading => exact fun x c s hbad hopen => s.convert_broken hbad hopen
  case breaks =>
    intro d s hd hbad hfit hfault
    have hbreaks : ((s.die d).bad || !s.dieFitted d || (decide ((s.die d).outRange < 4) && decide ((s.die d).stuck < 16000))) = false := by
      simp only [hbad, hfit, Bool.not_true, Bool.false_or, Bool.and_eq_false_iff, decide_eq_false_iff_not, Nat.not_lt]
      exact hfault
    refine ⟨_, ?_, rfl⟩
    simp only [exec, execSensorBroken, if_neg (hdie hd), doSensorBroken, hbreaks, Bool.false_eq_true, if_false]
    rfl
  case broken =>
    intro d s hd hbad
    simp [exec, execSensorBroken, hdie hd, doSensorBroken, hbad]
  case recovers =>
    intro d s hd hbad hrun hvaried
    refine ⟨s.sensorGood d (s.die d), ?_, rfl, ?_⟩
    · simp only [exec, execSensorRecovered, if_neg (hdie hd), doSensorRecovered, hbad, hrun, hvaried, decide_true, Bool.and_self, if_true]
      rfl
    · simp only [State.sensorGood]
      split
      · next t ht =>
        refine ⟨rfl, rfl, rfl, rfl, rfl, rfl, fun t' ht' => ?_⟩
        have hsame : t = t' := Option.some.inj (ht.symm.trans ht')
        rw [← hsame]
        rfl
      · next hnone => exact ⟨rfl, rfl, rfl, rfl, rfl, rfl, fun t ht => nomatch hnone.symm.trans ht⟩
  case steady =>
    intro d s hd hsame
    simp only [exec, execThermalLevelChange, if_neg (hdie hd), doThermalLevelChange, hsame, if_true]
  case warns =>
    intro d s hd hold hnew
    refine ⟨_, rfl, ?_⟩
    have hchange : Level.warning ≠ Level.normal := by decide
    have hrises : Level.normal ≠ Level.throttle := by decide
    simp only [exec, execThermalLevelChange, if_neg (hdie hd), doThermalLevelChange, hold, hnew, if_neg hchange, if_neg hrises]
    rfl
  case latched =>
    intro d s hlevel
    simp only [State.levelDue, hlevel, ite_self]
  case throttles =>
    intro d s hd hold hnew
    simp only [exec, execThermalLevelChange, if_neg (hdie hd), doThermalLevelChange, hnew, if_neg hold.symm]
    rfl
  case shutsDown =>
    intro d s hd hold hnew
    simp only [exec, execThermalLevelChange, if_neg (hdie hd), doThermalLevelChange, hnew, if_neg hold.symm]
    rfl
  case graceEnds =>
    intro d s hd hlevel hrequest hgrace hbad
    simp [exec, execThrottleGraceEnd, hdie hd, doThrottleGraceEnd, hlevel, hrequest, hgrace, hbad, State.modDie]
  case enforces =>
    intro d s hd hdue hidx hbad
    simp [exec, execThrottleEnforce, hdie hd, doThrottleEnforce, hdue, hidx, hbad, State.modDie]
  case releases =>
    intro d s hd hdue hidx hbad
    simp [exec, execThrottleRelease, hdie hd, doThrottleRelease, hdue, hidx, hbad, State.modDie]
  case offBoundary =>
    intro d s hd hidx
    constructor
    · simp [exec, execThrottleEnforce, hdie hd, doThrottleEnforce, hidx]
    · simp [exec, execThrottleRelease, hdie hd, doThrottleRelease, hidx]
  case status => exact fun h s hr => answers_same (f := thermalStatusRead) rfl hr rfl rfl
  case shutdown =>
    intro d s hd
    refine ⟨fun htile hfits => ?_, fun hactive hlive hother => ?_, fun hks hstandby hlive hother => ?_, fun hks hother hidle => ?_, ?_⟩
    · rw [State.enterShutdown_stops (fun hboth => absurd hboth.1 (Nat.not_le.mpr htile))]
      exact exec_tileTakeover htile hfits
    · rw [State.enterShutdown_stops (fun hboth => hother hboth.2), hactive]
      exact exec_keystoneLost_fatal hlive
    · rw [State.enterShutdown_stops (fun hboth => hother hboth.2)]
      exact State.stopDie_standby hks hstandby hlive
    · have hstill : ((s.shutDie d).stopDie d).stopping = false := by
        have hphase : ((s.shutDie d).stopDie d).st.stopPhase = s.st.stopPhase := ((s.shutDie d).stopDie_power d).2.2
        simpa only [State.stopping, hphase] using hidle
      rw [s.enterShutdown_eq d, if_pos ⟨hks, hother⟩, State.startStop_starts 2 false false true hstill]
      exact ⟨rfl, rfl, rfl⟩
    · rw [s.enterShutdown_chan d]
      exact ⟨rfl, rfl⟩

end Sys2Proof.Machine
end

section
/-! SUPPORT. The fuses: loading, the MAINTAIN state, programming and locks (R442, R476 to R487). -/

namespace Sys2Proof.Machine
open Sys2Proof

/-! ### An event leaves the slots' rights generations (R414) -/

/-- A write to a slot that stays open with its rights generation. -/
theorem HostIf.set_gen (h : HostIf) {i : Nat} {x : Slot} (hopen : x.phase ≠ .closed) (hx : x.gen = (tget {} h.slots i).gen) (j : Nat) :
    (tget {} (tset {} h.slots i x) j).gen = (tget {} h.slots j).gen := by
  have hlisted : x ≠ {} := fun hempty => hopen (congrArg Slot.phase hempty)
  rw [tget_tset_listed _ hlisted]
  split
  · next hj => rw [hj, hx]
  · rfl

theorem Slot.deliver_gen (x : Slot) (i : Nat) (r : EvRec) : (x.deliver i r).1.gen = x.gen := by
  cases hp : x.phase <;> simp only [Slot.deliver, hp]
  split_ifs <;> rfl

theorem HostIf.deliver_gen (h : HostIf) (i : Nat) (force : Bool) (r : EvRec) (j : Nat) : (tget {} (h.deliver i force r).slots j).gen = (tget {} h.slots j).gen := by
  have hset (hopen : (tget {} h.slots i).phase ≠ .closed) := h.set_gen (x := ((tget {} h.slots i).deliver i r).1) (by rwa [Slot.deliver_phase]) (Slot.deliver_gen _ i r) j
  simp only [HostIf.deliver]
  split_ifs with htold hring
  · exact hset htold.1
  · exact hset htold.1
  · rfl

theorem HostIf.merge_gen (h : HostIf) (i : Nat) (force : Bool) (m : Nat) (r : EvRec) (j : Nat) : (tget {} (h.merge i force m r).slots j).gen = (tget {} h.slots j).gen := by
  simp only [HostIf.merge]
  split_ifs with htold hrepeat
  · refine h.set_gen ?_ ?_ j
    · exact htold.1
    · rfl
  · exact h.deliver_gen i force r j
  · rfl

@[simp] theorem State.raise_gen (s : State) (e : Evt) (j : Nat) : ((s.raise e).slot j).gen = (s.slot j).gen := by
  have hfold (slots : List Nat) (h : HostIf) :
      (tget {} (slots.foldl (fun (h : HostIf) i => if s.shedding then h.merge i false (evSources e.kind) (s.stampEvt e) else h.deliver i false (s.stampEvt e)) h).slots j).gen
        = (tget {} h.slots j).gen := by
    induction slots generalizing h with
    | nil => rfl
    | cons i slots ih =>
      refine (ih _).trans ?_
      split_ifs
      · exact h.merge_gen _ _ _ _ j
      · exact h.deliver_gen _ _ _ j
  exact hfold _ s.hs

/-- A reply after an event is due, and has the qualifier it had before. -/
theorem State.raise_qualifier (s : State) (e : Evt) (h : Hdr) : (s.raise e).qualifier h = s.qualifier h :=
  congrArg (fun g : Nat => if g = h.gen then 0 else stRightsChanged) (s.raise_gen e h.slot)

theorem State.raise_hostReady {s : State} {h : Hdr} {op : Nat} (hr : HostReady h op s) (e : Evt) : HostReady h op (s.raise e) := by
  obtain ⟨hallowed, hopen⟩ := hr
  exact ⟨hallowed, by rwa [State.raise_phase]⟩

theorem State.host_raise {s : State} {h : Hdr} {op : Nat} (hr : HostReady h op s) (e : Evt) (a : Ans) : (s.raise e).host h op (fun t => (t, a)) = (s.raise e).writeReply h op (s.qualifier h) a := by
  rw [← s.raise_qualifier e h]
  exact host_same (State.raise_hostReady hr e) rfl rfl

/-- A command that only answers writes at most one reply. -/
theorem State.host_answer (s : State) (h : Hdr) (op : Nat) (a : Ans) : s.host h op (fun t => (t, a)) = s ∨ ∃ q a', s.host h op (fun t => (t, a)) = s.writeReply h op q a' := by
  have hkeeps : (if s.opAllowed op then (s, a) else (s, refuseAns stState op 255 0)) = (s, if s.opAllowed op then a else refuseAns stState op 255 0) := by split <;> rfl
  simp only [State.host, hkeeps]
  split
  · exact .inl rfl
  · exact .inr ⟨_, _, rfl⟩

/-! ### The fuses' words (R476, R480) -/

/-- Words from `b` on, changed one after another. -/
theorem tget_iter_tmod_from {t : Tab Nat} (w : twf 0 t = true) (f : Nat → Nat → Nat) (b n k : Nat) :
    tget 0 (iter n (fun i (t : Tab Nat) => tmod 0 t (b + i) (f i)) t) k = if b ≤ k ∧ k < b + n then f (k - b) (tget 0 t k) else tget 0 t k := by
  suffices hwf : twf 0 (iter n (fun i (t : Tab Nat) => tmod 0 t (b + i) (f i)) t) = true ∧
      tget 0 (iter n (fun i (t : Tab Nat) => tmod 0 t (b + i) (f i)) t) k = if b ≤ k ∧ k < b + n then f (k - b) (tget 0 t k) else tget 0 t k from hwf.2
  induction n with
  | zero => exact ⟨w, (if_neg (by omega)).symm⟩
  | succ n ih =>
    obtain ⟨hwf, hread⟩ := ih
    rw [iter_succ]
    refine ⟨twf_tmod _ _ hwf, ?_⟩
    by_cases hk : k = b + n
    · subst hk
      rw [tget_tmod_self hwf, hread, if_neg (by omega), if_pos (by omega), Nat.add_sub_cancel_left]
    · rw [tget_tmod_ne hk hwf, hread]
      exact if_congr (by omega) rfl rfl

/-- What blowing does to a word: the ones of its datum are added. -/
theorem Fuses.blow_word {f : Fuses} (w : twf 0 f.words = true) (r off : Nat) (data : List Nat) (k : Nat) :
    tget 0 (f.blow r off data).words k = if r * 128 + off ≤ k ∧ k < r * 128 + off + data.length then tget 0 f.words k ||| data.getD (k - (r * 128 + off)) 0 % pow32 else tget 0 f.words k :=
  tget_iter_tmod_from w (fun i x => x ||| data.getD i 0 % pow32) (r * 128 + off) data.length k

theorem fuseSpan_words {r w n max : Nat} (hr : r < 6) (hn : 0 < n) (hmax : n ≤ max) (hfits : w + n ≤ fuseSize r) : fuseSpan r (32 * w) n max = (0, w) := by
  have hspan : ¬ (n = 0 ∨ max < n ∨ 32 * w % 32 ≠ 0 ∨ fuseSize r < 32 * w / 32 + n) := by omega
  have hword : 32 * w / 32 = w := by omega
  rw [fuseSpan, if_neg (by omega), if_neg hspan, hword]

theorem fuseSpan_region {r : Nat} (hr : 6 ≤ r) (off n max : Nat) : fuseSpan r off n max = (stRange, 0) := if_pos hr

/-! ### Programming (R480, R481) -/

section
variable {s : State} {slot r w n : Nat} {d : List Nat}

/-- A command of another slot, outside the MAINTAIN state, or while one runs. -/
theorem State.fuseCheck_barred (hr : r < 6) (hn : 0 < n) (hmax : n ≤ 16) (hfits : w + n ≤ fuseSize r) (hbar : s.fu.maint = false ∨ s.fu.owner ≠ slot ∨ s.fu.prog.isSome = true) :
    s.fuseCheck slot r (32 * w) n d = (stState, r, 0) := by
  have hrefuses : (!s.fu.maint || decide (s.fu.owner ≠ slot) || s.fu.prog.isSome) = true := by
    rcases hbar with h | h | h <;> simp [h]
  simp only [State.fuseCheck, fuseSpan_words hr hn hmax hfits, hrefuses, ne_eq, not_true_eq_false, if_false, if_true]

theorem State.fuseCheck_maint (hr : r < 6) (hn : 0 < n) (hmax : n ≤ 16) (hfits : w + n ≤ fuseSize r) (hmaint : s.fu.maint = true) (howner : s.fu.owner = slot) (hidle : s.fu.prog = none) :
    s.fuseCheck slot r (32 * w) n d = ((s.fu.refuses r w d).1, (s.fu.refuses r w d).2, w) := by
  have hallows : (!s.fu.maint || decide (s.fu.owner ≠ slot) || s.fu.prog.isSome) = false := by simp [hmaint, howner, hidle]
  simp only [State.fuseCheck, fuseSpan_words hr hn hmax hfits, hallows, ne_eq, not_true_eq_false, if_false, Bool.false_eq_true]

theorem doFuseProgram_refused {h : Hdr} {off : Nat} {data : List Nat} {status word first : Nat} (hcheck : s.fuseCheck h.slot r off n (data.take n) = (status, word, first)) (hbad : status ≠ 0) :
    exec (.fuseProgram h r off n data) s = .next (s.host h 0x0D06 (fun t => (t, refuseAns status 0x0D06 255 word))) := by
  simp only [exec, execFuseProgram, doFuseProgram, hcheck, if_pos hbad]

theorem doFuseProgram_opens {h : Hdr} {off : Nat} {data : List Nat} {word first : Nat} (hcheck : s.fuseCheck h.slot r off n (data.take n) = (0, word, first)) :
    exec (.fuseProgram h r off n data) s = .next ((s.openEntry h r first (data.take n)).journal (.fuseProgram h r off n data)) := by
  simp only [exec, execFuseProgram, doFuseProgram, hcheck, ne_eq, not_true_eq_false, if_false]

end

theorem countB_none (n : Nat) (f : Nat → Bool) : countB n (fun k => ([] : List Nat).contains k && f k) = 0 := by simp [countB]

/-! ### The end of a program command (R480 to R483) -/

/-- `t` has the fuses, the crosspoint and the modulator of `s`. -/
abbrev State.SameFuses (t s : State) : Prop := t.fu = s.fu ∧ t.xp = s.xp ∧ t.md = s.md

theorem State.raise_fuses (s : State) (e : Evt) : (s.raise e).SameFuses s := ⟨rfl, rfl, rfl⟩

theorem State.host_fuses (s : State) (h : Hdr) (op : Nat) (a : Ans) : (s.host h op (fun t => (t, a))).SameFuses s := by
  obtain hnone | ⟨q, a', hreply⟩ := s.host_answer h op a
  · rw [hnone]
    exact ⟨rfl, rfl, rfl⟩
  · rw [hreply]
    exact ⟨State.writeReply_fu .., State.writeReply_xp .., State.writeReply_md ..⟩

/-- In `t` the command `p` of `s` has ended and its words are blown. -/
def State.Blown (s : State) (p : Prog) (t : State) : Prop :=
  t.fu.prog = none ∧ t.fu.words = (s.fu.blow p.region p.off p.data).words ∧ t.fu.locks = s.fu.locks ∧ t.xp = s.xp ∧ t.md = s.md

theorem State.Blown.ite {s t u : State} {p : Prog} {c : Prop} [Decidable c] (ht : s.Blown p t) (hu : s.Blown p u) : s.Blown p (if c then t else u) := by
  split
  · exact ht
  · exact hu

theorem State.Blown.after {s t u : State} {p : Prog} (hsame : u.SameFuses t) (ht : s.Blown p t) : s.Blown p u := by
  obtain ⟨hfu, hxp, hmd⟩ := hsame
  simpa only [State.Blown, hfu, hxp, hmd] using ht

/-- The end of a command, whether its words verify or not. -/
theorem doFuseProgramComplete_blown {s : State} {p : Prog} (hprog : s.fu.prog = some p) (bad weak : List Nat) : s.Blown p (doFuseProgramComplete bad weak s) := by
  simp only [doFuseProgramComplete, hprog]
  refine .ite ?told (.after (State.host_fuses _ _ _ _) ?told)
  refine .ite (.after (State.raise_fuses _ _) ?counted) (.after (State.raise_fuses _ _) ?counted)
  refine .ite (.after (State.raise_fuses _ _) ?closed) ?closed
  split <;> exact ⟨rfl, rfl, rfl, rfl, rfl⟩

/-- A command of an open slot whose words all verify answers with the number of its pulses. -/
theorem doFuseProgramComplete_verifies {s : State} {p : Prog} (hprog : s.fu.prog = some p) (hslot : p.slot ≠ 8) (hstay : s.fu.leaveDue = false) :
    let n := sumN ((List.range p.data.length).map (fun i => toBlow ((s.fu.read p.region p.off p.data.length).getD i 0) (p.data.getD i 0)))
    let f : Fuses := { s.fu.blow p.region p.off p.data with prog := none, journal := tset {} s.fu.journal (p.region * 16 + p.entry) { s.fu.entry p.region p.entry with fin := true, marked := false, resumed := false } }
    doFuseProgramComplete [] [] s = (({ s with ftg := { s.ftg with ldoFuse := 1800 }, fu := f } : State).raise { kind := .fuseProgrammed, unit := noUnit, detail := p.region + 256 * p.off + 65536 * n }).host p.hdr 0x0D06
      (fun t => (t, okAns (le 2 n ++ le 2 0))) := by
  have hleave : (s.fu.blow p.region p.off p.data).leaveDue = false := hstay
  simp only [doFuseProgramComplete, hprog, countB_none, hslot, Fuses.setEntry, hleave, beq_self_eq_true, Bool.not_true, Bool.or_false, decide_false, Nat.lt_irrefl, Nat.add_zero, Bool.false_eq_true, if_false, if_true, Bool.and_false]
  rfl

/-! ### Entering the MAINTAIN state and locking (R442, R477, R479) -/

/-- What forbids entering the MAINTAIN state. -/
theorem maintEnter_forbidden {s : State} {slot : Nat}
    (hbusy : s.stopping = true ∨ s.rd.xfer.isSome = true ∨ (s.fu.maint = true ∧ s.fu.owner ≠ slot) ∨ ∃ b < s.nBays, (s.bayStart b).phase = .syncing ∨ (s.bayStart b).phase = .energised) :
    maintEnter slot s = (s, refuseAns stState 0x0D03 255 0) := by
  refine if_pos ?_
  rcases hbusy with h | h | ⟨hmaint, howner⟩ | ⟨b, hb, h⟩
  · simp [h]
  · simp [h]
  · simp [hmaint, howner]
  · have hsome : s.allBays.any (fun b => (s.bayStart b).phase == .syncing || (s.bayStart b).phase == .energised) = true :=
      List.any_eq_true.mpr ⟨b, List.mem_range.mpr hb, by simpa using h⟩
    simp [hsome]

theorem maintEnter_free {s : State} {slot : Nat} (hbays : ∀ b < s.nBays, (s.bayStart b).phase ≠ .syncing ∧ (s.bayStart b).phase ≠ .energised) (hstop : s.stopping = false) (hxfer : s.rd.xfer = none)
    (hmaint : s.fu.maint = false) : maintEnter slot s = ({ s with fu := { s.fu with maint := true, owner := slot, leaveDue := false } }, okAns) := by
  have hnone : s.allBays.any (fun b => (s.bayStart b).phase == .syncing || (s.bayStart b).phase == .energised) = false := by
    refine List.any_eq_false.mpr fun b hb => ?_
    simpa using hbays b (List.mem_range.mp hb)
  refine if_neg ?_
  simp [hnone, hstop, hxfer, hmaint]

section
variable {s : State} {slot r k : Nat}

theorem fuseLock_barred (hr : r < 6) (hk : k < 2) (hbar : s.fu.maint = false ∨ s.fu.owner ≠ slot ∨ s.fu.prog.isSome = true) : fuseLock slot r k s = (s, refuseAns stState 0x0D07 255 r) := by
  have hrefuses : (!s.fu.maint || decide (s.fu.owner ≠ slot) || s.fu.prog.isSome) = true := by
    rcases hbar with h | h | h <;> simp [h]
  rw [fuseLock, if_neg (by omega), if_pos hrefuses]

/-- In the MAINTAIN state the region, the lock and its kind decide. -/
theorem fuseLock_maint (hr : r < 6) (hk : k < 2) (hmaint : s.fu.maint = true) (howner : s.fu.owner = slot) (hidle : s.fu.prog = none) :
    fuseLock slot r k s = if k = 1 ∧ (r = 0 ∨ r = 1 ∨ r = 3) then (s, refuseAns stState 0x0D07 255 r)
      else if s.fu.lock r k then (if k = 0 then (s, refuseAns stState 0x0D07 255 r) else (s, okAns))
      else if k = 1 then (({ s with fu := s.fu.blowLock r 1 } : State).raise { kind := .fuseLock, unit := noUnit, detail := r + 256 }, okAns)
      else if (s.free 1).1 = 0 then (({ (s.free 1).2 with fu := (s.fu.blowSeal r).blowLock r 0 } : State).raise { kind := .fuseLock, unit := noUnit, detail := r }, okAns)
      else ({ (s.free 1).2 with fu := s.fu.blowSeal r }, { status := stVerify }) := by
  have hallows : ¬ (!s.fu.maint || decide (s.fu.owner ≠ slot) || s.fu.prog.isSome) = true := by simp [hmaint, howner, hidle]
  rw [fuseLock, if_neg (by omega), if_neg hallows]

end

theorem exec_fuseRead (h : Hdr) (s : State) (r off n : Nat) : exec (.fuseRead h r off n) s = .next (s.host h 0x0D05 (fuseRead r off n)) := rfl

/-- Settles O58: the rows of the fuses, branch by branch. -/
theorem fuseRows : Obligations.FuseRows := by
  unfold Obligations.FuseRows
  have hok : stState ≠ stOk := by decide
  have haccepted : stState ≠ stAccepted := by decide
  refine ⟨?notYet, ?loads, ?marginal, ?marks, fun h s hr => answers_same rfl hr rfl rfl, fun h s hr => answers_same rfl hr rfl rfl, ?enters, ?forbidden, ?leaves, ?leavesLater, ?reads, ?noRegion, ?readLocked,
    ?programBarred, ?opens, ?refuses, ?idle, ?ends, ?answers, ?lockBarred, ?writeLock, ?readLock, ?isLocked, ?noReadLock, ?blows⟩
  case notYet =>
    intro l ids jt s hstep
    simp only [exec, execFuseLoad, doFuseLoad, if_pos hstep]
  case loads =>
    intro l ids jt s hstep
    dsimp only
    simp only [exec, execFuseLoad, doFuseLoad, if_neg (not_not.mpr hstep)]
    generalize ((List.range 6).foldl (fun (t : State) r => t.countMarginal r (l.getD r 0)) s).settleJournal jt = u
    generalize (List.range 6).filter (u.fu.fails ids) = bad
    cases bad with
    | nil => rfl
    | cons r bad => rfl
  case marginal =>
    intro r n s hn
    have hsome : (s.fu.marginalSeen || decide (0 < n)) = true := by simp [Nat.pos_of_ne_zero hn]
    simp only [State.countMarginal, hsome, if_neg hn]
  case marks =>
    intro jt r e s hstart hfin hcopy hfree
    have hopen : (!(s.fu.entry r e).start || (s.fu.entry r e).fin || jt.stuck.contains (r * 16 + e)) = false := by simp [hstart, hfin, hfree]
    have hsettle : s.settleEntry jt r e = s.markEntry r e := by simp only [State.settleEntry, hopen, Bool.false_eq_true, if_false, hcopy]
    rw [hsettle]
    rfl
  case enters => exact fun h s hr hbays hstop hxfer hmaint => answersJ_same (f := maintEnter h.slot) rfl hr rfl (.inl rfl) (maintEnter_free hbays hstop hxfer hmaint)
  case forbidden => exact fun h s hr hbusy => answersJ_refused (f := maintEnter h.slot) rfl hr hok haccepted (maintEnter_forbidden hbusy)
  case leaves =>
    intro h s hr hidle
    have hleave : s.fu.leaveMaint = { s.fu with maint := false } := if_neg (by simp [hidle])
    rw [← hleave]
    exact answersJ_same (f := fun t => ({ t with fu := t.fu.leaveMaint }, okAns)) rfl hr rfl (.inl rfl) rfl
  case leavesLater =>
    intro h s hr hruns
    rw [← Fuses.leaveMaint_of_prog hruns]
    exact answersJ_same (f := fun t => ({ t with fu := t.fu.leaveMaint }, okAns)) rfl hr rfl (.inl rfl) rfl
  case reads =>
    intro h r w n s hr hregion hn hmax hfits hlock
    refine answers_same (exec_fuseRead h s r (32 * w) n) hr rfl ?_
    simp [fuseRead, fuseSpan_words hregion hn hmax hfits, hlock]
  case noRegion =>
    intro h r w n s hr hregion
    refine answers_same (exec_fuseRead h s r w n) hr rfl ?_
    have hrange : stRange ≠ 0 := by decide
    simp [fuseRead, fuseSpan_region hregion, hrange]
  case readLocked =>
    intro h r w n s hr hregion hn hmax hfits hlock
    refine answers_same (exec_fuseRead h s r (32 * w) n) hr rfl ?_
    simp [fuseRead, fuseSpan_words hregion hn hmax hfits, hlock]
  case programBarred =>
    intro h r w n data s hr hregion hn hmax hfits hbar
    exact answers_same (doFuseProgram_refused (State.fuseCheck_barred hregion hn hmax hfits hbar) (by decide)) hr rfl rfl
  case opens =>
    intro h r w n data s hregion hn hmax hfits hmaint howner hidle hgood
    refine (doFuseProgram_opens (word := (s.fu.refuses r w (data.take n)).2) (first := w) ?_).trans rfl
    rw [State.fuseCheck_maint hregion hn hmax hfits hmaint howner hidle, hgood]
  case refuses =>
    intro h r w n data s hr hregion hn hmax hfits hmaint howner hidle hbad
    exact answers_same (doFuseProgram_refused (State.fuseCheck_maint hregion hn hmax hfits hmaint howner hidle) hbad) hr rfl rfl
  case idle =>
    intro bad weak s hidle
    simp only [exec, execFuseProgramComplete, doFuseProgramComplete, hidle]
  case ends => exact fun bad weak p s hprog => ⟨_, rfl, doFuseProgramComplete_blown hprog bad weak⟩
  case answers =>
    intro p s hprog hslot hr hsorted hstay
    exact (congrArg Host.Outcome.next (doFuseProgramComplete_verifies hprog hslot hstay)).trans (congrArg Host.Outcome.next (State.host_raise (by exact hr) _ _))
  case lockBarred => exact fun h r k s hr hregion hk hbar => answersJ_refused (f := fuseLock h.slot r k) rfl hr hok haccepted (fuseLock_barred hregion hk hbar)
  case writeLock =>
    intro h r s hr hsorted hregion hmaint howner hidle hlock
    have hlocks := fuseLock_maint (k := 0) hregion (by decide) hmaint howner hidle
    simp only [hlock, Bool.false_eq_true, if_false, zero_ne_one, false_and] at hlocks
    dsimp only
    split
    · next hverify =>
      exact answersJ_open (f := fuseLock h.slot r 0) rfl hr ((State.raise_phase _ _ _).trans_ne hr.2) (.inl rfl) (hlocks.trans (if_pos hverify))
    · next hverify =>
      exact answersJ_refused_effect (f := fuseLock h.slot r 0) rfl hr rfl (show stVerify ≠ stOk by decide) (show stVerify ≠ stAccepted by decide) (hlocks.trans (if_neg hverify))
  case readLock =>
    intro h r s hr hsorted hregion hmaint howner hidle hlock
    have hlocks := fuseLock_maint (k := 1) (show r < 6 by omega) (by decide) hmaint howner hidle
    rw [if_neg (by omega), hlock, if_neg Bool.false_ne_true, if_pos rfl] at hlocks
    exact answersJ_open (f := fuseLock h.slot r 1) rfl hr ((State.raise_phase _ _ _).trans_ne hr.2) (.inl rfl) hlocks
  case isLocked =>
    intro h r s hr hregion hmaint howner hidle hlock
    have hlocks := fuseLock_maint (k := 0) hregion (by decide) hmaint howner hidle
    rw [if_neg (by omega), hlock, if_pos rfl, if_pos rfl] at hlocks
    exact answersJ_refused (f := fuseLock h.slot r 0) rfl hr hok haccepted hlocks
  case noReadLock =>
    intro h r s hr hregion hmaint howner hidle
    have hlocks := fuseLock_maint (k := 1) (show r < 6 by omega) (by decide) hmaint howner hidle
    rw [if_pos ⟨rfl, hregion⟩] at hlocks
    exact answersJ_refused (f := fuseLock h.slot r 1) rfl hr hok haccepted hlocks
  case blows =>
    intro r off data f w
    refine ⟨rfl, fun k j hbit => ?_, fun i hi => ?_, fun k hk => ?_⟩
    · rw [Fuses.blow_word w]
      split
      · rw [Nat.testBit_or, hbit, Bool.true_or]
      · exact hbit
    · rw [Fuses.blow_word w, if_pos (by omega), Nat.add_sub_cancel_left]
      rfl
    · refine (Fuses.blow_word w r off data k).trans (if_neg fun hin => ?_)
      exact hk (k - (r * 128 + off)) (by omega) (by omega)

end Sys2Proof.Machine
end

section
/-! SUPPORT. The ledger: its exports, its bindings and its mounting (R441, R447, R464 to R473). -/

namespace Sys2Proof.Machine
open Sys2Proof

/-! ### What the ledger's own work leaves of the rest (R446 to R472) -/

/-- An event leaves of the ledger all but the events it holds. -/
theorem State.raise_lg (s : State) (e : Evt) : ∃ slots drops num, (s.raise e).lg = { s.lg with slots := slots, slotDrops := drops, evNum := num } := by
  simp only [State.raise, State.raiseX, Ledger.mergeRecord, Ledger.record, Ledger.hold]
  split_ifs <;> exact ⟨_, _, _, rfl⟩

/-- `t` differs from `s` in the ledger alone. -/
structure State.InLedger (s t : State) : Prop where
  frame : t = { s with lg := t.lg }

namespace State.InLedger
variable {s t u : State}

theorem refl (s : State) : s.InLedger s := ⟨rfl⟩

theorem trans (hst : s.InLedger t) (htu : t.InLedger u) : s.InLedger u := ⟨htu.frame.trans (by rw [hst.frame])⟩

theorem hs (h : s.InLedger t) : t.hs = s.hs := by rw [h.frame]

end State.InLedger

/-- `t` is `s` after pages have been given to the drives: only the queue, the commands and the pages' places change. -/
structure State.Issues (s t : State) : Prop where
  frame : t = { s with lg := { s.lg with queue := t.lg.queue, ops := t.lg.ops, nextOp := t.lg.nextOp, nextPair := t.lg.nextPair, pages := t.lg.pages } }

namespace State.Issues
variable {s t u : State}

theorem refl (s : State) : s.Issues s := ⟨rfl⟩

theorem trans (hst : s.Issues t) (htu : t.Issues u) : s.Issues u := ⟨htu.frame.trans (by rw [hst.frame])⟩

theorem inLedger (h : s.Issues t) : s.InLedger t := ⟨h.frame.trans (by rw [h.frame])⟩

end State.Issues

section
variable (s : State)

theorem State.issueOne_issues : s.Issues s.issueOne := by
  unfold State.issueOne
  dsimp only
  split
  · exact .refl s
  · split
    · exact .refl s
    · exact ⟨rfl⟩

theorem State.issue_issues : s.Issues s.issue := by
  have hsteps (l : List Nat) (u : State) : u.Issues (l.foldl (fun (t : State) _ => t.issueOne) u) := by
    induction l generalizing u with
    | nil => exact .refl u
    | cons k l ih => exact u.issueOne_issues.trans (ih _)
  exact hsteps (List.range 8) s

theorem State.ledgerPhase_eq : s.ledgerPhase = { s with lg := { s.lg with phase := s.ledgerPhase.lg.phase } } := by
  simp only [State.ledgerPhase]
  split <;> rfl

theorem State.ledgerPhase_inLedger : s.InLedger s.ledgerPhase := ⟨s.ledgerPhase_eq.trans (by rw [s.ledgerPhase_eq])⟩

theorem State.ledgerPhase_slot (j : Nat) : s.ledgerPhase.slot j = s.slot j := by
  rw [State.slot, s.ledgerPhase_inLedger.hs]
  rfl

theorem State.newEpoch_phase (detail j : Nat) : ((s.newEpoch detail).slot j).phase = (s.slot j).phase := State.raise_phase _ _ j

/-- A delivery leaves the slots. -/
theorem State.pumpStep_slots (i : Nat) : (State.pumpStep i s).hs.slots = s.hs.slots := by
  simp only [State.pumpStep]
  split
  · rfl
  · split
    · rfl
    · split
      · rfl
      · split
        · rfl
        · split
          · rfl
          · split_ifs
            · rfl
            · rfl
            · rfl
            · simp only [State.countUnreadable]
              split <;> rfl
            · rfl

theorem State.pumpSteps_slots (i n : Nat) : (iter n (fun _ t => State.pumpStep i t) s).hs.slots = s.hs.slots := by
  induction n with
  | zero => rfl
  | succ n ih =>
    rw [iter_succ]
    exact (State.pumpStep_slots _ i).trans ih

theorem State.pump_slots (i : Nat) : (s.pump i).hs.slots = s.hs.slots := by
  unfold State.pump
  exact s.pumpSteps_slots i 8200

theorem State.pump_slot (i j : Nat) : (s.pump i).slot j = s.slot j := by
  rw [State.slot, s.pump_slots]
  rfl

end

/-! ### Mounting (R464, R465, R471) -/

/-- `t` differs from `s` in the ledger, but for its being mounted, and in the events. -/
structure State.KeepsMount (s t : State) : Prop where
  capture : s.InCapture t
  mounted : t.lg.mounted = s.lg.mounted
  takeover : t.lg.takeover = s.lg.takeover

namespace State.KeepsMount
variable {s t u : State}

theorem refl (s : State) : s.KeepsMount s := ⟨.refl s, rfl, rfl⟩

theorem trans (hst : s.KeepsMount t) (htu : t.KeepsMount u) : s.KeepsMount u := ⟨hst.capture.trans htu.capture, htu.mounted.trans hst.mounted, htu.takeover.trans hst.takeover⟩

theorem ite {p : Prop} [Decidable p] (ht : s.KeepsMount t) (hu : s.KeepsMount u) : s.KeepsMount (if p then t else u) := by
  split
  · exact ht
  · exact hu

theorem raise (s : State) (e : Evt) : s.KeepsMount (s.raise e) := by
  obtain ⟨slots, drops, num, hlg⟩ := s.raise_lg e
  exact ⟨⟨rfl⟩, by rw [hlg], by rw [hlg]⟩

theorem of_ledger {l : Ledger} (hmounted : l.mounted = s.lg.mounted) (htakeover : l.takeover = s.lg.takeover) : s.KeepsMount { s with lg := l } := ⟨⟨rfl⟩, hmounted, htakeover⟩

theorem newEpoch (s : State) (detail : Nat) : s.KeepsMount (s.newEpoch detail) := by
  refine trans ?_ (raise _ _)
  exact of_ledger rfl rfl

theorem sealPage (s : State) (p : Page) : s.KeepsMount (s.sealPage p).1 := (ite (p := s.lg.seq + 1 < 2 ^ 48) (.refl s) (.newEpoch s 1)).trans (of_ledger rfl rfl)

theorem closeFrame (s : State) (h status : Nat) : s.KeepsMount (s.closeFrame h status) := by
  simp only [State.closeFrame]
  split
  · exact .refl s
  · exact (sealPage s _).trans (of_ledger rfl rfl)

theorem resumeChain (s : State) (p : Page) (ps : List Page) : s.KeepsMount (s.resumeChain p ps) := of_ledger rfl rfl

theorem mountStart (s : State) (ps : List Page) : s.KeepsMount (s.mountStart ps) := by
  simp only [State.mountStart]
  split
  · refine trans ?_ (newEpoch _ 3)
    exact of_ledger rfl rfl
  · next p rest hps =>
    refine (resumeChain s p ps).trans (trans ?_ (raise _ _))
    exact of_ledger rfl rfl

theorem mountTakeover (s : State) (ps : List Page) : s.KeepsMount (s.mountTakeover ps) := by
  simp only [State.mountTakeover]
  split
  · refine trans ?_ (raise _ _)
    exact of_ledger rfl rfl
  · next p rest hps =>
    refine (resumeChain s p ps).trans ?_
    split
    · refine ite (raise _ _) ?_
      split
      · exact (closeFrame _ _ 1).trans (raise _ _)
      · exact raise _ _
    · exact raise _ _

theorem issue (s : State) : s.KeepsMount s.issue := by
  rw [s.issue_issues.frame]
  exact of_ledger rfl rfl

theorem ledgerPhase (s : State) : s.KeepsMount s.ledgerPhase := by
  rw [s.ledgerPhase_eq]
  exact of_ledger rfl rfl

end State.KeepsMount

/-- The ledger of an active keystone once the mount has begun: what was found on the drives, and no work under way. -/
def State.mountBegun (s : State) (m : MountIn) : State :=
  { s with lg := { s.lg with drives := s.findDrives m.drives, direct := m.direct, mounted := true, takeover := false, ops := [], queue := [], frame := none, cap := none } }

theorem doLedgerMount_mounts {s : State} {m : MountIn} (hlive : s.rd.haveActive = true) (hstep : s.st.step4 = true) (hfresh : s.lg.mounted = false) : (s.mountBegun m).KeepsMount (doLedgerMount m s) := by
  have hmounts : (!s.rd.haveActive || !s.st.step4 || (s.lg.mounted && !s.lg.takeover)) = false := by simp [hlive, hstep, hfresh]
  simp only [doLedgerMount, hmounts, Bool.false_eq_true, if_false]
  refine .ite (.of_ledger rfl rfl) (.trans (.trans (.trans ?pages (.ite (.mountTakeover _ _) (.mountStart _ _))) (.ledgerPhase _)) (.issue _))
  exact .of_ledger rfl rfl

/-! ### The first page not delivered (R469) -/

theorem foldl_min_le (l : List Nat) (a : Nat) : l.foldl Nat.min a ≤ a ∧ ∀ x ∈ l, l.foldl Nat.min a ≤ x := by
  induction l generalizing a with
  | nil => exact ⟨Nat.le_refl a, fun x hx => nomatch hx⟩
  | cons y l ih =>
    obtain ⟨hfirst, hrest⟩ := ih (Nat.min a y)
    refine ⟨hfirst.trans (Nat.min_le_left a y), fun x hx => ?_⟩
    rcases List.mem_cons.mp hx with rfl | hx
    · exact hfirst.trans (Nat.min_le_right a _)
    · exact hrest x hx

theorem minN_le {d x : Nat} {l : List Nat} (hx : x ∈ l) : minN d l ≤ x := by
  cases l with
  | nil => exact nomatch hx
  | cons y l =>
    obtain ⟨hfirst, hrest⟩ := foldl_min_le l y
    rcases List.mem_cons.mp hx with rfl | hx
    · exact hfirst
    · exact hrest x hx

theorem Ledger.pendingFrom_le (l : Ledger) (k : Nat) : l.pendingFrom k ≤ k := minN_le (List.mem_cons_self ..)

/-- A held page that is not yet durable is not passed over. -/
theorem Ledger.pendingFrom_le_held {l : Ledger} {k n : Nat} {q : Stored} (hheld : (k, some q) ∈ l.pages) (hk : k < n) (hwaits : q.durable = false) : l.pendingFrom n ≤ k := by
  refine minN_le (List.mem_cons_of_mem _ (List.mem_map.mpr ⟨(k, some q), List.mem_filter.mpr ⟨hheld, ?_⟩, rfl⟩))
  simp [hk, hwaits]

theorem Ledger.pendingFrom_durable {l : Ledger} (hall : ∀ p ∈ l.pages, ∀ q, p.2 = some q → q.durable = true) (n : Nat) : l.pendingFrom n = n := by
  refine (congrArg (fun t : Tab (Option Stored) => minN n (n :: t.map (fun e => e.1))) (List.filter_eq_nil_iff.mpr fun e he => ?_)).trans rfl
  cases hq : e.2 with
  | none => simp
  | some q => simp [hall e he q hq]

/-- What is left to deliver. -/
theorem Ledger.firstLeft_le {l : Ledger} {e : Export} {x : Nat} (hx : x = l.pendingFrom e.next ∨ x ∈ (e.ring.map (fun y => e.entryFirst y.1 y.2)).flatten ∨ ∃ g, e.gap = some g ∧ x = g.1) : l.firstLeft e ≤ x := by
  refine minN_le ?_
  rcases hx with rfl | hx | ⟨g, hg, rfl⟩
  · exact List.mem_append_left _ (List.mem_cons_self ..)
  · exact List.mem_append_left _ (List.mem_cons_of_mem _ hx)
  · exact List.mem_append_right _ (by rw [hg]; exact List.mem_cons_self ..)

/-! ### Binding a pair (R441, R447) -/

/-- A drive once its pair has been bound. -/
def State.boundDrive (s : State) (p : Nat) (first : Bool) (x : Drive) : Drive :=
  if s.ownDrive x then x else { x with block := some { plant := s.fu.plantId.getD [], serial := wordBytes (s.fu.read 1 0 3), pair := p }, copying := !first }

/-- The drives of a pair once it has been bound. -/
def State.bindPair (s : State) (p : Nat) : State :=
  let first := !s.ownDrive (s.drive (2 * p)) && !s.ownDrive (s.drive (2 * p + 1))
  { s with lg := { s.lg with drives := tset {} (tset {} s.lg.drives (2 * p) (s.boundDrive p first (s.drive (2 * p)))) (2 * p + 1) (s.boundDrive p first (s.drive (2 * p + 1))) } }

/-- A pair of a bound plant whose drives fit and are of no other plant. -/
theorem ledgerDriveBind_fit {s : State} {p : Nat} (hp : p < 8) (hplant : s.fu.plantId.isSome = true)
    (hfit : ∀ d : Nat, (d = 2 * p ∨ d = 2 * p + 1) → (s.drive d).present = true ∧ (s.drive d).supported = true ∧ (s.drive d).failed = false ∧ s.foreignDrive (s.drive d) = false) :
    ledgerDriveBind p s = if s.ownDrive (s.drive (2 * p)) = true ∧ s.ownDrive (s.drive (2 * p + 1)) = true then (s, okAns)
      else if s.lg.phase = 0 then ((({ s.bindPair p with lg := { (s.bindPair p).lg with phase := s.servesPhase, mounted := true } } : State).newEpoch 1).ledgerPhase, okAns)
      else ((s.bindPair p).ledgerPhase.issue, okAns) := by
  obtain ⟨hpresent, hsupported, hworks, hhome⟩ := hfit (2 * p) (.inl rfl)
  obtain ⟨hpresent', hsupported', hworks', hhome'⟩ := hfit (2 * p + 1) (.inr rfl)
  have hallows : ¬ (s.fu.plantId.isNone || s.foreignDrive (s.drive (2 * p)) || s.foreignDrive (s.drive (2 * p + 1))) = true := by simp [hhome, hhome', Option.ne_none_iff_isSome.mpr hplant]
  have hfits : ¬ (!((s.drive (2 * p)).present && (s.drive (2 * p)).supported && !(s.drive (2 * p)).failed) || !((s.drive (2 * p + 1)).present && (s.drive (2 * p + 1)).supported && !(s.drive (2 * p + 1)).failed)) = true := by
    simp [hpresent, hsupported, hworks, hpresent', hsupported', hworks']
  simp only [ledgerDriveBind, if_neg (Nat.not_le.mpr hp), if_neg hallows, if_neg hfits, Bool.and_eq_true]
  rfl

theorem ledgerDriveBind_own {s : State} {p : Nat} (hp : p < 8) (hplant : s.fu.plantId.isSome = true) (hown : s.ownDrive (s.drive (2 * p)) = true) (hown' : s.ownDrive (s.drive (2 * p + 1)) = true) :
    ledgerDriveBind p s = (s, okAns) := by
  have hallows : ¬ (s.fu.plantId.isNone || s.foreignDrive (s.drive (2 * p)) || s.foreignDrive (s.drive (2 * p + 1))) = true := by simp [State.foreignDrive, hown, hown', Option.ne_none_iff_isSome.mpr hplant]
  simp only [ledgerDriveBind, if_neg (Nat.not_le.mpr hp), if_neg hallows, hown, hown', Bool.and_self, if_true]

/-! ### Exports (R466 to R469) -/

theorem ledgerExport_live {s : State} {i base order : Nat} (seq : Nat) (hnone : tget none s.lg.exports i = none) (hworks : s.saving = false) (hbase : base % 4096 = 0) (hlow : 2 ≤ order) (hhigh : order ≤ 12) :
    ledgerExport false i base order 0 seq s =
      (({ s with lg := { s.lg with prod := tset 0 s.lg.prod i 0, exports := tset none s.lg.exports i (some { base := base, order := order, live := true, next := s.lg.epoch * 2 ^ 48 + s.lg.durable + 1, cons := 0, gap := none, ring := [], markers := [], delivered := 0 }) } } : State).pump i, acceptedAns) := by
  have hfree : (false || (tget none s.lg.exports i).isSome || s.saving) = false := by simp [hnone, hworks]
  have hrange (x y : Nat) : ¬ (1 < 0 ∨ order < 2 ∨ 12 < order ∨ (0 = 1 ∧ x < y)) := by omega
  have hstart : (decide (0 = 1)) = false := rfl
  simp only [ledgerExport, hfree, hbase, hrange, hstart, Bool.false_eq_true, ne_eq, not_true_eq_false, if_false, if_true, Bool.false_and]
  rfl

/-- Settles O54: the ledger's commands, its mounting and the end of exports, branch by branch. -/
theorem ledgerCommands : Obligations.LedgerCommands := by
  unfold Obligations.LedgerCommands
  have hok : stState ≠ stOk := by decide
  have haccepted : stState ≠ stAccepted := by decide
  refine ⟨fun h s hr => answers_same rfl hr rfl rfl, ?exports, ?overUdp, ?noAck, ?backwards, ?acknowledged, ?noStop, ?stopped, ?noPair, ?binds, ?bound, ?unbound, ?noKeystone, ?mounts, ?noPlant, ?bindsFirst, ?left⟩
  case exports =>
    intro h base order seq s hr hudp hnone hworks hbase hlow hhigh
    have heffect := ledgerExport_live seq hnone hworks hbase hlow hhigh
    rw [← hudp] at heffect
    refine answersJ_open (f := ledgerExport h.udp h.slot base order 0 seq) rfl hr ?_ (.inr rfl) heffect
    rw [State.pump_slot]
    exact hr.2
  case overUdp =>
    intro h base order start seq s hr hudp
    exact answersJ_refused (f := ledgerExport h.udp h.slot base order start seq) rfl hr hok haccepted (by simp [ledgerExport, hudp])
  case noAck =>
    intro h cons s hr hnone
    exact answersJ_refused (f := ledgerExportAck h.slot cons) rfl hr hok haccepted (by simp only [ledgerExportAck, hnone])
  case backwards =>
    intro h cons e s hr hsome hback
    exact answersJ_same (f := ledgerExportAck h.slot cons) rfl hr rfl (.inl rfl) (by simp only [ledgerExportAck, hsome, if_pos hback])
  case acknowledged =>
    intro h cons e s hr hsome hforth
    dsimp only
    refine answersJ_open (f := ledgerExportAck h.slot cons) rfl hr ?stays (.inl rfl) ?effect
    case stays =>
      rw [State.pump_slot]
      exact hr.2
    case effect =>
      simp only [ledgerExportAck, hsome, if_neg (Nat.not_lt.mpr hforth)]
      rfl
  case noStop =>
    intro h s hr hnone
    exact answersJ_refused (f := ledgerExportStop h.slot) rfl hr hok haccepted (by simp only [ledgerExportStop, hnone])
  case stopped =>
    intro h e s hr hsorted hsome
    have hends : s.endExport h.slot = ({ s with lg := { s.lg with exports := tset none s.lg.exports h.slot none } } : State).raise { kind := .exportEnded, unit := noUnit, detail := s.lg.firstLeft e % 65536 } := by
      simp only [State.endExport, hsome]
    refine answersJ_open (f := ledgerExportStop h.slot) rfl hr ((State.raise_phase _ _ _).trans_ne hr.2) (.inl rfl) ?_
    simp only [ledgerExportStop, hsome, hends]
  case noPair =>
    intro h p s hr hp
    exact answersJ_refused (f := ledgerDriveBind p) rfl hr (show stRange ≠ stOk by decide) (show stRange ≠ stAccepted by decide) (by simp only [ledgerDriveBind, if_pos hp])
  case binds =>
    intro h p s hr hp hplant hserves hfit
    have heffect := ledgerDriveBind_fit hp hplant hfit
    rw [if_neg hserves] at heffect
    split
    · next hown => exact answersJ_same (f := ledgerDriveBind p) rfl hr rfl (.inl rfl) (heffect.trans (if_pos hown))
    · next hown =>
      have hwork : ((s.bindPair p).ledgerPhase.issue).hs = s.hs := ((State.ledgerPhase_inLedger _).trans (State.issue_issues _).inLedger).hs
      exact answersJ_same (f := ledgerDriveBind p) rfl hr hwork (.inl rfl) (heffect.trans (if_neg hown))
  case bound =>
    intro h p s hr hp hplant hown hown'
    exact answersJ_same (f := ledgerDriveBind p) rfl hr rfl (.inl rfl) (ledgerDriveBind_own hp hplant hown hown')
  case unbound =>
    intro h p s hr hp hbar
    have hrefuses : (s.fu.plantId.isNone || s.foreignDrive (s.drive (2 * p)) || s.foreignDrive (s.drive (2 * p + 1))) = true := by
      rcases hbar with hbar | hbar | hbar <;> simp [hbar]
    exact answersJ_refused (f := ledgerDriveBind p) rfl hr hok haccepted
      (by simp only [ledgerDriveBind, if_neg (Nat.not_le.mpr hp), hrefuses, if_true])
  case noKeystone =>
    intro m s hlive
    simp [exec, execLedgerMount, doLedgerMount, hlive]
  case mounts =>
    intro m s hlive hstep hfresh
    obtain ⟨hframe, hmounted, htakeover⟩ := doLedgerMount_mounts (m := m) hlive hstep hfresh
    refine ⟨_, rfl, hmounted, htakeover, ?_⟩
    rw [hframe.frame]
    exact ⟨rfl, rfl, rfl⟩
  case noPlant =>
    intro m s hlive hstep hfresh hplant
    have hmounts : (!s.rd.haveActive || !s.st.step4 || (s.lg.mounted && !s.lg.takeover)) = false := by simp [hlive, hstep, hfresh]
    simp only [exec, execLedgerMount, doLedgerMount, hmounts, hplant, Bool.true_or, Bool.false_eq_true, if_false, if_true]
  case bindsFirst =>
    intro h p s hr hsorted hp hplant hidle hother hfit
    have heffect := ledgerDriveBind_fit hp hplant hfit
    have hnew : ¬ (s.ownDrive (s.drive (2 * p)) = true ∧ s.ownDrive (s.drive (2 * p + 1)) = true) := by simp [hother]
    have hpair : s.bindPair p = { s with lg := { s.lg with drives := tset {} (tset {} s.lg.drives (2 * p) (s.boundDrive p (!s.ownDrive (s.drive (2 * p + 1))) (s.drive (2 * p)))) (2 * p + 1) (s.boundDrive p (!s.ownDrive (s.drive (2 * p + 1))) (s.drive (2 * p + 1))) } } := by
      simp only [State.bindPair, hother, Bool.not_false, Bool.true_and]
    rw [if_neg hnew, if_pos hidle, hpair] at heffect
    refine answersJ_open (f := ledgerDriveBind p) rfl hr ?_ (.inl rfl) heffect
    rw [State.ledgerPhase_slot, State.newEpoch_phase]
    exact hr.2
  case left =>
    intro l e
    refine ⟨(Ledger.firstLeft_le (.inl rfl)).trans (l.pendingFrom_le e.next), fun n k hk => Ledger.firstLeft_le (.inr (.inl ?_)), fun g hg => Ledger.firstLeft_le (.inr (.inr ⟨g, hg, rfl⟩)),
      fun k q hheld hk hwaits => (Ledger.firstLeft_le (.inl rfl)).trans (Ledger.pendingFrom_le_held hheld hk hwaits), fun hring hgap hall => ?_⟩
    · exact List.mem_flatten.mpr ⟨[k], List.mem_map.mpr ⟨(n, some (k + 1)), hk, rfl⟩, List.mem_cons_self ..⟩
    · simp only [Ledger.firstLeft, hring, hgap, Ledger.pendingFrom_durable hall]
      rfl

end Sys2Proof.Machine
end

section
/-! SUPPORT. The ledger: its snapshots, its event pages and its drives (R446 to R463). -/

namespace Sys2Proof.Machine
open Sys2Proof

/-! ### Event pages (R461) -/

/-- A page sealed within the epoch: the next sequence. -/
theorem State.sealPage_next {s : State} (hroom : s.lg.seq + 1 < 2 ^ 48) (p : Page) :
    ∃ prev pages, (s.sealPage p).1 = { s with lg := { s.lg with seq := s.lg.seq + 1, prev := prev, restart := false, pages := pages } } := by
  simp only [State.sealPage, if_pos hroom]
  exact ⟨_, _, rfl⟩

/-- A full page of held events is sealed. -/
theorem doEventPageSeal_full {s : State} (hphase : s.lg.phase = 2) (hheld : s.lg.slots ≠ []) (hfull : 124 ≤ s.lg.heldSlots) (hroom : s.lg.seq + 1 < 2 ^ 48) :
    s.InLedger (doEventPageSeal s) ∧ (doEventPageSeal s).lg.seq = s.lg.seq + 1 ∧ (doEventPageSeal s).lg.slots = s.lg.slots.drop (fitEvents 124 s.lg.slots).length := by
  have hempty : s.lg.slots.isEmpty = false := by simpa using hheld
  let u : State := { s with lg := { s.lg with slots := s.lg.slots.drop (fitEvents 124 s.lg.slots).length } }
  obtain ⟨p, hseals⟩ : ∃ p, doEventPageSeal s = State.issue { (u.sealPage p).1 with lg := (u.sealPage p).1.lg.enqueueEvent (u.sealPage p).2 } :=
    ⟨_, if_neg (by simp [hphase, hempty, hfull])⟩
  obtain ⟨prev, pages, hseal⟩ := u.sealPage_next hroom p
  rw [hseals, hseal, (State.issue_issues _).frame]
  exact ⟨⟨rfl⟩, rfl, rfl⟩

/-! ### A write that every copy has completed (R446, R463) -/

/-- The pages of a write, durable. -/
def markDurable (ks : List Nat) (t : Tab (Option Stored)) : Tab (Option Stored) :=
  ks.foldl (fun (t : Tab (Option Stored)) k => tmod none t k (fun q => q.map (fun (y : Stored) => { y with durable := true }))) t

/-- Being durable leaves the page itself. -/
theorem markDurable_page {t : Tab (Option Stored)} (w : twf none t = true) (ks : List Nat) (k : Nat) :
    (tget none (markDurable ks t) k).map (fun q => q.page) = (tget none t k).map (fun q => q.page) := by
  induction ks generalizing t with
  | nil => rfl
  | cons j ks ih =>
    refine (ih (twf_tmod j _ w)).trans ?_
    by_cases hk : k = j
    · subst hk
      rw [tget_tmod_self w, Option.map_map]
      rfl
    · rw [tget_tmod_ne hk w]

/-- What a page tells of the Flush that is to follow it: its kind, and whether it closes a stop snapshot. -/
def Ledger.pageKind (t : Tab (Option Stored)) (k : Nat) : Option (Nat × Bool) := (tget none t k).map (fun q => (q.page.kind, q.page.flags.testBit 0))

theorem markDurable_pageKind {t : Tab (Option Stored)} (w : twf none t = true) (ks : List Nat) (k : Nat) : Ledger.pageKind (markDurable ks t) k = Ledger.pageKind t k := by
  have hkind (t : Tab (Option Stored)) : Ledger.pageKind t k = ((tget none t k).map (fun q => q.page)).map (fun p => (p.kind, p.flags.testBit 0)) := by
    simp only [Ledger.pageKind, Option.map_map]
    rfl
  rw [hkind, hkind, markDurable_page w]

/-- A write has been completed: it is no longer under way and its pages are durable. -/
def State.completed (s : State) (o : NvmeOp) : State :=
  let l := { s.lg with
    ops := s.lg.ops.filter (fun x => x.ident != o.ident), pages := markDurable o.pages s.lg.pages
    durable := (o.pages.filter (fun k => k / 2 ^ 48 == s.lg.epoch)).foldl (fun m k => Nat.max m (k % 2 ^ 48)) s.lg.durable }
  { s with lg := { l with frame := l.frameLeft } }

/-- `t` is `s` with Flush commands `fl` under way. -/
structure State.Flushing (s : State) (fl : List NvmeOp) (t : State) : Prop where
  frame : t = { s with lg := { s.lg with nextOp := t.lg.nextOp, ops := s.lg.ops ++ fl } }
  flushes : ∀ x ∈ fl, x.flush = true ∧ x.pages = []

theorem State.Flushing.none (s : State) : s.Flushing [] s := ⟨by rw [List.append_nil], fun x hx => nomatch hx⟩

theorem State.issueFlush_flushing (s : State) (p : Nat) : ∃ x : NvmeOp, s.Flushing [x] (s.issueFlush p) ∧ x.pair = p :=
  ⟨_, ⟨rfl, fun x hx => by rw [List.mem_singleton.mp hx]; exact ⟨rfl, rfl⟩⟩, rfl⟩

theorem State.issueFlushes_flushing (ps : List Nat) (s : State) : ∃ fl, s.Flushing fl (ps.foldl State.issueFlush s) := by
  induction ps generalizing s with
  | nil => exact ⟨[], .none s⟩
  | cons p ps ih =>
    obtain ⟨x, ⟨hframe, hflush⟩, -⟩ := s.issueFlush_flushing p
    obtain ⟨fl, hframe', hflushes⟩ := ih (s.issueFlush p)
    have hops : (s.issueFlush p).lg.ops = s.lg.ops ++ [x] := by rw [hframe]
    refine ⟨x :: fl, hframe'.trans (by rw [hops, List.append_assoc]; rfl), fun y hy => ?_⟩
    rcases List.mem_cons.mp hy with rfl | hy
    · exact hflush y (List.mem_cons_self ..)
    · exact hflushes y hy

/-- Without exports a durable page is offered to none. -/
theorem State.offers_none {s : State} (hexports : s.lg.exports = []) (ks : List Nat) : ks.foldl State.offer s = s := by
  induction ks with
  | nil => rfl
  | cons k ks ih =>
    have hoffer : s.offer k = s := by simp only [State.offer, hexports, List.map_nil, List.foldl_nil]
    rw [List.foldl_cons, hoffer, ih]

/-- Without pages in the queue nothing is issued. -/
theorem State.issue_none {s : State} (hqueue : s.lg.queue = []) : s.issue = s := by
  have hone : s.issueOne = s := by
    simp only [State.issueOne]
    split
    · rfl
    · rw [if_pos (.inr (.inl hqueue))]
  have hsteps (l : List Nat) : l.foldl (fun (t : State) _ => t.issueOne) s = s := by
    induction l with
    | nil => rfl
    | cons k l ih => rw [List.foldl_cons, hone, ih]
  exact hsteps (List.range 8)

/-- Which Flush commands follow a completed write. -/
def State.flushAfter (s : State) (o : NvmeOp) : State :=
  let kinds := o.pages.filterMap (Ledger.pageKind s.lg.pages)
  if kinds.any (fun k => k.1 == 3 && k.2) then ((List.range 8).filter (s.completed o).pairOk).foldl State.issueFlush (s.completed o)
  else if kinds.any (fun k => k.1 == 3 || k.1 == 0x10) then (s.completed o).issueFlush o.pair else s.completed o

theorem State.flushAfter_flushing (s : State) (o : NvmeOp) : ∃ fl, (s.completed o).Flushing fl (s.flushAfter o) := by
  simp only [State.flushAfter]
  split_ifs
  · exact State.issueFlushes_flushing _ _
  · obtain ⟨x, hx, -⟩ := (s.completed o).issueFlush_flushing o.pair
    exact ⟨[x], hx⟩
  · exact ⟨[], .none _⟩

/-- Where nothing waits and nothing is exported, the completion of a write ends with its Flush commands. -/
theorem State.finishOp_alone {s : State} (o : NvmeOp) (hexports : s.lg.exports = []) (hqueue : s.lg.queue = []) : s.finishOp o = s.flushAfter o := by
  obtain ⟨fl, hframe, -⟩ := s.flushAfter_flushing o
  have hfinish : s.finishOp o = (o.pages.foldl State.offer (s.flushAfter o)).issue := rfl
  have hexports' : (s.flushAfter o).lg.exports = [] := by
    rw [hframe]
    exact hexports
  have hqueue' : (s.flushAfter o).lg.queue = [] := by
    rw [hframe]
    exact hqueue
  rw [hfinish, State.offers_none hexports', State.issue_none hqueue']

/-! ### Drives (R446 to R448) -/

/-- A drive whose retry has ended. -/
def Drive.retried (x : Drive) : Drive := { x with retrying := false }

theorem Drive.retried_listed {x : Drive} (hpresent : x.present = true) : x.retried ≠ {} := by
  intro hempty
  have habsent : x.retried.present = false := by rw [hempty]
  exact Bool.noConfusion (hpresent.symm.trans habsent)

section
variable {s : State} {d : Nat}

/-- A drive with a command to complete that has not been retried is reset and tried again. -/
theorem doDriveTimeout_waits (hwaits : s.lg.ops.any (fun o => o.pair == d / 2 && o.waiting.testBit (d % 2)) = true) :
    doDriveTimeout d s = if (s.drive d).retrying then s.failDrive d 0 else { s with lg := { s.lg with drives := tmod {} s.lg.drives d (fun x => { x with retrying := true }) } } := by
  simp only [doDriveTimeout, hwaits, Bool.not_true, Bool.false_eq_true, if_false]

/-- The poll of a drive that takes part. -/
theorem doSmartPoll_takes (hok : s.driveOk d = true) (w : Nat) :
    doSmartPoll d w s = if w.testBit 2 = true ∨ w.testBit 3 = true then s.failDrive d (if w.testBit 0 then 512 else 0)
      else if (if w.testBit 0 then 512 else 0) = 0 then s else s.raise { kind := .driveFailed, unit := noUnit, detail := d + if w.testBit 0 then 512 else 0 } := by
  simp only [doSmartPoll, hok, Bool.not_true, Bool.false_eq_true, if_false]

/-- A whole drive is whole once its retry has ended. -/
theorem State.driveWhole_retried (hwhole : s.driveWhole d = true) : ({ s with lg := { s.lg with drives := tmod {} s.lg.drives d Drive.retried } } : State).driveWhole d = true := by
  have hpresent : (s.drive d).present = true := by
    simp only [State.driveWhole, State.driveOk, Bool.and_eq_true] at hwhole
    obtain ⟨⟨⟨hpresent, -⟩, -⟩, -⟩ := hwhole
    exact hpresent
  have hdrive : tget {} (tmod {} s.lg.drives d Drive.retried) d = (s.drive d).retried := (tget_tmod_listed _ (Drive.retried_listed hpresent) d).trans (if_pos rfl)
  have hsame : ({ s with lg := { s.lg with drives := tmod {} s.lg.drives d Drive.retried } } : State).driveWhole d = s.driveWhole d := by
    simp only [State.driveWhole, State.driveOk, State.drive, hdrive]
    rfl
  rw [hsame, hwhole]

end

theorem State.raise_ops (s : State) (e : Evt) : (s.raise e).lg.ops = s.lg.ops := by
  obtain ⟨slots, drops, num, hlg⟩ := s.raise_lg e
  rw [hlg]

/-- A drive of no pair fails with no command under way. -/
theorem State.failDrive_unbound {s : State} {d : Nat} (extra : Nat) (hworks : (s.drive d).failed = false) (hown : s.ownDrive (s.drive d) = false) (hops : s.lg.ops = []) :
    s.failDrive d extra = (({ s with lg := { s.lg with driveFail := true, drives := tmod {} s.lg.drives d (fun x => { x with failed := true, retrying := false, copying := false }) } } : State).raise
      { kind := .driveFailed, unit := noUnit, detail := d + 256 + extra }).ledgerPhase.issue := by
  simp only [State.failDrive, hworks, hown, Bool.false_eq_true, if_false, State.raise_ops, hops, List.filter_nil, List.foldl_nil]

/-- What follows a completed write. -/
theorem State.flushAfter_follows (s : State) (o : NvmeOp) : ∃ fl, (s.completed o).Flushing fl (s.flushAfter o) ∧
    ((∀ k ∈ o.pages, ∀ q, Ledger.pageKind s.lg.pages k = some q → q.1 ≠ 3 ∧ q.1 ≠ 0x10) → fl = []) ∧
    ((∀ k ∈ o.pages, ∀ q, Ledger.pageKind s.lg.pages k = some q → q.1 ≠ 3) → (∃ k ∈ o.pages, ∃ f, Ledger.pageKind s.lg.pages k = some (0x10, f)) → fl.map (fun x => x.pair) = [o.pair]) := by
  have hclose {k : Nat × Bool} (hk : k ∈ o.pages.filterMap (Ledger.pageKind s.lg.pages)) (hnone : ∀ k ∈ o.pages, ∀ q, Ledger.pageKind s.lg.pages k = some q → q.1 ≠ 3) : k.1 ≠ 3 := by
    obtain ⟨j, hj, hkind⟩ := List.mem_filterMap.mp hk
    exact hnone j hj k hkind
  simp only [State.flushAfter]
  split
  · next hstop =>
    obtain ⟨k, hk, hcloses⟩ := List.any_eq_true.mp hstop
    have hthree : k.1 = 3 := by
      simp only [Bool.and_eq_true, beq_iff_eq] at hcloses
      exact hcloses.1
    obtain ⟨fl, hfl⟩ := State.issueFlushes_flushing ((List.range 8).filter (s.completed o).pairOk) (s.completed o)
    exact ⟨fl, hfl, fun hnone => absurd hthree (hclose hk fun j hj q hq => (hnone j hj q hq).1), fun hnone _ => absurd hthree (hclose hk hnone)⟩
  · split
    · next hevent =>
      obtain ⟨x, hx, hpair⟩ := (s.completed o).issueFlush_flushing o.pair
      refine ⟨[x], hx, fun hnone => ?_, fun _ _ => congrArg (fun p => [p]) hpair⟩
      obtain ⟨k, hk, hkind⟩ := List.any_eq_true.mp hevent
      obtain ⟨j, hj, hpage⟩ := List.mem_filterMap.mp hk
      obtain ⟨hthree, hten⟩ := hnone j hj k hpage
      simp [hthree, hten] at hkind
    · next hquiet =>
      refine ⟨[], .none _, fun _ => rfl, fun _ ⟨k, hk, f, hkind⟩ => absurd ?_ hquiet⟩
      exact List.any_eq_true.mpr ⟨(0x10, f), List.mem_filterMap.mpr ⟨k, hk, hkind⟩, rfl⟩

/-- Settles O55: snapshots, event pages and drives, branch by branch. -/
theorem Ledger.ledgerRows : Obligations.LedgerRows := by
  unfold Obligations.LedgerRows
  have hdrive {d : Nat} (hd : d < 16) : ¬ 16 ≤ d := Nat.not_le.mpr hd
  refine ⟨?falls, ?early, ?skips, ?captures, ?notDue, ?noPages, ?seals, ?noCommand, ?part, ?retries, ?fails, ?critical, ?spare, ?healthy, ?whole, ?notCopying, fun d extra s hworks hown hops => State.failDrive_unbound extra hworks hown hops,
    ?completes, ?errs, ?skipsLate, ?cadence, fun s => rfl, ?durable⟩
  case falls =>
    intro s hc hpassed hphase hbusy
    simp only [exec, execSnapshotDue, doSnapshotDue, if_neg hc, if_neg (Nat.not_le.mpr hpassed), hphase, hbusy]
    simp
  case early =>
    intro s hpassed
    have hnot : (if s.cadence = 0 then 0 else s.tb.pt.ns / 1000000 / s.cadence * s.cadence) ≤ s.lg.lastDue := by
      split
      · exact Nat.zero_le _
      · exact hpassed
    simp only [exec, execSnapshotDue, doSnapshotDue, if_pos hnot]
  case skips =>
    intro s hc hpassed hbusy
    simp only [exec, execSnapshotDue, doSnapshotDue, if_neg hc, if_neg (Nat.not_le.mpr hpassed), if_pos hbusy]
  case captures =>
    intro s hdue hidx hphase
    have hbegins : (!s.lg.due || s.tb.idx != 0) = false := by simp [hdue, hidx]
    simp only [exec, execSnapshotCapture, doSnapshotCapture, hbegins, Bool.false_eq_true, if_false, hphase, ne_eq, not_true_eq_false, State.beginCapture, Nat.zero_add]
    rfl
  case notDue =>
    intro s hdue
    simp [exec, execSnapshotCapture, doSnapshotCapture, hdue]
  case noPages =>
    intro s hrunning hstopped
    simp [exec, execEventPageSeal, doEventPageSeal, hrunning, hstopped]
  case seals =>
    intro s hphase hheld hfull hroom
    obtain ⟨hframe, hseq, hslots⟩ := doEventPageSeal_full hphase hheld hfull hroom
    exact ⟨_, rfl, hframe.frame, hseq, hslots⟩
  case noCommand =>
    intro ident d ok s hd hops
    simp [exec, execNvmeCompletion, hdrive hd, doNvmeCompletion, hops]
  case part =>
    intro ident d o s hd hfind hleft
    simp only [exec, execNvmeCompletion, if_neg (hdrive hd), doNvmeCompletion, hfind, if_true, State.clearOp, if_neg hleft]
  case retries =>
    intro d s hd hwaits hfirst
    simp only [exec, execDriveTimeout, if_neg (hdrive hd), doDriveTimeout_waits hwaits, hfirst, Bool.false_eq_true, if_false]
  case fails =>
    intro d s hd hwaits hsecond hworks
    simp only [exec, execDriveTimeout, if_neg (hdrive hd), doDriveTimeout_waits hwaits, hsecond, if_true]
  case critical =>
    intro d w s hd hok hwarns
    simp only [exec, execSmartPoll, if_neg (hdrive hd), doSmartPoll_takes hok, if_pos ((Bool.or_eq_true ..).mp hwarns)]
  case spare =>
    intro d s hd hok
    exact (if_neg (hdrive hd)).trans (congrArg Host.Outcome.next (doSmartPoll_takes hok 1))
  case healthy =>
    intro d s hd hok
    exact (if_neg (hdrive hd)).trans (congrArg Host.Outcome.next (doSmartPoll_takes hok 0))
  case whole =>
    intro p s hp hcopies
    simp only [exec, execResilverComplete, if_neg (Nat.not_le.mpr hp), doResilverComplete, hcopies, Bool.not_true, Bool.false_eq_true, if_false]
  case notCopying =>
    intro p s hp hwhole
    simp only [exec, execResilverComplete, if_neg (Nat.not_le.mpr hp), doResilverComplete, hwhole, Bool.not_false, if_true]
  case completes =>
    intro ident d o s hd hfind hleft hwhole
    simp only [exec, execNvmeCompletion, if_neg (hdrive hd), doNvmeCompletion, hfind, if_true, State.clearOp, if_pos hleft]
    exact congrArg Host.Outcome.next (if_pos ((Bool.or_eq_true ..).mpr (.inl (State.driveWhole_retried hwhole))))
  case errs =>
    intro ident d o s hd hfind
    simp only [exec, execNvmeCompletion, if_neg (hdrive hd), doNvmeCompletion, hfind, Bool.false_eq_true, if_false]
  case skipsLate =>
    intro s hdue hidx hphase
    have hbegins : (!s.lg.due || s.tb.idx != 0) = false := by simp [hdue, hidx]
    simp only [exec, execSnapshotCapture, doSnapshotCapture, hbegins, Bool.false_eq_true, if_false, if_pos hphase]
    rfl
  case cadence =>
    intro s
    simp only [State.cadence, Bool.and_eq_true]
  case durable =>
    intro o s w hexports hqueue
    obtain ⟨fl, ⟨hframe, hflushes⟩, hnone, hevent⟩ := s.flushAfter_follows o
    have hkind (k : Nat) : Ledger.pageKind (markDurable o.pages s.lg.pages) k = Ledger.pageKind s.lg.pages k := markDurable_pageKind w o.pages k
    dsimp only
    rw [State.finishOp_alone o hexports hqueue, hframe]
    refine ⟨rfl, rfl, rfl, fl, rfl, hflushes, fun hkinds => hnone fun k hk q hq => hkinds k hk q ((hkind k).trans hq), fun hkinds hsome => hevent (fun k hk q hq => hkinds k hk q ((hkind k).trans hq)) ?_⟩
    obtain ⟨k, hk, f, hpage⟩ := hsome
    exact ⟨k, hk, f, (hkind k).symm.trans hpage⟩

end Sys2Proof.Machine
end
